-- ==== Sys2Proof/Word.lean ====
section
/-! DEFINITION. The word and byte types of the model and their plainest arithmetic: little-endian
byte strings (R4), saturating counters (R5) and serial order. -/

namespace Sys2Proof

/-- One byte of a memory word, a packet, a frame or an object value. -/
abbrev Byte := BitVec 8

/-- A 32-bit register or operand. -/
abbrev W32 := BitVec 32

/-- The `len` bytes of `n`, byte 0 the least significant (R4). -/
def leBytes (n : Nat) : Nat → List Byte
  | 0 => []
  | len + 1 => BitVec.ofNat 8 n :: leBytes (n / 256) len

/-- The number that a byte string spells, byte 0 the least significant (R4). -/
def leNat : List Byte → Nat
  | [] => 0
  | b :: bs => b.toNat + 256 * leNat bs

/-- `n` bytes of zero. -/
def zeros (n : Nat) : List Byte := List.replicate n 0

/-- The first `n` bytes of `bs`, padded with 00h when there are fewer. -/
def takePad (n : Nat) (bs : List Byte) : List Byte := bs.take n ++ zeros (n - bs.length)

/-- Byte `i` of a byte string, 00h past its end. -/
def byteAt (bs : List Byte) (i : Nat) : Byte := bs.getD i 0

/-- The number in `len` bytes from byte `i` (R4). -/
def leField (bs : List Byte) (i len : Nat) : Nat := leNat ((bs.drop i).take len)

/-- The highest value of a 32-bit statistics counter (R5). -/
def max32 : Nat := 4294967295

/-- A 32-bit statistics counter plus `k`: it saturates at all ones and does not wrap (R5). -/
def satAdd (c k : Nat) : Nat := min max32 (c + k)

/-- A 32-bit statistics counter plus one (R5). -/
def inc32 (c : Nat) : Nat := satAdd c 1

/-- A 64-bit counter plus `k`, saturating (R5). -/
def satAdd64 (c k : Nat) : Nat := min 18446744073709551615 (c + k)

/-- `a` is after `b` in serial order modulo `2 ^ w` (R113, R164, R180, R252). -/
def serialAfter (w a b : Nat) : Bool :=
  let d := (a + 2 ^ w - b % 2 ^ w) % 2 ^ w
  decide (1 ≤ d) && decide (d ≤ 2 ^ (w - 1) - 1)

/-- A Boolean as a number. -/
def bnat (b : Bool) : Nat := if b then 1 else 0

/-- Bit `i` of `n`. -/
def bitOf (n i : Nat) : Bool := n.testBit i

/-- The number whose bit `i` is element `i` of the list. -/
def natOfBits : List Bool → Nat
  | [] => 0
  | b :: bs => bnat b + 2 * natOfBits bs

/-- Whether an odd number of the bits of `n` below bit `w` are 1. -/
def oddBits (n : Nat) : Nat → Bool
  | 0 => false
  | w + 1 => (n.testBit w) ^^ (oddBits n w)

/-- The odd-parity bit over `w` bits of `n`: with it the count of ones is odd (R131, R135, R138). -/
def oddParity (n w : Nat) : Bool := !(oddBits n w)

/-- How many of the bits of `n` below bit `w` are 1. -/
def popBits (n : Nat) : Nat → Nat
  | 0 => 0
  | w + 1 => bnat (n.testBit w) + popBits n w

end Sys2Proof
end

