-- ==== Sys2Proof/Syntax.lean ====
section
/-! DEFINITION. The commands of the MR2010: one constructor of `Instr` for each row of
spec/opcode_table.json, with the operands that the spec's encodings give it, and the operand types.

Two conventions hold throughout. A write-side cycle and a read-side command carry their raw bits,
parity included, so that the checks of R131, R135 and R136 are made by the machine. A time-driven
command carries `dt`, the number of TIMECLK periods (1.25 ns) that pass before it
(notes/assumptions/2.md). -/

namespace Sys2Proof

/-- The two client ports. -/
inductive Port where
  | A
  | B
  deriving DecidableEq, Repr

/-- One write-side cycle: the 64 cycle bits and the two WPAR bits sampled with them (R130). -/
structure WCyc where
  dat : BitVec 64
  par : BitVec 2
  deriving DecidableEq, Repr

/-- The fields of a read-side command besides its opcode: TAG, CH, CSEQ and MOD of the first cycle,
the RCPAR bit of each cycle (bit i for cycle i), whether RCV was high in every cycle, and where it was not, how many
cycles were sampled before it fell (R134, R135). -/
structure RCmd where
  tag : BitVec 7
  ch : BitVec 5
  cseq : BitVec 8
  mod : BitVec 7
  par : BitVec 3
  complete : Bool
  sampled : Nat := 1
  deriving DecidableEq, Repr

/-- What one requester asks of a bank in one MEMCLK (R16): a read, a whole-word write, or an atomic
scratch operation (SWR, SSET, SCLR) on one 4-byte unit. -/
inductive BankOp where
  | rd
  | wr (data : List Byte)
  | swr (unit : Fin 8) (v : W32)
  | sset (unit : Fin 8) (v : W32)
  | sclr (unit : Fin 8) (v : W32)
  deriving DecidableEq, Repr

/-- A request presented to a bank arbiter: its input (0 to 4), the row and column in the bank, and
the operation; at input 3 the source in rotation (0 window, 1 link scratch unit, 2 YDMA). -/
structure BankReq where
  input : Fin 5
  src3 : Fin 3
  row : Nat
  col : Nat
  op : BankOp
  deriving DecidableEq, Repr

/-- How a received Juthar frame reached the frame checks of R155: delimited by a start and a
terminate block, its length 20 + BLEN, and its CRC correct. -/
structure RxMeta where
  delimited : Bool
  lengthOk : Bool
  crcOk : Bool
  deriving DecidableEq, Repr

/-- A wall-time value as carried in frames and objects: seconds, nanoseconds and fraction (R191). -/
structure Stamp where
  sec : Nat
  ns : Nat
  frac : Nat
  deriving DecidableEq, Repr

/-- The CAPS body (R157). -/
structure Caps where
  device : Nat
  siliconRev : Nat
  role : Nat
  maxRate : Nat
  ratesFailed : Nat
  classMap : Nat
  records : Nat
  fwVersion : Nat
  schema : Nat
  twin : Nat
  linkNonce : Nat
  serial : Nat
  deriving DecidableEq, Repr

/-- Where a management request comes from: the SPI mailbox, or the link, in a MGMT frame with the
link sequence fields given (R170, R244). -/
inductive Src where
  | mailbox
  | link (m : RxMeta) (seq wlow : Nat)
  deriving DecidableEq, Repr

/-- The head of a management request: its source, the MGMT address, KEYSEL, REQSEQ, the 8-byte MAC,
and the raw fields of the service head that a request must send as 0 unless it uses them (R170, R245). -/
structure OdHead where
  src : Src
  addr : Nat
  keysel : Nat
  reqseq : Nat
  mac : List Byte
  flags : Nat
  abortField : Nat
  offset : Nat
  crcTotal : Nat
  rsv18 : Nat
  deriving DecidableEq, Repr

/-- The two request paths of the object dictionary (R244). -/
inductive Path where
  | link
  | mailbox
  deriving DecidableEq, Repr

/-- How a Clover message arrived: its MSEQ and whether its CRC was correct (R204, R205). -/
structure CMeta where
  mseq : Nat
  crcOk : Bool
  deriving DecidableEq, Repr

/-- A bank location found faulty by a compare of a march or of a spare test (R310, R315). -/
structure RowLoc where
  bank : Nat
  row : Nat
  col : Nat
  deriving DecidableEq, Repr

/-- One beat of the return bus (R138). -/
structure Beat where
  tag : Nat
  last : Bool
  stat : Nat
  vb : Nat
  data : List Byte
  deriving DecidableEq, Repr

/-- What a joiner observes between the first and the last part of its snapshot: write cycles with their WCTL code, read-side
commands, beats of the return bus, and the announcements STANDIN, ATOMIC, REFUSAL and COPY (R211, R216). -/
inductive JoinEvent where
  | cycle (x : Port) (wctl : BitVec 5) (c : WCyc)
  | cmd (x : Port) (at_ : Nat) (opc : BitVec 5) (c : RCmd) (op1 op2 : W32)
  | beat (x : Port) (b : Beat) (rpar : BitVec 8) (rqs : Bool)
  | standin (ch : Nat) (history : Bool) (cause slice frame : Nat)
  | atomic (issuer opc area rstat unit : Nat) (prior new : W32) (cseq : Nat)
  | refusal (ch wseq why : Nat)
  | copy (ch : Nat) (segf : BitVec 8) (segoff : Nat) (data : List Byte)
  deriving DecidableEq, Repr

/-- Whether a joiner observes the event on the buses of the clients. -/
def JoinEvent.onBus : JoinEvent → Bool
  | .cycle .. | .cmd .. | .beat .. => true
  | .standin .. | .atomic .. | .refusal .. | .copy .. => false

/-- The values of one slice record that a snapshot carries (R216). -/
structure SnapRec where
  slot : Nat
  state : Nat
  frame : Nat
  count : Nat
  epoch : Nat
  pts : Nat
  gateOpen : Bool
  g : Int
  sw : Nat
  d : Int
  late : Bool
  pos : Nat
  deriving DecidableEq, Repr

/-- The packet being delivered to the consumer of a channel: its LEN, its number of words, the words already
delivered, and its FRAME (R65, R143 page 10h). -/
structure PktPos where
  len : Nat
  total : Nat
  done : Nat
  frame : Nat
  deriving DecidableEq, Repr

/-- A packet open at the cut of a snapshot, which the joiner does not store (R216, R218): the WSEQ, slice and frame of
its OPEN, the packets to be delivered before it, whether it has closed since, and whether it is being delivered. -/
structure CutPkt where
  wseq : Nat
  slice : Nat
  frame : Nat
  ahead : Nat
  closed : Bool
  delivering : Bool
  deriving DecidableEq, Repr

/-- The state of one shadowed channel that a snapshot carries, as position keys (R210, R216): `words` holds the stored
words from the mark's place on, `readWords` how many of them the consumer has read, `tails` the places among them of the
tail words with their VB, `pos` and `markPos` the packet or slice in delivery at the position and at the mark, `cuts` the
packets open or not yet committed at the cut. A Slice channel that is not shadowed carries its records, EST, SLICE_WAIT and
DROPPED only (`shadowed` false). -/
structure SnapCh where
  ch : Nat
  shadowed : Bool
  state : Nat
  holdReq : Bool
  lastPseq : Nat
  nextPseq : Nat
  lastFrame : Nat
  markValid : Bool
  markPseq : Nat
  flushArmed : Bool
  rawBytes : Nat
  pos : Option PktPos
  markPos : Option PktPos
  words : List (List Byte)
  readWords : Nat
  tails : List (Nat × Nat)
  cuts : List CutPkt
  records : List SnapRec
  est : Nat
  sliceWait : Nat
  dropped : Option Nat
  deriving DecidableEq, Repr

/-- A busy tag's command in a snapshot, and the beats launched for it (R216). -/
structure SnapCmd where
  opc : BitVec 5
  c : RCmd
  op1 : W32
  op2 : W32
  launched : Nat
  waiting : Bool
  deriving DecidableEq, Repr

/-- The state of one port that a snapshot carries (R216). -/
structure SnapPort where
  state : Nat
  expCseq : Nat
  lastAccepted : Nat
  lastCompleted : Nat
  expWseq : Nat
  wsel : Option Nat
  rsel : Option Nat
  writeRefusal : Bool
  busy : List SnapCmd
  deriving DecidableEq, Repr

/-- The state data of a snapshot (R216). -/
structure Snap where
  ports : List SnapPort
  chans : List SnapCh
  scratch : List (Nat × W32)
  locks : List (Nat × Nat × Bool)
  time : Stamp
  epoch : Nat
  latency : Nat
  deriving DecidableEq, Repr

/-- CHAIN_PORT data of one port and of one channel (R204). -/
structure ChainPortRec where
  expWseq : Nat
  refusal : Bool
  wsel : Option Nat
  deriving DecidableEq, Repr

/-- The last packet closed on one channel, as CHAIN_PORT carries it (R204). -/
structure ChainChRec where
  wseq : Nat
  slice : Nat
  kind : Nat
  frame : Nat
  deriving DecidableEq, Repr

/-- A YCORE access: a load of `size` bytes or a store (R223, R224). -/
inductive WinOp where
  | load (size : Nat)
  | store (data : List Byte)
  deriving DecidableEq, Repr

/-- The straps as sampled: BOOT1:BOOT0, CLKM1:CLKM0 and TWIN_ID (R286). -/
structure Straps where
  boot : BitVec 2
  clkm : BitVec 2
  twinId : Bool
  deriving DecidableEq, Repr

/-- The eFuse options that the load reads for one device (R285): `none` for a group whose copies fail. -/
structure FuseLoad where
  trims : Bool
  repairMap : Option (List (Nat × Nat × Nat))
  identity : Option (Nat × Nat)
  keyHash : Option (List Byte × Nat × Bool)
  deriving DecidableEq, Repr

/-- One set of sensor readings (R225): supplies in mV, temperatures T0 to T5 in 0.25 °C, and the
presence and frequency (kHz) of the clocks. -/
structure Sensors where
  supply : List Nat
  temp : List Int
  refclk : Bool
  wclkA : Nat
  rclkA : Nat
  wclkB : Nat
  rclkB : Nat
  eyeHeight : Nat
  eyeWidth : Nat
  mgmtRail : Bool := true
  deriving DecidableEq, Repr

/-- The wake sources of Retention and Off; at the link, whether the signal detector recognised Bluebell (R302). -/
inductive WakeSrc where
  | link (bluebell : Bool)
  | spi
  | rstN
  | thermal
  deriving DecidableEq, Repr

/-- The commands of the MR2010, in the order of spec/opcode_table.json. -/
inductive Instr where
  -- write-side cycles (R130)
  | idle (x : Port) (c : WCyc)
  | data (x : Port) (c : WCyc)
  | dataLast (x : Port) (nnn : BitVec 3) (c : WCyc)
  | select (x : Port) (c : WCyc)
  | openPacket (x : Port) (c : WCyc)
  | abort (x : Port) (c : WCyc)
  | frameMarker (x : Port) (first second : Option WCyc)
  | tail (x : Port) (c : WCyc)
  | reservedWctl (x : Port) (code : BitVec 5) (c : WCyc)
  -- commits and banks
  | packetCommit (n : Fin 20)
  | deferredTailCommit (n : Fin 20)
  | bankGrant (bank : Fin 130) (reads writes : List BankReq)
  | eccWriteBack (bank : Fin 130) (row col : Nat)
  -- read-side commands (R134)
  | nop (x : Port) (c : RCmd)
  | read (x : Port) (c : RCmd) (op1 : W32)
  | readp (x : Port) (c : RCmd)
  | peek (x : Port) (c : RCmd)
  | mark (x : Port) (c : RCmd)
  | rewind (x : Port) (c : RCmd)
  | releaseToRp (x : Port) (c : RCmd)
  | releaseToMp (x : Port) (c : RCmd)
  | flush (x : Port) (c : RCmd)
  | srd (x : Port) (c : RCmd) (op1 : W32)
  | swr (x : Port) (c : RCmd) (op1 op2 : W32)
  | sset (x : Port) (c : RCmd) (op1 op2 : W32)
  | sclr (x : Port) (c : RCmd) (op1 op2 : W32)
  | lock (x : Port) (c : RCmd)
  | unlock (x : Port) (c : RCmd)
  | status (x : Port) (c : RCmd) (op1 op2 : W32)
  | statusActClear (x : Port) (c : RCmd) (op1 op2 : W32)
  | statusActMask (x : Port) (c : RCmd) (op1 op2 : W32)
  | resync (x : Port) (c : RCmd) (op1 : W32)
  | train (x : Port) (c : RCmd)
  | timeget (x : Port) (c : RCmd)
  | timegetSet (x : Port) (c : RCmd) (op1 op2 : W32)
  | reservedOpcode (x : Port) (opc : BitVec 5) (c : RCmd)
  -- channel and port events
  | waitingReadDelivery (x : Port)
  | stallTimeout (dt : Nat) (x : Port)
  | drainComplete (n : Fin 20)
  | readIdleTimeout (dt : Nat) (n : Fin 20)
  | gateOpen (dt : Nat) (n : Fin 20) (slot : Fin 3)
  | standinDeadline (dt : Nat) (n : Fin 20)
  | clockAbsent (x : Port) (wclk rclk : Bool)
  | portModeOn (h : OdHead) (x : Port) (v : Byte)
  | portModeOff (h : OdHead) (x : Port)
  | probeEnd (dt : Nat) (x : Port) (detected : Bool) (z : Nat)
  | portRailRestored (x : Port)
  -- link bring-up
  | linkEnable (h : OdHead) (v : Byte)
  | blockLock
  | capsSend
  | caps (m : RxMeta) (cflags trialRate : Nat) (b : Caps)
  | capsTimeout (dt : Nat)
  | trialSwitch (dt : Nat)
  | trialResult (lockHeld : Bool) (errs : Nat)
  | trialFailEnd (dt : Nat)
  | trialTimeout (dt : Nat)
  | blockLockLost
  | syncHeaderErrors
  | noFrameTimeout (dt : Nat)
  | modulePresence (present : Bool) (a0 ddm : Option (List Byte))
  | moduleLos (high : Bool)
  | moduleDdmRead (a2 : Option (List Byte))
  | retrain (h : OdHead) (v : Byte)
  | linkresetSend (h : OdHead) (v : Byte)
  | wakePeer (h : OdHead) (v : Byte)
  | bluebellEnd (dt : Nat)
  -- received frames
  | idleFrame (m : RxMeta) (type : Byte)
  | slice (m : RxMeta) (seq wlow : Nat) (ch : Nat) (segf : BitVec 8) (segoff : Nat) (body : List Byte)
  | fstart (m : RxMeta) (seq wlow : Nat) (ch epoch count frame ptsSec ptsNs : Nat)
  | ack (m : RxMeta) (ackseq : Nat)
  | nak (m : RxMeta) (nakseq : Nat)
  | pause (m : RxMeta) (bitmap : W32)
  | sync (m : RxMeta) (t : Stamp) (epoch : Nat) (valid : Bool)
  | echoReq (m : RxMeta) (id : Nat) (t1 : Stamp)
  | echoRsp (m : RxMeta) (id : Nat) (t1 t2 t3 : Stamp)
  | rxreport (m : RxMeta) (no : Nat) (counts : List (Nat × Nat × Nat))
  | linkreset (m : RxMeta) (hdr mac : List Byte)
  | bye (m : RxMeta) (reason : Nat)
  -- transmitter, ARQ and periodic link events
  | frameTxChoice
  | ackDelay (dt : Nat)
  | retransmitTimeout (dt : Nat)
  | giveUp (dt : Nat)
  | pauseQueue
  | pauseRepeat (dt : Nat)
  | pausedExpiry (dt : Nat)
  | rxreportSend (dt : Nat)
  | echoSetStart (dt : Nat)
  | echoTimeout (dt : Nat)
  | syncSend (dt : Nat)
  | tokenRefill (dt : Nat)
  -- object dictionary
  | objectRead (h : OdHead) (index sub : Nat) (data : List Byte)
  | objectWrite (h : OdHead) (index sub : Nat) (data : List Byte)
  | segRead (h : OdHead) (index sub : Nat) (data : List Byte)
  | segWrite (h : OdHead) (index sub : Nat) (data : List Byte)
  | segCancel (h : OdHead) (index sub : Nat) (data : List Byte)
  | mgmtScratch (h : OdHead) (opc area : Nat) (rsv : Byte) (unit : Nat) (operand : W32)
  | mgmtLock (h : OdHead) (opc slot : Nat) (rsv : Byte) (unit : Nat) (operand : W32)
  | mgmtResponse (m : RxMeta) (seq wlow : Nat) (svc reqseq : Nat) (data mac : List Byte)
  | lockoutEnd (dt : Nat)
  | domainSessionTimeout (dt : Nat) (p : Path)
  | mailboxStatus
  | writeReq (len : Nat) (image : List Byte)
  | readRsp
  -- object writes with a behaviour of their own
  | enableActive (h : OdHead) (n : Fin 20)
  | enableHold (h : OdHead) (n : Fin 20)
  | enableDrain (h : OdHead) (n : Fin 20)
  | enableDisable (h : OdHead) (n : Fin 20)
  | regionDescriptorWrite (h : OdHead) (m : Fin 6) (sub : Fin 8) (v : W32)
  | scratchAreaWrite (h : OdHead) (k : Fin 4) (v : W32)
  | lockForce (h : OdHead) (v : Byte)
  | countClear (h : OdHead) (index sub : Nat) (v : Byte)
  | save (h : OdHead) (v : Byte)
  | restoreDefaults (h : OdHead) (v : Byte)
  | storeLock (h : OdHead) (v : Byte)
  | keyWrite (h : OdHead) (sub : Nat) (data : List Byte)
  | keyLock (h : OdHead) (v : Byte)
  | factoryLock (h : OdHead) (v : Byte) (readBack : Bool)
  | role (h : OdHead) (v : Byte)
  | pairMode (h : OdHead) (v : Byte)
  | resetRequest (h : OdHead) (v : Byte)
  | blockReset (h : OdHead) (v : W32)
  | sleepRequestRetention (h : OdHead)
  | sleepRequestOff (h : OdHead)
  | destructiveMarch (h : OdHead)
  | preservingMarch (h : OdHead)
  | scrubNow (h : OdHead)
  | stopMarch (h : OdHead)
  | repairClear (h : OdHead) (v : Byte)
  | logRamClear (h : OdHead)
  | flashRingErase (h : OdHead)
  | activate (h : OdHead) (v : Byte)
  | commit (h : OdHead) (v : Byte) (readBack : Bool)
  | ramStart (h : OdHead) (v : Byte)
  | swap (h : OdHead) (v : Byte)
  | source (h : OdHead) (v : Byte)
  | epochBump (h : OdHead) (v : Byte)
  -- YCORE and YDMA
  | lockReq (machine : Bool) (v : W32)
  | bankCopyStart (machine : Bool) (v : W32)
  | memoryWindowAccess (machine : Bool) (addr : Nat) (op : WinOp)
  | watchdogKick (machine : Bool) (period : Option Nat)
  | ydmaDescriptor (machine : Bool) (k : Fin 4) (index : Nat)
  | ydmaResume (machine : Bool) (k : Fin 4)
  | ydmaSkip (machine : Bool) (k : Fin 4)
  | ydmaAbort (machine : Bool) (k : Fin 4)
  -- memory test and repair
  | arrayClearDone
  | marchDone (faults : List RowLoc)
  | preservingMarchDone (faults : List RowLoc) (reached : Nat)
  | scrubPass (dt : Nat)
  | repairStart
  | rowCopyDone (bank : Fin 130)
  | bankSwitch
  -- time
  | slewEnd (dt : Nat)
  | holdoverStart (dt : Nat)
  | holdoverExpiry (dt : Nat)
  -- Clover and twins
  | cloverUp (latency : Nat)
  | cloverDown
  | cloverStatus (m : CMeta) (role mode : Nat) (id : Bool) (joinBlock digest fwVersion : Nat)
  | hold (m : CMeta) (bitmap : W32)
  | standin (m : CMeta) (ch : Nat) (history : Bool) (cause slice frame : Nat)
  | atomic (m : CMeta) (issuer opc area rstat unit : Nat) (prior new : W32) (cseq : Nat)
  | refusal (m : CMeta) (ch wseq why : Nat)
  | portEvent (m : CMeta) (x : Port) (event seq : Nat)
  | cloverCopy (m : CMeta) (ch : Nat) (segf : BitVec 8) (segoff : Nat) (data : List Byte)
  | cloverTime (m : CMeta) (t : Stamp) (epoch : Nat) (valid : Bool)
  | snap (m : CMeta) (part total : Nat) (d : Snap)
  | handover (m : CMeta) (counts : List Nat)
  | joinReq (m : CMeta)
  | chainData (m : CMeta) (ch : Nat) (segf : BitVec 8) (segoff : Nat) (data : List Byte)
  | chainCredit (m : CMeta) (credits : List Nat) (mseqAck : Nat)
  | chainPort (m : CMeta) (ports : List ChainPortRec) (chans : List ChainChRec)
  | cloverStatusPeriod (dt : Nat)
  | holdPeriod (dt : Nat)
  | cloverTimePeriod (dt : Nat)
  | joinReqPeriod (dt : Nat)
  | chainCreditPeriod (dt : Nat)
  | heartbeatStop
  | heartbeatLoss
  | partnerAbsent
  | latchAcquire
  | cloverLost
  | joinComplete
  | portEventMismatch (dt : Nat)
  | chainPartnerFault
  -- loops, power and clocks
  | performanceGovernor (dt : Nat)
  | thermalCap (dt : Nat)
  | vcoreSettled
  | aonThermalTrip
  | currentLimit (present : Bool)
  | currentLimitClear (dt : Nat)
  | brownOutMargin (vin : Nat)
  | marginRecovery (dt : Nat)
  | ctleAdapt (dt : Nat) (up : Bool) (newEye : Nat)
  | sensorSample (dt : Nat) (r : Sensors)
  | serdesRailRetry (dt : Nat) (linkOk cloverOk : Bool)
  | dozeEntry (dt : Nat)
  | dozeExit
  | sleepEntry (dt : Nat)
  | e1Timeout (dt : Nat)
  | retentionWake (dt : Nat) (w : WakeSrc)
  | offWake (w : WakeSrc)
  | pwrdnFall
  | powerDownClamp (dt : Nat)
  | pwrdnRise
  -- resets and start-up
  | por
  | bor
  | pin (width : Nat)
  | watchdogBite (dt : Nat)
  | dbgreq (request : Bool)
  | clkfail
  | lockup
  | deviceResetRelease
  | optionLoadDone (st : Straps) (f : FuseLoad)
  | boot (readBack : Bool)
  | pllSwitch
  | firmwareStart
  | yarrowResume
  | sbResetRecovery
  | escalationWindowEnd (dt : Nat)
  | trialWindowExpiry (dt : Nat)
  -- rows added later in the table
  | partnerPresent
  | returnBusBeat (x : Port) (b : Beat) (rpar : BitVec 8) (rqs : Bool)
  | busOwnNFall
  | invariantBroken (n : Fin 20)
  | scrubPassComplete (faults : List RowLoc)
  | sramScrub (dt : Nat) (corrected : List Nat)
  deriving DecidableEq, Repr

end Sys2Proof
end

