-- ==== Sys2Proof/WellFormed.lean ====
section
/-! DEFINITION. Which command terms are commands of the MR2010: the codes, field widths and lengths that
the encodings of the spec can carry. A value inside its field that the part refuses (a RANGE abort, a
BADOP) is well formed: the refusal is the machine's. -/

namespace Sys2Proof

/-- A number that fits in `w` bits. -/
def fits (w n : Nat) : Bool := decide (n < 2 ^ w)

/-- A wall time within its field widths (R191). -/
def Stamp.wf (t : Stamp) : Bool := fits 32 t.sec && decide (t.ns < 1000000000) && fits 16 t.frac

/-- The widths of the head of a management request (R170, R245). -/
def OdHead.wf (h : OdHead) : Bool :=
  fits 8 h.addr && fits 8 h.keysel && fits 16 h.reqseq && decide (h.mac.length = 8) && fits 8 h.flags &&
  fits 16 h.abortField && fits 32 h.offset && fits 32 h.crcTotal && fits 16 h.rsv18 &&
  match h.src with
  | .mailbox => true
  | .link _ seq wlow => fits 16 seq && fits 16 wlow

/-- The widths of a CAPS body (R157). -/
def Caps.wf (b : Caps) : Bool :=
  fits 16 b.device && fits 8 b.siliconRev && fits 8 b.role && fits 8 b.maxRate && fits 8 b.ratesFailed &&
  fits 40 b.classMap && fits 32 b.records && fits 32 b.fwVersion && fits 16 b.schema && fits 16 b.twin &&
  fits 32 b.linkNonce && fits 64 b.serial

/-- A bank request within a bank, with the operation on the side that R16 gives it. -/
def BankReq.wf (write : Bool) (r : BankReq) : Bool :=
  decide (r.row < 528) && decide (r.col < 64) &&
  match r.op with
  | .rd => !write
  | .wr d => write && decide (d.length = 32)
  | .swr .. | .sset .. | .sclr .. => !write && (r.input.val != 2 && r.input.val != 4)

/-- The reserved WCTL codes (R130): 00010b to 00111b and 10110b to 11111b. -/
def reservedWctlCode (c : BitVec 5) : Bool :=
  (decide (2 ≤ c.toNat) && decide (c.toNat ≤ 7)) || decide (22 ≤ c.toNat)

/-- Whether a command term is a command. -/
def Instr.wellFormed : Instr → Bool
  | .reservedWctl _ code _ => reservedWctlCode code
  | .bankGrant _ reads writes => reads.all (·.wf false) && writes.all (·.wf true)
  | .eccWriteBack _ row col => decide (row < 528) && decide (col < 64)
  | .releaseToRp _ c => !c.mod.getLsbD 0
  | .releaseToMp _ c => c.mod.getLsbD 0
  | .status _ c .. => c.mod != 0x45#7 && c.mod != 0x46#7
  | .statusActClear _ c .. => c.mod == 0x45#7
  | .statusActMask _ c .. => c.mod == 0x46#7
  | .timeget _ c => !c.mod.getLsbD 0
  | .timegetSet _ c .. => c.mod.getLsbD 0
  | .reservedOpcode _ opc _ => decide (18 ≤ opc.toNat)
  | .portModeOn h _ v => h.wf && (v == 1 || v == 2)
  | .portModeOff h _ => h.wf
  | .caps _ cflags trialRate b => fits 8 cflags && fits 8 trialRate && b.wf
  | .slice _ seq wlow ch _ segoff body =>
    fits 16 seq && fits 16 wlow && fits 8 ch && fits 32 segoff && decide (body.length ≤ 9216)
  | .fstart _ seq wlow ch epoch count frame ptsSec ptsNs =>
    fits 16 seq && fits 16 wlow && fits 8 ch && fits 8 epoch && fits 16 count && fits 32 frame &&
    fits 32 ptsSec && fits 32 ptsNs
  | .ack _ n => fits 16 n
  | .nak _ n => fits 16 n
  | .sync _ t epoch _ => t.wf && fits 8 epoch
  | .echoReq _ id t1 => fits 16 id && t1.wf
  | .echoRsp _ id t1 t2 t3 => fits 16 id && t1.wf && t2.wf && t3.wf
  | .rxreport _ no counts =>
    fits 32 no && decide (counts.length = 20) && counts.all fun c => fits 32 c.1 && fits 32 c.2.1 && fits 32 c.2.2
  | .linkreset _ _ mac => decide (mac.length ≤ 16)
  | .bye _ reason => fits 8 reason
  | .modulePresence _ a0 ddm => (a0.all fun b => decide (b.length = 96)) && (ddm.all fun b => decide (b.length = 10))
  | .moduleDdmRead a2 => a2.all fun b => decide (b.length = 10)
  | .objectRead h index sub _ | .objectWrite h index sub _ | .segRead h index sub _
  | .segWrite h index sub _ | .segCancel h index sub _ => h.wf && fits 16 index && fits 8 sub
  | .mgmtScratch h opc area _ unit _ => h.wf && fits 8 opc && fits 8 area && fits 32 unit
  | .mgmtLock h opc slot _ unit _ => h.wf && fits 8 opc && fits 8 slot && fits 32 unit
  | .mgmtResponse _ seq wlow svc reqseq _ mac =>
    fits 16 seq && fits 16 wlow && fits 8 svc && fits 16 reqseq && decide (mac.length = 8)
  | .writeReq len image => fits 16 len && decide (image.length ≤ 65535)
  | .linkEnable h _ | .retrain h _ | .linkresetSend h _ | .wakePeer h _ | .enableActive h _
  | .enableHold h _ | .enableDrain h _ | .enableDisable h _ | .regionDescriptorWrite h _ _ _
  | .scratchAreaWrite h _ _ | .lockForce h _ | .save h _ | .restoreDefaults h _ | .storeLock h _
  | .keyLock h _ | .factoryLock h _ _ | .role h _ | .pairMode h _ | .resetRequest h _
  | .blockReset h _ | .sleepRequestRetention h | .sleepRequestOff h | .destructiveMarch h
  | .preservingMarch h | .scrubNow h | .stopMarch h | .repairClear h _ | .logRamClear h
  | .flashRingErase h | .activate h _ | .commit h _ _ | .ramStart h _ | .swap h _ | .source h _
  | .epochBump h _ => h.wf
  | .countClear h index sub _ => h.wf && fits 16 index && fits 8 sub
  | .keyWrite h sub _ => h.wf && fits 8 sub
  | .memoryWindowAccess _ addr op =>
    fits 32 addr &&
    match op with
    | .load size => size == 1 || size == 2 || size == 4
    | .store bs => bs.length == 1 || bs.length == 2 || bs.length == 4
  | .ydmaDescriptor _ _ index => fits 16 index
  | .marchDone faults | .preservingMarchDone faults _ | .scrubPassComplete faults =>
    faults.all fun f => decide (f.bank < 130) && decide (f.row < 528) && decide (f.col < 64)
  | .cloverStatus m rl mode _ joinBlock digest fwVersion =>
    fits 8 m.mseq && fits 8 rl && fits 8 mode && fits 8 joinBlock && fits 32 digest && fits 32 fwVersion
  | .standin m ch _ cause sl frame => fits 8 m.mseq && fits 8 ch && fits 4 cause && fits 12 sl && fits 32 frame
  | .atomic m issuer opc area rstat unit _ _ cseq =>
    fits 8 m.mseq && fits 8 issuer && fits 8 opc && fits 8 area && fits 8 rstat && fits 32 unit && fits 16 cseq
  | .refusal m ch wseq why => fits 8 m.mseq && fits 8 ch && fits 8 wseq && fits 8 why
  | .portEvent m _ event seq => fits 8 m.mseq && fits 8 event && fits 8 seq
  | .cloverCopy m ch _ segoff _ | .chainData m ch _ segoff _ => fits 8 m.mseq && fits 8 ch && fits 32 segoff
  | .cloverTime m t epoch _ => fits 8 m.mseq && t.wf && fits 8 epoch
  | .snap m part total _ => fits 8 m.mseq && fits 32 part && fits 32 total
  | .hold m _ | .handover m _ | .joinReq m | .chainPort m _ _ => fits 8 m.mseq
  | .chainCredit m credits mack => fits 8 m.mseq && credits.all (fits 32) && fits 8 mack
  | .sensorSample _ r => decide (r.supply.length = 8) && decide (r.temp.length = 6)
  | .returnBusBeat _ b _ _ =>
    fits 7 b.tag && fits 4 b.stat && fits 5 b.vb && decide (b.data.length = 32)
  | .sramScrub _ words => words.all (fits 19)
  | .idle .. | .data .. | .dataLast .. | .select .. | .openPacket .. | .abort .. | .frameMarker ..
  | .tail .. | .packetCommit .. | .deferredTailCommit .. | .nop .. | .read .. | .readp .. | .peek ..
  | .mark .. | .rewind .. | .flush .. | .srd .. | .swr .. | .sset .. | .sclr .. | .lock .. | .unlock ..
  | .resync .. | .train .. | .waitingReadDelivery .. | .stallTimeout .. | .drainComplete ..
  | .readIdleTimeout .. | .gateOpen .. | .standinDeadline .. | .clockAbsent .. | .probeEnd ..
  | .portRailRestored .. | .blockLock | .capsSend | .capsTimeout .. | .trialSwitch .. | .trialResult ..
  | .trialFailEnd .. | .trialTimeout .. | .blockLockLost | .syncHeaderErrors | .noFrameTimeout ..
  | .moduleLos .. | .bluebellEnd .. | .idleFrame .. | .pause .. | .frameTxChoice | .ackDelay ..
  | .retransmitTimeout .. | .giveUp .. | .pauseQueue | .pauseRepeat .. | .pausedExpiry .. | .rxreportSend ..
  | .echoSetStart .. | .echoTimeout .. | .syncSend .. | .tokenRefill .. | .lockoutEnd ..
  | .domainSessionTimeout .. | .mailboxStatus | .readRsp | .lockReq .. | .bankCopyStart .. | .watchdogKick ..
  | .ydmaResume .. | .ydmaSkip .. | .ydmaAbort .. | .arrayClearDone | .scrubPass .. | .repairStart
  | .rowCopyDone .. | .bankSwitch | .slewEnd .. | .holdoverStart .. | .holdoverExpiry .. | .cloverUp ..
  | .cloverDown | .cloverStatusPeriod .. | .holdPeriod .. | .cloverTimePeriod .. | .joinReqPeriod ..
  | .chainCreditPeriod .. | .heartbeatStop | .heartbeatLoss | .partnerAbsent | .latchAcquire | .cloverLost
  | .joinComplete | .portEventMismatch .. | .chainPartnerFault | .performanceGovernor .. | .thermalCap ..
  | .vcoreSettled | .aonThermalTrip | .currentLimit .. | .currentLimitClear .. | .brownOutMargin ..
  | .marginRecovery .. | .ctleAdapt .. | .serdesRailRetry .. | .dozeEntry .. | .dozeExit | .sleepEntry ..
  | .e1Timeout .. | .retentionWake .. | .offWake .. | .pwrdnFall | .powerDownClamp .. | .pwrdnRise
  | .por | .bor | .pin .. | .watchdogBite .. | .dbgreq .. | .clkfail | .lockup | .deviceResetRelease
  | .optionLoadDone .. | .boot .. | .pllSwitch | .firmwareStart | .yarrowResume | .sbResetRecovery
  | .escalationWindowEnd .. | .trialWindowExpiry .. | .partnerPresent | .busOwnNFall
  | .invariantBroken .. => true

end Sys2Proof
end

