-- ==== Sys2Proof/Config.lean ====
section
/-! DEFINITION. What an implementation fixes and what the spec leaves open. Every `opaque` constant
below has no body: no proof can see its value, so a theorem that mentions one holds for every value. -/

namespace Sys2Proof.Config

/-- The k-th 32-bit draw of the on-die random source, which supplies LINK_NONCE, BOOT_NONCE and the
epoch after a loss of AON power (R157, R195, R252). `State.freeCtr` counts the draws. -/
opaque random : Nat → BitVec 32

/-- Whether a lane with three or more bit errors is reported as uncorrectable (R18 leaves it open);
the argument is the lane's error mask. -/
opaque multiErrorDetected : BitVec 72 → Bool

/-- The bit that a wrong correction of a lane with three or more errors flips (R18 leaves it open). -/
opaque multiErrorFlip : BitVec 72 → Fin 72

/-- Whether a quotient that is not a whole number is rounded up; the spec gives its quotients exactly
and states no rounding (R168, R196, R201). -/
opaque roundsUp : Int → Nat → Bool

/-- The byte that a read of the event-log ring or of an image returns where the flash holds what the
spec does not state; indexed by address (R266). -/
opaque flashByte : Nat → Byte

/-- Byte `i` of the page header in the event-log ring, which holds a page sequence and a CRC-32C in a layout that the spec does not give
(R236): the first argument is the erase that the ring goes back to, the second counts the pages begun since. -/
opaque pageHeader : Nat → Nat → Nat → Byte

/-- The CTLE step that hardware adaptation reaches in a trial (R161, R228), before it is held within
CTLE_MIN and CTLE_MAX; indexed by the bring-up count. -/
opaque trialCtle : Nat → Nat

/-- Byte `i` of a module's diagnostics after firmware has applied the module's external calibration to the bytes read; the
spec gives no formula (R169). The first argument is the module's identity. -/
opaque calibrated : List Byte → List Byte → Nat → Byte

/-- What a load from the boot ROM, the peripherals or the configuration interface returns where the spec gives no register;
indexed by address and by the draw count (R223). -/
opaque mappedByte : Nat → Nat → Byte

/-- Whether the device role that a partner's PLAN_DIGEST covers is Sender, where the digest is not that of this device's own plan
with either role: no message names the role itself (R202, R204, R218). -/
opaque planSender : Nat → Bool

/-- The free value at rounding a rational: the floor, or the next whole number up (`roundsUp`). -/
def round (q : Rat) : Int :=
  if q.den = 1 then q.num else q.floor + (if roundsUp q.num q.den then 1 else 0)

end Sys2Proof.Config
end

