-- ==== Sys2Proof/Machine/State.lean ====
section
/-! DEFINITION. The state of the MR2010 as plain data: every register, counter, buffer, mode and pin
latch that the spec names, block by block, each with its value right after a power-on reset; the
reasons a step can stop; and the queue of waiting commands. The default of a field is its reset
value (notes/assumptions/1.md for those the spec does not state). -/

namespace Sys2Proof.Machine

/-- Why the machine stops with a fault. No command of the MR2010 ends in a fault: every outcome the
spec describes is a next state. -/
inductive Fault where
  /-- Raised by no definition; kept so that the type has a name for a broken memory list. Safe. -/
  | memoryForm
  deriving DecidableEq, Repr

/-- Why a command has no meaning. -/
inductive Refusal where
  /-- Raised by the arms of `exec` that have no meaning yet. Safe: nothing is claimed of them. -/
  | notModelled (mnemonic : String)
  deriving DecidableEq, Repr

/-! ## Channels -/

/-- A ring pointer: the lap bit and the region offset in words (R41). -/
structure Ptr where
  lap : Bool := false
  off : Nat := 0
  deriving DecidableEq, Repr

/-- The classes of a channel (R57). -/
inductive Cls where
  | slice | packet | raw
  deriving DecidableEq, Repr

/-- The endpoints of a channel; codes 00h to 04h of R39. -/
inductive End where
  | none | portA | portB | link | yarrow
  deriving DecidableEq, Repr

/-- The release modes; codes 00h to 02h of R57. -/
inductive RelMode where
  | auto | explicit | framehold
  deriving DecidableEq, Repr

/-- The channel states; codes 00h to 04h (R49). -/
inductive ChState where
  | disabled | active | held | draining | fault
  deriving DecidableEq, Repr

/-- The configuration entries of object 2000h + n (R57); defaults of a channel that R12 gives none. -/
structure ChCfg where
  cls : Cls := .packet
  producer : End := .none
  consumer : End := .none
  base : Nat := 0
  size : Nat := 256
  skew : Nat := 0
  pafOffset : Nat := 1024
  paeOffset : Nat := 0
  highWm : Nat := 28672
  lowWm : Nat := 24576
  ridleTimeout : Nat := 1000
  relmode : RelMode := .auto
  emptyMode : Nat := 0
  stallTimeout : Nat := 0
  sliceWaitMin : Nat := 50000
  sliceWaitMax : Nat := 4000000
  gateLead : Nat := 1000000
  compat : Bool := false
  enable : Nat := 0
  deriving DecidableEq, Repr

/-- A packet open on a channel, with the bytes its producer's packer holds (R60, R61). `slot` is the
header slot, `first` payload bytes 0 to 15, `buf` the partial later word, `crc` the running register. -/
structure OpenPkt where
  slot : Ptr
  wseq : Nat
  slice : Nat
  kind : Nat
  frame : Nat
  len : Nat
  crc : W32
  first : List Byte
  buf : List Byte
  deriving DecidableEq, Repr

/-- A packet whose close has been written and whose commit waits for the bank's grant of the header
write (R62). `refused` is set at a standby where the active has refused the packet (R211). -/
structure ClosedPkt where
  slot : Ptr
  endp : Ptr
  wseq : Nat
  slice : Nat
  kind : Nat
  frame : Nat
  len : Nat
  crcFail : Bool
  refused : Bool := false
  deriving DecidableEq, Repr

/-- A tail-table entry: the tail word's place, its VB, and the bit errors the directory memory holds
in it (R71, R72). -/
structure TailEntry where
  at_ : Ptr
  vb : Nat
  flips : Nat
  deriving DecidableEq, Repr

/-- A slice entry of a frame record (R115); `flips` counts the bit errors of its directory word. -/
structure SliceEntry where
  k : Nat
  present : Bool
  miss : Nat
  kind : Nat
  len : Nat
  start : Ptr
  flips : Nat
  deriving DecidableEq, Repr

/-- The states of a record slot (R114). -/
inductive RecState where
  | free | filling | reading | held
  deriving DecidableEq, Repr

/-- A frame record (R114, R120, R127): frame fields, gate data, delivery position, its entries that
are not clear, its rank of creation, and what the sender role keeps (R128): slices closed, the end of
the last of them. G and D are wall times in the units of the counter, 2^-32 ns; SW is in ns. -/
structure FrameRec where
  state : RecState := .free
  frame : Nat := 0
  count : Nat := 0
  epoch : Nat := 0
  ptsSec : Nat := 0
  ptsNs : Nat := 0
  gateOpen : Bool := false
  g : Int := 0
  sw : Nat := 0
  d : Int := 0
  late : Bool := false
  pos : Nat := 0
  entries : List SliceEntry := []
  rank : Nat := 0
  closed : Nat := 0
  lastEnd : Ptr := {}
  shadowed : Bool := false
  deriving DecidableEq, Repr

/-- The snapshot of subs 04 to 0D of 2100h + n (R58). -/
structure ChSnapshot where
  taken : Bool := false
  wp : Ptr := {}
  cp : Ptr := {}
  rp : Ptr := {}
  mp : Ptr := {}
  lp : Ptr := {}
  markValid : Bool := false
  occ : Nat := 0
  free : Nat := 0
  readable : Nat := 0
  fenced : Nat := 0
  flags : Nat := 0
  deriving DecidableEq, Repr

/-- The counters of 2100h + n, subs 10 to 1A and 23 to 28 (R58, R129). -/
structure ChCounters where
  pktCommitted : Nat := 0
  pktDelivered : Nat := 0
  overflowRefused : Nat := 0
  stateRefused : Nat := 0
  aborted : Nat := 0
  standins : Nat := 0
  late : Nat := 0
  holdDropped : Nat := 0
  ce : Nat := 0
  ueDelivered : Nat := 0
  flushes : Nat := 0
  misplaced : Nat := 0
  noRecord : Nat := 0
  crcDiscarded : Nat := 0
  standinEmpty : Nat := 0
  lateframe : Nat := 0
  frameSkipped : Nat := 0
  deriving DecidableEq, Repr

/-- The policer of a channel (R186, R190); TC and TP in units of 2^-10 byte. `segDrop` is the colour
that dropped the packet whose later segments are being discarded (R188): 1 yellow, 2 red. -/
structure Policer where
  mode : Nat := 0
  cir : Nat := 0
  pir : Nat := 0
  cbs : Nat := 65536
  pbs : Nat := 65536
  tc : Nat := 67108864
  tp : Nat := 67108864
  green : Nat := 0
  yellowAccepted : Nat := 0
  yellowDropped : Nat := 0
  redDropped : Nat := 0
  peerYellow : Nat := 0
  peerRed : Nat := 0
  peerOverflow : Nat := 0
  segDrop : Nat := 0
  deriving DecidableEq, Repr

/-- What the head frame of a flow will carry (R182). -/
inductive HeadKind where
  /-- an FSTART of the channel's flow -/
  | fstart
  /-- a segment of the packet whose header is at `start` -/
  | segment (start : Ptr) (segoff bytes len : Nat) (first last : Bool)
  /-- raw words from `start` -/
  | raw (start : Ptr) (words bytes : Nat) (tail : Bool)
  /-- the head of the MGMT queue -/
  | mgmt
  deriving DecidableEq, Repr

/-- A head frame with its tag and its length L (R180, R182). -/
structure Head where
  tag : Nat
  l : Nat
  kind : HeadKind
  deriving DecidableEq, Repr

/-- A flow of the egress scheduler (R179, R180, R183): a head frame with its tag stands while the flow is
eligible. -/
structure Flow where
  weight : Nat := 32
  txFrames : Nat := 0
  txBytes : Nat := 0
  pausedEvents : Nat := 0
  windowWaits : Nat := 0
  f : Nat := 0
  head : Option Head := none
  deriving DecidableEq, Repr

/-- A frame marker waiting to be sent as FSTART, with the CP at which it was written (R128). -/
structure FstartItem where
  pos : Ptr
  frame : Nat
  count : Nat
  epoch : Nat
  ptsSec : Nat
  ptsNs : Nat
  deriving DecidableEq, Repr

/-- Everything CHENG, the packers, INGRESS and EGRESS keep for one channel. `closedA` and `closedB` hold the last
packet closed from each port (R143 page 10h), `cuts` the packets that were open at the cut of the snapshot loaded (R216),
`lastCommit` the packet committed last, which a REFUSAL may still name (R211), `ingSlice` the frame and slice of the packet that
link ingress takes or refuses for space, `none` for one refused for the channel's state (R185, R187), `skip` the end of a packet
that a give-up has cut off, with the PSEQ behind it (R103, R167). `ridleStart` counts in `PwrSt.timeclk` (R293). -/
structure Chan where
  cfg : ChCfg := {}
  state : ChState := .disabled
  enableRefusal : Nat := 0
  faultCause : Nat := 0
  wp : Ptr := {}
  cp : Ptr := {}
  rp : Ptr := {}
  mp : Ptr := {}
  lp : Ptr := {}
  markValid : Bool := false
  snap : ChSnapshot := {}
  holdReq : Bool := false
  paused : Bool := false
  lastPseq : Nat := 0
  nextPseq : Nat := 1
  markPseq : Nat := 1
  lastFrame : Nat := 0
  cnt : ChCounters := {}
  pkt : Option OpenPkt := none
  rawBuf : List Byte := []
  tailPending : Bool := false
  refusing : Bool := false
  closing : List ClosedPkt := []
  closedA : ChainChRec := ⟨0, 0, 0, 0⟩
  closedB : ChainChRec := ⟨0, 0, 0, 0⟩
  tails : List TailEntry := []
  inPkt : Option PktPos := none
  markPkt : Option PktPos := none
  flushArmed : Bool := false
  deferred : List Nat := []
  records : Vector FrameRec 3 := Vector.replicate 3 {}
  newest : Option Nat := none
  nextRank : Nat := 0
  dropped : Option Nat := none
  lastRead : Option Nat := none
  est : Nat := 0
  sliceWait : Nat := 4000000
  ridleStart : Option Nat := none
  ridleFired : Bool := false
  ingNext : Nat := 0
  ingCrc : Nat := 0
  ingSlice : Option (Nat × Nat) := none
  skip : Option (Ptr × Nat) := none
  pol : Policer := {}
  flow : Flow := {}
  fstarts : List FstartItem := []
  rawDelivered : Nat := 0
  shadowFrames : Nat := 0
  cuts : List CutPkt := []
  lastCommit : Option ClosedPkt := none
  chainCredit : Nat := 0
  copyGap : Bool := false
  deriving DecidableEq, Repr

/-! ## Ports -/

/-- The port states; codes 00h to 03h (R150, R152). -/
inductive PortState where
  | off | isolated | ready | seqgap
  deriving DecidableEq, Repr

/-- An accepted command that has not completed: its opcode, fields and operands, the wall time latched
at its first cycle (R146), the words it has delivered, whether it waits on an empty channel, whether
it has changed device state (R149), a status decided at the decoder (R136), and at a standby the LEN and the stand-in bit of HF
in the header beat of a PEEK (R65, R210, R215). -/
structure PCmd where
  opc : BitVec 5
  c : RCmd
  op1 : W32
  op2 : W32
  latched : Nat
  delivered : Nat
  waiting : Bool
  acted : Bool
  preset : Option Nat
  peekHead : Option (Nat × Bool) := none
  deriving DecidableEq, Repr

/-- The resync record of a port (R149). -/
structure ResyncRec where
  lost : Nat := 0
  cancelled : Nat := 0
  acted : Nat := 0
  lastAccepted : Nat := 0
  lastCompleted : Nat := 0
  expWseq : Nat := 0
  isolations : Nat := 0
  lostCount : Nat := 0
  cancelledCount : Nat := 0
  deriving DecidableEq, Repr

/-- The counters of 3010h and 3011h, subs 10 to 17 (R152). -/
structure PortCounters where
  cmdAccepted : Nat := 0
  parityErr : Nat := 0
  seqgapRefused : Nat := 0
  tagBusy : Nat := 0
  wprotoErr : Nat := 0
  wseqGaps : Nat := 0
  isolations : Nat := 0
  lostCmds : Nat := 0
  deriving DecidableEq, Repr

/-- One write-side cycle as sampled, for TRAIN pattern 4 (R145). -/
structure Sampled where
  wctl : BitVec 5
  c : WCyc
  deriving DecidableEq, Repr

/-- Everything one client port keeps: configuration (R151), status (R152), sequence state, attention
registers, accepted commands, the resync record and its accumulators, and the beats launched.
`wclkSince` and `rclkSince` hold since when a clock has been present, `probing` a probe step in
progress, `rail` whether VDDIO_x is in range, `wrongOpen` and `wrongBytes` what the port has written
under a selection of a channel that is not its own (R51), `frameFirst` the FRAME cycle 10011b that waits for its second
(R112), `joinSkip` that write cycles are left aside until the next SELECT or OPEN after a snapshot (R216). -/
structure PortSt where
  mode : Nat := 2
  odt : Nat := 255
  wcapDelay : Nat := 0
  rqsDelay : Nat := 0
  attnMask : W32 := 0xFFF3F#32
  state : PortState := .off
  probe : Nat := 255
  odtInUse : Nat := 0
  wclkFreq : Nat := 0
  rclkFreq : Nat := 0
  wclkSince : Option Nat := none
  rclkSince : Option Nat := none
  expCseq : BitVec 8 := 0
  lastAccepted : BitVec 8 := 0
  lastCompleted : BitVec 8 := 0
  expWseq : BitVec 8 := 0
  writeRefusal : Bool := false
  cnt : PortCounters := {}
  attnCause : W32 := 0x2000#32
  attnChannels : W32 := 0
  wsel : Option (Fin 20) := none
  rsel : Option (Fin 20) := none
  sampled : List Sampled := []
  q : List PCmd := []
  stallStart : Option Nat := none
  acc : ResyncRec := {}
  record : ResyncRec := {}
  ret : List Beat := []
  probing : Option Nat := none
  rail : Bool := true
  wrongOpen : List Nat := []
  wrongBytes : List (Nat × Nat) := []
  frameFirst : Option WCyc := none
  joinSkip : Bool := false
  deriving DecidableEq, Repr

/-! ## Memory -/

/-- The owners of a lock slot; codes 00h to 04h (R37). -/
inductive Owner where
  | free | pa | pb | yc | lr
  deriving DecidableEq, Repr

/-- A lock slot (R34). -/
structure LockSlot where
  owner : Owner := .free
  mark : Bool := false
  deriving DecidableEq, Repr

/-- A request waiting at a bank arbiter, and for how many MEMCLK its input has waited since it last had a grant
(R16). -/
structure Waiting where
  bank : Nat
  wr : Bool
  req : BankReq
  age : Nat
  deriving DecidableEq, Repr

/-- The last grant of a bank side: the input granted, and the word and lane states a read returned. -/
structure Grant where
  bank : Nat
  wr : Bool
  input : Nat
  data : List Byte
  uncorr : Nat
  deriving DecidableEq, Repr

/-- A row mapped to a spare row: logical row, spare row, and the columns mapped so far (R316). -/
structure RowMap where
  bank : Nat
  row : Nat
  spare : Nat
  progress : Nat
  deriving DecidableEq, Repr

/-- A valid fence entry and its place in the table (R319, R325). -/
structure Fence where
  slot : Nat
  bank : Nat
  row : Nat
  first : Nat
  last : Nat
  deriving DecidableEq, Repr

/-- The array, its ECC state, its access rights, scratch areas, lock slots and arbiters. `cells` holds
the stored data bytes by physical byte address, `errs` the error mask of each lane that has one, by
physical lane number (R14, R18); `cleared` tells whether the clear has ended, `descCopy` holds firmware's copy of the
descriptors across a Stream Buffer reset (R291). -/
structure MemSt where
  cells : List Host.Cell := []
  errs : List (Nat × BitVec 72) := []
  clearState : Nat := 0
  cleared : Bool := false
  ceTotal : Nat := 0
  ueTotal : Nat := 0
  ceBank : Vector Nat 130 := Vector.replicate 130 0
  ueBank : Vector Nat 130 := Vector.replicate 130 0
  lastUe : W32 := 0
  dirCe : Nat := 0
  dirUe : Nat := 0
  accessRefused : Vector Nat 6 := Vector.replicate 6 0
  desc : Vector (Vector W32 8) 6 := Vector.replicate 6 (Vector.replicate 8 0)
  areas : Vector W32 4 := Vector.replicate 4 0
  locks : Vector LockSlot 64 := Vector.replicate 64 {}
  lockBroken : Nat := 0
  writeBack : List Nat := []
  waiting : List Waiting := []
  pointers : List (Nat × Bool × Nat) := []
  holding : List Nat := []
  rot3 : List (Nat × Bool × Nat) := []
  grants : List Grant := []
  idlePattern : List Byte := zeros 32
  descCopy : Option (Vector (Vector W32 8) 6) := none
  deriving DecidableEq, Repr

/-- A faulty row in the repair queue, by bank, row and column (R315). -/
structure RepairItem where
  bank : Nat
  row : Nat
  col : Nat
  deriving DecidableEq, Repr

/-- A record of the field repair log: whether its COMMIT bit has been programmed, and whether a start has found it torn and
left it out (R236, R322). -/
structure RepairRec where
  type : Nat
  bank : Nat
  row : Nat
  spare : Nat
  last : Nat
  committed : Bool := false
  void : Bool := false
  deriving DecidableEq, Repr

/-- Tansy: passes, repair queue and maps (R310 to R325). `spareUsed` lists the spare rows in use or
retired, `s0` and `s1` the banks replaced, `copy` the bank under COPY with its spare, `copied` the
copied map (bit i for logical word i), `copyRow` the row whose failure began the copy; `mapApplied` tells whether
the start has reapplied the repair maps; `corrected` and `correctedBefore` hold the last corrected locations of the scrub
pass that runs or ran last and of the one before (R315), `later` the rows, by bank and logical row, that a scrub pass takes
when their copy has ended (R324). -/
structure TansySt where
  marchAtStart : Bool := true
  scrubbing : Bool := false
  scrubDue : Bool := false
  scrubStart : Option Nat := none
  preserving : Bool := false
  stopRequested : Bool := false
  destructive : Bool := false
  scrubPeriod : Nat := 600
  scrubPasses : Nat := 0
  marchResult : Nat := 0
  notCovered : Nat := 0
  rowRepairs : Nat := 0
  queue : List RepairItem := []
  rowMaps : List RowMap := []
  spareUsed : List (Nat × Nat) := []
  s0 : Option Nat := none
  s1 : Option Nat := none
  copy : Option (Nat × Nat) := none
  copied : Nat := 0
  copyRow : Option Nat := none
  mapApplied : Bool := false
  fences : List Fence := []
  repairDrops : Nat := 0
  replace : Bool := false
  pending : List RepairRec := []
  fieldLog : List RepairRec := []
  corrected : List Nat := []
  correctedBefore : List Nat := []
  later : List (Nat × Nat) := []
  deriving DecidableEq, Repr

/-! ## Link -/

/-- The LINK states; codes 00h to 04h (R160, R175). -/
inductive LinkState where
  | off | detect | caps | trial | up
  deriving DecidableEq, Repr

/-- A transmitted Juthar frame as its bytes: TYPE, FLAGS, SEQ, WLOW, bytes 8 to 15 and body (R154). -/
structure TxFrame where
  type : Nat
  flags : Nat
  seq : Nat
  wlow : Nat
  fields : List Byte
  body : List Byte
  deriving DecidableEq, Repr

/-- What a window entry sends again: a stored copy (FSTART, MGMT), or a stretch of its channel. -/
inductive WinBody where
  | copy (f : TxFrame)
  | segment (start : Ptr) (segoff bytes len frame pseq : Nat) (first last : Bool)
  | raw (start : Ptr) (words bytes : Nat) (tail : Bool)
  deriving DecidableEq, Repr

/-- An entry of the ARQ window (R103, R164). `stale` is set when the entry's channel is disabled or enters FAULT: the
positions it records belong to a filling of the channel that is gone, so it moves no pointer (R42). -/
structure WinEntry where
  seq : Nat
  type : Nat
  ch : Nat
  endp : Ptr
  pseq : Nat
  pts : Option (Nat × Nat)
  body : WinBody
  sentAt : Nat
  retxAt : Option Nat
  stale : Bool := false
  deriving DecidableEq, Repr

/-- The ARQ of both directions, its settings and counters (R164 to R167, R176). `retx` lists the
sequence numbers queued for retransmission, `rxGot` those received beyond EXP, `timeouts` the
consecutive timeouts without progress, `accSince` and `firstAcc` the frames accepted since the last ACK
and when the first of them was, `lastNak` the EXP and time of the last NAK. -/
structure ArqSt where
  rto : Nat := 20
  nakHoldoff : Nat := 10
  ackCoalesce : Nat := 16
  ackDelay : Nat := 2000
  retryLimit : Nat := 64
  nextSeq : Nat := 0
  window : List WinEntry := []
  retx : List Nat := []
  timeouts : Nat := 0
  exp : Nat := 0
  rxGot : List Nat := []
  accSince : Nat := 0
  firstAcc : Option Nat := none
  lastNak : Option (Nat × Nat) := none
  retxFrames : Nat := 0
  nakRx : Nat := 0
  rtoEvents : Nat := 0
  giveupFrames : Nat := 0
  nakTx : Nat := 0
  dupRx : Nat := 0
  earlyRx : Nat := 0
  earlyDiscarded : Nat := 0
  skippedRx : Nat := 0
  outOfWindow : Nat := 0
  deriving DecidableEq, Repr

/-- The counters of 4001h, subs 10 to 16 (R175). -/
structure LinkCounters where
  upCount : Nat := 0
  echoSets : Nat := 0
  crcErr : Nat := 0
  badFrame : Nat := 0
  misrouted : Nat := 0
  mgmtFwd : Nat := 0
  mgmtNoroute : Nat := 0
  linkresetRejected : Nat := 0
  byeRx : Nat := 0
  deriving DecidableEq, Repr

/-- A set of echoes in progress (R168): completed echoes, the sum of their round trips in ps, the
request outstanding with its identity, T1 and the time it was sent. -/
structure EchoSet where
  done : Nat
  sum : Rat
  id : Nat
  t1 : Stamp
  sentAt : Nat
  deriving DecidableEq, Repr

/-- A frame waiting in a strict class, with its rank (R177). -/
structure StrictItem where
  rank : Nat
  frame : TxFrame
  deriving DecidableEq, Repr

/-- A request sent over the link for the mailbox, or the own read of the peer's BOOT_NONCE (`own`): service, REQSEQ,
KEYSEL, whether it is unauthenticated, and the first bytes of its service data, which its response repeats (R163, R170,
R245, R249). -/
structure FwdReq where
  svc : Nat
  reqseq : Nat
  keysel : Nat
  unauth : Bool
  own : Bool
  head : List Byte
  deriving DecidableEq, Repr

/-- LINK, EGRESS and the shared settings (R153 to R190). `rateLimit` and `errLimit` are MAX_RATE and TRIAL_ERR_LIMIT as
the bring-up in progress took them (R174), `byeIdle` that after BYE 01h the line carries idle blocks only (R172),
`pauseAt`, `reportAt`, `refillAt`, `adaptAt`, `eyeAt` and `ddmAt` when the last PAUSE, RXREPORT, refill, CTLE step, eye figure and
module diagnostics took place, `syncEvery`
the SYNC interval that runs (R201). `capsIn` tells whether a CAPS has been received in this
bring-up, `sentSeen` and `rxSeen` whether one with PEER_SEEN 1 has been sent and received, `own` the own trial result (0 none, 1 pass, 2 fail) and `resultAt` when it stood, `idle` the
Bluebell end time, `upSerial` and `upNonce` what was exchanged at bring-up. -/
structure LinkSt where
  enable : Bool := true
  maxRate : Nat := 2
  trialErrLimit : Nat := 0
  moduleRateCheck : Bool := true
  echoPeriod : Nat := 1000
  propFactor : Nat := 4900
  wakeAny : Bool := false
  state : LinkState := .off
  rate : Nat := 0
  leaveCause : Nat := 0
  cableDelay : Nat := 0
  cableLength : Nat := 0
  cnt : LinkCounters := {}
  modPresent : Bool := false
  modLos : Bool := false
  modDiag : Bool := false
  modNoTwi : Bool := false
  moduleId : List Byte := zeros 96
  moduleDdm : List Byte := zeros 10
  nonce : Nat := 0
  peer : Option Caps := none
  capsIn : Bool := false
  sentSeen : Bool := false
  rxSeen : Bool := false
  capsAt : Nat := 0
  ratesFailed : Nat := 0
  trialAt : Option Nat := none
  candidate : Nat := 0
  own : Nat := 0
  peerPass : Bool := false
  resultAt : Option Nat := none
  lastRx : Nat := 0
  lastTx : Nat := 0
  bluebell : Option Nat := none
  upSerial : Nat := 0
  upNonce : Nat := 0
  peerBootNonce : Option Nat := none
  rail : Bool := true
  classMismatch : Nat := 0
  strict : List StrictItem := []
  mgmtQ : List TxFrame := []
  mgmtFlow : Flow := { weight := 4 }
  forwarded : List FwdReq := []
  vtime : Nat := 0
  oh : Nat := 24
  rxreportRx : Nat := 0
  lastReportNo : Nat := 0
  firstReport : Bool := true
  lastPause : Nat := 0
  pauseRxAt : Nat := 0
  echo : Option EchoSet := none
  echoNextId : Nat := 0
  echoStart : Nat := 0
  echoSinceUp : Bool := false
  eqAdapt : Bool := true
  ctleMin : Nat := 0
  ctleMax : Nat := 15
  ctle : Nat := 0
  eyeHeight : Nat := 0
  eyeWidth : Nat := 0
  eqChanges : Nat := 0
  syncAt : Nat := 0
  syncEvery : Nat := 1000
  rateLimit : Nat := 2
  errLimit : Nat := 0
  byeIdle : Bool := false
  pauseAt : Nat := 0
  reportAt : Nat := 0
  refillAt : Nat := 0
  adaptAt : Nat := 0
  eyeAt : Nat := 0
  ddmAt : Nat := 0
  sent : List TxFrame := []
  deriving DecidableEq, Repr

/-! ## Time -/

/-- TIME (R191 to R201). `wall` is the counter in units of 2^-32 ns, `slew` the offset still to be
consumed by a sender's slew in those units, FREQ and TRIM exact rates, `lastUsed` the local time of the
last used SYNC, `period` SYNC_PERIOD as last measured (ps), `good` the run of used SYNCs within
LOCK_THRESHOLD, `bad` the run of those beyond four times it. -/
structure TimeSt where
  source : Nat := 0
  syncPeriod : Nat := 1000
  stepThreshold : Nat := 100000
  asymmetry : Int := 0
  slewLimit : Nat := 200
  holdover : Nat := 1000
  lockThreshold : Nat := 50
  wall : Nat := 0
  epoch : Nat := 0
  valid : Bool := false
  locked : Bool := false
  inHoldover : Bool := false
  slew : Int := 0
  freq : Rat := 0
  trim : Rat := 0
  offset : Int := 0
  steps : Nat := 0
  epochChanges : Nat := 0
  syncRx : Nat := 0
  syncIgnored : Nat := 0
  epochConflict : Nat := 0
  lockLosses : Nat := 0
  lastUsed : Option Nat := none
  period : Rat := 0
  good : Nat := 0
  bad : Nat := 0
  conflictRun : Bool := false
  deriving DecidableEq, Repr

/-! ## Twin -/

/-- The twin roles; codes 00h to 04h (R209, R222). -/
inductive TwinRole where
  | solo | active | standby | joining | fault
  deriving DecidableEq, Repr

/-- A Clover message sent (R204). `stale` is set on a retained CHAIN_DATA whose channel has been disabled or faulted:
its acknowledgement releases no words (R42). `extra` counts words behind those of the body that its acknowledgement
releases too, since R74 has cut them off. -/
structure CMsg where
  type : Nat
  mseq : Nat
  body : List Byte
  stale : Bool := false
  extra : Nat := 0
  deriving DecidableEq, Repr

/-- A port event waiting for its match at the other twin: port, event code, CSEQ or WSEQ, time (R211, R212). -/
structure OwnEvent where
  x : Port
  event : Nat
  seq : Nat
  at_ : Nat
  deriving DecidableEq, Repr

/-- CLOVER: pair mode, roles, latch, heartbeat and the messages (R202 to R222). `started` tells
whether the device has taken its first role since the Stream Buffer subsystem was released, `busLow`
the level of BUS_OWN_N as pulled by the partner, `retained` the
CHAIN_DATA messages not yet acknowledged, `chainWait` those that wait for a MSEQ (R205, R220), `chainAck` the acknowledgement last received, `chainGood` the MSEQ that CHAIN_CREDIT
names, that of the last transfer taken, `chainKnown` the MSEQ of the last message received in order, `chainLost` whether one after it was lost, `chainErr` whether
the last message failed its CRC, `chainSkipped` the transfers since that were not taken (R205), `chainPortLast` the body of the last CHAIN_PORT
(R219), `partnerDevRole` the device role taken for the partner since Clover came up, 0 for none (R202), `joinLog` what a
joiner has observed since the first part of its snapshot, to be applied when the last has come (R216), `own` whether this device owns the latch, `stallFrom`
the time of the old active's last beat until the first beat after a takeover, `releasing` a graceful release that the
partner has not yet answered by pulling BUS_OWN_N (R214), `snapOut` the SNAP bodies still to be sent (R216, R217),
`refusals` what the active has refused and this device has not yet opened, `ownRefusals` what this device has refused
for space since when and the active has not yet announced (channel, WSEQ, time) (R211, R212), `statusAt`, `holdAt`,
`timeAt`, `joinAt` and `creditAt` when the last message of each periodic type was sent, `statusLast` the body of the
last STATUS (R204). -/
structure TwinSt where
  pairInUse : Nat := 1
  autoSwap : Bool := true
  started : Bool := false
  role : TwinRole := .solo
  partnerRole : Nat := 255
  partnerMode : Nat := 1
  partnerId : Option Bool := none
  twinId : Bool := true
  cloverState : Nat := 0
  divergeCause : Nat := 0
  twinFault : Nat := 0
  partnerDigest : Nat := 0
  takeovers : Nat := 0
  lastStall : Nat := 0
  hbLosses : Nat := 0
  divergences : Nat := 0
  msgErr : Nat := 0
  standinAnnounced : Nat := 0
  unsourced : Nat := 0
  discarded : Nat := 0
  streamGap : Nat := 0
  chainBytes : Nat := 0
  rail : Bool := true
  own : Bool := false
  busLow : Bool := false
  waiting : Bool := false
  heartbeat : Bool := false
  hbInLost : Bool := false
  partnerPresent : Bool := false
  txMseq : Nat := 0
  rxMseq : Option Nat := none
  snapParts : Nat := 0
  snapTotal : Nat := 0
  snapDone : Bool := false
  latency : Nat := 0
  handed : Bool := false
  releasing : Bool := false
  snapOut : List (List Byte) := []
  statusLast : List Byte := []
  standbyHold : W32 := 0
  ownEvents : List OwnEvent := []
  partnerEvents : List OwnEvent := []
  statusAt : Nat := 0
  holdAt : Nat := 0
  timeAt : Nat := 0
  joinAt : Nat := 0
  creditAt : Nat := 0
  refusals : List (Nat × Nat × Nat) := []
  ownRefusals : List (Nat × Nat × Nat) := []
  standins : List (Nat × Bool × Nat × Nat × Nat) := []
  atomics : List (Nat × Nat × Nat × Nat × W32) := []
  retained : List CMsg := []
  chainWait : List CMsg := []
  chainAck : Option Nat := none
  chainLost : Bool := false
  chainGood : Nat := 255
  chainKnown : Nat := 255
  chainErr : Bool := false
  chainSkipped : List Nat := []
  chainPortLast : List Byte := []
  partnerDevRole : Nat := 0
  joinLog : List JoinEvent := []
  chainPorts : List ChainPortRec := []
  chainChans : List ChainChRec := []
  lastBeatAt : Nat := 0
  stallFrom : Option Nat := none
  sent : List CMsg := []
  deriving DecidableEq, Repr

/-! ## Object dictionary -/

/-- A cached or sent response: service, REQSEQ, service data and MAC (R245, R252). -/
structure Resp where
  svc : Nat
  reqseq : Nat
  data : List Byte
  mac : List Byte
  deriving DecidableEq, Repr

/-- A DOMAIN write session: entry, bytes so far, time of the last segment (R260). -/
structure Session where
  index : Nat
  sub : Nat
  bytes : List Byte
  touched : Nat
  deriving DecidableEq, Repr

/-- A DOMAIN read snapshot: entry, value, time of the last segment (R260). -/
structure ReadSnap where
  index : Nat
  sub : Nat
  bytes : List Byte
  touched : Nat
  deriving DecidableEq, Repr

/-- One request path: LAST and its abort code (in AON, R253), the response cache, the DOMAIN session
and snapshot (R252, R253, R260). -/
structure PathSt where
  last : Option Nat := none
  lastAbort : Nat := 0
  cache : List Resp := []
  session : Option Session := none
  snap : Option ReadSnap := none
  deriving DecidableEq, Repr

/-- A saved settings value: index, subindex and bytes (R261). -/
structure Saved where
  index : Nat
  sub : Nat
  bytes : List Byte
  deriving DecidableEq, Repr

/-- A copy of the settings in one copy area: its sequence number, its schema, its values, and whether it has been
written whole, so that its CRC-32C passes (R261, R266). -/
structure SettingsCopy where
  seq : Nat
  schema : Nat
  good : Bool
  vals : List Saved
  deriving DecidableEq, Repr

/-- A settings slot: its two copy areas, `none` where an area is erased (R261, R266, R274). -/
structure SettingsSlot where
  a : Option SettingsCopy := none
  b : Option SettingsCopy := none
  deriving DecidableEq, Repr

/-- What a request that holds the service is doing in flash or fuses (R248, R257, R261, R262, R266, R269): SAVE with the
settings slot that it writes and the values it took, RESTORE_DEFAULTS, a key write, FACTORY_LOCK or the rollback counter at
COMMIT with what the fuse will read back, and the control record written by a request that is to be answered with a code,
with what the fuses of the rollback counter will read back where they are to be blown next. -/
inductive TaskKind where
  | save (slot : Nat) (vals : List Saved)
  | restore
  | key (sub : Nat) (key : List Byte)
  | lockFuse (v readBack : Bool)
  | rollback (readBack : Bool)
  | record (code : Nat) (raise : Option Bool)
  deriving DecidableEq, Repr

/-- A step of flash or fuse in progress, with the request that it completes: its path, its bytes, and the key of its
response's MAC, `none` for no key. -/
structure Task where
  kind : TaskKind
  path : Path
  image : List Byte
  key : Option (List Byte)
  deriving DecidableEq, Repr

/-- A request that waits in its path's queue: its bytes and what a fuse that it writes will read back (R248). -/
structure Queued where
  path : Path
  image : List Byte
  readBack : Bool
  deriving DecidableEq, Repr

/-- The object-dictionary service: paths, keys, locks, counters, the settings store's state and the
mailbox (R243 to R265). Locks of WOL entries live in AON. `task` is the flash or fuse step that holds the service, `queue`
the requests of both paths in arrival order, `mbxReq` an image that arrived while nothing served. -/
structure OdSt where
  link : PathSt := {}
  mailbox : PathSt := {}
  bootNonce : Nat := 0
  wallKey : List Byte := zeros 16
  operatorKey : List Byte := zeros 16
  observerKey : List Byte := zeros 16
  keyLock : Bool := false
  storeLock : Bool := false
  authFail : Nat := 0
  seqReject : Nat := 0
  dupReq : Nat := 0
  lockouts : Nat := 0
  lastAuthFail : W32 := 0
  mbxRejected : Nat := 0
  failTimes : List Nat := []
  lockoutUntil : Option Nat := none
  storeState : Nat := 4
  saveCount : Nat := 0
  storedSchema : Nat := 0
  saved : List Saved := []
  task : Option Task := none
  queue : List Queued := []
  mbxReq : Option (List Byte) := none
  mbxRsp : Option (List Byte) := none
  mbxSent : List (List Byte) := []
  statusSent : List Byte := []
  deriving DecidableEq, Repr

/-! ## Yarrow -/

/-- An event-log entry (R235); `void` marks a torn entry of the flash ring that a start has discarded (R236). -/
structure LogEntry where
  uptime : Nat
  code : Nat
  src : Nat
  severity : Nat
  committed : Bool
  seq : Nat
  data : W32
  void : Bool := false
  deriving DecidableEq, Repr

/-- A YDMA channel (R231 to R234): the chain in progress with its descriptor index, loop counters and
byte addresses, the halt latched, the status of the last descriptor (0 none, 1 OK, 2 SHORT, 3 REFUSED,
4 ABORTED), the residual count, the interrupt, and the unit buffer of an aperture read, with whether its word is
uncorrectable (R234). -/
structure YdmaCh where
  active : Bool := false
  index : Nat := 0
  k0 : Nat := 0
  k1 : Nat := 0
  k2 : Nat := 0
  s : Int := 0
  d : Int := 0
  haltCause : Nat := 0
  haltAddr : Nat := 0
  haltWrite : Bool := false
  status : Nat := 0
  residual : Nat := 0
  irq : Bool := false
  started : Bool := false
  buf : List Byte := []
  bufBad : Bool := false
  deriving DecidableEq, Repr

/-- Yarrow: sensors, loops, overrides, SRAM, YDMA, log, flash ring, watchdog and the registers
LOCK_REQ and BANK_COPY (R223 to R242, R318). `sram` and `logRam` hold bytes by offset, in the form of `Memory.wf`, `sramErr`
the SRAM words that hold an error, each with whether it is uncorrectable (R224); `governPorts` the port states that the governor last saw; `governAt`, `capAt`,
`sampleAt`, `freqAt`, `railAt` and `scrubAt` tell when the loops of R228, the measurements of 1 ms and of 10 ms, the rail retry and the
SRAM scrub last ran; `sensed` whether the sensors have been read since Yarrow was last reset (R239), `tjPeak` the highest TJ
since it was cleared, `none` before the next sample (R240). -/
structure YarSt where
  supply : List Nat := List.replicate 8 0
  temp : List Int := List.replicate 6 0
  tjPeak : Option Int := none
  tjThrottle : Nat := 100
  refclk : Bool := false
  overridden : Nat := 0
  overrideCount : Nat := 0
  lastOverride : Nat := 0
  permit : Bool := false
  vinMargin : Nat := 800
  yarrowResets : Nat := 0
  mgmtUnserved : Nat := 0
  sramCe : Nat := 0
  sram : List Host.Cell := []
  sramErr : List (Nat × Bool) := []
  governAt : Nat := 0
  governPorts : Nat := 0
  capAt : Nat := 0
  sampleAt : Nat := 0
  freqAt : Nat := 0
  sensed : Bool := false
  railAt : Nat := 0
  scrubAt : Nat := 0
  ydma : Vector YdmaCh 4 := Vector.replicate 4 {}
  logRam : List Host.Cell := []
  flashLog : List LogEntry := []
  nextSeq : Nat := 0
  flashSkipped : Nat := 0
  tornDiscarded : Nat := 0
  minSeverity : Nat := 4
  eraseMax : Nat := 0
  bucket : Nat := 600
  bucketAt : Nat := 0
  ringCount : Nat := 0
  ringBase : Nat := 0
  wdtPeriod : Nat := 5000000
  wdtAt : Option Nat := none
  lockReq : W32 := 0
  bankCopyStart : Bool := false
  bankCopySwitched : Bool := false
  bankCopyPos : Nat := 0
  winResult : List Byte := []
  winFault : Bool := false
  serving : Bool := false
  loader : Bool := false
  deriving DecidableEq, Repr

/-! ## Firmware update -/

/-- The update states; codes 00h to 03h (R271, R276). -/
inductive UpdState where
  | committed | pending | trial | expired
  deriving DecidableEq, Repr

/-- A copy of the control record, and whether it has been verified, so that its CRC-32C passes (R266). -/
structure CtlRec where
  seq : Nat
  committedSlot : Nat
  state : UpdState
  trialSlot : Nat
  bindA : Option Nat
  bindB : Option Nat
  good : Bool := true
  deriving DecidableEq, Repr

/-- Firmware and settings slots, fuses and the boot loader (R266 to R276, R285, R287). Slots are
numbered 0 (A) and 1 (B). `imageA` and `imageB` hold an image whose session has closed, `rawA` and `rawB` what an open or
interrupted session has left in the slot, `none` where it is erased (R270); `ctlA` and `ctlB` are the two copies of the
control record, of which the fields of the same names are the one in force, `raising` a raise of the rollback counter at a
start, with what its fuses will read back (R269); `ram` is the image loaded into SRAM, `factoryLock` the value in force and `lockFuse` what has
been written to its fuse. -/
structure UpdSt where
  imageA : List Byte := []
  imageB : List Byte := []
  checkA : Nat := 8
  checkB : Nat := 8
  committedSlot : Nat := 0
  state : UpdState := .committed
  trialSlot : Nat := 0
  bindA : Option Nat := none
  bindB : Option Nat := none
  runningSlot : Nat := 0
  lastResult : Nat := 0
  trialWindow : Nat := 1800
  trialAt : Nat := 0
  rawA : List (Option Byte) := []
  rawB : List (Option Byte) := []
  ctlA : Option CtlRec := some { seq := 1, committedSlot := 0, state := .committed, trialSlot := 0, bindA := none, bindB := none }
  ctlB : Option CtlRec := none
  raising : Option Bool := none
  settingsA : SettingsSlot := {}
  settingsB : SettingsSlot := {}
  settingsSlot : Nat := 0
  trialSaved : Bool := false
  ram : List Byte := []
  ramCheck : Nat := 8
  serial : Nat := 0
  siliconRev : Nat := 0x20
  keyHash : List Byte := zeros 32
  rollbackFuse : Nat := 0
  factoryLock : Bool := false
  lockFuse : Option Bool := none
  factoryMap : List (Nat × Nat × Nat) := []
  deriving DecidableEq, Repr

/-! ## Reset, power and AON -/

/-- How far start-up has come after a Device-reach reset (R288). -/
inductive Phase where
  | held | optionLoad | starting | booted | running
  deriving DecidableEq, Repr

/-- The reset controller and the AON domain (R277 to R291, R195, R264). `asserted` lists the reset sources of
Device reach now asserted; `yarBooted` tells whether the boot ROM has started an image or its loader since Yarrow
was last reset, `startupPending` whether STARTUP_TIME waits for the port probes, `enablesDue` whether stored
ENABLE values wait for the memory to open; `enableCopy` holds firmware's copy of the ENABLE values across a Stream
Buffer reset (R52, R291). `yarUntil` and `sbUntil` tell until when a source of Yarrow or of Stream Buffer reach stays asserted,
`debugHold` the reach of DBGREQ while the request bit of the debug module is 1, 0 while it is 0 (R278, R279). `tapIdcode` is
the JTAG IDCODE of R8; its bits [11:1] are given by no rule and stand at 0 (DESIGN CHOICE, notes/assumptions/76.md). -/
structure RstSt where
  cause : BitVec 16 := 1
  lastReach : Nat := 3
  dbgReach : Nat := 1
  counts : Vector Nat 9 := (Vector.replicate 9 0).set 0 1
  wdtEscalations : Nat := 0
  optionRestarts : Nat := 0
  optionStatus : Nat := 0
  straps : Straps := ⟨3#2, 3#2, true⟩
  startupTime : Nat := 0
  blockReset : W32 := 0x3FF#32
  asserted : List Nat := [0]
  phase : Phase := .held
  releasedAt : Nat := 0
  window : Option Nat := none
  roleNext : Nat := 2
  pairNext : Nat := 1
  roleInUse : Nat := 2
  aonEpoch : Nat := 0
  aonEpochKnown : Bool := false
  uptimeBase : Nat := 0
  sbHeld : Bool := true
  yarBooted : Bool := false
  startupPending : Bool := false
  enablesDue : Bool := false
  enableCopy : List Nat := []
  yarUntil : Nat := 0
  sbUntil : Nat := 0
  debugHold : Nat := 0
  tapIdcode : W32 := 0x22010001#32
  deriving DecidableEq, Repr

/-- The power states (R299 to R308); codes 00h to 02h where software can read them. -/
inductive PowerState where
  | run | doze | entering | retention | off
  deriving DecidableEq, Repr

/-- The power controller and the clocks (R293 to R309). `target` is a level change in progress,
`idleSince` the start of the idle period of R297, `entry` the sleep asked for (1 Retention, 2 Off),
`step` the entry step reached, `limitNow` whether the regulator reports current limit and `limitAt` since when it does no
longer, `gatedAt` since when YCLK is gated and `gated` for how long it has been in the spells before (R297, R300), `waking` that a wake from Retention has not reached the root PLL yet (R302), `marginAt` since when VIN has been seen above VIN_MARGIN + 20 mV (R229, R303), `pwrdn` since when PWRDN_N is low,
`episodeBit` the protection that began the episode (R229), `timeclk` the elapsed time in picoseconds that TIMECLK has run (R293), `coolAt` when TJ last fell to 95 °C (R299), `mgmtRail` whether VDDIO_M
is in range (R327, R328). -/
structure PwrSt where
  plFloor : Nat := 0
  plCeiling : Nat := 3
  level : Nat := 0
  target : Option Nat := none
  nextLevel : Option Nat := none
  thermalCap : Nat := 3
  capRise : Nat := 0
  limitCap : Nat := 3
  limitAt : Option Nat := none
  marginLow : Bool := false
  marginAt : Option Nat := none
  aonTrip : Bool := false
  episode : Bool := false
  episodeBit : Nat := 0
  dozeIdle : Nat := 1000
  retIdle : Nat := 0
  offIdle : Nat := 0
  wakeMask : Nat := 3
  state : PowerState := .run
  lastWake : Nat := 0
  lastAbort : Nat := 0
  lowPower : Bool := false
  limitNow : Bool := false
  vcoreSettled : Bool := false
  dozeEntries : Nat := 0
  sleepEntries : Nat := 0
  sleepAborts : Nat := 0
  levelChanges : Nat := 0
  regLimits : Nat := 0
  idleSince : Nat := 0
  entry : Nat := 0
  step : Nat := 0
  entryAt : Nat := 0
  gatedAt : Option Nat := none
  gated : Nat := 0
  mgmtRail : Bool := true
  savedBlocks : W32 := 0
  savedWall : Nat := 0
  savedAt : Nat := 0
  pwrdn : Option Nat := none
  refclkMode : Nat := 0
  clkSource : Nat := 0
  pllLocked : Bool := false
  pllLosses : Nat := 0
  clkfailArmed : Bool := false
  clamp : Bool := false
  waking : Bool := false
  timeclk : Nat := 0
  coolAt : Nat := 0
  deriving DecidableEq, Repr

/-! ## The whole machine -/

/-- The state of the MR2010. `now` counts picoseconds of elapsed time, `freeCtr` is the model's own
counter of free values drawn (notes/assumptions/3.md), `pending` the queue of waiting commands. -/
structure State where
  pending : List Instr
  now : Nat
  freeCtr : Nat
  ch : Vector Chan 20
  pA : PortSt
  pB : PortSt
  mem : MemSt
  tansy : TansySt
  link : LinkSt
  arq : ArqSt
  time : TimeSt
  twin : TwinSt
  od : OdSt
  yar : YarSt
  upd : UpdSt
  rst : RstSt
  pwr : PwrSt
  deriving DecidableEq, Repr

/-- The default channel configuration of R12 and R57 for a role (true for Sender). -/
def defaultCfg (sender : Bool) (n : Nat) : ChCfg :=
  let skew := 6 * n % 128
  if n < 16 then
    let port := if n < 8 then End.portA else End.portB
    { cls := .slice, base := 1920 * n, size := 1920, skew := skew,
      producer := if sender then port else .link,
      consumer := if sender then .link else port,
      relmode := if sender then .explicit else .framehold,
      highWm := 215040, lowWm := 184320 }
  else
    let port := if n % 2 = 0 then End.portA else End.portB
    let fromPort := if n < 18 then sender else !sender
    { cls := .packet, base := 30720 + 256 * (n - 16), size := 256, skew := skew,
      producer := if fromPort then port else .link,
      consumer := if fromPort then .link else port,
      relmode := if fromPort then .explicit else .auto }

/-- The default WEIGHT of a channel's flow (R183). -/
def defaultWeight (n : Nat) : Nat := if n < 16 then 32 else 8

/-- A channel as a reset leaves it, with the default configuration of the role. -/
def defaultChan (sender : Bool) (n : Nat) : Chan :=
  { cfg := defaultCfg sender n, flow := { weight := defaultWeight n } }

/-- The region descriptors as a reset that reaches MEMCTL leaves them (R25). -/
def resetDesc : Vector (Vector W32 8) 6 :=
  let none8 : Vector W32 8 := Vector.replicate 8 0
  let all8 : Vector W32 8 := none8.set 0 0xFFFE0003#32
  ((Vector.replicate 6 none8).set 3 all8).set 4 all8

/-- The scratch areas' defaults (R12, R29). -/
def resetAreas : Vector W32 4 := (Vector.replicate 4 0).set 0 0x01007C00#32

/-- The machine right after a power-on reset, the reset source still asserted (R277, R278, R284). -/
def State.reset : State where
  pending := []
  now := 0
  freeCtr := 0
  ch := Vector.ofFn fun (i : Fin 20) => defaultChan false i.val
  pA := {}
  pB := {}
  mem := { desc := resetDesc, areas := resetAreas }
  tansy := {}
  link := {}
  arq := {}
  time := {}
  twin := {}
  od := {}
  yar := {}
  upd := {}
  rst := {}
  pwr := {}

end Sys2Proof.Machine
end

