-- ==== Sys2Proof/Machine/Ops.lean ====
section
/-! DEFINITION. The named operations over the state: access to blocks and channels, memory in its one
canonical form, the array with its error correction, maps and fences, lock slots, attention, the event
log, Clover announcements, elapsed time and free values. -/

namespace Sys2Proof.Machine

/-! ### Access to the blocks -/

/-- Channel `n`. -/
def State.chan (s : State) (n : Fin 20) : Chan := s.ch.get n

/-- Change channel `n`. -/
def State.modCh (s : State) (n : Fin 20) (f : Chan → Chan) : State :=
  { s with ch := s.ch.set n.val (f (s.ch.get n)) n.isLt }

/-- Change the counters of channel `n`. -/
def State.modCnt (s : State) (n : Fin 20) (f : ChCounters → ChCounters) : State :=
  s.modCh n fun c => { c with cnt := f c.cnt }

/-- The state of port `x`. -/
def State.port (s : State) : Port → PortSt
  | .A => s.pA
  | .B => s.pB

/-- Change the state of port `x`. -/
def State.modPort (s : State) (x : Port) (f : PortSt → PortSt) : State :=
  match x with
  | .A => { s with pA := f s.pA }
  | .B => { s with pB := f s.pB }

/-- Change the counters of port `x`. -/
def State.modPCnt (s : State) (x : Port) (f : PortCounters → PortCounters) : State :=
  s.modPort x fun p => { p with cnt := f p.cnt }

/-- Change the memory block. -/
def State.modMem (s : State) (f : MemSt → MemSt) : State := { s with mem := f s.mem }
/-- Change Tansy. -/
def State.modTansy (s : State) (f : TansySt → TansySt) : State := { s with tansy := f s.tansy }
/-- Change the link. -/
def State.modLink (s : State) (f : LinkSt → LinkSt) : State := { s with link := f s.link }
/-- Change the link's counters. -/
def State.modLinkCnt (s : State) (f : LinkCounters → LinkCounters) : State :=
  { s with link := { s.link with cnt := f s.link.cnt } }
/-- Change the ARQ. -/
def State.modArq (s : State) (f : ArqSt → ArqSt) : State := { s with arq := f s.arq }
/-- Change TIME. -/
def State.modTime (s : State) (f : TimeSt → TimeSt) : State := { s with time := f s.time }
/-- Change CLOVER. -/
def State.modTwin (s : State) (f : TwinSt → TwinSt) : State := { s with twin := f s.twin }
/-- Change the object-dictionary service. -/
def State.modOd (s : State) (f : OdSt → OdSt) : State := { s with od := f s.od }
/-- Change Yarrow. -/
def State.modYar (s : State) (f : YarSt → YarSt) : State := { s with yar := f s.yar }
/-- Change the update state. -/
def State.modUpd (s : State) (f : UpdSt → UpdSt) : State := { s with upd := f s.upd }
/-- Change the reset controller and AON domain. -/
def State.modRst (s : State) (f : RstSt → RstSt) : State := { s with rst := f s.rst }
/-- Change the power controller. -/
def State.modPwr (s : State) (f : PwrSt → PwrSt) : State := { s with pwr := f s.pwr }

/-- Apply `f` for every channel, in channel order. -/
def State.forChans (s : State) (f : Fin 20 → State → State) : State :=
  (List.finRange 20).foldl (fun s n => f n s) s

/-- Channel `n` when the number names one. -/
def chanOf (n : Nat) : Option (Fin 20) := if h : n < 20 then some ⟨n, h⟩ else none

/-- The other port. -/
def otherPort : Port → Port
  | .A => .B
  | .B => .A

/-! ### Codes -/

/-- The code of a class (R57). -/
def Cls.code : Cls → Nat
  | .slice => 1 | .packet => 2 | .raw => 3

/-- The class of a code (R57). -/
def Cls.ofCode : Nat → Option Cls
  | 1 => some .slice | 2 => some .packet | 3 => some .raw | _ => none

/-- The code of an endpoint (R39). -/
def End.code : End → Nat
  | .none => 0 | .portA => 1 | .portB => 2 | .link => 3 | .yarrow => 4

/-- The endpoint of a code (R39). -/
def End.ofCode : Nat → Option End
  | 0 => some .none | 1 => some .portA | 2 => some .portB | 3 => some .link | 4 => some .yarrow
  | _ => Option.none

/-- The code of a release mode (R57). -/
def RelMode.code : RelMode → Nat
  | .auto => 0 | .explicit => 1 | .framehold => 2

/-- The release mode of a code (R57). -/
def RelMode.ofCode : Nat → Option RelMode
  | 0 => some .auto | 1 => some .explicit | 2 => some .framehold | _ => none

/-- The code of a channel state (R49). -/
def ChState.code : ChState → Nat
  | .disabled => 0 | .active => 1 | .held => 2 | .draining => 3 | .fault => 4

/-- The code of a port state (R152). -/
def PortState.code : PortState → Nat
  | .off => 0 | .isolated => 1 | .ready => 2 | .seqgap => 3

/-- The code of a link state (R175). -/
def LinkState.code : LinkState → Nat
  | .off => 0 | .detect => 1 | .caps => 2 | .trial => 3 | .up => 4

/-- The code of a twin role (R222). -/
def TwinRole.code : TwinRole → Nat
  | .solo => 0 | .active => 1 | .standby => 2 | .joining => 3 | .fault => 4

/-- The code of a lock owner (R37). -/
def Owner.code : Owner → Nat
  | .free => 0 | .pa => 1 | .pb => 2 | .yc => 3 | .lr => 4

/-- The owner of a code (R37). -/
def Owner.ofCode : Nat → Owner
  | 1 => .pa | 2 => .pb | 3 => .yc | 4 => .lr | _ => .free

/-- The code of an update state (R276). -/
def UpdState.code : UpdState → Nat
  | .committed => 0 | .pending => 1 | .trial => 2 | .expired => 3

/-- The code of a record state (R129). -/
def RecState.code : RecState → Nat
  | .free => 0 | .filling => 1 | .reading => 2 | .held => 3

/-- The endpoint that is a port. -/
def End.ofPort : Port → End
  | .A => .portA
  | .B => .portB

/-- The bus master of an endpoint: its place among the descriptor objects (R39). -/
def End.master : End → Option (Fin 6)
  | .portA => some 0
  | .portB => some 1
  | .link => some 2
  | .yarrow => some 4
  | .none => Option.none

/-- The bus master of a port. -/
def portMaster : Port → Fin 6
  | .A => 0
  | .B => 1

/-- The lock owner of a port. -/
def portOwner : Port → Owner
  | .A => .pa
  | .B => .pb

/-- The number of a port in messages and records: 0 for A, 1 for B. -/
def portIdx : Port → Nat
  | .A => 0
  | .B => 1

/-! ### Standing conditions -/

/-- Whether the device runs in Sender role (R1). -/
def State.sender (s : State) : Bool := s.rst.roleInUse == 1

/-- Whether a Stream Buffer block is out of reset: its bit of BLOCK_RESET is 0 (R289). -/
def State.blockUp (s : State) (bit : Nat) : Bool := !(s.rst.blockReset.getLsbD bit)

/-- Whether the memory is open (R23). -/
def State.memOpen (s : State) : Bool := s.mem.clearState == 2

/-- Whether time is valid to its users: TIME out of reset, its flag set, and the clocks on the root PLL
(R192, R294). -/
def State.timeValid (s : State) : Bool := s.time.valid && s.pwr.clkSource == 1 && s.blockUp 2

/-- Whether the device runs in Mirror pair mode with the role ACTIVE, so that it announces (R211). -/
def State.announces (s : State) : Bool := s.twin.pairInUse == 1 && s.twin.role == .active

/-- Whether the device shadows: STANDBY or JOINING in Mirror mode (R210). -/
def State.shadows (s : State) : Bool :=
  s.twin.pairInUse == 1 && (s.twin.role == .standby || s.twin.role == .joining)

/-- Whether the device is half 0, or half 1, of a Chain pair (R219). -/
def State.chainHalf (s : State) (half : Bool) : Bool :=
  s.twin.pairInUse == 2 && s.twin.twinId == half

/-- A channel is enabled in every state but DISABLED (R49). -/
def Chan.enabled (c : Chan) : Bool := c.state != .disabled

/-- Whether a channel is directory-read: Slice class in Receiver role (R93). -/
def State.dirRead (s : State) (n : Fin 20) : Bool :=
  (s.chan n).cfg.cls == .slice && !s.sender && !s.chainHalf false

/-- Milliseconds, microseconds and nanoseconds in picoseconds. -/
def ms (n : Nat) : Nat := n * 1000000000
/-- Microseconds in picoseconds. -/
def us (n : Nat) : Nat := n * 1000000
/-- Nanoseconds in picoseconds. -/
def ns (n : Nat) : Nat := n * 1000

/-! ### Wall time and elapsed time -/

/-- One nanosecond in units of the counter, 2^-32 ns (R191). -/
def tk : Nat := 4294967296

/-- Where the counter wraps: 2^32 seconds (R191). -/
def wallMod : Nat := 4294967296 * 1000000000 * tk

/-- INC, the advance per TIMECLK cycle in units of 2^-32 ns, at a rate trim (R191). -/
def inc (trim : Rat) : Nat := (Config.round (5368709120 * (1 + trim))).toNat

/-- Local wall time in whole nanoseconds. -/
def State.wallNs (s : State) : Int := (s.time.wall / tk : Nat)

/-- The wall time of a counter value as its three fields (R191). -/
def stampOf (w : Nat) : Stamp :=
  { sec := w / tk / 1000000000, ns := w / tk % 1000000000, frac := w % tk / 65536 }

/-- The counter value of a wall time (R191). -/
def stampWall (t : Stamp) : Nat := (t.sec * 1000000000 + t.ns) * tk + t.frac * 65536

/-- A wall time in picoseconds, exactly. -/
def stampPs (t : Stamp) : Rat :=
  (t.sec * 1000000000000 + t.ns * 1000 : Nat) + (t.frac * 1000 : Nat) / (65536 : Rat)

/-- A wall time as its ten bytes (R191). -/
def stampBytes (t : Stamp) : List Byte := leBytes t.sec 4 ++ leBytes t.ns 4 ++ leBytes t.frac 2

/-- The counter moved by an offset in units of 2^-32 ns. -/
def wallAdd (w : Nat) (d : Int) : Nat := ((w + d) % wallMod).toNat

/-- TIMECLK periods until a sender's slew is consumed: the offset over the step of one period, rounded up (R194). -/
def slewTicks (t : TimeSt) : Nat :=
  let step := ((inc t.trim : Int) - 5368709120).natAbs
  if step = 0 then 0 else (t.slew.natAbs + step - 1) / step

/-- TIME after `dt` TIMECLK cycles: the counter advances by INC each, and a slew is consumed (R191, R194). -/
def TimeSt.advance (t : TimeSt) (dt : Nat) : TimeSt :=
  if t.slew = 0 then { t with wall := (t.wall + dt * inc t.trim) % wallMod }
  else
    let k := slewTicks t
    if dt < k then
      { t with wall := (t.wall + dt * inc t.trim) % wallMod,
               slew := t.slew - dt * ((inc t.trim : Int) - 5368709120) }
    else
      { t with wall := (t.wall + k * inc t.trim + (dt - k) * 5368709120) % wallMod, slew := 0, trim := 0 }

/-- `dt` periods of 1.25 ns pass: elapsed time always, and the counter while TIMECLK runs (R191, R293). -/
def State.advance (s : State) (dt : Nat) : State :=
  let s := { s with now := s.now + 1250 * dt }
  if s.pwr.clkSource = 1 then
    let s := s.modPwr fun p => { p with timeclk := p.timeclk + 1250 * dt }
    if s.blockUp 2 then s.modTime fun t => t.advance dt else s
  else s

/-- Whether a period of `p` ps has passed since `last`. -/
def State.due (s : State) (last p : Nat) : Bool := decide (last + p ≤ s.now)

/-- Uptime in µs, from the AON counter; it wraps after 2^40 µs (R235). -/
def State.uptime (s : State) : Nat := (s.now - s.rst.uptimeBase) / 1000000 % 2 ^ 40

/-- Draw from the random source. -/
def State.draw (s : State) : BitVec 32 × State :=
  (Config.random s.freeCtr, { s with freeCtr := s.freeCtr + 1 })

/-! ### Lists in canonical form -/

/-- The value that a sorted list of pairs gives an address; `z` where it lists none. -/
def assocGet {β : Type} (z : β) : List (Nat × β) → Nat → β
  | [], _ => z
  | (b, w) :: t, a => if b = a then w else assocGet z t a

/-- Store a value in the canonical form: strictly rising addresses, no entry equal to `z`. -/
def assocSet {β : Type} [DecidableEq β] (z : β) : List (Nat × β) → Nat → β → List (Nat × β)
  | [], a, v => if v = z then [] else [(a, v)]
  | (b, w) :: t, a, v =>
    if a < b then (if v = z then (b, w) :: t else (a, v) :: (b, w) :: t)
    else if a = b then (if v = z then t else (a, v) :: t)
    else (b, w) :: assocSet z t a v

/-- The canonical form from address `lo` up. -/
def assocWfFrom {β : Type} [DecidableEq β] (z : β) : Nat → List (Nat × β) → Bool
  | _, [] => true
  | lo, (a, v) :: t => decide (lo ≤ a) && decide (v ≠ z) && assocWfFrom z (a + 1) t

/-- Store a byte string from address `a` up. -/
def storeBytes : List Host.Cell → Nat → List Byte → List Host.Cell
  | m, _, [] => m
  | m, a, b :: bs => storeBytes (assocSet 0 m a b) (a + 1) bs

/-- Load `n` bytes from address `a` up. -/
def loadBytes (m : List Host.Cell) (a : Nat) : Nat → List Byte
  | 0 => []
  | n + 1 => assocGet 0 m a :: loadBytes m (a + 1) n

/-- Whether a memory list is in its canonical form. -/
abbrev Memory.wf (m : List Host.Cell) : Prop := assocWfFrom (0 : Byte) 0 m = true

/-! ### The array: places, error correction, writes (R14 to R20, R316 to R319) -/

/-- A place in the array: logical bank, row and column. -/
structure Loc where
  bank : Nat
  row : Nat
  col : Nat
  deriving DecidableEq, Repr

/-- The place of word `p` under a skew (R14). -/
def place (skew p : Nat) : Loc :=
  { bank := (p % 128 + skew) % 128, row := p / 8192 % 512, col := p / 128 % 64 }

/-- The word address that a skew places at a logical place (R14, R319). -/
def unplace (skew : Nat) (l : Loc) : Nat :=
  (l.row * 64 + l.col) * 128 + (l.bank + 128 - skew % 128) % 128

/-- The physical bank that serves a logical bank (R317). -/
def State.physBank (s : State) (b : Nat) : Nat :=
  let b1 := if s.tansy.s0 = some b then 128 else if s.tansy.s1 = some b then 129 else b
  if b1 = 128 ∧ s.tansy.s1 = some 128 then 129 else b1

/-- The physical row of a row and column of a physical bank, through its row map (R316). -/
def State.physRow (s : State) (bank row col : Nat) : Nat :=
  match s.tansy.rowMaps.find? (fun m => m.bank == bank && m.row == row && decide (col < m.progress)) with
  | some m => 512 + m.spare
  | none => row

/-- The physical word number of a row and column in a physical bank: 528 rows of 64 words. -/
def wordNo (bank row col : Nat) : Nat := bank * 33792 + row * 64 + col

/-- The physical word number of a place. -/
def State.phys (s : State) (l : Loc) : Nat :=
  let b := s.physBank l.bank
  wordNo b (s.physRow b l.row l.col) l.col

/-- Whether a fence entry covers a place (R319). -/
def State.fencedAt (s : State) (l : Loc) : Bool :=
  s.tansy.fences.any fun f =>
    f.bank == l.bank && f.row == l.row && decide (f.first ≤ l.col) && decide (l.col ≤ f.last)

/-- The status of a lane: good, correctable, or uncorrectable (R18). -/
inductive LaneSt where
  | good | corr | uncorr
  deriving DecidableEq, Repr

/-- What the code makes of a lane's error mask: its status, and the bits it flips in correcting (R18). -/
def laneDecode (m : BitVec 72) : LaneSt × BitVec 72 :=
  if m = 0 then (.good, 0)
  else match popBits m.toNat 72 with
    | 1 => (.corr, m)
    | 2 => (.uncorr, 0)
    | _ => if Config.multiErrorDetected m then (.uncorr, 0)
           else (.corr, (1 : BitVec 72) <<< (Config.multiErrorFlip m).val)

/-- A word as read: 32 data bytes with correctable lanes corrected, and the status of each lane (R19). -/
structure WordRd where
  data : List Byte
  lanes : List LaneSt
  deriving DecidableEq, Repr

/-- Whether some lane is uncorrectable. -/
def WordRd.bad (w : WordRd) : Bool := w.lanes.any (· == .uncorr)
/-- Whether the word was delivered corrected: some lane was corrected and none is uncorrectable. -/
def WordRd.fixed (w : WordRd) : Bool := !w.bad && w.lanes.any (· == .corr)
/-- The status of lane `i`. -/
def WordRd.lane (w : WordRd) (i : Nat) : LaneSt := w.lanes.getD i .good
/-- The mask of uncorrectable lanes. -/
def WordRd.mask (w : WordRd) : Nat := natOfBits (w.lanes.map (· == .uncorr))

/-- Lane `i` of a stored word: its bytes with the correction applied, and its status. -/
def readLane (m : MemSt) (word i : Nat) : List Byte × LaneSt :=
  let raw := leNat (loadBytes m.cells (word * 32 + 8 * i) 8)
  let (st, flip) := laneDecode (assocGet 0 m.errs (word * 4 + i))
  (leBytes (raw ^^^ (flip.toNat % 2 ^ 64)) 8, st)

/-- A stored word as its lanes give it (R18, R19). -/
def readWordAt (m : MemSt) (word : Nat) : WordRd :=
  let ls := [0, 1, 2, 3].map (readLane m word)
  { data := (ls.map (·.1)).flatten, lanes := ls.map (·.2) }

/-- What a read of a fenced word outside its channel returns (R319). -/
def fencedWord : WordRd := { data := zeros 32, lanes := [.uncorr, .uncorr, .uncorr, .uncorr] }

/-- Store lane `i` with fresh check bits. -/
def writeLane (m : MemSt) (word i : Nat) (bs : List Byte) : MemSt :=
  { m with cells := storeBytes m.cells (word * 32 + 8 * i) (bs.take 8),
           errs := assocSet 0 m.errs (word * 4 + i) 0 }

/-- Store a whole word with fresh check bits in all four lanes; a waiting write-back lapses (R19, R20). -/
def writeWordAt (m : MemSt) (word : Nat) (bs : List Byte) : MemSt :=
  let bs := takePad 32 bs
  let m := [0, 1, 2, 3].foldl (fun m i => writeLane m word i (bs.drop (8 * i))) m
  { m with writeBack := m.writeBack.filter (· ≠ word) }

/-- Copy a stored word exactly, error masks included (R316, R317). -/
def copyWordAt (m : MemSt) (src dst : Nat) : MemSt :=
  let m1 := { m with cells := storeBytes m.cells (dst * 32) (loadBytes m.cells (src * 32) 32) }
  [0, 1, 2, 3].foldl
    (fun m i => { m with errs := assocSet 0 m.errs (dst * 4 + i) (assocGet 0 m.errs (src * 4 + i)) }) m1

/-- Mirror a write of a physical bank under COPY to its spare, and mark the word copied (R317). -/
def State.mirrorPhys (s : State) (bank row col : Nat) (f : MemSt → Nat → MemSt) : State :=
  match s.tansy.copy with
  | some (b, spare) =>
    if bank = b then
      let s := s.modMem fun m => f m (wordNo spare (s.physRow spare row col) col)
      s.modTansy fun t => { t with copied := t.copied ||| 2 ^ (row * 64 + col) }
    else s
  | none => s

/-- Mirror a write at a place (R317). -/
def State.mirrorWrite (s : State) (l : Loc) (f : MemSt → Nat → MemSt) : State :=
  s.mirrorPhys (s.physBank l.bank) l.row l.col f

/-- Store a whole word at a place (R20, R317). -/
def State.storeWord (s : State) (l : Loc) (bs : List Byte) : State :=
  let s := s.modMem fun m => writeWordAt m (s.phys l) bs
  s.mirrorWrite l fun m w => writeWordAt m w bs

/-- Rewrite a word after a read-modify-write: good and correctable lanes are encoded anew from
`data`, uncorrectable lanes stay exactly as stored (R20). -/
def rewriteLanes (m : MemSt) (word : Nat) (r : WordRd) (data : List Byte) : MemSt :=
  let m := [0, 1, 2, 3].foldl
    (fun m i => if r.lane i = .uncorr then m else writeLane m word i (data.drop (8 * i))) m
  { m with writeBack := m.writeBack.filter (· ≠ word) }

/-- Whether a row is being repaired: its row copy runs, or it began the copy of its bank (R315). -/
def TansySt.repairing (t : TansySt) (b row : Nat) : Bool :=
  t.rowMaps.any (fun m => m.bank == b && m.row == row && decide (m.progress < 64)) ||
  (t.copy.any (fun c => c.1 == b) && t.copyRow == some row)

/-- Queue a faulty row for repair: a fault of a row already queued or being repaired merges, and a fault that finds
16 entries is dropped (R315). -/
def State.queueRepair (s : State) (b row col : Nat) : State :=
  s.modTansy fun t =>
    if t.queue.any (fun q => q.bank == b && q.row == row) || t.repairing b row then t
    else if t.queue.length < 16 then { t with queue := t.queue ++ [⟨b, row, col⟩] }
    else { t with repairDrops := inc32 t.repairDrops }

/-- Whether block `k` lies in the region of a channel as configured. -/
def Chan.holdsBlock (c : Chan) (k : Nat) : Bool :=
  decide (c.cfg.base ≤ k) && decide (k < c.cfg.base + c.cfg.size)

/-- The channel in whose region word `p` lies: an enabled one if there is one, otherwise the
lowest-numbered disabled one (R14; notes/assumptions/12.md). -/
def State.regionOf (s : State) (p : Nat) : Option (Fin 20) :=
  let k := p / 128
  match (List.finRange 20).find? (fun n => (s.chan n).enabled && (s.chan n).holdsBlock k) with
  | some n => some n
  | none => (List.finRange 20).find? (fun n => (s.chan n).holdsBlock k)

/-- The BASE, SIZE and ENABLE fields of a scratch area entry (R29). -/
def areaBase (v : W32) : Nat := (v.extractLsb 14 0).toNat
/-- SIZE of a scratch area entry. -/
def areaSize (v : W32) : Nat := (v.extractLsb 25 15).toNat
/-- ENABLE of a scratch area entry. -/
def areaOn (v : W32) : Bool := v.getLsbD 31

/-- Whether word `p` lies in a scratch area. R14 does not say whether a disabled area counts; only an enabled one does here
(DESIGN CHOICE, notes/assumptions/77.md). -/
def State.inArea (s : State) (p : Nat) : Bool :=
  s.mem.areas.toList.any fun v =>
    areaOn v && decide (areaBase v ≤ p / 128) && decide (p / 128 < areaBase v + areaSize v)

/-- The skew of word `p` (R14). -/
def State.skewOf (s : State) (p : Nat) : Nat :=
  if s.inArea p then 0
  else match s.regionOf p with
    | some n => (s.chan n).cfg.skew
    | none => 0

/-- The place of word `p` (R14). -/
def State.placeOf (s : State) (p : Nat) : Loc := place (s.skewOf p) p

/-- LAST_UE of an uncorrectable word at placed word `p`: the failing lanes, then the address (R19). -/
def WordRd.lastUe (r : WordRd) (p : Nat) : W32 := BitVec.ofNat 32 (r.mask * 2 ^ 28 + p % 2 ^ 22)

/-- LAST_UE takes a value (R19). -/
def State.setLastUe (s : State) (v : W32) : State := s.modMem fun m => { m with lastUe := v }

/-- What ECC does with a word read on behalf of a requester, its counts apart: a corrected word waits for its write-back, an
uncorrectable one stands in LAST_UE and Tansy is notified (R19). -/
def State.noteRead (s : State) (l : Loc) (p : Nat) (r : WordRd) : State :=
  if r.bad then
    (s.setLastUe (r.lastUe p)).queueRepair (s.physBank l.bank) l.row l.col
  else if r.fixed then
    let w := s.phys l
    s.modMem fun m => { m with writeBack := if m.writeBack.contains w then m.writeBack else m.writeBack ++ [w] }
  else s

/-- Count a word read on behalf of a requester: corrected words once in CE_TOTAL, CE_BANK and CE_CH,
with the write-back queued; uncorrectable words once in UE_TOTAL, UE_BANK and LAST_UE, with Tansy
notified (R19). -/
def State.countRead (s : State) (l : Loc) (p : Nat) (r : WordRd) : State :=
  let b := s.physBank l.bank
  let s := s.noteRead l p r
  if r.bad then
    s.modMem fun m =>
      { m with ueTotal := inc32 m.ueTotal,
               ueBank := if h : b < 130 then m.ueBank.set b (inc32 m.ueBank[b]) else m.ueBank }
  else if r.fixed then
    let s := s.modMem fun m =>
      { m with ceTotal := inc32 m.ceTotal,
               ceBank := if h : b < 130 then m.ceBank.set b (inc32 m.ceBank[b]) else m.ceBank }
    match s.regionOf p with
    | some n => s.modCnt n fun c => { c with ce := inc32 c.ce }
    | none => s
  else s

/-- Read word `p` for a requester outside the channels: a fenced word answers without being read
(R19, R319). -/
def State.readP (s : State) (p : Nat) : WordRd × State :=
  let l := s.placeOf p
  if s.fencedAt l then (fencedWord, s)
  else
    let r := readWordAt s.mem (s.phys l)
    (r, s.countRead l p r)

/-- Write `bs` into word `p` from byte `off` on: a whole word stores fresh check bits, less than a word
is a read-modify-write. Answers false when the write is refused with UNCORR (R20, R319). -/
def State.writeP (s : State) (p off : Nat) (bs : List Byte) : Bool × State :=
  let l := s.placeOf p
  if s.fencedAt l then (false, s)
  else if off = 0 ∧ 32 ≤ bs.length then (true, s.storeWord l bs)
  else
    let r := readWordAt s.mem (s.phys l)
    let s := s.countRead l p r
    let touched := (List.range 4).any fun i =>
      r.lane i == .uncorr && decide (off < 8 * i + 8) && decide (8 * i < off + bs.length)
    if touched then (false, s)
    else
      let data := r.data.take off ++ bs ++ r.data.drop (off + bs.length)
      let s1 := s.modMem fun m => rewriteLanes m (s.phys l) r data
      (true, s1.mirrorWrite l fun m w => rewriteLanes (copyWordAt m (s.phys l) w) w r data)

/-! ### Rights (R25 to R28) -/

/-- Whether one descriptor of master `m` covers block `k` with the right: bit 1 W, bit 0 R (R26). -/
def State.allowed (s : State) (m : Fin 6) (k : Nat) (write : Bool) : Bool :=
  (s.mem.desc.get m).toList.any fun d =>
    decide ((d.extractLsb 16 2).toNat ≤ k) && decide (k ≤ (d.extractLsb 31 17).toNat) &&
    (if write then d.getLsbD 1 else d.getLsbD 0)

/-- Count a refused access of master `m` (R28). -/
def State.countRefused (s : State) (m : Fin 6) : State :=
  s.modMem fun mm => { mm with accessRefused := mm.accessRefused.set m.val (inc32 (mm.accessRefused.get m)) m.isLt }

/-! ### Attention (R89 to R91) -/

/-- Set a cause bit at a port. -/
def State.attn (s : State) (x : Port) (bit : Nat) : State :=
  s.modPort x fun p => { p with attnCause := p.attnCause ||| (1#32 <<< bit) }

/-- A device event: its bit at both ports, one whose block is held in reset among them (R89; DESIGN CHOICE, notes/assumptions/100.md). -/
def State.attnBoth (s : State) (bit : Nat) : State := (s.attn .A bit).attn .B bit

/-- A channel event at one port: the cause bit and the channel's bit in ATTN_CHANNELS. -/
def State.attnChAt (s : State) (x : Port) (n : Fin 20) (bit : Nat) : State :=
  s.modPort x fun p => { p with attnCause := p.attnCause ||| (1#32 <<< bit),
                                attnChannels := p.attnChannels ||| (1#32 <<< n.val) }

/-- A channel event: at each port that is producer or consumer of the channel (R89, R90). -/
def State.attnCh (s : State) (n : Fin 20) (bit : Nat) : State :=
  let c := (s.chan n).cfg
  let s := if c.producer = .portA ∨ c.consumer = .portA then s.attnChAt .A n bit else s
  if c.producer = .portB ∨ c.consumer = .portB then s.attnChAt .B n bit else s

/-- A channel event at the consumer's port only (R123, R187). -/
def State.attnConsumer (s : State) (n : Fin 20) (bit : Nat) : State :=
  match (s.chan n).cfg.consumer with
  | .portA => s.attnChAt .A n bit
  | .portB => s.attnChAt .B n bit
  | _ => s

/-! ### Event log (R235, R236) -/

/-- The rate bucket filled up to now: 10 entries a second, at most 600 (R236). -/
def YarSt.refill (y : YarSt) (now : Nat) : YarSt :=
  let gained := (now - y.bucketAt) / 100000000000
  { y with bucket := min 600 (y.bucket + gained), bucketAt := y.bucketAt + gained * 100000000000 }

/-- The second phase of an append: COMMIT is programmed to 0 in the newest entry of the ring (R236). It takes place before
the next append, or in the next step on an empty queue (notes/assumptions/78.md). -/
def YarSt.commitLog (y : YarSt) : YarSt :=
  match y.flashLog.getLast? with
  | some e => if e.committed ∨ e.void then y else { y with flashLog := y.flashLog.dropLast ++ [{ e with committed := true }] }
  | none => y

/-- The first phase of an append to the flash ring, with COMMIT 1: 256 pages of 255 entries, the oldest page erased ahead
of need (R236). -/
def YarSt.persist (y : YarSt) (e : LogEntry) : YarSt :=
  let y := y.commitLog
  let n := y.ringCount + 1
  let log := y.flashLog ++ [{ e with committed := false }]
  if n % 255 = 254 then
    { y with ringCount := n, flashLog := if log.length > 65025 then log.drop 255 else log,
             eraseMax := max y.eraseMax (if n / 255 + 1 ≥ 256 then y.ringBase + (n / 255 + 1) / 256 else y.ringBase) }
  else { y with ringCount := n, flashLog := log }

/-- Whether firmware runs that persists log entries: an image in flash has started, and FLASH_IF is not held (R236, R287,
R290). -/
def State.logsToFlash (s : State) : Bool :=
  s.rst.yarBooted && !s.yar.loader && s.upd.runningSlot != 2 && s.blockUp 17

/-- The second phase of an append to the field repair log (R236, R322). -/
def TansySt.commitRecord (t : TansySt) : TansySt :=
  match t.fieldLog.getLast? with
  | some r => if r.committed ∨ r.void then t else { t with fieldLog := t.fieldLog.dropLast ++ [{ r with committed := true }] }
  | none => t

/-- Firmware finishes the appends in progress (R236, R322). -/
def State.commitLog (s : State) : State :=
  if s.logsToFlash then (s.modYar YarSt.commitLog).modTansy TansySt.commitRecord else s

/-- The 16 bytes of a log entry; COMMIT is 1 where the entry is not committed (R235). -/
def LogEntry.bytes (e : LogEntry) : List Byte :=
  leBytes e.uptime 5 ++ leBytes e.code 2 ++ leBytes e.src 1 ++
  leBytes (e.severity % 16 + if e.committed then 0 else 128) 1 ++ leBytes e.seq 3 ++ leBytes e.data.toNat 4

/-- Log an event: LOG RAM holds the newest 4,096 entries, each at the place of its SEQ; firmware writes severity MIN_SEVERITY
or higher to flash under the rate bucket, severity 15 always (R235, R236). An image that runs from SRAM writes no
log to flash (R287). LOG RAM takes nothing while LOG is held, and the flash nothing while FLASH_IF is (R290). -/
def State.log (s : State) (code src severity : Nat) (data : Nat) : State :=
  let e : LogEntry := { uptime := s.uptime, code := code, src := src, severity := severity,
                        committed := false, seq := s.yar.nextSeq, data := BitVec.ofNat 32 data }
  s.modYar fun y =>
    let y := y.refill s.now
    let y := { y with logRam := if s.blockUp 21 then storeBytes y.logRam (e.seq % 4096 * 16) e.bytes else y.logRam,
                      nextSeq := (y.nextSeq + 1) % 2 ^ 24 }
    if severity < y.minSeverity ∨ s.logsToFlash = false then y
    else if 0 < y.bucket then { y.persist e with bucket := y.bucket - 1 }
    else if severity = 15 then y.persist e
    else { y with flashSkipped := inc32 y.flashSkipped }

/-! ### Activity (R297) -/

/-- Whether CORECLK and YCLK run: gated in Doze and from step E3 of a sleep entry on (R297, R300). -/
def State.clocked (s : State) : Bool := s.pwr.state == .run || (s.pwr.state == .entering && s.pwr.step != 3)

/-- The time as YCLK counts it: what it was gated for is left out (R237, R297). -/
def State.yclkNow (s : State) : Nat := s.now - s.pwr.gated

/-- The gated clocks stop. -/
def PwrSt.gate (p : PwrSt) (now : Nat) : PwrSt := { p with gatedAt := some (p.gatedAt.getD now) }

/-- The gated clocks run again. -/
def PwrSt.ungate (p : PwrSt) (now : Nat) : PwrSt :=
  { p with gated := p.gated + (now - p.gatedAt.getD now), gatedAt := none }

/-- A sleep entry is abandoned; the idle timers restart (R301). -/
def PwrSt.abandon (p : PwrSt) (now point : Nat) : PwrSt :=
  { p.ungate now with state := .run, idleSince := now, entry := 0, step := 0, lowPower := false,
                      sleepAborts := inc32 p.sleepAborts, lastAbort := point }

/-- An event that makes an idle condition of R297 false: the idle timers restart, Doze ends (R298), and a sleep
entry that is not yet committed (step 4) is abandoned at the step reached (R301). -/
def State.active (s : State) : State :=
  s.modPwr fun p =>
    match p.state with
    | .doze => { p.ungate s.now with state := .run, idleSince := s.now }
    | .entering => if p.step = 4 then p else p.abandon s.now p.step
    | .run => { p with idleSince := s.now }
    | .retention => p
    | .off => p

/-- An idle condition has become true again: the idle timers count from here (R297). -/
def State.idleAnew (s : State) : State := s.modPwr fun p => { p with idleSince := s.now }

/-- An event that ends Doze without making an idle condition false: a gate, a deadline, a timeout or a scrub pass
falling due (R298). -/
def State.wakeDoze (s : State) : State :=
  s.modPwr fun p => if p.state = .doze then { p.ungate s.now with state := .run } else p

/-! ### Clover announcements (R204) -/

/-- When the last message of each periodic type was sent, and what STATUS carried (R204). -/
def TwinSt.noteSent (t : TwinSt) (type : Nat) (body : List Byte) (now : Nat) : TwinSt :=
  match type with
  | 1 => { t with statusAt := now, statusLast := body }
  | 2 => { t with holdAt := now }
  | 8 => { t with timeAt := now }
  | 11 => { t with joinAt := now }
  | 13 => { t with creditAt := now }
  | _ => t

/-- Send a Clover message: MSEQ counts messages modulo 256; nothing is sent while Clover is down.
A message other than STATUS, HOLD and TIME ends an idle period (R297). -/
def State.clover (s : State) (type : Nat) (body : List Byte) : State :=
  if s.twin.cloverState = 2 ∧ s.blockUp 6 then
    (if type = 1 ∨ type = 2 ∨ type = 8 then s else s.active).modTwin fun t =>
      ({ t with sent := t.sent ++ [⟨type, t.txMseq, body, false, 0⟩], txMseq := (t.txMseq + 1) % 256 } : TwinSt).noteSent
        type body s.now
  else s

/-- Whether a joiner keeps what it observes: while Clover is up, until the last part of its snapshot has come (R216). -/
def State.joinHolds (s : State) : Bool :=
  s.twin.pairInUse == 1 && s.twin.role == .joining && !s.twin.snapDone && (s.twin.cloverState == 2 || decide (0 < s.twin.snapParts))

/-- A joiner keeps what it observes until the last part of its snapshot has come, an announcement only from the first part on, which the
active sends at the cut; otherwise what is observed acts (R216; notes/assumptions/20.md). -/
def State.observed (s : State) (e : JoinEvent) (act : State → State) : State :=
  if s.joinHolds && (e.onBus || decide (0 < s.twin.snapParts)) then s.modTwin fun t => { t with joinLog := t.joinLog ++ [e] } else act s

/-- Send a message that only the active of a Mirror pair sends (R211). -/
def State.announce (s : State) (type : Nat) (body : List Byte) : State :=
  if s.announces then s.clover type body else s

/-- A port event: the active announces it, a standby keeps it until a PORT_EVENT of the same event, with the same CSEQ or
WSEQ, arrives (R211, R212). -/
def State.portEvt (s : State) (x : Port) (event seq : Nat) : State :=
  if s.announces then
    s.clover 6 (leBytes (portIdx x) 1 ++ leBytes event 1 ++ leBytes seq 1)
  else if s.twin.pairInUse = 1 ∧ s.twin.role = .standby then
    s.modTwin fun t =>
      match t.partnerEvents.find? (fun e => e.x == x && e.event == event && e.seq == seq) with
      | some e => { t with partnerEvents := t.partnerEvents.erase e }
      | none => { t with ownEvents := t.ownEvents ++ [⟨x, event, seq, s.now⟩] }
  else s

/-! ### Lock slots (R34 to R36) -/

/-- Free every slot of an owner and mark it broken (R36). -/
def State.freeLocks (s : State) (o : Owner) : State :=
  s.modMem fun m => { m with locks := m.locks.map fun l => if l.owner = o then ⟨.free, true⟩ else l }

/-- Free every slot, marking those that were held (R36). -/
def State.freeAllLocks (s : State) : State :=
  s.modMem fun m => { m with locks := m.locks.map fun l => if l.owner = .free then l else ⟨.free, true⟩ }

end Sys2Proof.Machine
end

