-- ==== Sys2Proof/Machine/Flags.lean ====
section
/-! DEFINITION. Pointer arithmetic and the quantities and flags computed from the pointers: OCC, FREE,
FENCED, READABLE, PAF, PAE, HOLD_REQ, and the levels of the flag and attention pins. -/

namespace Sys2Proof.Machine

/-! ### Pointer arithmetic (R41) -/

/-- The region size in words. -/
def Chan.s (c : Chan) : Nat := c.cfg.size * 128

/-- lin(p) (R41). -/
def lin (sz : Nat) (p : Ptr) : Nat := bnat p.lap * sz + p.off

/-- dist(a, b) (R41). -/
def dist (sz : Nat) (a b : Ptr) : Nat := (lin sz b + 2 * sz - lin sz a % (2 * sz)) % (2 * sz)

/-- step(p) (R41). -/
def step1 (sz : Nat) (p : Ptr) : Ptr :=
  if p.off + 1 = sz then { lap := !p.lap, off := 0 } else { p with off := p.off + 1 }

/-- `k` steps at once. -/
def stepN (sz : Nat) (p : Ptr) (k : Nat) : Ptr :=
  let l := (lin sz p + k) % (2 * sz)
  { lap := decide (sz ≤ l), off := l % sz }

/-- `a ≤ b` in lap order from LP (R41). -/
def Chan.le (c : Chan) (a b : Ptr) : Bool := decide (dist c.s c.lp a ≤ dist c.s c.lp b)

/-- The earlier of two pointers in lap order from LP. -/
def Chan.earlier (c : Chan) (a b : Ptr) : Ptr := if c.le a b then a else b

/-- The pointer invariant of R42. -/
def Chan.invariant (c : Chan) : Bool :=
  decide (dist c.s c.lp c.mp ≤ dist c.s c.lp c.rp) && decide (dist c.s c.lp c.rp ≤ dist c.s c.lp c.cp) &&
  decide (dist c.s c.lp c.cp ≤ dist c.s c.lp c.wp) && decide (dist c.s c.lp c.wp ≤ c.s) &&
  [c.wp, c.cp, c.rp, c.mp, c.lp].all (fun p => decide (p.off < c.s))

/-! ### Fences of a region (R43, R45, R319) -/

/-- The region offsets that fence entries cover. -/
def fenceOffsets (fs : List Fence) (c : Chan) : List Nat :=
  (fs.map fun f => (List.range (f.last + 1 - f.first)).filterMap fun i =>
    let p := unplace c.cfg.skew ⟨f.bank, f.row, f.first + i⟩
    if c.cfg.base * 128 ≤ p ∧ p < c.cfg.base * 128 + c.s then some (p - c.cfg.base * 128) else none).flatten

/-- The effective fenced offsets of a channel: those covered, less those whose entry is deferred (R43). -/
def State.fenced (s : State) (n : Fin 20) : List Nat :=
  (fenceOffsets s.tansy.fences (s.chan n)).filter fun o => !((s.chan n).deferred.contains o)

/-- fen over `len` words from offset `a` on (R45). -/
def fen (sz : Nat) (fs : List Nat) (a len : Nat) : Nat :=
  (fs.filter fun o => decide ((o + sz - a % sz) % sz < len)).length

/-- OCC (R45). -/
def State.occ (s : State) (n : Fin 20) : Nat :=
  let c := s.chan n
  let d := dist c.s c.lp c.wp
  d - fen c.s (s.fenced n) c.lp.off d

/-- FREE (R45). -/
def State.free (s : State) (n : Fin 20) : Nat :=
  let c := s.chan n
  let d := dist c.s c.lp c.wp
  c.s - d - fen c.s (s.fenced n) c.wp.off (c.s - d)

/-- FENCED (R45). -/
def State.fencedCount (s : State) (n : Fin 20) : Nat := (s.fenced n).length

/-- CAPACITY (R45). -/
def State.capacity (s : State) (n : Fin 20) : Nat := (s.chan n).s - s.fencedCount n

/-- Words of a packet of payload length LEN, header word included (R69). -/
def pktWords (len : Nat) : Nat := (15 + len) / 32 + 1

/-- Words of present slices, not yet delivered, of the records whose gate is open (R45). -/
def Chan.sliceReadable (c : Chan) : Nat :=
  (c.records.toList.map fun r =>
    if r.gateOpen && (r.state == .filling || r.state == .reading) then
      ((r.entries.filter fun e => e.present && decide (r.pos ≤ e.k)).map fun e => pktWords e.len).sum
    else 0).sum

/-- READABLE of a ring-read channel (R45). -/
def State.ringReadable (s : State) (n : Fin 20) : Nat :=
  let c := s.chan n
  let d := dist c.s c.rp c.cp
  d - fen c.s (s.fenced n) c.rp.off d

/-- READABLE (R45, R93). R45 and R80 count a Slice channel's slices in frames whose gate is open; in Sender role, where R128
gives no gates, it takes the form of a ring-read channel (DESIGN CHOICE, notes/assumptions/79.md). -/
def State.readable (s : State) (n : Fin 20) : Nat :=
  if s.dirRead n then (s.chan n).sliceReadable else s.ringReadable n

/-! ### Flags (R80, R81, R83, R84) -/

/-- PAF (R80). -/
def State.paf (s : State) (n : Fin 20) : Bool :=
  let c := s.chan n
  if c.state = .disabled ∨ c.state = .fault then true else decide (s.free n ≤ c.cfg.pafOffset)

/-- PAE (R80). -/
def State.pae (s : State) (n : Fin 20) : Bool :=
  let c := s.chan n
  if c.state = .disabled ∨ c.state = .fault then true else decide (s.readable n ≤ c.cfg.paeOffset)

/-- HELDW: the words retained only for the held frame (R83, R118). -/
def State.heldw (s : State) (n : Fin 20) : Nat :=
  let c := s.chan n
  if s.dirRead n && c.cfg.relmode == .framehold && c.records.toList.any (·.state == .held) then
    let d := dist c.s c.lp c.rp
    d - fen c.s (s.fenced n) c.lp.off d
  else 0

/-- HOLD_REQ evaluated anew (R83). -/
def State.holdNext (s : State) (n : Fin 20) : Bool :=
  let c := s.chan n
  if c.cfg.cls ≠ .slice ∨ c.state = .disabled ∨ c.state = .fault then false
  else
    let wm := s.occ n - s.heldw n
    if c.cfg.highWm ≤ wm then true else if wm ≤ c.cfg.lowWm then false else c.holdReq

/-- FLAGS of 2100h + n sub 0D (R58). -/
def State.flags (s : State) (n : Fin 20) : Nat :=
  let c := s.chan n
  natOfBits [s.paf n, s.pae n, c.holdReq, c.paused, c.pkt.isSome]

/-- WPAF_x (R81). -/
def State.wpaf (s : State) (x : Port) : Bool :=
  match (s.port x).wsel with
  | none => true
  | some n =>
    let c := s.chan n
    if c.cfg.producer ≠ End.ofPort x ∨ c.state ≠ .active then true else s.paf n

/-- RPAE_x (R81). -/
def State.rpae (s : State) (x : Port) : Bool :=
  match (s.port x).rsel with
  | none => true
  | some n =>
    let c := s.chan n
    if c.cfg.consumer ≠ End.ofPort x ∨ (c.state ≠ .active ∧ c.state ≠ .draining) then true else s.pae n

/-- WHOLD_x (R84), 0 under the isolation clamp (R304). R82 lets a pin whose clock is absent read 1 under R81 after the
port's isolation, and R81 gives WHOLD_x no value: it keeps that of R84 (DESIGN CHOICE, notes/assumptions/80.md). -/
def State.whold (s : State) (x : Port) : Bool :=
  !s.pwr.clamp && (List.finRange 20).any fun n =>
    let c := s.chan n
    c.cfg.cls == .slice && c.cfg.producer == End.ofPort x &&
    (((c.state == .active || c.state == .draining) && c.holdReq) ||
     (s.announces && s.twin.standbyHold.getLsbD n.val))

/-- Whether the pins of a port are in use: its rail is there, its block runs, and it has left OFF (R292, R328). -/
def State.portPins (s : State) (x : Port) : Bool :=
  (s.port x).rail && s.blockUp (7 + portIdx x) && (s.port x).state != .off

/-- Whether ATTN_x_N is driven low: an unmasked cause is set and this device may drive (R91, R206, R219); the clamp, a reset and a
port in OFF release it (R292, R304). -/
def State.attnLow (s : State) (x : Port) : Bool :=
  !s.pwr.clamp && s.portPins x &&
  ((s.port x).attnCause &&& (s.port x).attnMask) != 0 && (s.twin.own || s.twin.pairInUse == 2)

/-- Whether IRQ_N is driven low (R255); the clamp releases it (R304). -/
def State.irqLow (s : State) : Bool := !s.pwr.clamp && s.od.mbxRsp.isSome

/-- Whether MOD_TXDIS is high (R160, R169). -/
def State.modTxdis (s : State) : Bool :=
  s.link.state == .off || !s.link.modPresent || s.pwr.state == .retention || s.pwr.state == .off

/-- The PAUSE bitmap of the receiver (R85). -/
def State.pauseMap (s : State) : Nat :=
  natOfBits ((List.finRange 20).map fun n =>
    let c := s.chan n
    c.cfg.cls == .slice && c.cfg.producer == .link && c.holdReq)

/-- The IDLE_CHANNELS bitmap (R78). -/
def State.idleMap (s : State) : Nat :=
  natOfBits ((List.finRange 20).map fun n => (s.chan n).enabled && (s.chan n).cfg.emptyMode == 1)

end Sys2Proof.Machine
end

