-- ==== Sys2Proof/Machine/Ports.lean ====
section
/-! DEFINITION. The return bus and the accepted commands of a port (R137 to R140, R143, R149): launching
beats, completing commands, and which accepted command may execute next (R106, R108, R139). -/

namespace Sys2Proof.Machine

open Sys2Proof

/-! ### RSTAT codes (R140) -/

/-- OK. -/
def rsOk : Nat := 0
/-- IDLE. -/
def rsIdle : Nat := 1
/-- TIMEOUT. -/
def rsTimeout : Nat := 2
/-- EMPTY. -/
def rsEmpty : Nat := 3
/-- ACCESS. -/
def rsAccess : Nat := 4
/-- BADOP. -/
def rsBadop : Nat := 5
/-- SEQGAP. -/
def rsSeqgap : Nat := 6
/-- PARITY. -/
def rsParity : Nat := 7
/-- UNCORR. -/
def rsUncorr : Nat := 8
/-- ISOLATED. -/
def rsIsolated : Nat := 9
/-- BUSY. -/
def rsBusy : Nat := 10
/-- BROKEN. -/
def rsBroken : Nat := 11
/-- FLUSHED. -/
def rsFlushed : Nat := 12
/-- NOTREADY. -/
def rsNotready : Nat := 13
/-- FAULT. -/
def rsFault : Nat := 14

/-! ### Beats (R138) -/

/-- Whether this device drives the return bus: the owner of the latch, or device 1 of a Chain pair
(R206, R219). -/
def State.drives (s : State) : Bool := s.twin.own || s.chainHalf true

/-- Launch a beat; the first beat after a takeover fixes LAST_STALL (R215). A device that does not drive
launches none (R206). -/
def State.launch (s : State) (x : Port) (b : Beat) : State :=
  if s.drives then
    let s := s.modPort x fun p => { p with ret := p.ret ++ [b] }
    s.modTwin fun t =>
      { t with lastBeatAt := s.now, stallFrom := none,
               lastStall := match t.stallFrom with
                            | some a => min max32 ((s.now - a) / 1000)
                            | none => t.lastStall }
  else s

/-- A beat that carries no data. -/
def statusBeat (tag stat : Nat) : Beat := { tag := tag, last := true, stat := stat, vb := 0, data := zeros 32 }

/-- A beat that carries a 32-bit value (R134). -/
def valueBeat (tag stat v : Nat) : Beat :=
  { tag := tag, last := true, stat := stat, vb := 0, data := takePad 32 (leBytes v 4) }

/-! ### Accepted commands -/

/-- The tag of an accepted command. -/
def PCmd.tag (k : PCmd) : Nat := k.c.tag.toNat

/-- Whether a command travels in the express lane: MARK, REWIND, RELEASE, FLUSH, UNLOCK, STATUS (R106). -/
def PCmd.express (k : PCmd) : Bool :=
  (decide (4 ≤ k.opc.toNat) && decide (k.opc.toNat ≤ 7)) || k.opc == 13#5 || k.opc == 14#5

/-- Whether a command is a beat of the decoder that is not an accepted command: a refused RESYNC (R144). -/
def PCmd.decoder (k : PCmd) : Bool := k.opc == 15#5

/-- Whether a command acts on a channel as its opcode gives: READ to FLUSH (01h to 07h). -/
def PCmd.onChannel (k : PCmd) : Bool := decide (1 ≤ k.opc.toNat) && decide (k.opc.toNat ≤ 7)

/-- Whether a command is a read: READ, READP or PEEK. -/
def PCmd.isRead (k : PCmd) : Bool := decide (1 ≤ k.opc.toNat) && decide (k.opc.toNat ≤ 3)

/-- Whether a tag is busy (R137). -/
def PortSt.busy (p : PortSt) (tag : Nat) : Bool := p.q.any fun k => k.tag == tag && !k.decoder

/-- The commands of a port without one of them, which may have been decided meanwhile: a RELEASE whose channel has entered FAULT
by it completes with its own status, once (R46, R49). -/
def PortSt.without (p : PortSt) (k : PCmd) : List PCmd :=
  if p.q.contains k then p.q.erase k else p.q.eraseP fun j => { j with preset := k.preset } == k

/-- Launch the RLAST beat of an accepted command and retire it; LAST_COMPLETED follows, and the idle timers count
from here where it was the last (R143, R297). -/
def State.finish (s : State) (x : Port) (k : PCmd) (b : Beat) : State :=
  let s := s.modPort x fun p => { p with q := p.without k }
  let s := if k.waiting then s.modPort x fun p => { p with stallStart := none } else s
  let s := if k.decoder || !s.drives then s
           else s.modPort x fun p => { p with lastCompleted := k.c.cseq }
  (s.launch x b).idleAnew

/-- Complete an accepted command with a status beat. -/
def State.finishStat (s : State) (x : Port) (k : PCmd) (stat : Nat) : State :=
  s.finish x k (statusBeat k.tag stat)

/-- Replace an accepted command by itself changed. -/
def State.updCmd (s : State) (x : Port) (k k' : PCmd) : State :=
  s.modPort x fun p => { p with q := p.q.map fun j => if j = k then k' else j }

/-- Whether a command is a scratch operation: SRD, SWR, SSET, SCLR. -/
def PCmd.isScratch (k : PCmd) : Bool := decide (8 ≤ k.opc.toNat) && decide (k.opc.toNat ≤ 11)

/-- Whether a command waits on an empty channel, with nothing that has decided it (R75). -/
def PCmd.stalled (k : PCmd) : Bool := k.waiting && k.preset.isNone

/-- Whether command `i` of the queue may execute now. A normal-lane command needs every earlier
normal-lane command gone (R139). An express command needs every earlier express command gone and the
oldest earlier normal-lane command, if any, waiting on an empty channel: what is queued behind a waiting
read does not hold it back (R75, R106, R108; notes/assumptions/13.md). UNLOCK also needs every earlier
scratch operation gone (R35). No command passes an earlier one with its own tag (R139). -/
def ready (q : List PCmd) (i : Nat) : Bool :=
  match q[i]? with
  | none => false
  | some k =>
    let earlier := q.take i
    let normal := earlier.filter fun j => !j.decoder && !j.express
    !k.stalled && !(earlier.any fun j => j.tag == k.tag) &&
    (if k.decoder then true
     else if k.express then
       !(earlier.any (·.express)) && (normal.head?.all (·.stalled)) &&
       !(k.opc == 13#5 && normal.any (·.isScratch))
     else normal.isEmpty)

/-- The next accepted command that may execute. -/
def PortSt.next? (p : PortSt) : Option PCmd :=
  ((List.range p.q.length).find? (ready p.q)).bind fun i => p.q[i]?

/-- Decide the completion status of every pending command of channel `n` at both ports (R49). -/
def State.presetPending (s : State) (n : Fin 20) (stat : Nat) : State :=
  let f := fun (p : PortSt) => { p with q := p.q.map fun k =>
    if k.onChannel && k.c.ch.toNat == n.val && k.preset.isNone then { k with preset := some stat } else k }
  (s.modPort .A f).modPort .B f

end Sys2Proof.Machine
end

