-- ==== Sys2Proof/Machine/Operands.lean ====
section
/-! DEFINITION. The operand forms of the read-side commands (R134, R135): cycle counts, the bits of each
cycle, parity, and reserved bits. -/

namespace Sys2Proof

/-- The first cycle of a command: OPC, TAG, CH, CSEQ, MOD (R134). -/
def RCmd.first (c : RCmd) (opc : BitVec 5) : W32 :=
  (opc ++ c.tag ++ c.ch ++ c.cseq ++ c.mod : BitVec 32)

end Sys2Proof

namespace Sys2Proof.Machine

open Sys2Proof

/-- How many cycles the opcode and MOD decide (R134). -/
def cycles (opc : Nat) (mod : BitVec 7) : Nat :=
  if opc = 1 ∨ opc = 8 then 2
  else if 9 ≤ opc ∧ opc ≤ 11 then 3
  else if opc = 14 then (if mod.getLsbD 6 then 3 else 1)
  else if opc = 15 then (if mod.getLsbD 0 then 2 else 1)
  else if opc = 17 then (if mod.getLsbD 0 then 3 else 1)
  else 1

/-- Whether every cycle sampled of a command carries odd parity (R135). -/
def cmdParityOk (opc : BitVec 5) (c : RCmd) (op1 op2 : W32) : Bool :=
  let n := if c.complete then cycles opc.toNat c.mod else min c.sampled (cycles opc.toNat c.mod)
  (c.par.getLsbD 0 == oddParity (c.first opc).toNat 32) &&
  (decide (n < 2) || c.par.getLsbD 1 == oddParity op1.toNat 32) &&
  (decide (n < 3) || c.par.getLsbD 2 == oddParity op2.toNat 32)

/-- The reserved MOD bits of an opcode (R94, R134). -/
def reservedMod (opc : Nat) : BitVec 7 :=
  if opc = 0 ∨ opc = 4 ∨ opc = 5 ∨ opc = 7 then 0x7F#7
  else if opc = 1 ∨ opc = 2 ∨ opc = 3 ∨ opc = 6 ∨ opc = 15 ∨ opc = 17 then 0x7E#7
  else if 8 ≤ opc ∧ opc ≤ 11 then 0x7C#7
  else if opc = 12 ∨ opc = 13 then 0x40#7
  else if opc = 16 then 0x78#7
  else 0

/-- The reserved bits of the first operand (R134). -/
def reservedOp1 (opc : Nat) : W32 :=
  if opc = 1 ∨ opc = 15 then 0xFFFFFF00#32
  else if 8 ≤ opc ∧ opc ≤ 11 then 0xFFF00000#32
  else 0

/-- The reserved bits of the second operand (R134): those of a SET's nanoseconds. -/
def reservedOp2 (opc : Nat) : W32 := if opc = 17 then 0xC0000000#32 else 0

/-- Whether a command is malformed: incomplete, of a reserved opcode, or with a reserved bit of MOD or of
an operand set (R134, R136 step 7). -/
def malformed (opc : BitVec 5) (c : RCmd) (op1 op2 : W32) : Bool :=
  let o := opc.toNat
  let n := cycles o c.mod
  !c.complete || decide (18 ≤ o) || (c.mod &&& reservedMod o) != 0 ||
  (decide (2 ≤ n) && (op1 &&& reservedOp1 o) != 0) || (decide (3 ≤ n) && (op2 &&& reservedOp2 o) != 0)

/-- Whether a command touches the array: READ, READP, PEEK, SRD, SWR, SSET, SCLR (R136 step 8). -/
def touchesArray (opc : Nat) : Bool :=
  (decide (1 ≤ opc) && decide (opc ≤ 3)) || (decide (8 ≤ opc) && decide (opc ≤ 11))

end Sys2Proof.Machine
end

