-- ==== Sys2Proof/Machine/Crypto.lean ====
section
/-! DEFINITION. The check codes and cryptographic functions that the spec names: CRC-32C (R67),
SHA-256 and HMAC-SHA-256 (R249, R262, R268), and ECDSA over P-256 (R267, R268). -/

namespace Sys2Proof.Machine

/-! ### CRC-32C (R67) -/

/-- `k` single-bit steps of the reflected CRC register, polynomial 1EDC_6F41h. -/
def crcBits : Nat → W32 → W32
  | 0, c => c
  | k + 1, c => crcBits k (if c.getLsbD 0 then (c >>> 1) ^^^ 0x82F63B78#32 else c >>> 1)

/-- The register after one byte. -/
def crcByte (c : W32) (b : Byte) : W32 := crcBits 8 (c ^^^ b.setWidth 32)

/-- The register's initial value. -/
def crcInit : W32 := 0xFFFFFFFF#32

/-- The register after a byte string. -/
def crcRun (c : W32) (bs : List Byte) : W32 := bs.foldl crcByte c

/-- The CRC that a register stands for. -/
def crcFinal (c : W32) : Nat := (c ^^^ 0xFFFFFFFF#32).toNat

/-- CRC-32C of a byte string (R67). -/
def crc32c (bs : List Byte) : Nat := crcFinal (crcRun crcInit bs)

/-! ### SHA-256 -/

/-- The SHA-256 round constants. -/
def shaK : List W32 :=
  [0x428a2f98#32, 0x71374491#32, 0xb5c0fbcf#32, 0xe9b5dba5#32, 0x3956c25b#32, 0x59f111f1#32,
   0x923f82a4#32, 0xab1c5ed5#32, 0xd807aa98#32, 0x12835b01#32, 0x243185be#32, 0x550c7dc3#32,
   0x72be5d74#32, 0x80deb1fe#32, 0x9bdc06a7#32, 0xc19bf174#32, 0xe49b69c1#32, 0xefbe4786#32,
   0x0fc19dc6#32, 0x240ca1cc#32, 0x2de92c6f#32, 0x4a7484aa#32, 0x5cb0a9dc#32, 0x76f988da#32,
   0x983e5152#32, 0xa831c66d#32, 0xb00327c8#32, 0xbf597fc7#32, 0xc6e00bf3#32, 0xd5a79147#32,
   0x06ca6351#32, 0x14292967#32] ++
  [0x27b70a85#32, 0x2e1b2138#32, 0x4d2c6dfc#32, 0x53380d13#32, 0x650a7354#32, 0x766a0abb#32,
   0x81c2c92e#32, 0x92722c85#32, 0xa2bfe8a1#32, 0xa81a664b#32, 0xc24b8b70#32, 0xc76c51a3#32,
   0xd192e819#32, 0xd6990624#32, 0xf40e3585#32, 0x106aa070#32, 0x19a4c116#32, 0x1e376c08#32,
   0x2748774c#32, 0x34b0bcb5#32, 0x391c0cb3#32, 0x4ed8aa4a#32, 0x5b9cca4f#32, 0x682e6ff3#32,
   0x748f82ee#32, 0x78a5636f#32, 0x84c87814#32, 0x8cc70208#32, 0x90befffa#32, 0xa4506ceb#32,
   0xbef9a3f7#32, 0xc67178f2#32]

/-- The SHA-256 initial hash value. -/
def shaInit : List W32 :=
  [0x6a09e667#32, 0xbb67ae85#32, 0x3c6ef372#32, 0xa54ff53a#32, 0x510e527f#32, 0x9b05688c#32,
   0x1f83d9ab#32, 0x5be0cd19#32]

/-- Right rotation of a word. -/
def rotr (w : W32) (n : Nat) : W32 := w.rotateRight n

/-- One further word of the message schedule, kept newest first. -/
def shaNextW (ws : List W32) : W32 :=
  let w15 := ws.getD 14 0
  let w2 := ws.getD 1 0
  let s0 := rotr w15 7 ^^^ rotr w15 18 ^^^ (w15 >>> 3)
  let s1 := rotr w2 17 ^^^ rotr w2 19 ^^^ (w2 >>> 10)
  ws.getD 15 0 + s0 + ws.getD 6 0 + s1

/-- The message schedule, newest first. -/
def shaSchedule : Nat → List W32 → List W32
  | 0, ws => ws
  | k + 1, ws => shaSchedule k (shaNextW ws :: ws)

/-- One round on the eight working variables. -/
def shaRound (v : List W32) (kw : W32 × W32) : List W32 :=
  match v with
  | [a, b, c, d, e, f, g, h] =>
    let s1 := rotr e 6 ^^^ rotr e 11 ^^^ rotr e 25
    let ch := (e &&& f) ^^^ ((~~~e) &&& g)
    let t1 := h + s1 + ch + kw.1 + kw.2
    let s0 := rotr a 2 ^^^ rotr a 13 ^^^ rotr a 22
    let maj := (a &&& b) ^^^ (a &&& c) ^^^ (b &&& c)
    [t1 + (s0 + maj), a, b, c, d + t1, e, f, g]
  | v => v

/-- The big-endian 32-bit words of a byte string. -/
def beWords : List Byte → List W32
  | a :: b :: c :: d :: t => (a ++ b ++ c ++ d : BitVec 32) :: beWords t
  | _ => []

/-- One 64-byte block. -/
def shaBlock (h : List W32) (blk : List Byte) : List W32 :=
  let ws := (shaSchedule 48 (beWords blk).reverse).reverse
  let v := (shaK.zip ws).foldl shaRound h
  (h.zip v).map fun p => p.1 + p.2

/-- `n` blocks in turn. -/
def shaBlocks : Nat → List W32 → List Byte → List W32
  | 0, h, _ => h
  | n + 1, h, bs => shaBlocks n (shaBlock h (bs.take 64)) (bs.drop 64)

/-- The big-endian bytes of a number. -/
def beBytes (n len : Nat) : List Byte := (leBytes n len).reverse

/-- The number that big-endian bytes spell. -/
def beNat (bs : List Byte) : Nat := leNat bs.reverse

/-- SHA-256 of a byte string. -/
def sha256 (bs : List Byte) : List Byte :=
  let pad := bs ++ [0x80#8] ++ zeros ((119 - bs.length % 64) % 64) ++ beBytes (8 * bs.length) 8
  ((shaBlocks (pad.length / 64) shaInit pad).map fun w => beBytes w.toNat 4).flatten

/-- HMAC-SHA-256 of a message under a key of at most 64 bytes. -/
def hmac (key msg : List Byte) : List Byte :=
  let k := takePad 64 key
  sha256 ((k.map (· ^^^ 0x5C#8)) ++ sha256 ((k.map (· ^^^ 0x36#8)) ++ msg))

/-! ### ECDSA over P-256 -/

/-- The field prime of P-256. -/
def p256p : Nat := 0xffffffff00000001000000000000000000000000ffffffffffffffffffffffff
/-- The group order of P-256. -/
def p256n : Nat := 0xffffffff00000000ffffffffffffffffbce6faada7179e84f3b9cac2fc632551
/-- The coefficient b of P-256. -/
def p256b : Nat := 0x5ac635d8aa3a93e7b3ebbd55769886bc651d06b0cc53b0f63bce3c3e27d2604b
/-- The base point of P-256. -/
def p256G : Nat × Nat :=
  (0x6b17d1f2e12c4247f8bce6e563a440f277037d812deb33a0f4a13945d898c296,
   0x4fe342e2fe1a7f9b8ee7eb4a7c0f9e162bce33576b315ececbb6406837bf51f5)

/-- `b ^ e mod m` over the low `k` bits of `e`. -/
def powMod (m : Nat) : Nat → Nat → Nat → Nat
  | 0, _, _ => 1 % m
  | k + 1, b, e =>
    let r := powMod m k (b * b % m) (e / 2)
    if e % 2 = 1 then r * b % m else r

/-- The inverse modulo a 256-bit prime. -/
def invMod (m a : Nat) : Nat := powMod m 256 a (m - 2)

/-- A point of the curve; `none` is the point at infinity. -/
abbrev EcPoint := Option (Nat × Nat)

/-- The sum of two points. -/
def ecAdd (a b : EcPoint) : EcPoint :=
  match a, b with
  | none, b => b
  | a, none => a
  | some (x1, y1), some (x2, y2) =>
    let p := p256p
    if x1 = x2 ∧ (y1 + y2) % p = 0 then none
    else
      let l := if x1 = x2 then (3 * x1 * x1 + (p - 3)) % p * invMod p (2 * y1 % p) % p
               else (y2 + p - y1) % p * invMod p ((x2 + p - x1) % p) % p
      let x3 := (l * l + (p - x1) + (p - x2)) % p
      some (x3, (l * ((x1 + p - x3) % p) + (p - y1)) % p)

/-- `k` times a point, over the low `bits` bits of `k`. -/
def ecMul : Nat → Nat → EcPoint → EcPoint
  | 0, _, _ => none
  | bits + 1, k, q =>
    let r := ecMul bits (k / 2) (ecAdd q q)
    if k % 2 = 1 then ecAdd r q else r

/-- Whether a point lies on the curve. -/
def onCurve (x y : Nat) : Bool :=
  decide (x < p256p) && decide (y < p256p) &&
  decide (y * y % p256p = (x * x * x + (p256p - 3) * x + p256b) % p256p)

/-- Whether `(r, s)` is a signature of the digest `e` under the public key `(x, y)`. -/
def ecdsaVerify (x y e r s : Nat) : Bool :=
  if 1 ≤ r ∧ r < p256n ∧ 1 ≤ s ∧ s < p256n ∧ onCurve x y = true then
    let w := invMod p256n s
    match ecAdd (ecMul 256 (e * w % p256n) (some p256G)) (ecMul 256 (r * w % p256n) (some (x, y))) with
    | some (px, _) => px % p256n == r
    | none => false
  else false

end Sys2Proof.Machine
end

