-- ==== Sys2Proof/Machine/Channel.lean ====
section
/-! DEFINITION. The channel engine (CHENG) on one channel: what follows every change of its pointers,
discards, refusals, faults, the write packer's packets and raw words, closes, commits and tail commits. -/

namespace Sys2Proof.Machine

open Sys2Proof

/-! ### Records (R114, R118) -/

/-- The slot of the first record that satisfies `p`. -/
def Chan.slotOf (c : Chan) (p : FrameRec → Bool) : Option (Fin 3) :=
  (List.finRange 3).find? fun i => p (c.records.get i)

/-- The record of a slot. -/
def Chan.record (c : Chan) (i : Fin 3) : FrameRec := c.records.get i

/-- Change the record of a slot. -/
def Chan.modRec (c : Chan) (i : Fin 3) (f : FrameRec → FrameRec) : Chan :=
  { c with records := c.records.set i.val (f (c.records.get i)) i.isLt }

/-- The existing records. -/
def Chan.live (c : Chan) : List FrameRec := c.records.toList.filter fun r => r.state != .free

/-- The slot of the record for a frame. -/
def Chan.slotFor (c : Chan) (frame : Nat) : Option (Fin 3) :=
  c.slotOf fun r => r.state != .free && r.frame == frame

/-- The slot of the existing record created first among those that satisfy `p`. -/
def Chan.oldest (c : Chan) (p : FrameRec → Bool) : Option (Fin 3) :=
  (List.finRange 3).foldl (fun best i =>
    let r := c.record i
    if r.state != .free && p r then
      match best with
      | some j => if r.rank < (c.record j).rank then some i else some j
      | none => some i
    else best) none

/-- The entry `k` of a record, if it is not clear (R115). -/
def FrameRec.entry (r : FrameRec) (k : Nat) : Option SliceEntry := r.entries.find? fun e => e.k == k

/-- Whether entry `k` of a record is PRESENT. -/
def FrameRec.has (r : FrameRec) (k : Nat) : Bool := (r.entry k).any (·.present)

/-- MISS of entry `k` (R115). -/
def FrameRec.missOf (r : FrameRec) (k : Nat) : Nat := ((r.entry k).map (·.miss)).getD 0

/-- Set entry `k` of a record. -/
def FrameRec.setEntry (r : FrameRec) (e : SliceEntry) : FrameRec :=
  { r with entries := r.entries.filter (fun d => d.k != e.k) ++ [e] }

/-- The number of PRESENT entries. -/
def FrameRec.present (r : FrameRec) : Nat := (r.entries.filter (·.present)).length

/-- Set MISS of entry `k` of frame `frame`, where the record exists and has the entry (R87, R117). -/
def Chan.setMiss (c : Chan) (frame k code : Nat) : Chan :=
  match c.slotFor frame with
  | some i =>
    if k < (c.record i).count then
      c.modRec i fun r =>
        match r.entry k with
        | some e => r.setEntry { e with miss := code }
        | none => r.setEntry { k := k, present := false, miss := code, kind := 0, len := 0, start := {}, flips := 0 }
    else c
  | none => c

/-- FIRST of a record: the earliest START among its PRESENT entries (R118). -/
def Chan.first (c : Chan) (r : FrameRec) : Option Ptr :=
  (r.entries.filter (·.present)).foldl (fun b e =>
    match b with
    | some p => some (c.earlier p e.start)
    | none => some e.start) none

/-- The earliest of `p` and the FIRST of the records that satisfy `q`. -/
def Chan.earliestFirst (c : Chan) (q : FrameRec → Bool) (p : Ptr) : Ptr :=
  ((c.records.toList.filter q).filterMap c.first).foldl c.earlier p

/-- RP and LP of a directory-read channel from its records (R118). -/
def Chan.derive (c : Chan) : Chan :=
  let rp := c.earliestFirst (fun r => r.state == .filling || r.state == .reading) c.cp
  let lp := match c.cfg.relmode with
    | .auto => rp
    | .framehold => c.earliestFirst (fun r => r.state == .held) rp
    | .explicit => c.lp
  { c with rp := rp, lp := lp, mp := lp, markValid := false }

/-! ### What follows every change of a channel (R43, R47, R72, R79, R83, R99, R118) -/

/-- LP moves to `p`; MP moves with it while MARK_VALID is 0, with the given record (R41, R100). -/
def Chan.moveLp (c : Chan) (p : Ptr) (pseq : Nat) (pos : Option PktPos) : Chan :=
  if c.markValid then { c with lp := p }
  else { c with lp := p, mp := p, markPseq := pseq, markPkt := pos }

/-- The automatic move of LP (R99, R118). -/
def State.autoRelease (s : State) (n : Fin 20) : State :=
  let c := s.chan n
  if c.state = .disabled ∨ c.state = .fault ∨ s.chainHalf false then s
  else if s.dirRead n then s.modCh n Chan.derive
  else match c.cfg.relmode with
    | .explicit => s
    | _ => if c.markValid then s.modCh n fun c => { c with lp := c.mp }
           else s.modCh n fun c => c.moveLp c.rp c.nextPseq c.inPkt

/-- Whether a Stream channel counts as non-empty for the read-idle timeout (R79). -/
def State.ridleNonEmpty (s : State) (n : Fin 20) : Bool :=
  let c := s.chan n
  decide (0 < s.ringReadable n) || !c.rawBuf.isEmpty || c.pkt.isSome || !c.closing.isEmpty

/-- The read-idle timer starts when the channel becomes non-empty, and stops when it becomes empty (R79). -/
def State.ridle (s : State) (n : Fin 20) : State :=
  let c := s.chan n
  if c.cfg.cls = .slice ∨ c.state = .disabled ∨ c.state = .fault then
    s.modCh n fun c => { c with ridleStart := none }
  else if s.ridleNonEmpty n then
    if c.ridleStart.isNone && !c.ridleFired then s.modCh n fun c => { c with ridleStart := some s.pwr.timeclk } else s
  else s.modCh n fun c => { c with ridleStart := none }

/-- The HOLD message body of a standby: HOLD_REQ of its Slice channels (R204, R213). -/
def State.holdMap (s : State) : Nat := natOfBits ((List.finRange 20).map fun n => (s.chan n).holdReq)

/-- HOLD_REQ takes a value; a standby reports a change (R83, R204). -/
def State.setHold (s : State) (n : Fin 20) (h : Bool) : State :=
  if h = (s.chan n).holdReq then s
  else
    let s := s.modCh n fun c => { c with holdReq := h }
    if s.twin.pairInUse = 1 ∧ s.twin.role = .standby then s.clover 2 (leBytes s.holdMap 4) else s

/-- HOLD_REQ evaluated anew (R83). -/
def State.evalHold (s : State) (n : Fin 20) : State := s.setHold n (s.holdNext n)

/-! ### The credits of the chain's consumer half (R204, R205, R220) -/

/-- The credit of a channel: FREE plus HELDW, in words; none where the channel is not enabled (R220). -/
def State.creditOf (s : State) (n : Fin 20) : Nat := if (s.chan n).enabled then s.free n + s.heldw n else 0

/-- CHAIN_CREDIT: device 1's credits and the last good MSEQ (R204, R205, R220). -/
def State.sendCredits (s : State) : State :=
  if s.chainHalf true then
    s.clover 13 (((List.finRange 20).map fun n => leBytes (s.creditOf n) 4).flatten ++ leBytes s.twin.chainGood 1)
  else s

/-- The credit of a channel evaluated anew; a change is sent (R204, R220). -/
def State.evalCredit (s : State) (n : Fin 20) : State :=
  if s.chainHalf true then
    let k := s.creditOf n
    if k = (s.chan n).chainCredit then s else (s.modCh n fun c => { c with chainCredit := k }).sendCredits
  else s

/-! ### The sender's records (R128) -/

/-- In Sender role a record whose COUNT slices have closed, and whose last slice LP has passed, becomes
FREE (R128). -/
def State.freeSenderRecords (s : State) (n : Fin 20) : State :=
  if s.dirRead n || (s.chan n).cfg.cls != .slice then s
  else s.modCh n fun c =>
    (List.finRange 3).foldl (fun c i =>
      let r := c.record i
      let d := dist c.s c.lp r.lastEnd
      if r.state = .filling ∧ r.count ≤ r.closed ∧ (d = 0 ∨ dist c.s c.lp c.wp < d) then
        c.modRec i fun _ => {}
      else c) c

/-! ### The head frames of the egress flows (R179 to R182) -/

/-- The word address of region offset `o`. -/
def Chan.addr (c : Chan) (o : Nat) : Nat := c.cfg.base * 128 + o

/-- The place of region offset `o` (R14). -/
def Chan.locAt (c : Chan) (o : Nat) : Loc := place c.cfg.skew (c.addr o)

/-- Step over effective fenced words, at most `k` of them (R44). -/
def skipFenced (sz : Nat) (fs : List Nat) : Nat → Ptr → Ptr
  | 0, p => p
  | k + 1, p => if fs.contains p.off then skipFenced sz fs k (step1 sz p) else p

/-- The slice entry of the packet whose header word is at `p`, where a record of a Slice channel holds one (R115). -/
def Chan.entryAt (c : Chan) (p : Ptr) : Option SliceEntry :=
  if c.cfg.cls = .slice then (c.records.toList.flatMap (·.entries)).find? (fun e => e.present && e.start == p) else none

/-- LEN of the packet whose header word is at `p`: from the stored header on a Stream packet channel, from
the slice entry on a Slice channel where a record holds one (R69). -/
def Chan.lenAt (c : Chan) (p : Ptr) (data : List Byte) : Nat := ((c.entryAt p).map (·.len)).getD (leField data 0 3)

/-- The pointer after `k` unfenced words from `p` (R44). -/
def ptrAfter (sz : Nat) (fs : List Nat) : Nat → Ptr → Ptr
  | 0, p => p
  | k + 1, p => ptrAfter sz fs k (step1 sz (skipFenced sz fs fs.length p))

/-- Whether the link is UP at a rate that carries channel frames (R160, R179). -/
def State.linkFlows (s : State) : Bool := s.link.state == .up && decide (1 ≤ s.link.rate)

/-- Whether a window entry carries data of channel `n` as the channel now stands (R42, R103). -/
def WinEntry.of (n : Fin 20) (e : WinEntry) : Bool := e.ch == n.val && e.type == 2 && !e.stale

/-- Whether an entry of channel `n` waits to be sent again. -/
def State.retxPending (s : State) (n : Fin 20) : Bool :=
  s.arq.window.any fun e => e.of n && s.arq.retx.contains e.seq

/-- Whether an FSTART of the channel's flow is the next frame: the marker stands at or before RP (R128, R177). -/
def Chan.fstartDue (c : Chan) : Bool :=
  c.inPkt.isNone &&
  match c.fstarts with
  | f :: _ => decide (dist c.s c.rp f.pos = 0) || decide (dist c.s c.rp c.cp < dist c.s c.rp f.pos)
  | [] => false

/-- The words and valid bytes of the next raw frame from `p` on: up to the first tail word or the limit of
288 words (R158, R182). -/
def Chan.rawRun (c : Chan) (fs : List Nat) : Nat → Ptr → Nat × Nat × Bool
  | 0, _ => (0, 0, false)
  | fuel + 1, p =>
    let p := skipFenced c.s fs fs.length p
    if dist c.s c.rp c.cp ≤ dist c.s c.rp p then (0, 0, false)
    else match c.tails.find? (fun t => t.at_ == p) with
      | some t => (1, if t.vb = 0 then 32 else t.vb, true)
      | none =>
        let (w, b, tail) := c.rawRun fs fuel (step1 c.s p)
        (w + 1, b + 32, tail)

/-- Count the header word at RP that a consumer has read and that cannot be trusted (R19, R58, R74). -/
def State.countCut (s : State) (n : Fin 20) : State :=
  let c := s.chan n
  let fs := s.fenced n
  let p := skipFenced c.s fs fs.length c.rp
  let l := c.locAt p.off
  (s.countRead l (c.addr p.off) (readWordAt s.mem (s.phys l))).modCnt n fun k => { k with ueDelivered := inc32 k.ueDelivered }

/-- R74 where the consumer is link egress: the damaged header and the committed packets behind it are not
sent; the span's end goes to the channel's newest window entry, or LP moves to it (R103). -/
def State.passOver (s : State) (n : Fin 20) : State :=
  let c := s.chan n
  let s := s.countCut n
  match (s.arq.window.filter (·.of n)).getLast? with
  | some e =>
    let s := s.modCh n fun c => { c with rp := c.cp, inPkt := none }
    s.modArq fun a => { a with window := a.window.map fun w => if w.seq = e.seq ∧ w.of n then { w with endp := c.cp } else w }
  | none => s.modCh n fun c =>
      ({ c with rp := c.cp, inPkt := none } : Chan).moveLp c.cp c.nextPseq none

/-- Whether the header word that link egress reaches at RP cannot be trusted (R74). -/
def State.headerCut (s : State) (n : Fin 20) : Bool :=
  let c := s.chan n
  let fs := s.fenced n
  let r := readWordAt s.mem (s.phys (c.locAt (skipFenced c.s fs fs.length c.rp).off))
  c.cfg.cls == .packet && c.inPkt.isNone && decide (0 < s.ringReadable n) &&
  (r.lane 0 == .uncorr || r.lane 1 == .uncorr)

/-- Whether the flow of channel `n` may have a head frame, data apart (R179). -/
def State.flowOpen (s : State) (n : Fin 20) : Bool :=
  let c := s.chan n
  c.cfg.consumer == .link && (c.state == .active || c.state == .draining) && !c.paused && s.linkFlows &&
  !s.chainHalf false && !s.retxPending n

/-- Whether the flow of channel `n` has a frame to send: an FSTART, or readable data at RP (R179). -/
def State.flowData (s : State) (n : Fin 20) : Bool :=
  (s.chan n).fstartDue || decide (0 < s.ringReadable n)

/-- The next frame of a flow that has one: its body length and what it carries (R158, R182). -/
def State.headOf (s : State) (n : Fin 20) : Nat × HeadKind :=
  let c := s.chan n
  let fs := s.fenced n
  let p := skipFenced c.s fs fs.length c.rp
  if c.fstartDue then (8, .fstart)
  else if c.cfg.cls = .raw then
    let (w, b, tail) := c.rawRun fs 288 c.rp
    (b, .raw p w b tail)
  else match c.inPkt with
    | some k =>
      let bytes := min 9216 (16 + k.len - 32 * k.done)
      (bytes, .segment p (32 * k.done) bytes k.len false (32 * k.done + bytes == 16 + k.len))
    | none =>
      let len := c.lenAt p (readWordAt s.mem (s.phys (c.locAt p.off))).data
      let bytes := min 9216 (16 + len)
      (bytes, .segment p 0 bytes len true (bytes == 16 + len))

/-- The later of two 48-bit tags in serial order (R180). -/
def tagMax (a b : Nat) : Nat := if serialAfter 48 b a then b else a

/-- The head tag of a frame of length `l` (R180). -/
def headTag (v f l oh w : Nat) : Nat := (tagMax v f + (l + oh) * 65536 / w) % 2 ^ 48

/-- Link egress passes over a header that cannot be trusted as soon as it may read it (R74, R103). -/
def State.cutHead (s : State) (n : Fin 20) : State :=
  if (s.chan n).cfg.consumer == .link && s.flowOpen n && s.headerCut n && (s.chan n).flow.head.isNone then s.passOver n
  else s

/-- The head frame of channel `n`'s flow: fixed with its tag when the flow becomes eligible, gone when it is
not (R180, R182). -/
def State.refreshFlow (s : State) (n : Fin 20) : State :=
  if (s.chan n).cfg.consumer ≠ .link then s
  else if !(s.flowOpen n && s.flowData n && decide (s.arq.window.length < 1024)) then
    s.modCh n fun c => { c with flow := { c.flow with head := none } }
  else if (s.chan n).flow.head.isSome then s
  else
    let (len, kind) := s.headOf n
    s.modCh n fun c =>
      { c with flow := { c.flow with
          head := some { l := 20 + len, kind := kind,
                         tag := headTag s.link.vtime c.flow.f (20 + len) s.link.oh c.flow.weight } } }

/-- What LP has passed goes: tail entries behind it are free, deferred fence entries behind it take effect, and the end of a cut
packet is no longer awaited (R43, R72, R103). -/
def Chan.trim (c : Chan) : Chan :=
  { c with tails := c.tails.filter (fun t => decide (dist c.s c.lp t.at_ < dist c.s c.lp c.wp)),
           skip := c.skip.filter fun k => decide (0 < dist c.s c.lp k.1) && decide (dist c.s c.lp k.1 ≤ dist c.s c.lp c.wp),
           deferred := c.deferred.filter fun o => decide ((o + c.s - c.lp.off % c.s) % c.s < dist c.s c.lp c.wp) }

/-! ### FAULT (R46, R48, R49) -/

/-- Where WP returns to when the open packet goes: the end of the last closed packet (R48, R62). -/
def Chan.writeBase (c : Chan) : Ptr := ((c.closing.getLast?).map (·.endp)).getD c.cp

/-- Whether a packet is open, or raw bytes wait in the packer. -/
def Chan.holdsOpen (c : Chan) : Bool := c.pkt.isSome || !c.rawBuf.isEmpty

/-- The open packet, or the raw bytes not yet committed, go, and ABORTED counts (R48, R63). -/
def State.dropOpen (s : State) (n : Fin 20) : State :=
  let c := s.chan n
  if !c.holdsOpen then s
  else
    let s := s.modCh n fun c =>
      if c.pkt.isSome then { c with wp := c.writeBase, pkt := none, refusing := false }
      else { c with rawBuf := [], tailPending := false }
    s.modCnt n fun k => { k with aborted := inc32 k.aborted }

/-- Every record of a channel cleared (R116). DROPPED and the frame last read, from which FRAME_SKIPPED counts, go with them (R119, R121;
DESIGN CHOICE, notes/assumptions/100.md). -/
def Chan.clearRecords (c : Chan) : Chan :=
  { c with records := Vector.replicate 3 {}, newest := none, nextRank := 0, dropped := none,
           lastRead := none, shadowFrames := 0 }

/-- Whether a CHAIN_DATA message carries words of channel `n` as the channel now stands (R42, R204). -/
def CMsg.of (n : Fin 20) (q : CMsg) : Bool := byteAt q.body 0 == BitVec.ofNat 8 n.val && !q.stale

/-- The message releases no words of channel `n` any more (R42). -/
def CMsg.dropFor (q : CMsg) (n : Fin 20) : CMsg := if q.of n then { q with stale := true } else q

/-- What a channel loses when it is disabled or faulted: the open packet and closes not yet committed, with WP back
at CP, raw bytes, records, the armed flush, HOLD_REQ and link transmission; its window entries move no pointer any
more (R42, R48, R49, R83, R111). -/
def State.stopChannel (s : State) (n : Fin 20) : State :=
  let s := (s.dropOpen n).setHold n false
  let s := s.modCh n fun c =>
    { c.clearRecords with wp := c.cp, closing := [], refusing := false, tailPending := false, rawBuf := [],
                          flushArmed := false, inPkt := none, markPkt := none,
                          ridleStart := none, ridleFired := false, skip := none, fstarts := [],
                          flow := { c.flow with head := none }, cuts := [], lastCommit := none }.trim
  let s := s.modArq fun a => { a with window := a.window.map fun e => if e.of n then { e with stale := true } else e }
  s.modTwin fun t =>
    { t with retained := t.retained.map fun q => q.dropFor n, chainWait := t.chainWait.filter fun q => !q.of n }

/-- A channel enters FAULT (R49): cause 1 CAPACITY, 2 DIRECTORY, 3 POINTER. -/
def State.chFault (s : State) (n : Fin 20) (cause : Nat) : State :=
  let c := s.chan n
  if c.state = .active ∨ c.state = .held ∨ c.state = .draining then
    let s := (s.presetPending n rsFault).stopChannel n
    let s := s.modCh n fun c => { c with state := .fault, faultCause := cause }
    (s.evalCredit n).attnCh n 12
  else s

/-- LP has moved: what it has passed goes, and where a deferred fence entry has taken effect and left fewer than 128
unfenced words, the channel enters FAULT with cause CAPACITY (R43, R46). -/
def State.trim (s : State) (n : Fin 20) : State :=
  let before := (s.chan n).deferred.length
  let s := s.modCh n Chan.trim
  if (s.chan n).deferred.length < before ∧ s.capacity n < 128 then s.chFault n 1 else s

/-- What the channel engine does after every change of a channel: automatic release, the header that link egress passes
over, tail entries freed behind LP, deferred fence entries taking effect behind LP, the sender's records, HOLD_REQ, the
read-idle timer and the head frame of its egress flow. -/
def State.settle (s : State) (n : Fin 20) : State :=
  let s := ((s.autoRelease n).cutHead n).trim n
  ((((s.freeSenderRecords n).evalHold n).evalCredit n).ridle n).refreshFlow n

/-! ### Discards and refusals (R48, R50, R86, R87) -/

/-- Discard the open packet, or the raw bytes not yet committed (R48, R63). -/
def State.discardOpen (s : State) (n : Fin 20) : State :=
  if (s.chan n).holdsOpen then (s.dropOpen n).settle n else s

/-- A packet open at a snapshot's cut is discarded before its close: nothing of it is to come (R216, R218). -/
def Chan.dropCut (c : Chan) : Chan := { c with cuts := c.cuts.filter (·.closed) }

/-- The close of a packet open at a snapshot's cut (R216, R218). -/
def Chan.closeCut (c : Chan) : Chan := { c with cuts := c.cuts.map fun k => { k with closed := true } }

/-- Discard the open packet only: a parity error or a write-sequence gap (R131, R133). -/
def State.discardPacket (s : State) (n : Fin 20) : State :=
  if (s.chan n).pkt.isSome then s.discardOpen n else s.modCh n Chan.dropCut

/-- Whether a channel is shadowed and fed by a port (R210, R211). -/
def Chan.portShadowed (c : Chan) : Bool :=
  c.enabled && (c.cfg.producer == .portA || c.cfg.producer == .portB) &&
  (c.cfg.consumer == .portA || c.cfg.consumer == .portB)

/-- Whether a channel is a copied one: a shadowed Stream channel fed by the link (R211). -/
def Chan.copied (c : Chan) : Bool :=
  c.enabled && c.cfg.cls != .slice && c.cfg.producer == .link &&
  (c.cfg.consumer == .portA || c.cfg.consumer == .portB)

/-- The head of a COPY or CHAIN_DATA body: CH, SEGF, SEGOFF (R156, R204). -/
def copyHead (ch : Nat) (first last raw tail : Bool) (segoff : Nat) : List Byte :=
  leBytes ch 1 ++ leBytes (natOfBits [first, last, raw, tail]) 1 ++ leBytes segoff 4

/-- The active sends a committed raw word of a copied channel (R204, R211). -/
def State.copyRaw (s : State) (n : Fin 20) (tail : Bool) (bs : List Byte) : State :=
  if (s.chan n).copied then s.announce 7 (copyHead n.val false false true tail 0 ++ bs) else s

/-- Announce the refusal of a packet of a port-fed shadowed channel (R211). -/
def State.announceRefusal (s : State) (n : Fin 20) (wseq why : Nat) : State :=
  if (s.chan n).portShadowed then s.announce 5 (leBytes n.val 1 ++ leBytes wseq 1 ++ leBytes why 1) else s

/-- Leave STANDBY for JOINING (R209, R212). -/
def State.diverge (s : State) (cause : Nat) : State :=
  if s.twin.pairInUse = 1 ∧ s.twin.role = .standby then
    let s := s.modTwin fun t =>
      { t with role := .joining, divergeCause := cause, divergences := inc32 t.divergences,
               snapDone := false, snapParts := 0, snapTotal := 0,
               handed := false, ownEvents := [], partnerEvents := [], refusals := [], ownRefusals := [], joinLog := [] }
    s.attnBoth 16
  else s

/-- Refuse a packet for want of space (R87). A standby notes its own refusal until the active's REFUSAL of the same
packet: one that stays alone is a divergence (R211, R212; notes/assumptions/72.md). -/
def State.refusePacket (s : State) (n : Fin 20) (wseq slice frame : Nat) : State :=
  let s := s.modCh n fun c =>
    let c := { c with wp := c.writeBase, pkt := none, refusing := true }
    if c.cfg.cls = .slice then c.setMiss frame slice 3 else c
  let s := s.modCnt n fun k => { k with overflowRefused := inc32 k.overflowRefused }
  let s := (s.attnCh n 0).announceRefusal n wseq 1
  let s := if (s.chan n).portShadowed && s.twin.pairInUse == 1 && s.twin.role == .standby
           then s.modTwin fun t => { t with ownRefusals := t.ownRefusals ++ [(n.val, wseq, s.now)] } else s
  s.settle n

/-- A standby refuses for space a packet that the active has refused (R211). -/
def State.adoptSpace (s : State) (n : Fin 20) (wseq slice frame : Nat) : State :=
  let s := s.refusePacket n wseq slice frame
  s.modTwin fun t => { t with ownRefusals := t.ownRefusals.filter fun r => !(r.1 == n.val && r.2.1 == wseq) }

/-- A refusal by state or by port, with its trace at the writing port (R50, R51). -/
def State.countStateRefused (s : State) (n : Fin 20) (x : Option Port) : State :=
  let s := s.modCnt n fun k => { k with stateRefused := inc32 k.stateRefused }
  match x with
  | some p => s.attnChAt p n 1
  | none => s

/-- The held frame is dropped (R119). -/
def State.dropHeld (s : State) (n : Fin 20) : State :=
  match (s.chan n).slotOf (fun r => r.state == .held) with
  | none => s
  | some i =>
    let s := s.modCh n fun c => { c.modRec i (fun _ => {}) with dropped := some (c.record i).frame }
    let s := s.modCnt n fun k => { k with holdDropped := inc32 k.holdDropped }
    (s.attnCh n 8).settle n

/-- Make room for a word: a hold drop where the region is full and a held frame exists (R86). -/
def State.makeRoom (s : State) (n : Fin 20) : State :=
  if s.free n = 0 ∧ (s.chan n).cfg.relmode = .framehold then s.dropHeld n else s

/-! ### Words of a region (R14, R44) -/

/-- The first unfenced word at or after WP. -/
def State.writeSlot (s : State) (n : Fin 20) : Ptr :=
  let c := s.chan n
  let fs := s.fenced n
  skipFenced c.s fs fs.length c.wp

/-- write_word, where FREE is not 0 (R44). -/
def State.writeWord (s : State) (n : Fin 20) (bs : List Byte) : State :=
  let p := s.writeSlot n
  let c := s.chan n
  let s := s.storeWord (c.locAt p.off) bs
  s.modCh n fun c => { c with wp := step1 c.s p }

/-! ### Packets (R61 to R65) -/

/-- The producer's OPEN is refused whole for the channel's state, and the cycles that follow belong to the refused packet
(R50, R92). -/
def State.refuseOpen (s : State) (n : Fin 20) (x : Option Port) (wseq : Nat) : State :=
  ((s.countStateRefused n x).announceRefusal n wseq 2).modCh n fun c => { c with refusing := true }

/-- Open a packet on a channel whose state and producer allow it: the header slot passes the space
check, and where the drop of the held frame has put the channel in FAULT the packet is refused (R46, R50, R61, R86). -/
def State.startPacket (s : State) (n : Fin 20) (x : Option Port) (wseq slice kind frame : Nat) : State :=
  let s := s.makeRoom n
  if (s.chan n).state = .fault then s.refuseOpen n x wseq
  else if s.free n = 0 then s.refusePacket n wseq slice frame
  else
    let p := s.writeSlot n
    (s.modCh n fun c =>
      { c with wp := step1 c.s p, refusing := false,
               pkt := some { slot := p, wseq := wseq, slice := slice, kind := kind, frame := frame,
                             len := 0, crc := crcInit, first := [], buf := [] } }).settle n

/-- OPEN on a packet channel, after the port's or the link's own checks (R50, R61, R63): an open packet is
discarded; in a state other than ACTIVE the packet is refused whole. `x` is the writing port; `own` tells
whether the writer is the channel's producer. -/
def State.prodOpen (s : State) (n : Fin 20) (x : Option Port) (own : Bool) (wseq slice kind frame : Nat) : State :=
  let s := if own then s.discardPacket n else s
  let s := s.modCh n fun c => if own then { c.dropCut with refusing := false } else c
  let refused := s.shadows && s.twin.refusals.any (fun r => r.1 == n.val && r.2.1 == wseq)
  let s := s.modTwin fun t =>
    { t with refusals := if own then t.refusals.filter (fun r => !(r.1 == n.val && r.2.1 == wseq)) else t.refusals }
  if !own || (s.chan n).state != .active then
    if own then s.refuseOpen n x wseq else (s.countStateRefused n x).announceRefusal n wseq 2
  else if refused then s.adoptSpace n wseq slice frame
  else s.startPacket n x wseq slice kind frame

/-- Store the full words that the bytes waiting in the packer now make; HOLD_REQ is evaluated after each (R83). The
first word is held back until the close (R61). `fuel` bounds the words. -/
def State.storeFull (s : State) (n : Fin 20) : Nat → State
  | 0 => s
  | fuel + 1 =>
    match (s.chan n).pkt with
    | none => s
    | some p =>
      if p.buf.length < 32 then s
      else
        let s := s.makeRoom n
        if (s.chan n).pkt.isNone then s
        else if s.free n = 0 then s.refusePacket n p.wseq p.slice p.frame
        else
          let s := (s.writeWord n (p.buf.take 32)).evalHold n
          (s.modCh n fun c => { c with pkt := some { p with buf := p.buf.drop 32 } }).storeFull n fuel

/-- Append payload bytes to the open packet (R61, R64, R67). Answers false where LEN would pass its limit;
the packet is then discarded. -/
def State.prodBytes (s : State) (n : Fin 20) (bs : List Byte) : Bool × State :=
  match (s.chan n).pkt with
  | none => (true, s)
  | some p =>
    if 16777215 < p.len + bs.length then (false, s.discardOpen n)
    else
      let room := 16 - p.first.length
      let p := { p with len := p.len + bs.length, crc := crcRun p.crc bs,
                        first := p.first ++ bs.take room, buf := p.buf ++ bs.drop room }
      (true, ((s.modCh n fun c => { c with pkt := some p }).storeFull n (p.buf.length / 32 + 1)).settle n)

/-- The stored header (R65). -/
def headerBytes (len hf pseq slice kind frame crc : Nat) : List Byte :=
  leBytes len 3 ++ leBytes hf 1 ++ leBytes pseq 2 ++ leBytes (slice % 4096 + kind % 16 * 4096) 2 ++
  leBytes frame 4 ++ leBytes crc 4

/-- Note the last packet closed from the port that produces the channel, if a port does (R143 page 10h). -/
def Chan.noteClosed (c : Chan) (r : ChainChRec) : Chan :=
  match c.cfg.producer with
  | .portA => { c with closedA := r }
  | .portB => { c with closedB := r }
  | _ => c

/-- The last packet closed from a port (R143 page 10h). -/
def Chan.closedFrom (c : Chan) (x : Port) : ChainChRec :=
  match x with
  | .A => c.closedA
  | .B => c.closedB

/-- Close the open packet: pad and write the partial word, backfill the header (R62). The commit follows
as PACKET_COMMIT. `expected` is the CRC a producer supplied (R68). -/
def State.prodClose (s : State) (n : Fin 20) (expected : Option Nat) : State :=
  match (s.chan n).pkt with
  | none => s
  | some p =>
    let s := if p.buf.isEmpty then s else s.makeRoom n
    if (s.chan n).pkt.isNone then s
    else if !p.buf.isEmpty && decide (s.free n = 0) then s.refusePacket n p.wseq p.slice p.frame
    else
      let s := if p.buf.isEmpty then s else s.writeWord n (takePad 32 p.buf)
      let crc := crcFinal p.crc
      let fail := expected.any (· != crc)
      let hdr := headerBytes p.len (if fail then 8 else 0) 0 p.slice p.kind p.frame crc
      let s := s.storeWord ((s.chan n).locAt p.slot.off) (takePad 32 (hdr ++ p.first))
      (s.modCh n fun c =>
        { c.noteClosed ⟨p.wseq, p.slice, p.kind, p.frame⟩ with
                 pkt := none,
                 closing := c.closing ++ [{ slot := p.slot, endp := c.wp, wseq := p.wseq, slice := p.slice,
                                            kind := p.kind, frame := p.frame, len := p.len, crcFail := fail }] }).settle n

/-! ### Raw Stream channels (R50, R70, R71, R88) -/

/-- The tail table's size (R72). -/
def tailTable : Nat := 1536

/-- Write a full raw word, or refuse it (R50, R70, R88). -/
def State.rawWord (s : State) (n : Fin 20) (x : Option Port) (w : List Byte) : State :=
  if (s.chan n).state ≠ .active then s.countStateRefused n x
  else
    let s := s.makeRoom n
    if s.free n = 0 then
      (s.modCnt n fun k => { k with overflowRefused := inc32 k.overflowRefused }).attnCh n 0
    else
      let s := s.writeWord n w
      ((s.modCh n fun c => { c with cp := c.wp }).copyRaw n false w).settle n

/-- A tail commit of the buffer: performed at once where space and a table entry are free, otherwise
pending. `force` passes the check of the channel's state: the commit that ENABLE := 02h or 03h makes. A commit
already pending passes it too, and stays pending while the region or the table is full (R49, R71). -/
def State.tailCommit (s : State) (n : Fin 20) (x : Option Port) (force : Bool) : State :=
  let c := s.chan n
  if c.rawBuf.isEmpty then s.modCh n fun c => { c with tailPending := false }
  else if c.state ≠ .active ∧ force = false ∧ c.tailPending = false then
    ((s.modCh n fun c => { c with rawBuf := [], tailPending := false }).countStateRefused n x).ridle n
  else if s.free n = 0 ∨ tailTable ≤ c.tails.length then (s.modCh n fun c => { c with tailPending := true }).ridle n
  else
    let p := s.writeSlot n
    let s := s.writeWord n (takePad 32 c.rawBuf)
    let s := s.modCh n fun c =>
      { c with cp := c.wp, rawBuf := [], tailPending := false,
               tails := c.tails ++ [{ at_ := p, vb := c.rawBuf.length % 32, flips := 0 }] }
    ((s.modCnt n fun k => { k with pktCommitted := inc32 k.pktCommitted }).copyRaw n true c.rawBuf).settle n

/-- Append bytes to a raw channel's buffer one by one: the byte after 32 waiting bytes writes them as a
full word, and so do 32 bytes at the end of cycles other than DATA-LAST (R70, R71). Two points are open
(DESIGN CHOICE, notes/assumptions/81.md): a DATA-LAST that fills the buffer to 32 bytes while a commit is pending keeps them
as a pending tail word with VB 0, and a byte that finds a pending tail of 32 bytes writes them as a full word, discarded and
counted at FREE 0, with the commit lapsing (R71, R88). -/
def State.rawBytes (s : State) (n : Fin 20) (x : Option Port) (last : Bool) : List Byte → State
  | [] =>
    if last then s.tailCommit n x false
    else
      let c := s.chan n
      if 32 ≤ c.rawBuf.length then
        ((s.modCh n fun c => { c with rawBuf := [], tailPending := false }).rawWord n x c.rawBuf).settle n
      else s.settle n
  | b :: bs =>
    let c := s.chan n
    let s := if 32 ≤ c.rawBuf.length then
        (s.modCh n fun c => { c with rawBuf := [], tailPending := false }).rawWord n x c.rawBuf
      else s
    (s.modCh n fun c => { c with rawBuf := c.rawBuf ++ [b] }).rawBytes n x last bs

/-! ### Flush (R110) -/

/-- Whether RP stands at a packet boundary; on a raw channel every word boundary counts (R110). -/
def Chan.atBoundary (c : Chan) : Bool := c.inPkt.isNone

/-- Perform a flush (R110). -/
def State.performFlush (s : State) (n : Fin 20) : State :=
  let s := s.modCh n fun c =>
    { c with lp := c.cp, rp := c.cp, mp := c.cp, markValid := false, markPseq := c.nextPseq,
             inPkt := none, markPkt := none, flushArmed := false }
  (s.modCnt n fun k => { k with flushes := inc32 k.flushes }).settle n

/-- Perform an armed flush at a boundary (R110). -/
def State.flushIfDue (s : State) (n : Fin 20) : State :=
  let c := s.chan n
  if c.flushArmed && c.atBoundary then s.performFlush n else s

end Sys2Proof.Machine
end

