-- ==== Sys2Proof/Machine/Frames.lean ====
section
/-! DEFINITION. Frame records: markers (R113), placement of arriving slices (R117), adaptive SLICE_WAIT
(R126), release gates (R120, R127), stand-in decisions (R122 to R124) and the sender's records (R128). -/

namespace Sys2Proof.Machine

open Sys2Proof

/-- PTS of a record in ns. -/
def FrameRec.pts (r : FrameRec) : Int := (r.ptsSec * 1000000000 + r.ptsNs : Nat)

/-- Frame `a` is after frame `b` (R113). -/
def frameAfter (a b : Nat) : Bool := serialAfter 32 a b

/-- Count in the counters of a channel a discard under MISPLACED. -/
def State.countMisplaced (s : State) (n : Fin 20) : State :=
  s.modCnt n fun k => { k with misplaced := inc32 k.misplaced }

/-- Count in the counters of a channel a discard under NO_RECORD. -/
def State.countNoRecord (s : State) (n : Fin 20) : State :=
  s.modCnt n fun k => { k with noRecord := inc32 k.noRecord }

/-! ### Gates (R120, R127) -/

/-- Open the gate of a record: G, the SLICE_WAIT latched as SW, and D (R120). -/
def FrameRec.openGate (r : FrameRec) (g : Int) (sw : Nat) : FrameRec :=
  { r with gateOpen := true, g := g, sw := sw, d := g + (sw * tk : Nat) }

/-- The gate-open time PTS − GATE_LEAD of a record in units of the counter. -/
def Chan.gateTime (c : Chan) (r : FrameRec) : Int := (r.pts - (c.cfg.gateLead : Int)) * (tk : Int)

/-- Open the gate of the record of a slot at local time as LATEFRAME (R127). -/
def State.lateFrame (s : State) (n : Fin 20) (i : Fin 3) : State :=
  let s := s.modCh n fun c =>
    c.modRec i fun r => { r.openGate (s.time.wall : Int) c.sliceWait with late := true }
  s.modCnt n fun k => { k with lateframe := inc32 k.lateframe }

/-- Whether the gate of the record of a slot is due (R120, R192). -/
def State.gateDue (s : State) (n : Fin 20) (i : Fin 3) : Bool :=
  let c := s.chan n
  let r := c.record i
  s.dirRead n && c.enabled && c.state != .fault && r.state == .filling && !r.gateOpen &&
  decide (r.epoch = s.time.epoch) && s.timeValid && decide (c.gateTime r ≤ (s.time.wall : Int))

/-- A delivery from a record that the active makes shows that its gate is open: a gate still closed here opens as R120 gives (R120, R210). -/
def Chan.gateObserved (c : Chan) (i : Fin 3) : Chan :=
  if (c.record i).gateOpen then c else c.modRec i fun r => r.openGate (c.gateTime r) c.sliceWait

/-- The gate of a slot's record opens when it is due (R120). -/
def State.openDueGate (s : State) (n : Fin 20) (i : Fin 3) : State :=
  if s.gateDue n i then
    (s.modCh n fun c => c.modRec i fun r => r.openGate (c.gateTime r) c.sliceWait).settle n
  else s

/-- What CHENG does in the cycle of an epoch change or a validation: gates of other epochs open as
LATEFRAME when the epoch changes, and deadlines of open gates move by the step (R127, R196, R197). -/
def State.chengStep (s : State) (change : Bool) (theta : Int) : State :=
  s.forChans fun n s =>
    if s.dirRead n && (s.chan n).enabled && (s.chan n).state != .fault then
      let s := (List.finRange 3).foldl (fun s i =>
        let r := (s.chan n).record i
        if r.state = .free then s
        else if r.gateOpen then s.modCh n fun c => c.modRec i fun r => { r with d := r.d + theta }
        else if change ∧ r.state = .filling ∧ r.epoch ≠ s.time.epoch then s.lateFrame n i
        else s) s
      s.settle n
    else s

/-! ### Markers (R113, R128) -/

/-- Create a record in a free slot (R113), counted as shadowed where no slice of its frame has been delivered (R218); in Sender role, and at the producer half of a Chain pair, the
marker also waits to be sent (R128, R220). -/
def State.createRecord (s : State) (n : Fin 20) (i : Fin 3) (frame count epoch sec ns : Nat) : State :=
  let s := s.modCh n fun c =>
    { c.modRec i (fun _ =>
        { state := .filling, frame := frame, count := count, epoch := epoch, ptsSec := sec, ptsNs := ns,
          rank := c.nextRank, lastEnd := c.cp,
          shadowed := s.shadows && c.lastRead.all (frameAfter frame ·) }) with
      newest := some frame, nextRank := c.nextRank + 1,
      fstarts := if s.sender then c.fstarts ++ [⟨c.cp, frame, count, epoch, sec, ns⟩] else c.fstarts }
  if s.dirRead n && decide (epoch ≠ s.time.epoch) then (s.lateFrame n i).settle n else s.settle n

/-- A valid marker on a Slice channel (R113). `x` is the writing port, `own` whether the writer is the
producer. Answers true where the discard is also a write-protocol cause at a port. -/
def State.marker (s : State) (n : Fin 20) (x : Option Port) (own : Bool) (frame count epoch sec ns : Nat) :
    Bool × State :=
  let c := s.chan n
  if !own || (c.state != .active && c.state != .draining) then (false, s.countStateRefused n x)
  else if s.chainHalf false then
    (false, s.modCh n fun c => { c with fstarts := c.fstarts ++ [⟨c.cp, frame, count, epoch, sec, ns⟩] })
  else match c.slotFor frame with
    | some i =>
      let r := c.record i
      if r.count = count ∧ r.epoch = epoch ∧ r.ptsSec = sec ∧ r.ptsNs = ns then (false, s)
      else (true, s.countMisplaced n)
    | none =>
      if !c.live.isEmpty && !(c.newest.any fun b => frameAfter frame b) then (true, s.countMisplaced n)
      else match c.slotOf (fun r => r.state == .free) with
        | some i => (false, s.createRecord n i frame count epoch sec ns)
        | none =>
          if s.dirRead n then
            match c.slotOf (fun r => r.state == .held) with
            | some i =>
              if c.cfg.relmode = .framehold then
                let s := s.dropHeld n
                (false, if (s.chan n).state = .fault then s.countStateRefused n x else s.createRecord n i frame count epoch sec ns)
              else (true, s.countNoRecord n)
            | none => (true, s.countNoRecord n)
          else
            match c.oldest (fun _ => true) with
            | some i => (false, (s.modCh n fun c => c.modRec i fun _ => {}).createRecord n i frame count epoch sec ns)
            | none => (true, s.countNoRecord n)

/-! ### SLICE_WAIT (R126) -/

/-- Clamp a SLICE_WAIT to the channel's bounds. -/
def ChCfg.clampWait (g : ChCfg) (w : Nat) : Nat := min g.sliceWaitMax (max g.sliceWaitMin w)

/-- Update EST, and SLICE_WAIT while the adaptive-loop permit is valid (R126). EST has no bound here; SPREAD_EST shows it modulo 2^32 (DESIGN
CHOICE, notes/assumptions/100.md). -/
def Chan.spread (c : Chan) (permit : Bool) (x : Nat) : Chan :=
  let est := max x (c.est - c.est / 16)
  { c with est := est,
           sliceWait := if permit then c.cfg.clampWait (est + est / 4 + 10000) else c.sliceWait }

/-- Time since the gate of a record opened, in ns; 0 before it. -/
def State.sinceGate (s : State) (r : FrameRec) : Nat := (((s.time.wall : Int) - r.g) / (tk : Int)).toNat

/-! ### Directory reads (R115) -/

/-- Read a directory word with a number of bit errors: a corrected read counts in DIR_CE, an uncorrectable
one in DIR_UE, and then the channel enters FAULT with cause DIRECTORY (R115). Answers whether the word
can be used. -/
def State.readDir (s : State) (n : Fin 20) (flips : Nat) : Bool × State :=
  if flips = 0 then (true, s)
  else if flips = 1 then (true, s.modMem fun m => { m with dirCe := inc32 m.dirCe })
  else (false, (s.modMem fun m => { m with dirUe := inc32 m.dirUe }).chFault n 2)

/-- Read the slice entry that gives the length of the packet at `p`, where a record holds one (R69, R115). -/
def State.readLen (s : State) (n : Fin 20) (p : Ptr) : Bool × State :=
  match (s.chan n).entryAt p with
  | some e => s.readDir n e.flips
  | none => (true, s)

/-- Read entry `k` of a record, where the directory holds one (R115). -/
def State.readDirEntry (s : State) (n : Fin 20) (r : FrameRec) (k : Nat) : Bool × State :=
  match r.entry k with
  | some e => s.readDir n e.flips
  | none => (true, s)

/-! ### Placement (R117) -/

/-- A late slice (R117, R126). -/
def State.lateSlice (s : State) (n : Fin 20) (r : Option FrameRec) : State :=
  let s := s.modCnt n fun k => { k with late := inc32 k.late }
  let s := s.attnCh n 7
  match r with
  | some r => s.modCh n fun c => c.spread s.yar.permit (s.sinceGate r)
  | none => s

/-- The sender's count of slices closed for a frame's record (R128). -/
def Chan.countClosed (c : Chan) (frame : Nat) (e : Ptr) : Chan :=
  match c.slotFor frame with
  | some i => c.modRec i fun r => { r with closed := r.closed + 1, lastEnd := e }
  | none => c

/-- The announced stand-in decision for a slice that has not been passed yet: history used, and the cause (R125, R211). -/
def State.announcedStandin (s : State) (n : Fin 20) (slice frame : Nat) : Option (Bool × Nat) :=
  (s.twin.standins.find? fun a => a.1 == n.val && a.2.2.2.1 == slice && a.2.2.2.2 == frame).map fun a => (a.2.1, a.2.2.1)

/-- The announced stand-in of a slice has been delivered. -/
def State.passStandin (s : State) (n : Fin 20) (slice frame : Nat) : State :=
  s.modTwin fun t =>
    { t with standins := t.standins.filter fun a => !(a.1 == n.val && a.2.2.2.1 == slice && a.2.2.2.2 == frame) }

/-- Place a closed slice as its packet commits (R117). Entry k of its record is read from the directory (R115); a
position that the active has announced as a stand-in is passed at the standby too (R125). -/
def State.placeSlice (s : State) (n : Fin 20) (k : ClosedPkt) : State :=
  let s := s.modCh n fun c => if s.dirRead n then c else c.countClosed k.frame k.endp
  let c := s.chan n
  let announced := (s.announcedStandin n k.slice k.frame).isSome
  match c.slotFor k.frame with
  | some i =>
    let r := c.record i
    let absent := !(r.has k.slice)
    let (ok, s) := s.readDirEntry n r k.slice
    if !ok then s
    else if k.refused then s.modCh n fun c => c.setMiss k.frame k.slice 3
    else if absent && (announced || r.state = .reading && decide (k.slice < r.pos)) then s.lateSlice n (some r)
    else if r.state = .held then s.lateSlice n (some r)
    else if (c.oldest (fun _ => true)).any (fun j => frameAfter (c.record j).frame k.frame) then
      s.lateSlice n (some r)
    else if r.count ≤ k.slice then s.countMisplaced n
    else if !absent then s.countMisplaced n
    else if k.crcFail then
      (s.modCh n fun c => c.setMiss k.frame k.slice 4).modCnt n fun m => { m with crcDiscarded := inc32 m.crcDiscarded }
    else
      let s := s.modCh n fun c => c.modRec i fun r =>
        r.setEntry { k := k.slice, present := true, miss := r.missOf k.slice, kind := k.kind, len := k.len,
                     start := k.slot, flips := 0 }
      let r := (s.chan n).record i
      if s.dirRead n && r.present == r.count then
        s.modCh n fun c => c.spread s.yar.permit (if r.gateOpen then s.sinceGate r else 0)
      else s
  | none =>
    if (c.oldest (fun _ => true)).any (fun j => frameAfter (c.record j).frame k.frame) then s.lateSlice n none
    else s.countNoRecord n

/-! ### Stand-ins (R122 to R124) -/

/-- The held slice that gives history to slice `k` of a record (R122). -/
def Chan.history (c : Chan) (r : FrameRec) (k : Nat) : Option SliceEntry :=
  match c.slotOf (fun h => h.state == .held) with
  | some i =>
    let h := c.record i
    if (h.frame + 1) % 4294967296 = r.frame ∧ h.epoch = r.epoch then
      (h.entry k).filter (·.present)
    else none
  | none => none

/-- The cause code of a stand-in (R124). -/
def Chan.standinCause (c : Chan) (r : FrameRec) (k : Nat) : Nat :=
  if (c.history r k).isNone && c.dropped.any (fun f => (f + 1) % 4294967296 == r.frame) then 5
  else if r.missOf k = 4 then 4
  else if r.missOf k = 3 then 3
  else if r.missOf k = 2 then 2
  else 1

end Sys2Proof.Machine
end

