-- ==== Sys2Proof/Machine/ReadEngine.lean ====
section
/-! DEFINITION. The read engine: words of a ring-read channel in delivered form (R65, R66, R69, R74), slices
and stand-ins of a directory-read channel (R121 to R125), and how a READ, READP or PEEK is served
(R73 to R77, R139, R141). -/

namespace Sys2Proof.Machine

open Sys2Proof

/-- A word as delivered: data, VB, RSTAT, whether R74 cut it, and whether it ends its packet or is a tail
word. -/
structure RWord where
  data : List Byte
  vb : Nat
  stat : Nat
  cut : Bool
  last : Bool
  deriving DecidableEq, Repr

/-- VB of word `i` of a packet of `total` words and payload length `len` (R69). -/
def vbOf (len total i : Nat) : Nat := if i + 1 = total then (16 + len) % 32 else 0

/-- A header word in delivered form: PSEQ set, other fields as stored (R65, R66). -/
def withPseq (data : List Byte) (pseq : Nat) : List Byte := data.take 4 ++ leBytes pseq 2 ++ data.drop 6

/-- Count a word delivered with UNCORR (R58). -/
def State.countUe (s : State) (n : Fin 20) : State :=
  s.modCnt n fun k => { k with ueDelivered := inc32 k.ueDelivered }

/-- Assign PSEQ to the packet whose first word is delivered (R66). -/
def State.assignPseq (s : State) (n : Fin 20) (frame : Nat) : State :=
  let s := s.modCh n fun c =>
    { c with lastPseq := c.nextPseq, nextPseq := (c.nextPseq + 1) % 65536, lastFrame := frame }
  s.modCnt n fun k => { k with pktDelivered := inc32 k.pktDelivered }

/-! ### Ring-read channels -/

/-- R74: RP := CP, every committed packet discarded; an armed flush is performed instead (R111). -/
def State.cutAll (s : State) (n : Fin 20) : State :=
  let s := s.modCh n fun c => { c with inPkt := none }
  if (s.chan n).flushArmed then s.performFlush n
  else (s.modCh n fun c => { c with rp := c.cp }).settle n

/-- Deliver the word at RP of a ring-read channel that is readable (R44, R65, R66, R69, R74): fenced words
are skipped, the position and RP move, counters of R19 and R58 are taken, an armed flush is performed at a
packet's end. VB of a header word that R74 cuts off is 0: its LEN cannot be trusted and the spec gives no VB (DESIGN
CHOICE, notes/assumptions/67.md). No word where READABLE is 0, or the directory entry that it needs is
uncorrectable (R72, R115). Without `counts` the word has been counted before. -/
def State.ringWordAs (s : State) (n : Fin 20) (counts : Bool) : Option RWord × State :=
  if s.ringReadable n = 0 then (none, s)
  else
    let c := s.chan n
    let fs := s.fenced n
    let p := skipFenced c.s fs fs.length c.rp
    let l := c.locAt p.off
    let r := readWordAt s.mem (s.phys l)
    let stat := if r.bad then rsUncorr else rsOk
    let counted := fun (s : State) =>
      let s := if counts then s.countRead l (c.addr p.off) r else s
      if counts && r.bad then s.countUe n else s
    let rp := step1 c.s p
    if c.cfg.cls = .raw then
      match c.tails.find? (fun t => t.at_ == p) with
      | some t =>
        let (ok, s) := s.readDir n t.flips
        if !ok then (none, s)
        else
          let s := (counted s).modCh n fun c => { c with rp := rp, rawDelivered := (c.rawDelivered + (if t.vb = 0 then 32 else t.vb)) % 2 ^ 48 }
          (some { data := r.data, vb := t.vb, stat := stat, cut := false, last := true }, (s.flushIfDue n).settle n)
      | none =>
        let s := (counted s).modCh n fun c => { c with rp := rp, rawDelivered := (c.rawDelivered + 32) % 2 ^ 48 }
        (some { data := r.data, vb := 0, stat := stat, cut := false, last := false }, (s.flushIfDue n).settle n)
    else match c.inPkt with
      | some k =>
        let last := decide (k.total ≤ k.done + 1)
        let s := (counted s).modCh n fun c =>
          { c with rp := rp, inPkt := if last then none else some { k with done := k.done + 1 } }
        (some { data := r.data, vb := vbOf k.len k.total k.done, stat := stat, cut := false, last := last },
         (s.flushIfDue n).settle n)
      | none =>
        let (ok, s) := s.readLen n p
        if !ok then (none, s)
        else if c.cfg.cls = .packet ∧ (r.lane 0 = .uncorr ∨ r.lane 1 = .uncorr) then
          (some { data := r.data, vb := 0, stat := rsUncorr, cut := true, last := true }, (counted s).cutAll n)
        else
          let s := counted s
          let len := c.lenAt p r.data
          let total := pktWords len
          let frame := leField r.data 8 4
          let data := withPseq r.data c.nextPseq
          let last := decide (total ≤ 1)
          let s := s.assignPseq n frame
          let s := s.modCh n fun c =>
            { c with rp := rp, inPkt := if last then none else some ⟨len, total, 1, frame⟩ }
          (some { data := data, vb := vbOf len total 0, stat := stat, cut := false, last := last },
           (s.flushIfDue n).settle n)

/-- The next word of a ring, counted as it is read. -/
def State.ringWord (s : State) (n : Fin 20) : Option RWord × State := s.ringWordAs n true

/-- Take words from the ring: up to `want` of them, or with `pkt` up to the end of the packet at RP; a word
cut by R74 ends the command. Answers the words and whether the command is complete. `fuel` bounds them. -/
def State.takeRing (s : State) (n : Fin 20) (pkt : Bool) : Nat → Nat → List RWord × Bool × State
  | 0, _ => ([], false, s)
  | fuel + 1, want =>
    match s.ringWord n with
    | (none, s) => ([], false, s)
    | (some w, s) =>
      if w.cut || (if pkt then w.last else want == 1) then ([w], true, s)
      else
        let (ws, done, s) := s.takeRing n pkt fuel (want - 1)
        (w :: ws, done, s)

/-- PEEK on a ring-read channel: the words that READP would deliver from word `past` of them on; no pointer moves and no PSEQ
is assigned, so only the counts of the words read remain and what ECC does with those words (R19, R73). The words are taken
in a trial in which LP stays, and of which nothing else is kept but a fault of the directory entry of the packet (R115). -/
def State.peekRing (s : State) (n : Fin 20) (past fuel : Nat) : List RWord × Bool × State :=
  let cfg := (s.chan n).cfg
  let trial := s.modCh n fun c => { c with flushArmed := false, cfg := { cfg with relmode := .explicit } }
  let c := (trial.takeRing n true past 0).2.2.chan n
  let (ws, done, t) := (trial.modCh n fun d => { d with rp := c.rp, inPkt := c.inPkt }).takeRing n true (fuel - past) 0
  let k := (t.chan n).cnt
  if (t.chan n).state = .fault then (ws, done, t.modCh n fun c => { c with cfg := cfg })
  else (ws, done, ({ s with mem := t.mem, tansy := t.tansy } : State).modCnt n fun m =>
    { m with ce := k.ce, ueDelivered := k.ueDelivered })

/-! ### Directory-read channels (R121 to R125) -/

/-- The stored words of a slice from `p` on, fenced words skipped (R44, R69). -/
def State.sliceWords (s : State) (n : Fin 20) (count : Bool) (len total : Nat) :
    Nat → Nat → Ptr → List RWord × State
  | 0, _, _ => ([], s)
  | fuel + 1, i, p =>
    let c := s.chan n
    let fs := s.fenced n
    let p := skipFenced c.s fs fs.length p
    let l := c.locAt p.off
    let r := readWordAt s.mem (s.phys l)
    let s := if count then s.countRead l (c.addr p.off) r else s
    let s := if count && r.bad then s.countUe n else s
    let w : RWord := { data := r.data, vb := vbOf len total i, stat := if r.bad then rsUncorr else rsOk,
                       cut := false, last := i + 1 == total }
    let (ws, s) := s.sliceWords n count len total fuel (i + 1) (step1 c.s p)
    (w :: ws, s)

/-- What ECC does with `k` words of a slice from `p` on that a PEEK reads: the words count nowhere (R19, R73). -/
def State.noteWords (s : State) (n : Fin 20) : Nat → Ptr → State
  | 0, _ => s
  | k + 1, p =>
    let c := s.chan n
    let fs := s.fenced n
    let p := skipFenced c.s fs fs.length p
    let l := c.locAt p.off
    (s.noteRead l (c.addr p.off) (readWordAt s.mem (s.phys l))).noteWords n k (step1 c.s p)

/-- The same for the words of a slice entry from word `past` on. -/
def State.noteEntry (s : State) (n : Fin 20) (e : SliceEntry) (past : Nat) : State :=
  s.noteWords n (pktWords e.len - past) (ptrAfter (s.chan n).s (s.fenced n) past e.start)

/-- Change the first word of a packet. -/
def headWord (ws : List RWord) (f : List Byte → List Byte) : List RWord :=
  match ws with
  | w :: t => { w with data := f w.data } :: t
  | [] => []

/-- What the next READP on a directory-read channel finds: the slot of the record that is, or would be,
READING, and the slice index (R116, R121). -/
def State.nextSlice (s : State) (n : Fin 20) : Option (Fin 3 × Nat) :=
  let c := s.chan n
  match c.slotOf (fun r => r.state == .reading) with
  | some i => some (i, (c.record i).pos)
  | none =>
    match c.oldest (fun r => r.state == .filling) with
    | some i => if (c.record i).gateOpen then some (i, 0) else none
    | none => none

/-- The oldest FILLING record enters READING; FRAME_SKIPPED counts the frame numbers passed over (R116, R121). -/
def State.beginFrame (s : State) (n : Fin 20) (i : Fin 3) : State :=
  let c := s.chan n
  let r := c.record i
  if r.state = .reading then s
  else
    let gap := match c.lastRead with
      | some f => if frameAfter r.frame f then (r.frame + 4294967296 - f - 1) % 4294967296 else 0
      | none => 0
    let s := s.modCh n fun c => { c.modRec i (fun r => { r with state := .reading, pos := 0 }) with lastRead := some r.frame }
    s.modCnt n fun k => { k with frameSkipped := satAdd k.frameSkipped gap }

/-- The delivery position moves past a slice; after the last one the record becomes HELD, or FREE in AUTO
(R116, R119). The slot of a record that is freed reads zeros (R129; DESIGN CHOICE, notes/assumptions/100.md). -/
def Chan.passSlice (c : Chan) (i : Fin 3) : Chan :=
  let r := c.record i
  if r.pos + 1 < r.count then c.modRec i fun r => { r with pos := r.pos + 1 }
  else if c.cfg.relmode = .auto then c.modRec i fun _ => {}
  else
    let c := { c with records := c.records.map fun (q : FrameRec) => if q.state == RecState.held then {} else q }
    { c.modRec i (fun r => { r with state := .held, pos := r.pos + 1 }) with dropped := none }

/-- A slice has passed on the bus without this device delivering it: the delivery position moves (R147, R210); the last
one of a record that this device created from its own marker counts as a shadowed frame, and a packet that was open at
a snapshot's cut is no longer awaited once its position has passed (R218). -/
def State.observePass (s : State) (n : Fin 20) (frame : Nat) : State :=
  match (s.chan n).slotFor frame with
  | none => s
  | some i =>
    let r := (s.chan n).record i
    let done := decide (r.count ≤ r.pos + 1) && r.shadowed
    let passed := fun (k : CutPkt) => (k.frame == frame && decide (k.slice ≤ r.pos)) || frameAfter frame k.frame
    ((s.passStandin n r.pos frame).modCh n fun c =>
      { c.passSlice i with shadowFrames := if done then c.shadowFrames + 1 else c.shadowFrames,
                           cuts := c.cuts.filter fun k => !passed k }).settle n

/-- The stand-in for slice `k` of the record of a slot, in delivered form, with its history entry and cause (R122 to
R124). -/
def State.standinWords (s : State) (n : Fin 20) (i : Fin 3) (k : Nat) (hist : Option SliceEntry) (cause : Nat)
    (count : Bool) : List RWord × State :=
  let c := s.chan n
  let r := c.record i
  let hf := (if r.late then 4 else 0) + cause * 16
  match hist with
  | some e =>
    let total := pktWords e.len
    let (ws, s) := s.sliceWords n count e.len total total 0 e.start
    (headWord ws fun d =>
      headerBytes e.len (hf + 1) c.nextPseq k e.kind r.frame (leField d 12 4) ++ d.drop 16, s)
  | none =>
    ([{ data := takePad 32 (headerBytes 0 (hf + 2) c.nextPseq k 0 r.frame 0), vb := 16, stat := rsOk,
        cut := false, last := true }], s)

/-- A slice that the directory holds, in delivered form (R65, R121). -/
def State.storedWords (s : State) (n : Fin 20) (i : Fin 3) (e : SliceEntry) (count : Bool) : List RWord × State :=
  let c := s.chan n
  let late := (c.record i).late
  let total := pktWords e.len
  let (ws, s) := s.sliceWords n count e.len total total 0 e.start
  (headWord ws fun d =>
    withPseq (d.take 3 ++ [BitVec.ofNat 8 ((d.getD 3 0).toNat &&& 8 ||| (if late then 4 else 0))] ++ d.drop 4)
      c.nextPseq, s)

/-- Announce a stand-in and count the announcement (R125, R204, R222). -/
def State.announceStandin (s : State) (n : Fin 20) (history : Bool) (cause slice frame : Nat) : State :=
  if s.announces then
    (s.clover 3 (leBytes n.val 1 ++ leBytes (bnat history + 16 * cause) 1 ++ leBytes slice 2 ++ leBytes frame 4)).modTwin
      fun t => { t with standinAnnounced := inc32 t.standinAnnounced }
  else s

/-- Read the entry of the held frame that gives history to slice `k` of a record, if there is one (R115, R122). -/
def State.readHistory (s : State) (n : Fin 20) (r : FrameRec) (k : Nat) : Bool × State :=
  match (s.chan n).history r k with
  | some e => s.readDir n e.flips
  | none => (true, s)

/-- Deliver the stand-in that the old active announced before a takeover, already counted at its announcement (R125,
R211). -/
def State.takeAnnounced (s : State) (n : Fin 20) (i : Fin 3) (k : Nat) (a : Bool × Nat) : List RWord × State :=
  let c := s.chan n
  let r := c.record i
  let (ok, s) := if a.1 then s.readHistory n r k else (true, s)
  if !ok then ([], s)
  else
    let (ws, s) := s.standinWords n i k (if a.1 then c.history r k else none) a.2 true
    let s := (s.assignPseq n r.frame).passStandin n k r.frame
    (ws, (s.modCh n fun c => c.passSlice i).settle n)

/-- READP on a directory-read channel: the slice or stand-in at the delivery position, or nothing while the
channel is empty for it (R121 to R123). A stand-in announced before a takeover stands (R211). -/
def State.takeSlice (s : State) (n : Fin 20) : List RWord × State :=
  match s.nextSlice n with
  | none => ([], s)
  | some (i, k) =>
    let s := s.beginFrame n i
    let c := s.chan n
    let r := c.record i
    let (ok, s) := s.readDirEntry n r k
    if !ok then ([], s)
    else match s.announcedStandin n k r.frame with
    | some a => s.takeAnnounced n i k a
    | none =>
    match (r.entry k).filter (·.present) with
    | some e =>
      let (ws, s) := s.storedWords n i e true
      let s := s.assignPseq n r.frame
      (ws, (s.modCh n fun c => c.passSlice i).settle n)
    | none =>
      let (ok, s) := if s.timeValid ∧ r.d ≤ (s.time.wall : Int) then s.readHistory n r k else (true, s)
      if !ok then ([], s)
      else if s.timeValid ∧ r.d ≤ (s.time.wall : Int) then
        let hist := (c.history r k).isSome
        let s := s.announceStandin n hist (c.standinCause r k) k r.frame
        let (ws, s) := s.standinWords n i k (c.history r k) (c.standinCause r k) true
        let s := s.assignPseq n r.frame
        let s := s.modCnt n fun m =>
          { m with standins := inc32 m.standins,
                   standinEmpty := if hist then m.standinEmpty else inc32 m.standinEmpty }
        let s := s.attnCh n 6
        (ws, (s.modCh n fun c => c.passSlice i).settle n)
      else ([], s)

/-- PEEK on a directory-read channel: the words READP would deliver from word `past` of them on, a stand-in announced before a
takeover among them, with no change but what ECC does with the words read (R19, R73, R211). Where the directory entry that it needs is uncorrectable, R115 puts the channel in FAULT and R73
lets a PEEK change no counter or ATTN cause: the model follows R115 (DESIGN CHOICE, notes/assumptions/94.md). -/
def State.peekSlice (s : State) (n : Fin 20) (past : Nat) : List RWord × State :=
  match s.nextSlice n with
  | none => ([], s)
  | some (i, k) =>
    let r := (s.chan n).record i
    let bad := fun (e : Option SliceEntry) => e.any fun e => decide (2 ≤ e.flips)
    let note := fun (e : Option SliceEntry) => (e.map fun e => s.noteEntry n e past).getD s
    let rest := fun (ws : List RWord) (e : Option SliceEntry) => (ws.drop past, note e)
    if bad (r.entry k) then ([], (s.readDirEntry n r k).2)
    else match s.announcedStandin n k r.frame with
    | some a =>
      if a.1 && bad ((s.chan n).history r k) then ([], (s.readHistory n r k).2)
      else
        let hist := if a.1 then (s.chan n).history r k else none
        rest (s.standinWords n i k hist a.2 false).1 hist
    | none =>
    match (r.entry k).filter (·.present) with
    | some e => rest (s.storedWords n i e false).1 e
    | none =>
      if s.timeValid ∧ r.d ≤ (s.time.wall : Int) then
        if bad ((s.chan n).history r k) then ([], (s.readHistory n r k).2)
        else
          let hist := (s.chan n).history r k
          rest (s.standinWords n i k hist ((s.chan n).standinCause r k) false).1 hist
      else ([], s)

/-! ### Serving a read command -/

/-- The words a read command can have now, and whether it is complete with them. A channel that is HELD is
served as empty (R50). A PEEK does not repeat the words launched before a takeover (R215). -/
def State.takeWords (s : State) (n : Fin 20) (k : PCmd) : List RWord × Bool × State :=
  if (s.chan n).state = .held then ([], false, s)
  else if s.dirRead n then
    let (ws, s) := if k.opc = 3#5 then s.peekSlice n k.delivered else s.takeSlice n
    (ws, !ws.isEmpty, s)
  else if k.opc = 3#5 then s.peekRing n k.delivered (s.ringReadable n)
  else if k.opc = 2#5 then s.takeRing n true (s.ringReadable n) 0
  else s.takeRing n false (s.ringReadable n) (k.op1.toNat % 256 + 1 - k.delivered)

/-- ATTN UNCORR for a word delivered with UNCORR; a PEEK on a directory-read channel changes no cause (R73, R89). -/
def State.attnUncorr (s : State) (x : Port) (k : PCmd) (w : RWord) : State :=
  if w.stat = rsUncorr ∧ ¬(k.opc = 3#5 ∧ (chanOf k.c.ch.toNat).any s.dirRead = true) then s.attn x 11 else s

/-- Launch the words of a command; the last of them carries RLAST when `fin`, and then retires it (R138, R139). -/
def State.emitWords (s : State) (x : Port) (k : PCmd) (fin : Bool) : List RWord → State
  | [] => s
  | [w] =>
    let s := s.attnUncorr x k w
    let b : Beat := { tag := k.tag, last := fin, stat := w.stat, vb := w.vb, data := w.data }
    if fin then s.finish x k b else s.launch x b
  | w :: ws =>
    let s := s.attnUncorr x k w
    (s.launch x { tag := k.tag, last := false, stat := w.stat, vb := w.vb, data := w.data }).emitWords x k fin ws

/-- The consumer has completed a read command: the read-idle timer restarts (R79). -/
def State.readCompleted (s : State) (n : Fin 20) : State :=
  (s.modCh n fun c => { c with ridleStart := none, ridleFired := false }).ridle n

/-- The idle pattern as a beat (R77). -/
def State.idleBeat (s : State) (tag : Nat) : Beat :=
  { tag := tag, last := true, stat := rsIdle, vb := 0, data := takePad 32 s.mem.idlePattern }

/-- Serve a read command: deliver what can be delivered; then complete it, let it wait, or end it under
IDLE_ITEM or NOWAIT (R73 to R77, R141). A command that already waits keeps STALL (R56). On a chain, device 1 sends its
credits at once where a read begins to wait (R220). -/
def State.serveRead (s : State) (x : Port) (n : Fin 20) (k : PCmd) : State :=
  let (ws, done, s) := s.takeWords n k
  let cur := ((s.port x).q.find? (fun j => j.tag == k.tag && !j.decoder)).getD k
  let k' := { cur with delivered := k.delivered + ws.length,
                       acted := k.acted || (!ws.isEmpty) }
  let s := s.updCmd x cur k'
  if cur.preset.isSome && !done then s.emitWords x k' false ws
  else
    let idle := !k.waiting && (s.chan n).cfg.emptyMode == 1
    let nowait := k.c.mod.getLsbD 0
    if done || ((idle || nowait) && !ws.isEmpty) then (s.emitWords x k' true ws).readCompleted n
    else if idle && k'.delivered == 0 then (s.finish x k' (s.idleBeat k'.tag)).readCompleted n
    else if idle || nowait then
      (s.finishStat x k' (if k'.delivered = 0 then rsEmpty else rsOk)).readCompleted n
    else
      let k'' := { k' with waiting := true }
      let s := s.emitWords x k' false ws
      let s := s.updCmd x k' k''
      let s := if k.waiting then s else s.sendCredits
      if ws.isEmpty && k.waiting then s else s.modPort x fun p => { p with stallStart := some s.pwr.timeclk }

end Sys2Proof.Machine
end

