-- ==== Sys2Proof/Machine/Scratch.lean ====
section
/-! DEFINITION. Scratch operations (R29 to R32) and the lock unit (R34 to R37), for every issuer, with
the announcement of R211. -/

namespace Sys2Proof.Machine

open Sys2Proof

/-- The result of a scratch operation: RSTAT, the value returned, and the unit's value before and after. -/
structure ScrRes where
  stat : Nat
  value : Nat
  prior : Nat
  new : Nat
  deriving DecidableEq, Repr

/-- The scratch operations by opcode (R134): SRD, SWR, SSET, SCLR applied to a unit. -/
def scrApply (opc : Nat) (unit v : Nat) : Nat :=
  if opc = 9 then v
  else if opc = 10 then unit ||| v
  else if opc = 11 then unit &&& (v ^^^ 0xFFFFFFFF)
  else unit

/-- The refused result: ACCESS, no memory touched (R28, R30). -/
def scrAccess : ScrRes := { stat := rsAccess, value := 0, prior := 0, new := 0 }

/-- A scratch operation of master `m`: the area and unit checks of R30, the descriptor check of R26 and
R28, then R31. Answers the result and whether a descriptor refused it. -/
def State.scratchOp (s : State) (m : Fin 6) (opc area unit v : Nat) : ScrRes × Bool × State :=
  let a := s.mem.areas.toList.getD area 0
  if 4 ≤ area ∨ areaOn a = false ∨ areaSize a * 1024 ≤ unit then (scrAccess, false, s)
  else
    let p := areaBase a * 128 + unit / 8
    let off := 4 * (unit % 8)
    if !s.allowed m (p / 128) (opc != 8) then (scrAccess, true, s.countRefused m)
    else
      let l := s.placeOf p
      let r := if s.fencedAt l then fencedWord else readWordAt s.mem (s.phys l)
      let s := if s.fencedAt l then s else s.countRead l p r
      let old := leField r.data off 4
      if r.lane (unit % 8 / 2) = .uncorr then
        ({ stat := rsUncorr, value := if opc = 9 then 0 else old, prior := old, new := old }, false, s)
      else if opc = 8 then ({ stat := rsOk, value := old, prior := old, new := old }, false, s)
      else
        let new := scrApply opc old v
        let data := r.data.take off ++ leBytes new 4 ++ r.data.drop (off + 4)
        let s1 := s.modMem fun mm => rewriteLanes mm (s.phys l) r data
        let s2 := s1.mirrorWrite l fun mm w => rewriteLanes (copyWordAt mm (s.phys l) w) w r data
        ({ stat := rsOk, value := if opc = 9 then 0 else old, prior := old, new := new }, false, s2)

/-- ATOMIC: issuer, opcode, area or slot, RSTAT, unit, prior and new value, CSEQ or REQSEQ (R204, R211). -/
def State.announceAtomic (s : State) (issuer opc area stat unit prior new cseq : Nat) : State :=
  s.announce 4 (leBytes issuer 1 ++ leBytes opc 1 ++ leBytes area 1 ++ leBytes stat 1 ++ leBytes unit 4 ++
    leBytes prior 4 ++ leBytes new 4 ++ leBytes cseq 2)

/-- A slot's state as ATOMIC carries it: the owner's code, and the mark in bit 8. -/
def LockSlot.code (l : LockSlot) : Nat := l.owner.code + 256 * bnat l.mark

/-- The slot that a code stands for. -/
def LockSlot.ofCode (v : Nat) : LockSlot := ⟨Owner.ofCode (v % 256), v.testBit 8⟩

/-- A slot. -/
def State.slot (s : State) (k : Nat) : LockSlot := s.mem.locks.toList.getD k {}

/-- Set a slot. -/
def State.setSlot (s : State) (k : Nat) (l : LockSlot) : State :=
  s.modMem fun m => { m with locks := m.locks.setIfInBounds k l }

/-- LOCK (R34). -/
def State.lockSlot (s : State) (o : Owner) (k : Nat) : Nat × State :=
  let l := s.slot k
  if l.owner = .free then
    if l.mark then
      (rsBroken, (s.setSlot k ⟨o, false⟩).modMem fun m => { m with lockBroken := inc32 m.lockBroken })
    else (rsOk, s.setSlot k ⟨o, false⟩)
  else if l.owner = o then (rsOk, s)
  else (rsBusy, s)

/-- UNLOCK (R34). -/
def State.unlockSlot (s : State) (o : Owner) (k : Nat) : Nat × State :=
  let l := s.slot k
  if l.owner = .free then (rsOk, s)
  else if l.owner = o then (rsOk, s.setSlot k ⟨.free, false⟩)
  else (rsAccess, s)

/-- A lock operation of an issuer with its announcement: opcode 0Ch LOCK or 0Dh UNLOCK (R34, R211). -/
def State.lockOp (s : State) (o : Owner) (opc slot cseq : Nat) : Nat × State :=
  let before := (s.slot slot).code
  let (stat, s) := if opc = 12 then s.lockSlot o slot else s.unlockSlot o slot
  (stat, s.announceAtomic o.code opc slot stat 0 before (s.slot slot).code cseq)

/-- An atomic scratch operation announced, SRD not (R211). -/
def State.scratchAnnounced (s : State) (m : Fin 6) (o : Owner) (opc area unit v cseq : Nat) :
    ScrRes × Bool × State :=
  let (r, refused, s) := s.scratchOp m opc area unit v
  (r, refused, if opc = 8 then s else s.announceAtomic o.code opc area r.stat unit r.prior r.new cseq)

end Sys2Proof.Machine
end

