-- ==== Sys2Proof/Machine/ArqTx.lean ====
section
/-! DEFINITION. The transmitting side of the Juthar ARQ (R103, R164, R167): what releases and rewinds the
channels whose consumer is link egress, acknowledgement, retransmission and give-up; and the queues of
frames that wait to be sent (R177). -/

namespace Sys2Proof.Machine

open Sys2Proof

/-! ### Frames (R154, R156) -/

/-- An unreliable frame of a type with its type fields and body (R154, R156). -/
def plainFrame (type : Nat) (fields body : List Byte) : TxFrame :=
  { type := type, flags := 0, seq := 0, wlow := 0, fields := takePad 8 fields, body := body }

/-- Queue a frame in a strict class of the given rank (R177). -/
def State.strict (s : State) (rank : Nat) (f : TxFrame) : State :=
  s.modLink fun l => { l with strict := l.strict ++ [⟨rank, f⟩] }

/-- Put a frame on the line. -/
def State.transmit (s : State) (f : TxFrame) : State :=
  s.modLink fun l => { l with sent := l.sent ++ [f], lastTx := s.now }

/-- Whether the link is up (R160). -/
def State.linkUp (s : State) : Bool := s.link.state == .up

/-! ### MGMT flow (R177, R179) -/

/-- The head frame of the MGMT flow (R179, R180). -/
def State.refreshMgmt (s : State) : State :=
  if !(s.linkUp && !s.link.mgmtQ.isEmpty && decide (s.arq.window.length < 1024)) then
    s.modLink fun l => { l with mgmtFlow := { l.mgmtFlow with head := none } }
  else if s.link.mgmtFlow.head.isSome then s
  else
    let len := 20 + ((s.link.mgmtQ.head?.map fun f => f.body.length).getD 0)
    s.modLink fun l =>
      { l with mgmtFlow := { l.mgmtFlow with
          head := some { l := len, kind := .mgmt,
                         tag := headTag l.vtime l.mgmtFlow.f len l.oh l.mgmtFlow.weight } } }

/-- Every flow's head frame (R179 to R182). -/
def State.refreshFlows (s : State) : State := (s.forChans fun n s => s.refreshFlow n).refreshMgmt

/-- Queue an MGMT frame in flow 20. -/
def State.queueMgmt (s : State) (addr svc reqseq : Nat) (body : List Byte) : State :=
  (s.modLink fun l =>
    { l with mgmtQ := l.mgmtQ ++
        [plainFrame 10 (leBytes addr 1 ++ leBytes svc 1 ++ leBytes reqseq 2) body] }).refreshMgmt

/-! ### Release and rewind (R103) -/

/-- Position and next PSEQ of a channel at the end of a window entry. -/
def WinEntry.after (e : WinEntry) : Nat × Option PktPos :=
  match e.body with
  | .segment _ segoff bytes len frame pseq _ last =>
    if last then ((pseq + 1) % 65536, none)
    else ((pseq + 1) % 65536, some { len := len, total := pktWords len, done := (segoff + bytes) / 32, frame := frame })
  | _ => (e.pseq, none)

/-- RP passes over the rest of a packet that a give-up has cut off, wherever a rewind has put it inside the packet: no further segment
of it is sent (R103, R167). -/
def Chan.passSkip (c : Chan) : Chan :=
  match c.skip, c.inPkt with
  | some (fin, pseq), some _ =>
    if dist c.s c.lp c.rp < dist c.s c.lp fin ∧ dist c.s c.lp fin ≤ dist c.s c.lp c.wp then
      { c with rp := fin, nextPseq := pseq, inPkt := none, flow := { c.flow with head := none } }
    else c
  | _, _ => c

/-- Release an entry of a channel: LP moves to its end, and RP with it where a rewind had left RP behind; the head
frame fixed at the earlier RP goes (R103, R182). -/
def State.releaseEntry (s : State) (e : WinEntry) : State :=
  if e.type ≠ 2 ∨ e.stale then s
  else match chanOf e.ch with
    | none => s
    | some n =>
      let c := s.chan n
      if c.state = .disabled ∨ c.state = .fault then s
      else
        let (pseq, pos) := e.after
        let behind := decide (dist c.s c.lp c.rp < dist c.s c.lp e.endp)
        let s := if behind then s.modCh n fun c =>
            { c with rp := e.endp, nextPseq := if c.cfg.cls = .raw then c.nextPseq else pseq, inPkt := pos,
                     flow := { c.flow with head := none } }
          else s
        s.modCh n fun c => (c.moveLp e.endp (if c.cfg.cls = .raw then c.nextPseq else pseq) pos).passSkip

/-- Release entries in order; what follows a change of a channel follows once all of them are released, so that a head
frame is fixed only at the RP they leave (R46, R103, R182). -/
def State.releaseEntries (s : State) (es : List WinEntry) : State :=
  let s := es.foldl (fun s e => s.releaseEntry e) s
  s.forChans fun n s => if es.any (·.of n) then s.settle n else s

/-- Rewind a channel whose consumer is link egress to LP (R103, R182). -/
def State.rewindLink (s : State) (n : Fin 20) : State :=
  if (s.chan n).cfg.consumer ≠ .link ∨ (s.chan n).state = .disabled ∨ (s.chan n).state = .fault then s
  else
    s.modCh n fun c =>
      ({ c with rp := c.lp, nextPseq := c.markPseq, inPkt := c.markPkt, flow := { c.flow with head := none } } : Chan).passSkip

/-- The window entries up to and including number `k`, one that was given up too; none when `k` is outside the window, which reaches from the
oldest entry to the number before `next` (R164, R167). -/
def ackedPrefix (w : List WinEntry) (next k : Nat) : List WinEntry :=
  match w with
  | [] => []
  | f :: _ =>
    let d := fun (q : Nat) => (q + 65536 - f.seq % 65536) % 65536
    if d k < d next then w.takeWhile fun e => decide (d e.seq ≤ d k) else []

/-- Acknowledge every window entry up to `k` (R103, R167). -/
def State.acknowledge (s : State) (k : Nat) : State :=
  let gone := ackedPrefix s.arq.window s.arq.nextSeq k
  if gone.isEmpty then s
  else
    let s := s.modArq fun a =>
      { a with window := a.window.drop gone.length, timeouts := 0,
               retx := a.retx.filter fun q => !(gone.any fun e => e.seq == q) }
    let s := (s.releaseEntries gone).refreshFlows
    if s.arq.window.isEmpty then s.idleAnew else s

/-- The place of the first window entry from sequence number `k` on; `k` itself may have been given up. -/
def entryFrom (w : List WinEntry) (k : Nat) : Option Nat := w.findIdx? fun e => e.seq == k || serialAfter 16 e.seq k

/-- Retransmit every entry from sequence number `k`: the channels with an entry there rewind to LP, and the
entries wait in rank 5 (R103, R167). -/
def State.retransmitFrom (s : State) (k : Nat) : State :=
  match entryFrom s.arq.window k with
  | none => s
  | some i =>
    let es := s.arq.window.drop i
    let s := s.modArq fun a => { a with retx := es.map (·.seq) }
    let s := es.foldl (fun s e =>
      if e.type = 2 ∧ e.stale = false then
        match chanOf e.ch with
        | some n => s.rewindLink n
        | none => s
      else s) s
    s.refreshFlows

/-! ### Give-up (R103, R128, R167, R195) -/

/-- Whether a window entry is a Slice frame: a SLICE frame of a Slice channel. -/
def State.isSliceEntry (s : State) (e : WinEntry) : Bool :=
  e.type == 2 && (chanOf e.ch).any fun n => (s.chan n).cfg.cls == .slice

/-- Whether a PTS has passed in sender time: the comparison applies to the current epoch only (R103, R195). -/
def State.ptsPassed (s : State) (p : Nat × Nat) : Bool :=
  decide (p.2 = s.time.epoch) && s.timeValid && decide (p.1 * tk < s.time.wall)

/-- Whether a PTS belongs to another epoch than the current one: what an epoch change gives up (R195). -/
def State.ofOldEpoch (s : State) (p : Nat × Nat) : Bool := decide (p.2 ≠ s.time.epoch)

/-- Where a packet was cut by a give-up, RP passes over the rest of it, now and after every rewind. LP stays at the end of the last
frame sent, until an entry behind the packet moves it (R103, R167). -/
def State.skipRest (s : State) (n : Fin 20) : State :=
  let c := s.chan n
  match c.inPkt with
  | none => s
  | some k =>
    let fs := s.fenced n
    let fin := (List.range (k.total - k.done)).foldl
      (fun p _ => step1 c.s (skipFenced c.s fs fs.length p)) c.rp
    (s.modCh n fun c => { c with skip := some (fin, c.nextPseq) }.passSkip).settle n

/-- Give up the Slice entries of the window up to and including the newest that satisfies `due`; no further
segment of a packet among them is sent (R103, R167). -/
def State.giveUpEntries (s : State) (due : WinEntry → Bool) : State :=
  let w := s.arq.window
  match (List.range w.length).reverse.find? (fun i =>
      match w[i]? with
      | some e => s.isSliceEntry e && due e
      | none => false) with
  | none => s
  | some i =>
    let gone := (w.take (i + 1)).filter s.isSliceEntry
    let cut := gone.filter fun e => !e.stale &&
      match e.body with
      | .segment (last := last) .. => !last && !(w.any fun f => f.ch == e.ch && f.type == 2 && decide (f.pseq = e.pseq) &&
          (match f.body with
           | .segment (last := l) .. => l
           | _ => false))
      | _ => false
    let s := s.modArq fun a =>
      { a with window := (a.window.take (i + 1)).filter (fun e => !s.isSliceEntry e) ++ a.window.drop (i + 1),
               retx := a.retx.filter fun q => !(gone.any fun e => e.seq == q),
               giveupFrames := satAdd a.giveupFrames gone.length }
    let s := s.releaseEntries gone
    let s := cut.foldl (fun s e =>
      match chanOf e.ch with
      | some n => if (s.chan n).inPkt.isSome && (s.chan n).nextPseq == (e.pseq + 1) % 65536 then s.skipRest n else s
      | none => s) s
    let s := s.refreshFlows
    if s.arq.window.isEmpty then s.idleAnew else s

/-- Free the sender's records that a give-up reaches, and those created before them (R103, R128). -/
def State.giveUpRecords (s : State) (gone : Nat × Nat → Bool) : State :=
  s.forChans fun n s =>
    if s.dirRead n || (s.chan n).cfg.cls != .slice || (s.chan n).cfg.consumer != .link then s
    else
      let c := s.chan n
      let due := fun (r : FrameRec) => r.state == .filling && gone (r.ptsSec * 1000000000 + r.ptsNs, r.epoch)
      match (c.live.filter due).map (·.rank) with
      | [] => s
      | ranks =>
        let top := ranks.foldl max 0
        s.modCh n fun c => { c with records := c.records.map fun (r : FrameRec) => if r.rank ≤ top then {} else r }

/-- The give-up of every Slice frame that `gone` names by PTS and epoch, in Sender role (R103, R128, R167). -/
def State.giveUp (s : State) (gone : Nat × Nat → Bool) : State :=
  if !s.sender then s
  else (s.giveUpEntries fun e => e.pts.any gone).giveUpRecords gone

/-- The give-up of every Slice frame whose PTS has passed (R103, R167). -/
def State.giveUpDue (s : State) : State := s.giveUp s.ptsPassed

/-- The give-up that an epoch change brings (R195). -/
def State.giveUpEpoch (s : State) : State := s.giveUp s.ofOldEpoch

end Sys2Proof.Machine
end

