-- ==== Sys2Proof/Machine/WallTime.lean ====
section
/-! DEFINITION. TIME (R191 to R199): a SET at the sender, its epoch and source, the receiver's servo, epoch
changes, lock and holdover, and the events that time alone brings. -/

namespace Sys2Proof.Machine

open Sys2Proof

/-! ### Epoch and lock -/

/-- A new EPOCH; the AON domain keeps it (R195, R197). -/
def State.setEpoch (s : State) (e : Nat) : State :=
  let s := s.modTime fun t => { t with epoch := e % 256, epochChanges := inc32 t.epochChanges }
  (s.modRst fun r => { r with aonEpoch := e % 256, aonEpochKnown := true }).attnBoth 15

/-- Lock ends: counted, ATTN TIME, and the run of R199 starts anew (R199). -/
def State.endLock (s : State) : State :=
  if s.time.locked then
    (s.modTime fun t => { t with locked := false, good := 0, bad := 0, lockLosses := inc32 t.lockLosses }).attnBoth 15
  else s

/-- Lock is gained when both conditions of R199 hold. -/
def State.gainLock (s : State) : State :=
  if !s.time.locked && s.link.echoSinceUp && decide (16 ≤ s.time.good) then
    (s.modTime fun t => { t with locked := true, bad := 0 }).attnBoth 15
  else s

/-! ### The sender (R194, R195) -/

/-- An epoch change at the sender: records of older epochs are given up at once, and lock ends (R194, R195, R199). -/
def State.senderEpoch (s : State) : State := (s.setEpoch (s.time.epoch + 1)).giveUpEpoch.endLock

/-- A slew of Δ, in units of the counter (R194). -/
def TimeSt.startSlew (t : TimeSt) (d : Int) : TimeSt :=
  { t with slew := d,
           trim := if d = 0 then 0 else if 0 < d then (t.slewLimit : Rat) / 1000000 else -((t.slewLimit : Rat) / 1000000) }

/-- A SET of the wall time; a step ends lock (R194, R199). -/
def State.timeSet (s : State) (sec ns : Nat) : State :=
  let v : Nat := stampWall ⟨sec, ns, 0⟩
  let d : Int := (v : Int) - (s.time.wall : Int)
  let lim : Int := (s.time.stepThreshold * tk : Nat)
  let put := fun (t : TimeSt) => { t with wall := v, slew := 0, trim := 0 }
  if s.time.valid = false then s.modTime fun t => { put t with valid := true }
  else if lim < d then (s.modTime fun t => { put t with steps := inc32 t.steps }).endLock
  else if -lim ≤ d then s.modTime fun t => t.startSlew d
  else (s.modTime put).senderEpoch

/-- A write of SOURCE takes effect at once; while TIME is held in reset, time stays not valid (R194, R290). -/
def State.applySource (s : State) (v : Nat) : State :=
  s.modTime fun t => { t with source := v, valid := t.valid || (s.sender && v == 0 && s.blockUp 2) }

/-! ### Stamps of the link (R153, R156) -/

/-- One unit interval of a link rate, in units of the counter (R153). -/
def unitInterval (rate : Nat) : Rat :=
  (tk : Rat) * (if rate = 0 then 4 / 5 else if rate = 1 then 16 / 165 else 32 / 825)

/-- The present time as a frame carries it: quantised to one unit interval of the rate. R156 does not say which of two
neighbouring multiples is taken (notes/assumptions/82.md). -/
def State.linkStamp (s : State) : Stamp :=
  let ui := unitInterval s.link.rate
  stampOf (((Config.round ((s.time.wall : Rat) / ui) : Int) : Rat) * ui).floor.toNat

/-! ### The servo (R196 to R199) -/

/-- A rate held within ±SLEW_LIMIT. -/
def clampRate (limit : Nat) (r : Rat) : Rat :=
  let l : Rat := (limit : Rat) / 1000000
  if l < r then l else if r < -l then -l else r

/-- The offset θ in ps of a stamp that a path of delay `dfwd` brings at the local arrival stamp `rx` (R196). -/
def theta (rx : Stamp) (t : Stamp) (dfwd : Int) : Rat := stampPs t + (dfwd : Rat) - stampPs rx

/-- θ in units of the counter. -/
def thetaUnits (th : Rat) : Int := Config.round (th * (tk : Rat) / 1000)

/-- SYNC_PERIOD as last measured between used SYNCs, in ps; before a measurement the nominal setting. -/
def State.measured (s : State) : Rat :=
  match s.time.lastUsed with
  | some a => if a < s.now then ((s.now - a : Nat) : Rat) else s.time.period
  | none => s.time.period

/-- P of R196. -/
def State.servoP (s : State) : Rat :=
  if s.measured = 0 then ((us s.time.syncPeriod : Nat) : Rat) else s.measured

/-- A used SYNC is recorded, and its |θ| taken into the runs of R199. -/
def State.useSync (s : State) (th : Rat) (p : Rat) : State :=
  let lim : Rat := ((s.time.lockThreshold * 1000 : Nat) : Rat)
  let a : Rat := if th < 0 then -th else th
  let s := s.modTime fun t =>
    { t with offset := Config.round th, lastUsed := some s.now, period := p, inHoldover := false, conflictRun := false,
             good := if a ≤ lim then min 16 (t.good + 1) else 0,
             bad := if 4 * lim < a then t.bad + 1 else 0 }
  (if s.time.locked ∧ 4 ≤ s.time.bad then s.endLock else s).gainLock

/-- The servo on a SYNC with time valid and its arrival stamp (R196 to R198). Answers whether the SYNC was used. While a slew of
R194 is in progress the rate stays with the slew (notes/assumptions/14.md). -/
def State.servo (s : State) (rx : Stamp) (t : Stamp) (epoch : Nat) (dfwd : Int) : Bool × State :=
  let th := theta rx t dfwd
  let u := thetaUnits th
  let p := s.servoP
  let lim : Rat := ((s.time.stepThreshold * 1000 : Nat) : Rat)
  if epoch ≠ s.time.epoch then
    let s := s.modTime fun t => { t with wall := wallAdd t.wall u, valid := true }
    let s := ((s.setEpoch epoch).chengStep true u).giveUpEpoch
    (true, s.endLock.useSync th p)
  else if s.time.valid = false then
    let s := s.modTime fun t => { t with wall := wallAdd t.wall u, valid := true }
    (true, (s.chengStep false u).useSync th p)
  else if lim < th then
    let s := s.modTime fun t => { t with wall := wallAdd t.wall u, steps := inc32 t.steps }
    (true, s.endLock.useSync th p)
  else if th < -lim then
    let first := !s.time.conflictRun
    let s := s.modTime fun t =>
      { t with epochConflict := inc32 t.epochConflict, conflictRun := true, inHoldover := true, trim := t.freq }
    (false, if first then s.attnBoth 15 else s)
  else
    let s := s.modTime fun t =>
      let f := clampRate t.slewLimit (t.freq + th / (64 * p))
      { t with freq := f, trim := if t.slew = 0 then clampRate t.slewLimit (f + th / (8 * p)) else t.trim }
    (true, s.useSync th p)

/-- An epoch change from an FSTART at a receiver: time is not valid until the next used SYNC (R197). TIME that is held in reset takes
none (R290). -/
def State.fstartEpoch (s : State) (epoch : Nat) : State :=
  if epoch = s.time.epoch ∨ s.blockUp 2 = false then s
  else
    let s := s.modTime fun t => { t with valid := false }
    ((s.setEpoch epoch).chengStep true 0).endLock

/-! ### Meanings -/

/-- SLEW_END: the offset of a slew is consumed as time passes, and TRIM returns to 0 (R194). -/
def execSlewEnd (dt : Nat) (s : State) : Host.Outcome State Fault Refusal := .next (s.advance dt)

/-- HOLDOVER_START: no SYNC used for 2 × P (R196). -/
def execHoldoverStart (dt : Nat) (s : State) : Host.Outcome State Fault Refusal :=
  let s := s.advance dt
  .next (match s.time.lastUsed with
    | some a =>
      if !s.sender && decide (2 * (if s.time.period = 0 then ((us s.time.syncPeriod : Nat) : Rat) else s.time.period)
          ≤ ((s.now - a : Nat) : Rat)) then
        s.modTime fun t => { t with inHoldover := true, trim := t.freq }
      else s
    | none => s)

/-- HOLDOVER_EXPIRY: HOLDOVER elapsed without a used SYNC ends lock (R198, R199). -/
def execHoldoverExpiry (dt : Nat) (s : State) : Host.Outcome State Fault Refusal :=
  let s := s.advance dt
  .next (match s.time.lastUsed with
    | some a => if !s.sender && decide (a + ms s.time.holdover ≤ s.now) then s.endLock else s
    | none => s)

/-- SYNC_SEND: a sender queues a SYNC every SYNC_PERIOD while UP, at any rate (R195); a SYNC_PERIOD written meanwhile rules
the interval that begins with it (R201). Its time is written as it leaves. -/
def execSyncSend (dt : Nat) (s : State) : Host.Outcome State Fault Refusal :=
  let s := s.advance dt
  .next (if s.sender && s.linkUp && s.due s.link.syncAt (us s.link.syncEvery) then
      (s.strict 1 (plainFrame 7 [] (zeros 4))).modLink fun l =>
        { l with syncAt := s.now, syncEvery := s.time.syncPeriod }
    else s)

end Sys2Proof.Machine
end

