-- ==== Sys2Proof/Machine/PortCmd.lean ====
section
/-! DEFINITION. The read-side commands of a client port: the decoder (R136), the express-lane channel
commands (R93 to R101, R109), STATUS (R143), RESYNC (R144), TRAIN (R145), TIMEGET (R146), and the service of
the accepted commands. -/

namespace Sys2Proof.Machine

open Sys2Proof

/-! ### MARK, REWIND, RELEASE, FLUSH (R95 to R101, R109) -/

/-- Whether opcode `opc` with MOD[0] `target` is allowed for the channel's kind and release mode (R101). -/
def State.chCmdAllowed (s : State) (n : Fin 20) (opc : Nat) (target : Bool) : Bool :=
  if s.dirRead n then opc == 6 && !target
  else if opc = 7 then (s.chan n).cfg.compat
  else true

/-- The effect of an allowed channel command: MARK, REWIND, RELEASE (R96 to R98), FLUSH (R109). On a
directory-read channel RELEASE with TARGET 0 gives the held frame up (R101, R118). -/
def State.chCmd (s : State) (n : Fin 20) (opc : Nat) (target : Bool) : State :=
  if s.dirRead n then
    if (s.chan n).cfg.relmode = .auto then s
    else
      let s := match (s.chan n).slotOf (fun r => r.state == .held) with
        | some i => s.modCh n fun c => { c.modRec i (fun _ => {}) with dropped := some (c.record i).frame }
        | none => s
      let s := s.settle n
      (s.modCh n fun c => { c with lp := c.rp, mp := c.rp }).settle n
  else if opc = 4 then
    (s.modCh n fun c => { c with mp := c.rp, markValid := true, markPseq := c.nextPseq, markPkt := c.inPkt }).settle n
  else if opc = 5 then
    (s.modCh n fun c => { c with rp := c.mp, nextPseq := c.markPseq, inPkt := c.markPkt, flushArmed := false }).settle n
  else if opc = 6 then
    if target then (s.modCh n fun c => { c with lp := c.mp }).settle n
    else
      (s.modCh n fun c => { c with lp := c.rp, mp := c.rp, markValid := false, markPseq := c.nextPseq,
                                   markPkt := c.inPkt }).settle n
  else (s.modCh n fun c => { c with flushArmed := true }).flushIfDue n

/-- The checks shared by reads and channel commands (R95, R344): the completion status of the first that
fails. -/
def State.chCheck (s : State) (x : Port) (ch : BitVec 5) : Option Nat :=
  match chanOf ch.toNat with
  | none => some rsBadop
  | some n =>
    let c := s.chan n
    if c.cfg.consumer ≠ End.ofPort x then some rsAccess
    else if c.state = .disabled then some rsBadop
    else if c.state = .fault then some rsFault
    else none

/-- Whether a read opcode is allowed for the channel's class (R73). -/
def readAllowed (cls : Cls) (opc : BitVec 5) : Bool :=
  match cls with
  | .slice => opc != 1#5
  | .packet => true
  | .raw => opc == 1#5

/-! ### STATUS pages (R143) -/

/-- The port values that pages 00h and 10h show: EXP_WSEQ, write refusal and the write-side selection; the
consumer half of a Chain pair shows its partner's (R219). -/
def State.writeShown (s : State) (x : Port) : Nat × Bool × Option Nat :=
  if s.chainHalf true then
    let r := s.twin.chainPorts.getD (portIdx x) ⟨0, false, none⟩
    (r.expWseq, r.refusal, r.wsel)
  else
    let p := s.port x
    (p.expWseq.toNat, p.writeRefusal, p.wsel.map (·.val))

/-- Page 00h. -/
def State.page00 (s : State) (x : Port) : List Byte :=
  let p := s.port x
  let (ew, refusal, sel) := s.writeShown x
  leBytes p.state.code 1 ++ leBytes p.expCseq.toNat 1 ++ leBytes p.lastAccepted.toNat 1 ++
  leBytes p.lastCompleted.toNat 1 ++ leBytes ew 1 ++ leBytes (sel.getD 255) 1 ++
  leBytes ((p.rsel.map (·.val)).getD 255) 1 ++
  leBytes (natOfBits [refusal, s.whold x, s.wpaf x, s.rpae x]) 1 ++
  leBytes ((p.q.filter (!·.decoder)).map (·.tag)).eraseDups.length 2

/-- The mask of the tags of the commands that satisfy `f`. -/
def tagMask (q : List PCmd) (f : PCmd → Bool) : Nat :=
  q.foldl (fun m k => if !k.decoder && f k then m ||| 2 ^ k.tag else m) 0

/-- Pages 01h to 04h. -/
def State.pageTags (s : State) (x : Port) (page : Nat) : List Byte :=
  let p := s.port x
  let part := fun (m : Nat) => leBytes (m / 2 ^ (32 * (page - 1))) 4
  part (tagMask p.q fun _ => true) ++ part (tagMask p.q fun k => decide (0 < k.delivered)) ++
  part p.record.lost ++ part p.record.cancelled ++ part p.record.acted

/-- Pages 05h and 06h. -/
def State.page05 (s : State) (x : Port) : List Byte :=
  let p := s.port x
  leBytes p.attnCause.toNat 4 ++ leBytes p.attnChannels.toNat 4 ++ leBytes p.attnMask.toNat 4

/-- Page 07h: the resync record (R149). -/
def State.page07 (s : State) (x : Port) : List Byte :=
  let r := (s.port x).record
  leBytes r.lastAccepted 1 ++ leBytes r.lastCompleted 1 ++ leBytes r.expWseq 1 ++
  leBytes (min 255 r.isolations) 1 ++ leBytes (min 65535 r.lostCount) 2 ++ leBytes (min 65535 r.cancelledCount) 2

/-- Page 10h. WSEQ, SLICE and KIND are the write fields that read 0 where the producer is not this port (R143; DESIGN CHOICE,
notes/assumptions/100.md). -/
def State.page10 (s : State) (x : Port) (n : Fin 20) : List Byte :=
  let c := s.chan n
  let own := c.cfg.producer == End.ofPort x
  let w := if !own then (⟨0, 0, 0, 0⟩ : ChainChRec)
           else if s.chainHalf true then s.twin.chainChans.getD n.val ⟨0, 0, 0, 0⟩ else c.closedFrom x
  let pos := if c.cfg.cls = .slice then
      ((c.slotOf (fun r => r.state == .reading)).map fun i => (c.record i).pos).getD 65535 else 0
  leBytes c.state.code 1 ++ leBytes (s.flags n) 1 ++ leBytes c.lastPseq 2 ++ leBytes c.lastFrame 4 ++
  leBytes (s.readable n) 4 ++ leBytes (s.free n) 4 ++ leBytes pos 2 ++
  leBytes (natOfBits [c.flushArmed, c.markValid, c.pkt.isSome]) 1 ++ leBytes w.wseq 1 ++
  leBytes (w.slice % 4096 + w.kind % 16 * 4096) 2 ++ leBytes ((c.inPkt.map (·.done)).getD 0) 2 ++
  leBytes ((c.inPkt.map (·.frame)).getD 0) 4 ++ leBytes c.cnt.pktCommitted 4

/-- STATUS: the page, and the action that ACT asks of pages 05h and 06h; `none` where it completes with
BADOP (R143). -/
def State.statusCmd (s : State) (x : Port) (k : PCmd) : Option (List Byte × State) :=
  let page := k.c.mod.toNat % 64
  let act := k.c.mod.getLsbD 6
  if page = 5 then
    some (s.page05 x, if act then s.modPort x fun p =>
      { p with attnCause := p.attnCause &&& ~~~k.op1, attnChannels := p.attnChannels &&& ~~~k.op2 } else s)
  else if page = 6 then
    if act then
      if k.op2 ≠ 0 then none
      else
        let s := s.modPort x fun p => { p with attnMask := k.op1 &&& 0xFFFFF#32 }
        some (s.page05 x, s)
    else some (s.page05 x, s)
  else if act then none
  else if page = 0 then some (s.page00 x, s)
  else if page ≤ 4 then some (s.pageTags x page, s)
  else if page = 7 then some (s.page07 x, s)
  else if page = 16 then (chanOf k.c.ch.toNat).map fun n => (s.page10 x n, s)
  else none

/-! ### TRAIN (R145) -/

/-- The PRBS-7 halves of pattern 3, `k` of them from state `g`. -/
def prbsHalves : Nat → Nat → List Bool
  | 0, _ => []
  | k + 1, g =>
    let f := g.testBit 6 ^^ g.testBit 5
    f :: prbsHalves k ((g * 2 + bnat f) % 128)

/-- One sampled cycle in 16 bytes of pattern 4. -/
def sampledBytes (c : Sampled) : List Byte :=
  takePad 16 (leBytes c.c.dat.toNat 8 ++ leBytes (c.wctl.toNat + 32 * c.c.par.toNat) 1)

/-- The words of a TRAIN pattern; none for the codes that complete with BADOP (R145). Where fewer than 8 write cycles have been sampled
since the reset, pattern 4 has zeros in the oldest places (DESIGN CHOICE, notes/assumptions/96.md). -/
def trainWords (sampled : List Sampled) (code : Nat) : List (List Byte) :=
  let same := fun (b : Byte) => List.replicate 32 b
  if code = 0 then (List.range 16).map fun w => same (if w % 2 = 0 then 0xFF#8 else 0x00#8)
  else if code = 1 then (List.range 16).map fun w => same (if w % 2 = 0 then 0x55#8 else 0xAA#8)
  else if code = 2 then (List.range 16).map fun w =>
    (List.range 32).map fun b => if b % 2 = w / 8 then BitVec.ofNat 8 (2 ^ (w % 8)) else 0#8
  else if code = 3 then
    let hs := (prbsHalves 32 127).map fun f => List.replicate 16 (if f then 0xFF#8 else 0x00#8)
    (List.range 16).map fun w => hs.getD (2 * w) [] ++ hs.getD (2 * w + 1) []
  else if code = 4 then
    let none8 : List Sampled := List.replicate (8 - sampled.length) ⟨0, ⟨0, 0⟩⟩
    let l := none8 ++ sampled
    let idle : Sampled := ⟨0, ⟨0, 0⟩⟩
    (List.range 4).map fun w => sampledBytes (l.getD (2 * w) idle) ++ sampledBytes (l.getD (2 * w + 1) idle)
  else []

/-- Launch pattern words, the last with RLAST. -/
def State.emitTrain (s : State) (x : Port) (k : PCmd) : List (List Byte) → State
  | [] => s.finishStat x k rsBadop
  | [w] => s.finish x k { tag := k.tag, last := true, stat := rsOk, vb := 0, data := w }
  | w :: ws => (s.launch x { tag := k.tag, last := false, stat := rsOk, vb := 0, data := w }).emitTrain x k ws

/-! ### Executing an accepted command -/

/-- Serve the read of port `x` that waits on channel `n`, if there is one (R107). -/
def State.retryWaiting (s : State) (x : Port) (n : Fin 20) : State :=
  match (s.port x).q.find? (fun k => k.stalled && k.isRead && k.c.ch.toNat == n.val) with
  | some k => s.serveRead x n k
  | none => s

/-- Execute an accepted command that is ready. While MEMCTL is held, a scratch or lock operation is answered with the isolation
wrapper's error, ISOLATED (R290; notes/assumptions/96.md). The checks of the last row of R136 are made here, on the state in which the command
executes, also where it has waited behind a read (DESIGN CHOICE, notes/assumptions/100.md). -/
def State.execCmd (s : State) (x : Port) (k : PCmd) : State :=
  match k.preset with
  | some st => s.finishStat x k st
  | none =>
    let o := k.opc.toNat
    if o = 0 then s.finishStat x k rsOk
    else if o ≤ 3 then
      match s.chCheck x k.c.ch with
      | some st => s.finishStat x k st
      | none =>
        match chanOf k.c.ch.toNat with
        | none => s.finishStat x k rsBadop
        | some n =>
          if readAllowed (s.chan n).cfg.cls k.opc then s.serveRead x n k else s.finishStat x k rsBadop
    else if o ≤ 7 then
      match s.chCheck x k.c.ch with
      | some st => s.finishStat x k st
      | none =>
        match chanOf k.c.ch.toNat with
        | none => s.finishStat x k rsBadop
        | some n =>
          let target := k.c.mod.getLsbD 0
          if s.chCmdAllowed n o target then
            let s := (s.chCmd n o target).finishStat x k rsOk
            if o = 5 then s.retryWaiting x n else s
          else s.finishStat x k rsBadop
    else if o ≤ 13 ∧ s.blockUp 0 = false then s.finishStat x k rsIsolated
    else if o ≤ 11 then
      let (r, _, s) := s.scratchAnnounced (portMaster x) (portOwner x) o (k.c.mod.toNat % 4) k.op1.toNat
        k.op2.toNat k.c.cseq.toNat
      if r.stat = rsAccess ∨ o = 9 then s.finishStat x k r.stat
      else s.finish x k (valueBeat k.tag r.stat r.value)
    else if o ≤ 13 then
      let (st, s) := s.lockOp (portOwner x) o (k.c.mod.toNat % 64) k.c.cseq.toNat
      s.finishStat x k st
    else if o = 14 then
      match s.statusCmd x k with
      | some (page, s) =>
        s.finish x k { tag := k.tag, last := true, stat := rsOk, vb := 0, data := takePad 32 page }
      | none => s.finishStat x k rsBadop
    else if o = 16 then s.emitTrain x k (trainWords (s.port x).sampled (k.c.mod.toNat % 8))
    else if o = 17 then
      s.finish x k { tag := k.tag, last := true, stat := rsOk, vb := 0, data := takePad 32 (leBytes k.latched 12) }
    else s.finishStat x k rsBadop

/-- Execute the accepted commands of a port while one is ready; `fuel` bounds them. -/
def State.serviceN (s : State) (x : Port) : Nat → State
  | 0 => s
  | fuel + 1 =>
    match (s.port x).next? with
    | some k => (s.execCmd x k).serviceN x fuel
    | none => s

/-- Execute the accepted commands of a port. A twin that shadows executes none: each moves by the beats it
observes (R210). -/
def State.service (s : State) (x : Port) : State :=
  if s.shadows then s else s.serviceN x ((s.port x).q.length + 1)

/-- Execute the accepted commands of both ports. -/
def State.servicePorts (s : State) : State := (s.service .A).service .B

/-- Where a channel has entered FAULT since `s0`, its pending commands complete with FAULT as their turn comes (R49). -/
def State.serveFaults (s s0 : State) : State :=
  if (List.finRange 20).any fun n => (s.chan n).state == .fault && (s0.chan n).state != .fault then s.servicePorts
  else s

/-! ### Chain: CHAIN_PORT (R219) -/

/-- CHAIN_PORT body: three bytes for each port, then eight for each channel. -/
def State.chainPortBody (s : State) : List Byte :=
  let port := fun (p : PortSt) =>
    leBytes p.expWseq.toNat 1 ++ leBytes (bnat p.writeRefusal) 1 ++
    leBytes ((p.wsel.map (·.val)).getD 255) 1
  port s.pA ++ port s.pB ++
  (s.ch.toList.map fun c =>
    let r := match c.cfg.producer with
      | .portA => c.closedA
      | .portB => c.closedB
      | _ => ⟨0, 0, 0, 0⟩
    leBytes r.wseq 1 ++ leBytes (r.slice % 4096 + r.kind % 16 * 4096) 2 ++ [0#8] ++ leBytes r.frame 4).flatten

/-- The producer half of a Chain pair sends CHAIN_PORT when its port state differs from what it sent last (R204, R219). -/
def State.chainPortAnew (s : State) : State :=
  let b := s.chainPortBody
  if s.chainHalf false && s.twin.cloverState == 2 && b != s.twin.chainPortLast then
    (s.clover 14 b).modTwin fun t => { t with chainPortLast := b }
  else s

/-! ### The decoder (R135, R136, R144) -/

/-- A beat that the decoder answers with: at once, or after the accepted commands with its tag (R139). -/
def State.decoderBeat (s : State) (x : Port) (c : RCmd) (stat : Nat) : State :=
  if (s.port x).q.any (fun k => k.c.tag == c.tag) then
    let k : PCmd := { opc := 15, c := c, op1 := 0, op2 := 0, latched := 0, delivered := 0, waiting := false,
                      acted := false, preset := some stat }
    s.modPort x fun p => { p with q := p.q ++ [k] }
  else s.launch x (statusBeat c.tag.toNat stat)

/-- A command that fails parity (R135). -/
def State.cmdParity (s : State) (x : Port) (c : RCmd) : State :=
  let s := (s.attn x 5).modPCnt x fun k => { k with parityErr := inc32 k.parityErr }
  (s.portEvt x 1 c.cseq.toNat).decoderBeat x c rsParity

/-- A command refused with SEQGAP (R136). -/
def State.seqgap (s : State) (x : Port) (c : RCmd) : State :=
  let s := (s.attn x 4).modPCnt x fun k => { k with seqgapRefused := inc32 k.seqgapRefused }
  (s.modPort x fun p => { p with state := .seqgap }).decoderBeat x c rsSeqgap

/-- Whether both clocks of a port have been present for the last 10 µs (R144). -/
def State.clocksStable (s : State) (x : Port) : Bool :=
  let ok := fun (t : Option Nat) => t.any fun a => decide (a + us 10 ≤ s.now)
  ok (s.port x).wclkSince && ok (s.port x).rclkSince

/-- Cancel every accepted command of a port: each completes with FLUSHED and is recorded (R144 step 1). -/
def State.cancelAll (s : State) (x : Port) : State :=
  (s.port x).q.foldl (fun s k =>
    if k.decoder then s.finishStat x k (k.preset.getD rsBadop)
    else
      let s := s.modPort x fun p =>
        { p with acc := { p.acc with cancelled := p.acc.cancelled ||| 2 ^ k.tag,
                                     acted := if k.acted then p.acc.acted ||| 2 ^ k.tag else p.acc.acted,
                                     cancelledCount := p.acc.cancelledCount + 1 } }
      s.finishStat x k rsFlushed) s

/-- RESYNC at the decoder (R144). One whose operand cycle is missing completes with BADOP, as a command does whose cycles are too few:
R144 names the reserved bits only (DESIGN CHOICE, notes/assumptions/96.md). A standby decodes it as the active does and keeps the same sequence state (R210). -/
def State.resync (s : State) (x : Port) (c : RCmd) (op1 : W32) : State :=
  if malformed 15#5 c op1 0 then s.decoderBeat x c rsBadop
  else if !s.clocksStable x || !s.blockUp (7 + portIdx x) then s.decoderBeat x c rsIsolated
  else
    let p0 := s.port x
    let s := s.cancelAll x
    let s := s.modPort x fun p =>
      { p with record := { p.acc with lastAccepted := p0.lastAccepted.toNat, lastCompleted := p0.lastCompleted.toNat,
                                      expWseq := p0.expWseq.toNat },
               acc := {}, lastAccepted := c.cseq, expCseq := c.cseq + 1, state := .ready, rsel := none,
               stallStart := none }
    let s := if c.mod.getLsbD 0 then
        s.modPort x fun p => { p with expWseq := op1.setWidth 8, writeRefusal := false, wsel := none }
      else s
    let s := if s.drives || s.shadows then s.modPort x fun p => { p with lastCompleted := c.cseq } else s
    s.launch x (statusBeat c.tag.toNat rsOk)

/-- RESYNC at the producer half of a Chain pair, which decodes no read-side command and drives no beat: its half of the port, the
write side, becomes READY as at device 1, with EXP_WSEQ, the selection and write refusal as the command gives them, so that
both halves follow one resync (R144, R219; DEDUCED, notes/assumptions/95.md). -/
def State.resyncWrites (s : State) (x : Port) (c : RCmd) (op1 : W32) : State :=
  if malformed 15#5 c op1 0 || !s.clocksStable x || !s.blockUp (7 + portIdx x) then s
  else
    s.modPort x fun p =>
      if c.mod.getLsbD 0 then
        { p with state := .ready, expWseq := op1.setWidth 8, writeRefusal := false, wsel := none }
      else { p with state := .ready }

/-- The value that TIMEGET latches: time, epoch, lock and validity, 12 bytes as a number (R146). -/
def State.timeLatch (s : State) : Nat :=
  leNat (stampBytes (stampOf s.time.wall) ++ leBytes s.time.epoch 1 ++
    leBytes (natOfBits [s.time.locked, s.timeValid]) 1)

/-- Whether a SET is accepted: in Sender role with the client as time source, nanoseconds in range (R146). -/
def State.setAllowed (s : State) (ns : W32) : Bool :=
  s.sender && s.time.source == 1 && decide (ns.toNat ≤ 999999999)

/-- The decoder's checks 6 to 8 on an accepted command: the status that it completes with (R136). A SET while TIME is held in reset completes
with ISOLATED and sets nothing: R290 gives the error of R147 for every block (DESIGN CHOICE, notes/assumptions/96.md). -/
def State.precheck (s : State) (x : Port) (opc : BitVec 5) (c : RCmd) (op1 op2 : W32) : Option Nat :=
  if (s.port x).busy c.tag.toNat then some rsBadop
  else if malformed opc c op1 op2 then some rsBadop
  else if touchesArray opc.toNat && !s.memOpen then some rsNotready
  else if opc = 17#5 ∧ c.mod.getLsbD 0 ∧ s.setAllowed op2 = false then some rsBadop
  else if opc = 17#5 ∧ c.mod.getLsbD 0 ∧ s.blockUp 2 = false then some rsIsolated
  else none

/-- Accept a command: sequence state, counters, the read-side selection, the time latch of TIMEGET with the
SET it carries, and its place among the accepted commands (R81, R136, R146). A read accepted with CH 20 to 31, which
completes with BADOP, leaves the read-side selection as it was (DESIGN CHOICE, notes/assumptions/70.md). -/
def State.accept (s : State) (x : Port) (opc : BitVec 5) (c : RCmd) (op1 op2 : W32) : State :=
  let pre := s.precheck x opc c op1 op2
  let dup := (s.port x).busy c.tag.toNat
  let s := s.modPort x fun p =>
    { p with lastAccepted := c.cseq, expCseq := c.cseq + 1,
             rsel := if decide (1 ≤ opc.toNat) && decide (opc.toNat ≤ 3) && (chanOf c.ch.toNat).isSome
                     then chanOf c.ch.toNat else p.rsel }
  let s := s.modPCnt x fun k =>
    { k with cmdAccepted := inc32 k.cmdAccepted, tagBusy := if dup then inc32 k.tagBusy else k.tagBusy }
  let s := if opc = 17#5 ∧ c.mod.getLsbD 0 ∧ pre = none then s.timeSet op1.toNat op2.toNat else s
  let k : PCmd := { opc := opc, c := c, op1 := op1, op2 := op2, latched := s.timeLatch, delivered := 0,
                    waiting := false, acted := false, preset := pre }
  s.modPort x fun p => { p with q := p.q ++ [k] }

/-- The clock monitor sees the edges that sample a command (R144, R147; notes/assumptions/69.md). -/
def State.noteRclk (s : State) (x : Port) : State :=
  if (s.port x).rclkSince.isSome then s else s.modPort x fun p => { p with rclkSince := some s.now }

/-- One command as presented at a port: the checks of R136 in order, then the service of what may execute.
A port that is OFF decodes none, the producer half of a Chain pair RESYNC alone, for its write side (R150, R219). -/
def State.command (s : State) (x : Port) (opc : BitVec 5) (c : RCmd) (op1 op2 : W32) : State :=
  s.observed (.cmd x s.now opc c op1 op2) fun s =>
  if (s.port x).state = .off then s
  else if s.chainHalf false then
    if opc = 15#5 ∧ cmdParityOk opc c op1 op2 then ((s.noteRclk x).active.resyncWrites x c op1).chainPortAnew else s
  else
    let s := (s.noteRclk x).active
    let s :=
      if !cmdParityOk opc c op1 op2 then s.cmdParity x c
      else if opc = 15#5 then s.resync x c op1
      else if (s.port x).state = .isolated then s.decoderBeat x c rsIsolated
      else if (s.port x).state = .seqgap then s.seqgap x c
      else if c.cseq ≠ (s.port x).expCseq then (s.portEvt x 3 c.cseq.toNat).seqgap x c
      else s.accept x opc c op1 op2
    s.service x

/-! ### Meanings -/

/-- NOP: a status beat (R134). -/
def execNop (x : Port) (c : RCmd) (s : State) : Host.Outcome State Fault Refusal := .next (s.command x 0#5 c 0 0)
/-- READ n words (R73). -/
def execRead (x : Port) (c : RCmd) (op1 : W32) (s : State) : Host.Outcome State Fault Refusal := .next (s.command x 1#5 c op1 0)
/-- READP: the next packet or slice (R73). -/
def execReadp (x : Port) (c : RCmd) (s : State) : Host.Outcome State Fault Refusal := .next (s.command x 2#5 c 0 0)
/-- PEEK: as READP, moving nothing (R73). -/
def execPeek (x : Port) (c : RCmd) (s : State) : Host.Outcome State Fault Refusal := .next (s.command x 3#5 c 0 0)
/-- MARK (R96). -/
def execMark (x : Port) (c : RCmd) (s : State) : Host.Outcome State Fault Refusal := .next (s.command x 4#5 c 0 0)
/-- REWIND (R97). -/
def execRewind (x : Port) (c : RCmd) (s : State) : Host.Outcome State Fault Refusal := .next (s.command x 5#5 c 0 0)
/-- RELEASE with TARGET 0 (R98). -/
def execReleaseToRp (x : Port) (c : RCmd) (s : State) : Host.Outcome State Fault Refusal := .next (s.command x 6#5 c 0 0)
/-- RELEASE with TARGET 1 (R98). -/
def execReleaseToMp (x : Port) (c : RCmd) (s : State) : Host.Outcome State Fault Refusal := .next (s.command x 6#5 c 0 0)
/-- FLUSH: arms a flush (R109). -/
def execFlush (x : Port) (c : RCmd) (s : State) : Host.Outcome State Fault Refusal := .next (s.command x 7#5 c 0 0)
/-- SRD (R31). -/
def execSrd (x : Port) (c : RCmd) (op1 : W32) (s : State) : Host.Outcome State Fault Refusal := .next (s.command x 8#5 c op1 0)
/-- SWR (R31). -/
def execSwr (x : Port) (c : RCmd) (op1 op2 : W32) (s : State) : Host.Outcome State Fault Refusal := .next (s.command x 9#5 c op1 op2)
/-- SSET (R31). -/
def execSset (x : Port) (c : RCmd) (op1 op2 : W32) (s : State) : Host.Outcome State Fault Refusal := .next (s.command x 10#5 c op1 op2)
/-- SCLR (R31). -/
def execSclr (x : Port) (c : RCmd) (op1 op2 : W32) (s : State) : Host.Outcome State Fault Refusal := .next (s.command x 11#5 c op1 op2)
/-- LOCK (R34). -/
def execLock (x : Port) (c : RCmd) (s : State) : Host.Outcome State Fault Refusal := .next (s.command x 12#5 c 0 0)
/-- UNLOCK (R34, R35). -/
def execUnlock (x : Port) (c : RCmd) (s : State) : Host.Outcome State Fault Refusal := .next (s.command x 13#5 c 0 0)
/-- STATUS, any page and ACT but those of the next two (R143). -/
def execStatus (x : Port) (c : RCmd) (op1 op2 : W32) (s : State) : Host.Outcome State Fault Refusal := .next (s.command x 14#5 c op1 op2)
/-- STATUS page 05h with ACT: clears attention (R143). -/
def execStatusActClear (x : Port) (c : RCmd) (op1 op2 : W32) (s : State) : Host.Outcome State Fault Refusal := .next (s.command x 14#5 c op1 op2)
/-- STATUS page 06h with ACT: sets ATTN_MASK (R143). -/
def execStatusActMask (x : Port) (c : RCmd) (op1 op2 : W32) (s : State) : Host.Outcome State Fault Refusal := .next (s.command x 14#5 c op1 op2)
/-- RESYNC (R144). -/
def execResync (x : Port) (c : RCmd) (op1 : W32) (s : State) : Host.Outcome State Fault Refusal := .next (s.command x 15#5 c op1 0)
/-- TRAIN (R145). -/
def execTrain (x : Port) (c : RCmd) (s : State) : Host.Outcome State Fault Refusal := .next (s.command x 16#5 c 0 0)
/-- TIMEGET without SET (R146). -/
def execTimeget (x : Port) (c : RCmd) (s : State) : Host.Outcome State Fault Refusal := .next (s.command x 17#5 c 0 0)
/-- TIMEGET with SET (R146, R194). -/
def execTimegetSet (x : Port) (c : RCmd) (op1 op2 : W32) (s : State) : Host.Outcome State Fault Refusal := .next (s.command x 17#5 c op1 op2)
/-- A reserved opcode: BADOP (R134, R136). -/
def execReservedOpcode (x : Port) (opc : BitVec 5) (c : RCmd) (s : State) : Host.Outcome State Fault Refusal := .next (s.command x opc c 0 0)

end Sys2Proof.Machine
end

