-- ==== Sys2Proof/Machine/LinkOps.lean ====
section
/-! DEFINITION. The link as a whole (R157, R160 to R163, R170 to R172): capabilities, entering and leaving its
states, BYE, forwarded requests, and the checks of a received frame (R155). -/

namespace Sys2Proof.Machine

open Sys2Proof

/-! ### The running image (R267, R276) -/

/-- The image in a slot: 0 A, 1 B, 2 SRAM. -/
def UpdSt.image (u : UpdSt) (slot : Nat) : List Byte :=
  if slot = 0 then u.imageA else if slot = 1 then u.imageB else u.ram

/-- FW_VERSION of the running image; 0 in the loader (R267, R287). -/
def State.fwVersion (s : State) : Nat :=
  if s.yar.loader then 0 else leField (s.upd.image s.upd.runningSlot) 8 4

/-- SCHEMA of the running image; 0 in the loader. -/
def State.schema (s : State) : Nat :=
  if s.yar.loader then 0 else leField (s.upd.image s.upd.runningSlot) 12 2

/-! ### Capabilities (R157, R169, R175) -/

/-- The module limit in units of 100 kBd, none where the module gives none (R169). R169 gives no limit for a module whose A0h bytes
have not been read yet: here MODULE_ID stands as it is, after a start as zeros, so that the rates above 00h are excluded until
the module is read (DESIGN CHOICE, notes/assumptions/96.md). -/
def LinkSt.moduleLimit (l : LinkSt) : Option Nat :=
  if !l.modPresent || l.modNoTwi then none
  else if byteAt l.moduleId 12 = 0xFF#8 then some ((byteAt l.moduleId 66).toNat * 2500)
  else some ((byteAt l.moduleId 12).toNat * 1000)

/-- The baud of a rate in units of 100 kBd, rounded up (R153). -/
def rateBaud (r : Nat) : Nat := if r = 0 then 12500 else if r = 1 then 103125 else 257813

/-- Whether a rate is excluded by the module (R169). -/
def LinkSt.excluded (l : LinkSt) (r : Nat) : Bool :=
  l.moduleRateCheck && l.moduleLimit.any fun m => decide (m < rateBaud r)

/-- MAX_RATE as CAPS carries it, as the bring-up took it (R157, R174). -/
def LinkSt.capsRate (l : LinkSt) : Nat :=
  if 2 ≤ l.rateLimit ∧ l.excluded 2 = false then 2
  else if 1 ≤ l.rateLimit ∧ l.excluded 1 = false then 1 else 0

/-- The local class map (R157). -/
def State.classMap (s : State) : Nat :=
  (List.finRange 20).foldl (fun m n =>
    let c := s.chan n
    m + (if c.enabled then c.cfg.cls.code else 0) * 4 ^ n.val) 0

/-- The twin byte (R157). -/
def State.twinByte (s : State) : Nat :=
  s.twin.role.code + 8 * bnat s.twin.twinId + 16 * s.twin.pairInUse

/-- The local CAPS body (R157). -/
def State.capsBody (s : State) : List Byte :=
  leBytes 0x2010 2 ++ leBytes s.upd.siliconRev 1 ++ leBytes s.rst.roleInUse 1 ++ leBytes s.link.capsRate 1 ++
  leBytes s.link.ratesFailed 1 ++ leBytes s.classMap 5 ++ [3#8] ++ leBytes s.fwVersion 4 ++
  leBytes s.schema 2 ++ leBytes s.twinByte 1 ++ [0#8] ++ leBytes s.link.nonce 4 ++ leBytes s.upd.serial 8

/-- A CAPS body as its bytes. -/
def capsBytes (c : Caps) : List Byte :=
  leBytes c.device 2 ++ leBytes c.siliconRev 1 ++ leBytes c.role 1 ++ leBytes c.maxRate 1 ++
  leBytes c.ratesFailed 1 ++ leBytes c.classMap 5 ++ leBytes c.records 1 ++ leBytes c.fwVersion 4 ++
  leBytes c.schema 2 ++ leBytes c.twin 1 ++ [0#8] ++ leBytes c.linkNonce 4 ++ leBytes c.serial 8

/-- Whether the result of a trial is being sent: for 100 µs from when it stood, into UP (R161). -/
def State.sendsResult (s : State) : Bool :=
  (s.link.state == .trial || s.link.state == .up) && s.link.own != 0 &&
  s.link.resultAt.any fun a => decide (s.now < a + us 100)

/-- Queue a CAPS; CFLAGS as the bring-up stands (R156, R160, R161). -/
def State.sendCaps (s : State) : State :=
  let l := s.link
  let flags := natOfBits [l.capsIn, s.sendsResult && l.own == 1, s.sendsResult && l.own == 2]
  let trial := if l.state = .trial then l.candidate else l.rate
  (s.strict 4 (plainFrame 1 (leBytes flags 1 ++ leBytes trial 1) s.capsBody)).modLink fun l =>
    { l with sentSeen := l.sentSeen || l.capsIn }

/-- CLASS_MISMATCH (R175). -/
def State.mismatch (s : State) : Nat :=
  match s.link.peer with
  | none => 0
  | some p => natOfBits ((List.range 20).map fun n =>
      let a := s.classMap / 4 ^ n % 4
      let b := p.classMap / 4 ^ n % 4
      a != 0 && b != 0 && a != b)

/-- What follows a change of the local class map (R162, R175). -/
def State.mapChanged (s : State) : State :=
  let s := s.modLink fun l => { l with classMismatch := s.mismatch }
  if s.linkUp then s.sendCaps else s

/-- What follows a change of the twin byte: a fresh CAPS while UP (R162). -/
def State.twinChanged (s : State) : State := if s.linkUp then s.sendCaps else s

/-! ### MGMT responses that a forwarder makes (R163, R170, R249) -/

/-- The message that a MAC covers (R249). -/
def macMessage (serial nonce svc reqseq : Nat) (data : List Byte) : List Byte :=
  leBytes serial 8 ++ leBytes nonce 4 ++ leBytes svc 1 ++ leBytes reqseq 2 ++ data

/-- The key that KEYSEL names; none where it names none or the key is unset, and none in the loader, which holds no keys (R249, R262,
R287). -/
def State.keyOf (s : State) (keysel : Nat) : Option (List Byte) :=
  let k := if keysel = 1 then s.od.wallKey else if keysel = 2 then s.od.operatorKey
           else if keysel = 3 then s.od.observerKey else zeros 16
  if s.yar.loader ∨ k = zeros 16 then none else some k

/-- The MAC of a response of this device, or eight 00h bytes where no key stands (R249, R250). -/
def State.responseMac (s : State) (keysel svc reqseq : Nat) (data : List Byte) : List Byte :=
  match s.keyOf keysel with
  | some k => (hmac k (macMessage s.upd.serial s.od.bootNonce (svc % 128 + 128) reqseq data)).take 8
  | none => zeros 8

/-- A response image put in the mailbox: RSP_READY follows (R255). A response not read yet is overwritten, and one that meets
a held ST_IF is lost (R290). -/
def State.mailboxReply (s : State) (addr svc reqseq : Nat) (data mac : List Byte) : State :=
  let img := leBytes addr 1 ++ leBytes (svc % 128 + 128) 1 ++ leBytes reqseq 2 ++ zeros 4 ++ data ++ mac
  if s.blockUp 18 then s.modOd fun o => { o with mbxRsp := some img } else s

/-- The service data of a refusal that a forwarder makes: OP, KEYSEL, INDEX, SUB and OFFSET as requested, with ABORT and
every other field 0 (R170, R245). -/
def refusalData (svc keysel abort : Nat) (req : List Byte) : List Byte :=
  if svc = 1 then takePad 5 (req.take 5) ++ [0#8] ++ leBytes abort 2 ++ takePad 12 (req.drop 8 |>.take 4)
  else leBytes keysel 1 ++ [0#8] ++ leBytes abort 2 ++ zeros 8

/-- Answer a forwarded request with an abort, under the forwarder's own MAC (R163, R170). -/
def State.forwardAbort (s : State) (f : FwdReq) (abort : Nat) : State :=
  let data := refusalData f.svc f.keysel abort f.head
  s.mailboxReply 1 f.svc f.reqseq data (s.responseMac f.keysel f.svc f.reqseq data)

/-! ### The strict classes (R156, R177) -/

/-- The place of a type within its rank (R177). -/
def typeOrder (type : Nat) : Nat :=
  match type with
  | 13 => 0 | 12 => 1 | 1 => 2 | 9 => 3 | 8 => 4 | 11 => 5 | 4 => 0 | 5 => 1 | _ => 0

/-- The next strict frame: lowest rank, then the order of its types, then the order generated. -/
def nextStrict (q : List StrictItem) : Option StrictItem :=
  q.foldl (fun b i =>
    match b with
    | some j => if 8 * i.rank + typeOrder i.frame.type < 8 * j.rank + typeOrder j.frame.type then some i else some j
    | none => some i) none

/-- The times that the transmitter writes as the start block leaves (R156, R168, R195). -/
def State.stampFrame (s : State) (f : TxFrame) : TxFrame :=
  let t := s.linkStamp
  if f.type = 7 then
    { f with fields := leBytes t.sec 4 ++ leBytes t.ns 4,
             body := leBytes t.frac 2 ++ leBytes s.time.epoch 1 ++ leBytes (bnat s.timeValid) 1 }
  else if f.type = 8 then { f with body := stampBytes t }
  else if f.type = 9 then { f with body := f.body.take 20 ++ stampBytes t }
  else f

/-- A strict frame leaves. -/
def State.sendStrict (s : State) (i : StrictItem) : State :=
  let s := s.modLink fun l => { l with strict := l.strict.erase i }
  let f := s.stampFrame i.frame
  let s := if f.type = 8 then s.modLink fun l =>
      { l with echo := l.echo.map fun e => { e with t1 := s.linkStamp, sentAt := s.now } } else s
  s.transmit f

/-! ### BYE and LINKRESET (R171, R172, R177, R178) -/

/-- Strict frames leave in the order of R177 until none of a type is left; `fuel` bounds the frames. -/
def State.drainTo (s : State) (type : Nat) : Nat → State
  | 0 => s
  | fuel + 1 =>
    if s.link.strict.any (fun i => i.frame.type == type) then
      match nextStrict s.link.strict with
      | some i => (s.sendStrict i).drainTo type fuel
      | none => s
    else s

/-- Three copies of a frame leave from rank 4, after the strict frames that stand before them (R171, R172, R177). The 2 µs
between the first and the last pass in the same step (notes/assumptions/83.md). -/
def State.sendCopies (s : State) (f : TxFrame) : State :=
  let s := ((s.strict 4 f).strict 4 f).strict 4 f
  s.drainTo f.type s.link.strict.length

/-- Three copies of BYE, while UP; from then on the line carries idle blocks only (R172). -/
def State.bye (s : State) (reason : Nat) : State :=
  if s.linkUp && !s.link.byeIdle then
    (s.sendCopies (plainFrame 13 (leBytes reason 1) [])).modLink fun l => { l with byeIdle := true }
  else s

/-! ### States of the link (R160 to R163) -/

/-- Entry to DETECT: a new LINK_NONCE and a bring-up from its start (R157, R160). -/
def State.enterDetect (s : State) : State :=
  let (v, s) := s.draw
  s.modLink fun l =>
    { l with state := .detect, rate := 0, nonce := v.toNat, capsIn := false, sentSeen := false, rxSeen := false,
             own := 0, peerPass := false, trialAt := none, resultAt := none, bluebell := none, strict := [],
             byeIdle := false }

/-- An unacknowledged FSTART of the window returns to its channel's flow (R163). -/
def requeueFstart (e : WinEntry) : Option FstartItem :=
  match e.body with
  | .copy f =>
    if e.type = 3 then
      some { pos := e.endp, frame := leField f.fields 4 4, count := leField f.fields 2 2,
             epoch := leField f.fields 1 1, ptsSec := leField f.body 0 4, ptsNs := leField f.body 4 4 }
    else none
  | _ => none

/-- What leaving UP does in the same cycle (R36, R85, R163, R199): the ARQ ends in both directions, channels
rewind to LP, forwarded requests are answered with STATE, LR's locks go free, PAUSED clears, open
link-ingress packets are discarded, and lock ends. -/
def State.leaveActions (s : State) : State :=
  let w := s.arq.window
  let s := s.forChans fun n s =>
    let s := s.rewindLink n
    let s := s.modCh n fun c =>
      { c with fstarts := (w.filter fun e => e.ch == n.val).filterMap requeueFstart ++ c.fstarts,
               paused := false, ingNext := 0, pol := { c.pol with segDrop := 0 } }
    if (s.chan n).cfg.producer = .link then s.discardOpen n else s
  let s := s.modArq fun a =>
    { a with nextSeq := 0, window := [], retx := [], timeouts := 0, exp := 0, rxGot := [], accSince := 0,
             firstAcc := none, lastNak := none }
  let s := s.link.forwarded.foldl (fun s f =>
    if f.own then s else s.forwardAbort f 0x0303) s
  let s := s.modLink fun l =>
    { l with forwarded := [], mgmtQ := [], strict := [], echo := none, echoSinceUp := false, ratesFailed := 0,
             peerBootNonce := none }
  let s := (((s.freeLocks .lr).endLock).attnBoth 14).refreshFlows
  if w.isEmpty then s else s.idleAnew

/-- The link leaves UP with a cause, to DETECT (R162). -/
def State.leaveUp (s : State) (cause : Nat) : State :=
  if s.linkUp then
    (s.leaveActions.modLink fun l =>
      { l with leaveCause := cause, state := .detect, rate := 0 }).enterDetect.refreshFlows.serveFaults s
  else s

/-- The link goes OFF (R160). LEAVE_CAUSE is 0Ah where it was UP. -/
def State.linkOff (s : State) : State :=
  let s0 := s
  let s := if s.linkUp then s.leaveActions.modLink fun l => { l with leaveCause := 10 } else s
  (s.modLink fun l => { l with state := .off, rate := 0, bluebell := none, capsIn := false, sentSeen := false,
                               rxSeen := false, own := 0, trialAt := none, resultAt := none, strict := [],
                               byeIdle := false }).refreshFlows.serveFaults s0

/-- Queue an ECHO_REQ; its T1 is written as it leaves (R156, R168). -/
def State.sendEcho (s : State) : State :=
  match s.link.echo with
  | none => s
  | some _ =>
    let id := s.link.echoNextId
    let t1 := stampOf s.time.wall
    let s := s.modLink fun l =>
      { l with echoNextId := (id + 1) % 65536,
               echo := l.echo.map fun e => { e with id := id, t1 := t1, sentAt := s.now } }
    s.strict 4 (plainFrame 8 (leBytes id 2) (stampBytes t1))

/-- A set of 256 echoes starts (R168). -/
def State.startEchoSet (s : State) : State :=
  if s.sender then s
  else (s.modLink fun l => { l with echoStart := s.now, echo := some ⟨0, 0, 0, ⟨0, 0, 0⟩, s.now⟩ }).sendEcho

/-- The PAUSE frame of the present hold bitmap, in Receiver role while channel frames flow (R85, R155). -/
def State.sendPause (s : State) : State :=
  if s.sender || !s.linkFlows then s
  else (s.strict 3 (plainFrame 6 (leBytes s.pauseMap 4) [])).modLink fun l =>
    { l with lastPause := s.pauseMap, pauseAt := s.now }

/-- Entry to UP at a rate (R85, R160, R168, R181, R186, R189, R249): counted, ATTN LINK, virtual time and every
F at 0, buckets full, the periods of SYNC and RXREPORT begun, the first echo set, the current PAUSE bitmap, and the read of the peer's BOOT_NONCE. -/
def State.enterUp (s : State) (rate : Nat) : State :=
  let s := s.modLink fun l =>
    { l with state := .up, rate := rate, cnt := { l.cnt with upCount := inc32 l.cnt.upCount }, vtime := 0,
             mgmtFlow := { l.mgmtFlow with f := 0, head := none }, lastRx := s.now, lastTx := s.now,
             trialAt := none, firstReport := true, syncAt := s.now, syncEvery := s.time.syncPeriod, reportAt := s.now,
             refillAt := s.now, echoSinceUp := false,
             upSerial := (l.peer.map (·.serial)).getD 0, upNonce := (l.peer.map (·.linkNonce)).getD 0,
             peerBootNonce := none }
  let s := s.forChans fun n s => s.modCh n fun c =>
    { c with flow := { c.flow with f := 0, head := none },
             pol := { c.pol with tc := c.pol.cbs * 1024, tp := c.pol.pbs * 1024, segDrop := 0 } }
  let s := s.attnBoth 14
  let s := s.startEchoSet
  let s := s.sendPause
  let s := if s.yar.loader then s else
    (s.queueMgmt 0 1 0 ([1#8, 0#8] ++ leBytes 0x1010 2 ++ [0x0A#8] ++ zeros 15 ++ zeros 8)).modLink fun l =>
      { l with forwarded := l.forwarded ++ [⟨1, 0, 0, true, true, []⟩] }
  s.refreshFlows

/-! ### Received frames (R155) -/

/-- Whether the link receiver takes frames. -/
def State.linkHears (s : State) : Bool := s.link.state != .off && s.pwr.clkSource == 1 && s.blockUp 3

/-- The frame checks of R155, on a frame with a body of `blen` bytes; `act` acts on one that passes. A frame that fails both a check
of BAD_FRAME and its CRC counts in BAD_FRAME only: R155 gives no order (DESIGN CHOICE, notes/assumptions/96.md). -/
def State.received (s : State) (m : RxMeta) (blen : Nat) (act : State → State) : State :=
  if !s.linkHears then s
  else if !m.delimited || !m.lengthOk || decide (9216 < blen) then
    s.modLinkCnt fun c => { c with badFrame := inc32 c.badFrame }
  else if !m.crcOk then s.modLinkCnt fun c => { c with crcErr := inc32 c.crcErr }
  else (act (s.modLink fun l => { l with lastRx := s.now })).serveFaults s

/-- A frame that is acted on only while UP. -/
def State.receivedUp (s : State) (m : RxMeta) (blen : Nat) (act : State → State) : State :=
  s.received m blen fun s => if s.linkUp then act s else s

end Sys2Proof.Machine
end

