-- ==== Sys2Proof/Machine/LinkCtl.lean ====
section
/-! DEFINITION. Link bring-up and its loss (R160 to R163, R169, R173): the events of the line, CAPS, the trial,
the module, and the actions of the link's object entries. -/

namespace Sys2Proof.Machine

open Sys2Proof

/-! ### Candidate and trial (R160, R161) -/

/-- Whether the boot ROM's loader holds the link at rate 00h (R287). -/
def State.linkBoot (s : State) : Bool := s.yar.loader

/-- Whether rate `r` may be tried (R161). -/
def State.rateAllowed (s : State) (r : Nat) : Bool :=
  s.link.peer.any fun p =>
    decide (r ≤ s.link.capsRate) && decide (r ≤ p.maxRate) && !(s.link.ratesFailed.testBit r) &&
    !(p.ratesFailed.testBit r)

/-- The candidate rate, 0 when there is none (R161). -/
def State.candidateRate (s : State) : Nat :=
  if s.linkBoot then 0 else if s.rateAllowed 2 then 2 else if s.rateAllowed 1 then 1 else 0

/-- In CAPS, once a CAPS with PEER_SEEN 1 has been sent and received: UP at rate 00h without a candidate,
otherwise the 10 µs before the switch start (R160). -/
def State.capsAdvance (s : State) : State :=
  let l := s.link
  if l.state == .caps && l.sentSeen && l.rxSeen && l.trialAt.isNone then
    if s.candidateRate = 0 then s.enterUp 0
    else s.modLink fun l => { l with candidate := s.candidateRate, trialAt := some s.now }
  else s

/-- The rate on trial is marked failed, and the link returns to DETECT (R160). -/
def State.trialFailed (s : State) : State :=
  (s.modLink fun l => { l with ratesFailed := l.ratesFailed ||| 2 ^ l.candidate }).enterDetect

/-! ### Meanings: the line -/

/-- BLOCK_LOCK: block lock at rate 00h in DETECT; CAPS begin with PEER_SEEN 0, and this bring-up takes MAX_RATE and
TRIAL_ERR_LIMIT; under the loader it goes no further than rate 00h (R160, R174, R287). -/
def execBlockLock (s : State) : Host.Outcome State Fault Refusal :=
  .next (if s.linkHears && s.link.state == .detect && s.link.modPresent && s.link.bluebell.isNone then
      (s.modLink fun l =>
        { l with state := .caps, capsAt := s.now, rateLimit := if s.yar.loader then 0 else l.maxRate,
                 errLimit := l.trialErrLimit }).sendCaps
    else s)

/-- CAPS_SEND: the 10 µs timer of CAPS, and of the 100 µs for which a trial's result is sent (R160, R161). -/
def execCapsSend (s : State) : Host.Outcome State Fault Refusal :=
  .next (if s.link.state == .caps || s.sendsResult then s.sendCaps.capsAdvance else s)

/-- CAPS: the peer's body, then what the state makes of it (R157, R160 to R162, R175). -/
def execCaps (m : RxMeta) (cflags trialRate : Nat) (b : Caps) (s : State) : Host.Outcome State Fault Refusal :=
  .next (s.received m 32 fun s =>
    let _ := trialRate
    let s := s.modLink fun l => { l with peer := some b }
    let s := s.modLink fun l => { l with classMismatch := s.mismatch }
    match s.link.state with
    | .caps =>
      let s := s.modLink fun l =>
        { l with capsIn := true, rxSeen := l.rxSeen || cflags.testBit 0,
                 capsAt := if cflags.testBit 0 then s.now else l.capsAt }
      s.capsAdvance
    | .trial =>
      if cflags.testBit 2 then s.trialFailed
      else if cflags.testBit 1 then
        let s := s.modLink fun l => { l with peerPass := true }
        if s.link.own = 1 then s.enterUp s.link.candidate else s
      else s
    | .up => if b.serial = s.link.upSerial ∧ b.linkNonce = s.link.upNonce then s else s.leaveUp 6
    | .off => s
    | .detect => s)

/-- CAPS_TIMEOUT: no CAPS with PEER_SEEN 1 for 10 ms (R160). -/
def execCapsTimeout (dt : Nat) (s : State) : Host.Outcome State Fault Refusal :=
  let s := s.advance dt
  .next (if s.link.state == .caps && decide (s.link.capsAt + ms 10 ≤ s.now) then s.enterDetect else s)

/-- TRIAL_SWITCH: 10 µs after the exchange, the candidate rate (R160). Hardware adapts the CTLE (R228). -/
def execTrialSwitch (dt : Nat) (s : State) : Host.Outcome State Fault Refusal :=
  let s := s.advance dt
  .next (if s.link.state == .caps && s.link.trialAt.any (fun a => decide (a + us 10 ≤ s.now)) then
      s.modLink fun l =>
        { l with state := .trial, rate := l.candidate, trialAt := some s.now, own := 0, peerPass := false,
                 ctle := min l.ctleMax (max l.ctleMin (Config.trialCtle l.cnt.upCount)) }
    else s)

/-- TRIAL_RESULT: the trial passes or fails (R161). -/
def execTrialResult (lockHeld : Bool) (errs : Nat) (s : State) : Host.Outcome State Fault Refusal :=
  .next (if s.link.state == .trial && s.link.own == 0 then
      if lockHeld && decide (errs ≤ s.link.errLimit) then
        let s := (s.modLink fun l => { l with own := 1, resultAt := some s.now }).sendCaps
        if s.link.peerPass then s.enterUp s.link.candidate else s
      else (s.modLink fun l => { l with own := 2, resultAt := some s.now }).sendCaps
    else s)

/-- TRIAL_FAIL_END: 100 µs of TRIAL_FAIL have been sent (R160). -/
def execTrialFailEnd (dt : Nat) (s : State) : Host.Outcome State Fault Refusal :=
  let s := s.advance dt
  .next (if s.link.state == .trial && s.link.own == 2 && s.link.resultAt.any (fun a => decide (a + us 100 ≤ s.now)) then
      s.trialFailed else s)

/-- TRIAL_TIMEOUT: 2 ms since the switch (R160). -/
def execTrialTimeout (dt : Nat) (s : State) : Host.Outcome State Fault Refusal :=
  let s := s.advance dt
  .next (if s.link.state == .trial && s.link.trialAt.any (fun a => decide (a + ms 2 ≤ s.now)) then
      s.trialFailed else s)

/-- BLOCK_LOCK_LOST (R162). -/
def execBlockLockLost (s : State) : Host.Outcome State Fault Refusal := .next (s.leaveUp 1)

/-- SYNC_HEADER_ERRORS (R162). -/
def execSyncHeaderErrors (s : State) : Host.Outcome State Fault Refusal := .next (s.leaveUp 2)

/-- NO_FRAME_TIMEOUT: no valid frame for 1 ms (R162). -/
def execNoFrameTimeout (dt : Nat) (s : State) : Host.Outcome State Fault Refusal :=
  let s := s.advance dt
  .next (if s.link.lastRx + ms 1 ≤ s.now then s.leaveUp 3 else s)

/-! ### Meanings: the module (R169) -/

/-- The diagnostics of a module as stored: as read, or with its external calibration applied where byte 92 bit 4 of its
identity asks for it (R169). R169 gives no formula, so the calibrated bytes are free values (notes/assumptions/84.md). -/
def diagBytes (id : List Byte) (raw : List Byte) : List Byte :=
  let raw := takePad 10 (raw.take 10)
  if (byteAt id 92).getLsbD 4 then (List.range 10).map fun i => Config.calibrated id raw i else raw

/-- Whether Yarrow can reach the module over TWI: firmware serves, its clock runs and TWI is out of reset (R169, R290, R298). -/
def State.twiRuns (s : State) : Bool := s.yar.serving && s.blockUp 19 && s.clocked

/-- The diagnostics as read at A2h; a transfer that was abandoned stores nothing and sets bit [3] of MODULE (R169, R336). A module whose
identity was read and that does not answer here has no module limit while the bit stands (DESIGN CHOICE, notes/assumptions/100.md). -/
def State.takeDdm (s : State) (a2 : Option (List Byte)) : State :=
  s.modLink fun l => { l with ddmAt := s.now, modNoTwi := a2.isNone,
                              moduleDdm := (a2.map (diagBytes l.moduleId)).getD l.moduleDdm }

/-- MODULE_PRESENCE: an inserted module is read over TWI; an absent one holds the link in DETECT (R160, R169). -/
def execModulePresence (present : Bool) (a0 ddm : Option (List Byte)) (s : State) :
    Host.Outcome State Fault Refusal :=
  .next (if present then
      let s := s.modLink fun l => { l with modPresent := true }
      if !s.twiRuns then s
      else match a0 with
        | some id =>
          let diag := (byteAt id 92).getLsbD 6
          let s := s.modLink fun l => { l with moduleId := takePad 96 (id.take 96), modDiag := diag, modNoTwi := false, ddmAt := s.now }
          if diag then s.takeDdm ddm else s
        | none => s.modLink fun l => { l with modNoTwi := true, modDiag := false }
    else
      let s := s.modLink fun l => { l with modPresent := false, modDiag := false, modNoTwi := false }
      if s.linkUp then s.leaveUp 7
      else if s.link.state == .caps || s.link.state == .trial then s.enterDetect
      else s)

/-- MODULE_LOS: high for 100 µs takes the link out of UP (R162). -/
def execModuleLos (high : Bool) (s : State) : Host.Outcome State Fault Refusal :=
  let s := s.modLink fun l => { l with modLos := high }
  .next (if high then s.leaveUp 7 else s)

/-- MODULE_DDM_READ: the diagnostics, once a second (R169, R225). -/
def execModuleDdmRead (a2 : Option (List Byte)) (s : State) : Host.Outcome State Fault Refusal :=
  .next (if s.link.modPresent && s.link.modDiag && s.twiRuns && s.due s.link.ddmAt (ms 1000) then
      s.takeDdm a2
    else s)

/-- BLUEBELL_END: 200 µs of Bluebell, then DETECT (R173). -/
def execBluebellEnd (dt : Nat) (s : State) : Host.Outcome State Fault Refusal :=
  let s := s.advance dt
  .next (if s.link.bluebell.any (fun a => decide (a + us 200 ≤ s.now)) then s.enterDetect else s)

/-! ### Actions of the link's entries (R171 to R174) -/

/-- ENABLE of 4000h: 1 starts the link from OFF once the clocks run on the root PLL, 0 takes it OFF with BYE (R160, R172,
R294). -/
def State.applyLinkEnable (s : State) (on : Bool) : State :=
  let s := s.modLink fun l => { l with enable := on }
  if on then
    if s.link.state == .off && s.blockUp 3 && s.link.rail && s.pwr.clkSource == 1 && s.pwr.state != .retention &&
        s.pwr.state != .off then
      s.enterDetect
    else s
  else if s.link.state == .off then s
  else (s.bye 4).linkOff

/-- RETRAIN (R162). -/
def State.applyRetrain (s : State) : State := s.leaveUp 9

/-- A frame as it stands on the line: the 16-byte header with BLEN, the body and the CRC-32C over both (R154). -/
def TxFrame.bytes (f : TxFrame) : List Byte :=
  let b := leBytes f.type 1 ++ leBytes f.flags 1 ++ leBytes f.body.length 2 ++ leBytes f.seq 2 ++ leBytes f.wlow 2 ++
    takePad 8 f.fields ++ f.body
  b ++ leBytes (crc32c b) 4

/-- The 16 header bytes of a LINKRESET (R154, R156). -/
def linkresetHeader (reach nonce : Nat) : List Byte :=
  [12#8, 0#8, 8#8, 0#8, 0#8, 0#8, 0#8, 0#8] ++ leBytes reach 1 ++ [0#8] ++ leBytes nonce 4 ++ [0#8, 0#8]

/-- LINKRESET_SEND while UP: three copies with the peer's nonce, then UP is left with cause 05h (R171). -/
def State.applyLinkresetSend (s : State) (reach : Nat) : State :=
  let hdr := linkresetHeader reach ((s.link.peer.map (·.linkNonce)).getD 0)
  let mac := match s.keyOf 1 with
    | some k => (hmac k hdr).take 8
    | none => zeros 8
  let f := plainFrame 12 (hdr.drop 8) mac
  (s.sendCopies f).leaveUp 5

/-- WAKE_PEER: Bluebell for 200 µs, in any state but OFF (R173). R162 lists no cause of leaving UP for it: LEAVE_CAUSE keeps the cause
of the last loss (DESIGN CHOICE, notes/assumptions/96.md). -/
def State.applyWakePeer (s : State) : State :=
  if s.link.state == .off then s
  else
    let s := if s.linkUp then s.leaveActions else s
    s.enterDetect.modLink fun l => { l with bluebell := some s.now }

end Sys2Proof.Machine
end

