-- ==== Sys2Proof/Machine/LinkRx.lean ====
section
/-! DEFINITION. Received Juthar frames (R85, R158, R159, R165 to R168, R185 to R189): the receiving side of the
ARQ, link ingress with its policer, control frames, and the timers of the receiving side. -/

namespace Sys2Proof.Machine

open Sys2Proof

/-! ### ACK and NAK (R165, R166) -/

/-- The number modulo 65,536 before `k`. -/
def seqPred (k : Nat) : Nat := (k + 65535) % 65536

/-- Queue an ACK; the coalescing count and timer restart (R166). -/
def State.sendAck (s : State) : State :=
  (s.strict 2 (plainFrame 4 (leBytes (seqPred s.arq.exp) 2) [])).modArq fun a =>
    { a with accSince := 0, firstAcc := none }

/-- Queue a NAK of EXP, unless one was sent for it within NAK_HOLDOFF (R165, R166). -/
def State.sendNak (s : State) : State :=
  let held := s.arq.lastNak.any fun n => n.1 == s.arq.exp && decide (s.now < n.2 + us s.arq.nakHoldoff)
  if held then s
  else (s.strict 2 (plainFrame 5 (leBytes s.arq.exp 2) [])).modArq fun a =>
    { a with lastNak := some (a.exp, s.now), nakTx := inc32 a.nakTx, accSince := 0, firstAcc := none }

/-- A frame has been accepted: ACK after ACK_COALESCE of them (R166). -/
def State.noteAccepted (s : State) : State :=
  let s := s.modArq fun a =>
    { a with accSince := a.accSince + 1, firstAcc := some (a.firstAcc.getD s.now) }
  if s.arq.ackCoalesce ≤ s.arq.accSince then s.sendAck else s

/-- EXP advances past every received number; `fuel` bounds the numbers (R165). -/
def ArqSt.skipGot (a : ArqSt) : Nat → ArqSt
  | 0 => a
  | fuel + 1 =>
    if a.rxGot.contains a.exp then
      ({ a with exp := (a.exp + 1) % 65536, rxGot := a.rxGot.filter (· ≠ a.exp) } : ArqSt).skipGot fuel
    else a

/-- Step 1 of R165: WLOW. -/
def State.arqWlow (s : State) (wlow : Nat) : State :=
  if serialAfter 16 wlow s.arq.exp then
    let a := s.arq
    let nums := (List.range ((wlow + 65536 - a.exp) % 65536)).map fun i => (a.exp + i) % 65536
    let skipped := (nums.filter fun k => !(a.rxGot.contains k)).length
    let s := s.modArq fun a =>
      ({ a with exp := wlow % 65536, rxGot := a.rxGot.filter (fun k => !(nums.contains k)),
                skippedRx := satAdd a.skippedRx skipped } : ArqSt).skipGot 1024
    if skipped = 0 then s
    else s.forChans fun n s =>
      if (s.chan n).cfg.producer = .link ∧ (s.chan n).cfg.cls = Cls.slice then s.discardPacket n else s
  else s

/-- The receiving side of the ARQ on a reliable frame (R165): `early` tells whether it may be accepted out of
order, `act` is what acceptance does; an act that takes the link out of UP ends the ARQ behind the count (R163). -/
def State.arqReceive (s : State) (seq wlow : Nat) (early : State → Bool) (act : State → State) : State :=
  let s := s.arqWlow wlow
  let a := s.arq
  if serialAfter 16 a.exp seq || a.rxGot.contains seq then
    (s.modArq fun a => { a with dupRx := inc32 a.dupRx }).sendAck
  else if seq = a.exp then
    let s := s.modArq fun a => ({ a with exp := (a.exp + 1) % 65536 } : ArqSt).skipGot 1024
    act s.noteAccepted
  else if (seq + 65536 - a.exp) % 65536 ≤ 1023 then
    if early s then
      let s := s.modArq fun a => { a with rxGot := a.rxGot ++ [seq], earlyRx := inc32 a.earlyRx }
      (act s.noteAccepted).sendNak
    else (s.modArq fun a => { a with earlyDiscarded := inc32 a.earlyDiscarded }).sendNak
  else (s.modArq fun a => { a with outOfWindow := inc32 a.outOfWindow }).sendNak

/-! ### Ingress (R158, R159, R211) -/

/-- Count a misrouted frame. -/
def State.misroute (s : State) : State := s.modLinkCnt fun c => { c with misrouted := inc32 c.misrouted }

/-- Row 1 of R159. -/
def State.rowMisrouted (s : State) (n : Fin 20) : Bool :=
  let c := s.chan n
  c.state == .disabled || c.cfg.producer != End.link || s.chainHalf true || s.link.classMismatch.testBit n.val

/-- Whether the policer colours frames of a channel (R185, R290). -/
def State.policed (s : State) (n : Fin 20) : Bool :=
  !s.sender && (s.chan n).pol.mode == 1 && s.blockUp 4

/-- The colour of a frame of `blen` body bytes, and the buckets after it: 0 green, 1 yellow, 2 red (R186). -/
def Policer.colour (p : Policer) (blen oh : Nat) : Nat × Policer :=
  let b := (20 + blen + oh) * 1024
  if p.tp < b then (2, p)
  else if p.tc < b then (1, { p with tp := p.tp - b })
  else (0, { p with tp := p.tp - b, tc := p.tc - b })

/-- Count a dropped frame or segment of a colour (R187, R188). -/
def Policer.countDrop (p : Policer) (colour : Nat) : Policer :=
  if colour = 2 then { p with redDropped := inc32 p.redDropped }
  else { p with yellowDropped := inc32 p.yellowDropped }

/-- Colour a frame and answer whether it is accepted (R185 to R188). `slice` is the frame and slice whose
entry takes MISS 2 on a drop, `rest` the colour under which the segments still to come of the packet that a drop discards are counted. -/
def State.police (s : State) (n : Fin 20) (blen : Nat) (slice : Option (Nat × Nat)) (rest : Nat → Nat) : Bool × State :=
  if !s.policed n then (true, s)
  else
    let (col, p) := (s.chan n).pol.colour blen s.link.oh
    let s := s.modCh n fun c => { c with pol := p }
    if col = 0 then (true, s.modCh n fun c => { c with pol := { c.pol with green := inc32 c.pol.green } })
    else if col = 1 ∧ (s.chan n).holdReq = false then
      (true, s.modCh n fun c => { c with pol := { c.pol with yellowAccepted := inc32 c.pol.yellowAccepted } })
    else
      let s := s.discardPacket n
      let s := s.modCh n fun c =>
        { c with pol := { c.pol.countDrop col with segDrop := rest col } }
      let s := match slice with
        | some (f, k) => if (s.chan n).cfg.cls = Cls.slice then s.modCh n fun c => c.setMiss f k 2 else s
        | none => s
      (false, (s.attnConsumer n 9).settle n)

/-- A protocol error of link ingress: the open packet goes, the segment is counted (R158). -/
def State.segmentError (s : State) (n : Fin 20) : State := (s.discardPacket n).misroute

/-- The close of a link packet with the carried CRC (R158). -/
def State.linkClose (s : State) (n : Fin 20) : State :=
  (s.prodClose n (some (s.chan n).ingCrc)).modCh n fun c => { c with refusing := false }

/-- Producer input of a FIRST segment whose packet is to have the CRC `crc` (R68, R158). -/
def State.ingressPacket (s : State) (n : Fin 20) (last : Bool) (crc : Nat) (body : List Byte) : State :=
  let sk := leField body 6 2
  let s := s.prodOpen n none true 0 (sk % 4096) (sk / 4096) (leField body 8 4)
  let s := s.modCh n fun c => { c with ingCrc := crc, ingNext := body.length }
  let (_, s) := s.prodBytes n (body.drop 16)
  if last then s.linkClose n else s

/-- Producer input of a FIRST segment from the link (R158). -/
def State.ingressFirst (s : State) (n : Fin 20) (last : Bool) (body : List Byte) : State :=
  s.ingressPacket n last (leField body 12 4) body

/-- Producer input of a later segment (R158). -/
def State.ingressMore (s : State) (n : Fin 20) (last : Bool) (body : List Byte) : State :=
  let s := s.modCh n fun c => { c with ingNext := c.ingNext + body.length }
  let (_, s) := s.prodBytes n body
  if last then s.linkClose n else s

/-- Producer input of a raw frame (R158). -/
def State.ingressRaw (s : State) (n : Fin 20) (tail : Bool) (body : List Byte) : State :=
  s.rawBytes n none tail body

/-- Whether bytes after a takeover are still those of a packet that began before it (R215). -/
def State.afterTakeover (s : State) (n : Fin 20) (fresh : Bool) : Bool × State :=
  if !(s.chan n).copyGap then (true, s)
  else if fresh then
    (true, (s.modCh n fun c => { c with copyGap := false }).modTwin fun t => { t with streamGap := inc32 t.streamGap })
  else (false, s)

/-- Link ingress on an accepted SLICE frame: policing stands before the refusal of a full region, so the later segments of a
packet refused for space are coloured too, while those of a packet refused for the channel's state, and all that finds a HELD or
FAULT channel with no packet open, are not (R158, R159, R185, R187, R188, R211). A whole slice, which may come early between the segments
of another packet, leaves what is kept of that packet as it is (R165, R188). Two points are open: R159 names HELD and FAULT
only, and a FIRST segment or raw frame to a DRAINING channel is refused under R50 before the policer too; and R185 does not name
the frames that a STANDBY discards for a copied channel and the segments skipped after a takeover, which stay uncoloured (DESIGN
CHOICE, notes/assumptions/96.md). -/
def State.ingestSlice (s : State) (ch : Nat) (segf : BitVec 8) (segoff : Nat) (body : List Byte) : State :=
  match chanOf ch with
  | none => s.misroute
  | some n =>
    let c := s.chan n
    let first := segf.getLsbD 0
    let last := segf.getLsbD 1
    let raw := segf.getLsbD 2
    if s.rowMisrouted n || raw != (c.cfg.cls == Cls.raw) then s.misroute
    else if s.shadows && c.copied then s.modTwin fun t => { t with discarded := inc32 t.discarded }
    else
      let (go, s) := s.afterTakeover n (first || raw)
      if !go then s
      else if raw then
        if c.state ≠ .active then s.ingressRaw n (segf.getLsbD 3) body
        else
          let (ok, s) := s.police n body.length none fun _ => 0
          if ok then s.ingressRaw n (segf.getLsbD 3) body else s
      else if first then
        let slice := (leField body 8 4, leField body 6 2 % 4096)
        let s := if last then s else s.modCh n fun c =>
          { c with pol := { c.pol with segDrop := 0 }, ingSlice := if c.state = .active then some slice else none }
        let rest := fun col => if !last || c.pkt.isSome then col else c.pol.segDrop
        if c.state ≠ .active then s.ingressFirst n last body
        else if body.length < 16 then s.segmentError n
        else
          let (ok, s) := s.police n body.length (some slice) rest
          if ok then s.ingressFirst n last body else s
      else if c.pkt.isNone && (c.state == .held || c.state == .fault || (c.refusing && c.ingSlice.isNone)) then
        s.modCh n fun c =>
          { c with ingNext := c.ingNext + body.length, refusing := c.refusing && !last,
                   pol := { c.pol with segDrop := if last then 0 else c.pol.segDrop } }
      else if c.pol.segDrop ≠ 0 then
        s.modCh n fun c => { c with pol := { c.pol.countDrop c.pol.segDrop with
                                             segDrop := if last then 0 else c.pol.segDrop } }
      else if !(c.pkt.isSome || c.refusing) || segoff != c.ingNext then s.segmentError n
      else
        let (ok, s) := s.police n body.length c.ingSlice fun col => if last then 0 else col
        if !ok then s.modCh n fun c => { c with refusing := false }
        else if c.refusing then
          s.modCh n fun c => { c with ingNext := c.ingNext + body.length, refusing := !last }
        else s.ingressMore n last body

/-- Whether a SLICE frame may be accepted early (R165). -/
def State.earlySlice (s : State) (ch : Nat) (segf : BitVec 8) (body : List Byte) : Bool :=
  segf.getLsbD 0 && segf.getLsbD 1 && !(segf.getLsbD 2) &&
  (chanOf ch).any fun n => (s.chan n).cfg.cls == Cls.slice && ((s.chan n).slotFor (leField body 8 4)).isSome

/-- Link ingress on an accepted FSTART (R113, R128, R159, R197): a marker of its channel; at a receiver an
epoch that differs changes the epoch first. An FSTART for a Stream channel fed by the link, for which the spec gives no counter, counts
in MISROUTED, as one with a COUNT or PTS out of range does (DESIGN CHOICE, notes/assumptions/24.md). -/
def State.ingestFstart (s : State) (ch epoch count frame sec ns : Nat) : State :=
  match chanOf ch with
  | none => s.misroute
  | some n =>
    if s.rowMisrouted n || (s.chan n).cfg.cls != Cls.slice || count == 0 || decide (512 < count) ||
        decide (999999999 < ns) then s.misroute
    else
      let s := if s.sender then s else s.fstartEpoch epoch
      (s.marker n none true frame count epoch sec ns).2

/-! ### Meanings: received frames -/

/-- IDLE, and a frame of a reserved type, which is counted (R155). -/
def execIdleFrame (m : RxMeta) (type : Byte) (s : State) : Host.Outcome State Fault Refusal :=
  .next (s.received { m with delimited := m.delimited && decide (type.toNat ≤ 13) } 0 fun s => s)

/-- SLICE (R158, R159, R165). -/
def execSlice (m : RxMeta) (seq wlow : Nat) (ch : Nat) (segf : BitVec 8) (segoff : Nat) (body : List Byte) (s : State) :
    Host.Outcome State Fault Refusal :=
  .next (s.receivedUp m body.length fun s =>
    s.active.arqReceive seq wlow (fun s => s.earlySlice ch segf body) fun s => s.ingestSlice ch segf segoff body)

/-- FSTART (R128, R165, R197). -/
def execFstart (m : RxMeta) (seq wlow : Nat) (ch epoch count frame ptsSec ptsNs : Nat) (s : State) :
    Host.Outcome State Fault Refusal :=
  .next (s.receivedUp m 8 fun s =>
    s.active.arqReceive seq wlow (fun _ => false) fun s => s.ingestFstart ch epoch count frame ptsSec ptsNs)

/-- ACK (R103, R167). -/
def execAck (m : RxMeta) (ackseq : Nat) (s : State) : Host.Outcome State Fault Refusal :=
  .next (s.receivedUp m 0 fun s => s.acknowledge ackseq)

/-- NAK: an acknowledgement of NAKSEQ − 1, then the retransmission from NAKSEQ, unless that entry is already
queued again or was retransmitted within the last RTO (R166, R167). -/
def execNak (m : RxMeta) (nakseq : Nat) (s : State) : Host.Outcome State Fault Refusal :=
  .next (s.receivedUp m 0 fun s =>
    let s := s.modArq fun a => { a with nakRx := inc32 a.nakRx }
    let s := s.acknowledge (seqPred nakseq)
    let again := (entryFrom s.arq.window nakseq).any fun i => (s.arq.window[i]?).any fun e =>
      s.arq.retx.contains e.seq || e.retxAt.any fun t => decide (s.now < t + us s.arq.rto)
    if again then s else s.retransmitFrom nakseq)

/-- PAUSE: at a sender, PAUSED of each channel whose consumer is link egress follows its bit (R85, R179). -/
def execPause (m : RxMeta) (bitmap : W32) (s : State) : Host.Outcome State Fault Refusal :=
  .next (s.receivedUp m 0 fun s =>
    if !s.sender then s
    else
      let s := s.modLink fun l => { l with pauseRxAt := s.now }
      let s := s.forChans fun n s =>
        if (s.chan n).cfg.consumer ≠ .link then s
        else
          let on := bitmap.getLsbD n.val
          let event := on && !(s.chan n).paused && s.flowData n
          s.modCh n fun c =>
            { c with paused := on,
                     flow := { c.flow with pausedEvents := if event then inc32 c.flow.pausedEvents else c.flow.pausedEvents } }
      s.refreshFlows)

/-- SYNC: at a receiver, the servo; with time not valid it is ignored and counted (R196). -/
def execSync (m : RxMeta) (t : Stamp) (epoch : Nat) (valid : Bool) (s : State) : Host.Outcome State Fault Refusal :=
  .next (s.receivedUp m 4 fun s =>
    if s.sender || !s.blockUp 2 then s
    else if !valid then s.modTime fun t => { t with syncIgnored := inc32 t.syncIgnored }
    else
      let (used, s) := s.servo s.linkStamp t epoch ((s.link.cableDelay : Int) + s.time.asymmetry)
      if used then s.modTime fun t => { t with syncRx := inc32 t.syncRx } else s)

/-- ECHO_REQ: a sender answers with T1, the arrival time T2, and T3 as the answer leaves (R168). -/
def execEchoReq (m : RxMeta) (id : Nat) (t1 : Stamp) (s : State) : Host.Outcome State Fault Refusal :=
  .next (s.receivedUp m 10 fun s =>
    if s.sender then
      s.strict 4 (plainFrame 9 (leBytes id 2) (stampBytes t1 ++ stampBytes s.linkStamp ++ zeros 10))
    else s)

/-- A completed set of 256 echoes (R168, R199). -/
def State.finishEchoes (s : State) (sum : Rat) : State :=
  let delay := (Config.round (sum / 512)).toNat
  let s := s.modLink fun l =>
    { l with cableDelay := delay, echo := none, echoSinceUp := true,
             cableLength := (Config.round ((delay : Rat) / (l.propFactor : Rat) * 10)).toNat,
             cnt := { l.cnt with echoSets := inc32 l.cnt.echoSets } }
  let s := s.gainLock
  if s.link.echoPeriod ≠ 0 ∧ s.link.echoStart + ms s.link.echoPeriod ≤ s.now then s.startEchoSet else s

/-- ECHO_RSP: one round trip of the set; the set completes at 256 (R168). -/
def execEchoRsp (m : RxMeta) (id : Nat) (t1 t2 t3 : Stamp) (s : State) : Host.Outcome State Fault Refusal :=
  .next (s.receivedUp m 30 fun s =>
    match s.link.echo with
    | none => s
    | some e =>
      if e.id ≠ id then s
      else
        let t4 : Rat := stampPs s.linkStamp
        let sum := e.sum + (t4 - stampPs t1) - (stampPs t3 - stampPs t2)
        if e.done + 1 = 256 then s.finishEchoes sum
        else (s.modLink fun l => { l with echo := some { e with done := e.done + 1, sum := sum } }).sendEcho)

/-- RXREPORT: at a sender, the PEER entries (R189). -/
def execRxreport (m : RxMeta) (no : Nat) (counts : List (Nat × Nat × Nat)) (s : State) : Host.Outcome State Fault Refusal :=
  .next (s.receivedUp m 240 fun s =>
    if !s.sender || !(s.link.firstReport || serialAfter 32 no s.link.lastReportNo) then s
    else
      let s := s.forChans fun n s => s.modCh n fun c =>
        let (y, r, o) := counts.getD n.val (0, 0, 0)
        { c with pol := { c.pol with peerYellow := y, peerRed := r, peerOverflow := o } }
      s.modLink fun l => { l with rxreportRx := inc32 l.rxreportRx, lastReportNo := no, firstReport := false })

/-- BYE: UP is left with cause 04h (R172). -/
def execBye (m : RxMeta) (reason : Nat) (s : State) : Host.Outcome State Fault Refusal :=
  .next (s.receivedUp m 0 fun s =>
    let _ := reason
    (s.modLinkCnt fun c => { c with byeRx := inc32 c.byeRx }).leaveUp 4)

/-! ### Meanings: timers of the receiving side -/

/-- ACK_DELAY (R166). -/
def execAckDelay (dt : Nat) (s : State) : Host.Outcome State Fault Refusal :=
  let s := s.advance dt
  .next (if s.linkUp && s.arq.firstAcc.any (fun a => decide (a + ns s.arq.ackDelay ≤ s.now)) then s.sendAck else s)

/-- PAUSE_QUEUE: a change of the hold bitmap (R85). -/
def execPauseQueue (s : State) : Host.Outcome State Fault Refusal :=
  .next (if s.pauseMap = s.link.lastPause then s else s.sendPause)

/-- PAUSE_REPEAT: 100 µs after the last PAUSE, while a bit is set (R85). -/
def execPauseRepeat (dt : Nat) (s : State) : Host.Outcome State Fault Refusal :=
  let s := s.advance dt
  .next (if s.pauseMap ≠ 0 ∧ s.due s.link.pauseAt (us 100) = true then s.sendPause else s)

/-- PAUSED_EXPIRY: 1 ms without a PAUSE clears every PAUSED bit (R85). -/
def execPausedExpiry (dt : Nat) (s : State) : Host.Outcome State Fault Refusal :=
  let s := s.advance dt
  .next (if s.sender && decide (s.link.pauseRxAt + ms 1 ≤ s.now) then
      (s.forChans fun n s => s.modCh n fun c => { c with paused := false }).refreshFlows
    else s)

/-- RXREPORT_SEND: 100 ms after the last RXREPORT, or after the entry to UP (R156, R189). -/
def execRxreportSend (dt : Nat) (s : State) : Host.Outcome State Fault Refusal :=
  let s := s.advance dt
  .next (if s.sender || !s.linkFlows || !s.due s.link.reportAt (ms 100) then s
    else
      let no := s.link.lastReportNo + 1
      let body := (s.ch.toList.map fun c =>
        leBytes c.pol.yellowDropped 4 ++ leBytes c.pol.redDropped 4 ++ leBytes c.cnt.overflowRefused 4).flatten
      (s.strict 4 (plainFrame 11 (leBytes no 4) body)).modLink fun l =>
        { l with lastReportNo := no % 4294967296, reportAt := s.now })

/-- ECHO_SET_START (R168). -/
def execEchoSetStart (dt : Nat) (s : State) : Host.Outcome State Fault Refusal :=
  let s := s.advance dt
  .next (if s.linkUp && s.link.echo.isNone && s.link.echoPeriod != 0 &&
      decide (s.link.echoStart + ms s.link.echoPeriod ≤ s.now) then s.startEchoSet else s)

/-- ECHO_TIMEOUT: a request unanswered within 100 µs is replaced (R168). -/
def execEchoTimeout (dt : Nat) (s : State) : Host.Outcome State Fault Refusal :=
  let s := s.advance dt
  .next (if s.linkUp && s.link.echo.any (fun e => decide (e.sentAt + us 100 ≤ s.now)) then s.sendEcho else s)

/-- TOKEN_REFILL: one refill for each 1 µs of TIMECLK that has passed since the last (R186). -/
def execTokenRefill (dt : Nat) (s : State) : Host.Outcome State Fault Refusal :=
  let s := s.advance dt
  .next (if s.pwr.clkSource ≠ 1 ∨ s.due s.link.refillAt (us 1) = false then s
    else (s.modLink fun l => { l with refillAt := l.refillAt + us 1 }).forChans fun n s =>
      if s.policed n then s.modCh n fun c =>
        { c with pol := { c.pol with tc := min (c.pol.cbs * 1024) (c.pol.tc + c.pol.cir * 128),
                                     tp := min (c.pol.pbs * 1024) (c.pol.tp + c.pol.pir * 128) } }
      else s)

end Sys2Proof.Machine
end

