-- ==== Sys2Proof/Machine/EgressTx.lean ====
section
/-! DEFINITION. Link egress (R158, R164, R167, R177 to R182): the choice made at each frame start, the frames
built from channels, the window, and the transmitter's timers. -/

namespace Sys2Proof.Machine

open Sys2Proof

/-! ### Frames from a channel (R158) -/

/-- `k` words of a channel from `p`, read through ECC and counted as delivered (R19, R103). -/
def State.readRun (s : State) (n : Fin 20) (k : Nat) (p : Ptr) : List (List Byte) × State :=
  let (ws, s) := s.sliceWords n true 0 0 k 0 p
  (ws.map (·.data), s)

/-- The bytes of a segment in delivered form: the first word of a packet carries its PSEQ (R65, R66, R158). -/
def State.segmentBytes (s : State) (n : Fin 20) (start : Ptr) (bytes pseq : Nat) (first : Bool) : List Byte × State :=
  let (ws, s) := s.readRun n ((bytes + 31) / 32) start
  let ws := match first, ws with
    | true, w :: t => withPseq w pseq :: t
    | _, ws => ws
  (ws.flatten.take bytes, s)

/-- The words of a raw run: valid bytes only (R158). -/
def State.rawRunBytes (s : State) (n : Fin 20) (start : Ptr) (words bytes : Nat) : List Byte × State :=
  let (ws, s) := s.readRun n words start
  (ws.flatten.take bytes, s)

/-- The type fields of a SLICE frame (R156). -/
def sliceFields (ch : Nat) (first last raw tail : Bool) (segoff : Nat) : List Byte :=
  takePad 8 (leBytes ch 1 ++ leBytes (natOfBits [first, last, raw, tail]) 1 ++ leBytes segoff 4)

/-- PTS and epoch that a Slice frame's window entry records (R164). -/
def State.entryPts (s : State) (n : Fin 20) (frame : Nat) : Option (Nat × Nat) :=
  let c := s.chan n
  if c.cfg.cls = .slice then
    (c.slotFor frame).map fun i => ((c.record i).ptsSec * 1000000000 + (c.record i).ptsNs, (c.record i).epoch)
  else none

/-! ### The window (R164) -/

/-- Put a reliable frame on the line under the next sequence number, and its entry in the window (R154, R164). -/
def State.sendReliable (s : State) (type ch : Nat) (endp : Ptr) (pseq : Nat) (pts : Option (Nat × Nat))
    (fields body : List Byte) (wb : TxFrame → WinBody) : State :=
  let seq := s.arq.nextSeq
  let wlow := (s.arq.window.head?.map (·.seq)).getD seq
  let f : TxFrame := { type := type, flags := 0, seq := seq, wlow := wlow, fields := takePad 8 fields, body := body }
  let e : WinEntry := { seq := seq, type := type, ch := ch, endp := endp, pseq := pseq, pts := pts, body := wb f,
                        sentAt := s.now, retxAt := none }
  (s.transmit f).modArq fun a => { a with nextSeq := (a.nextSeq + 1) % 65536, window := a.window ++ [e] }

/-- The place of the last of `words` unfenced words from `start` on (R44). -/
def lastPlace (sz : Nat) (fs : List Nat) (words : Nat) (start : Ptr) : Ptr :=
  skipFenced sz fs fs.length (ptrAfter sz fs (words - 1) start)

/-- The tail entry of the tail word that ends a raw run, where the run ends at one (R72). -/
def Chan.tailOf (c : Chan) (fs : List Nat) (words : Nat) (start : Ptr) : Option TailEntry :=
  c.tails.find? fun t => t.at_ == lastPlace c.s fs words start

/-- A frame from the head of a channel's flow leaves: RP moves past its words (R103, R158). -/
def State.sendHead (s : State) (n : Fin 20) (kind : HeadKind) : State :=
  let c := s.chan n
  let fs := s.fenced n
  match kind with
  | .mgmt => s
  | .fstart =>
    match c.fstarts with
    | [] => s
    | f :: rest =>
      let s := s.modCh n fun c => { c with fstarts := rest }
      s.sendReliable 3 n.val f.pos 0 none
        (leBytes n.val 1 ++ leBytes f.epoch 1 ++ leBytes f.count 2 ++ leBytes f.frame 4)
        (leBytes f.ptsSec 4 ++ leBytes f.ptsNs 4) .copy
  | .segment start segoff bytes len first last =>
    let pseq := if first then c.nextPseq else (c.nextPseq + 65535) % 65536
    let (ok, s) := if first then s.readLen n start else (true, s)
    if !ok then s
    else
      let (body, s) := s.segmentBytes n start bytes pseq first
      let frame := if first then leField body 8 4 else (c.inPkt.map (·.frame)).getD 0
      let endp := ptrAfter c.s fs ((bytes + 31) / 32) start
      let s := if first then s.assignPseq n frame else s
      let s := s.modCh n fun c =>
        { c with rp := endp,
                 inPkt := if last then none else some ⟨len, pktWords len, (segoff + bytes) / 32, frame⟩ }
      s.sendReliable 2 n.val endp pseq (s.entryPts n frame) (sliceFields n.val first last false false segoff) body
        fun _ => .segment start segoff bytes len frame pseq first last
  | .raw start words bytes tail =>
    let (ok, s) := s.readDir n (if tail then ((c.tailOf fs words start).map (·.flips)).getD 0 else 0)
    if !ok then s
    else
      let (body, s) := s.rawRunBytes n start words bytes
      let endp := ptrAfter c.s fs words start
      let s := s.modCh n fun c => { c with rp := endp, rawDelivered := (c.rawDelivered + bytes) % 2 ^ 48 }
      s.sendReliable 2 n.val endp 0 none (sliceFields n.val false false true tail 0) body
        fun _ => .raw start words bytes tail

/-- Move RP past a retransmitted frame's words, unless the channel has been disabled or faulted since (R42, R103). -/
def State.resendMove (s : State) (n : Fin 20) (e : WinEntry) (pos : Option PktPos) : State :=
  if e.stale then s else s.modCh n fun c => ({ c with rp := e.endp, inPkt := pos } : Chan).passSkip

/-- A retransmission: the frame again under its SEQ with RETX set; RP moves past its words again, and the consumer has completed a
read (R79, R103, R167). The
frame of a channel that has been disabled or faulted since is sent with what the words now hold and moves no pointer
(R42, notes/assumptions/68.md). An uncorrectable tail entry is a DIRECTORY fault, and the frame stays unsent (R72). -/
def State.resend (s : State) (e : WinEntry) : State :=
  let wlow := (s.arq.window.head?.map (·.seq)).getD e.seq
  let s := s.modArq fun a =>
    { a with retx := a.retx.filter (· ≠ e.seq), retxFrames := inc32 a.retxFrames,
             window := a.window.map fun w => if w.seq = e.seq then { w with retxAt := some s.now } else w }
  let put := fun (s : State) (fields body : List Byte) =>
    s.transmit { type := e.type, flags := 1, seq := e.seq, wlow := wlow, fields := takePad 8 fields, body := body }
  match e.body, chanOf e.ch with
  | .copy f, _ => s.transmit { f with flags := 1, wlow := wlow }
  | .segment start segoff bytes len frame pseq first last, some n =>
    let (body, s) := s.segmentBytes n start bytes pseq first
    let s := if first && !e.stale then (s.modCh n fun c => { c with nextPseq := pseq }).assignPseq n frame else s
    let s := s.resendMove n e (if last then none else some ⟨len, pktWords len, (segoff + bytes) / 32, frame⟩)
    ((put s (sliceFields n.val first last false false segoff) body).readCompleted n).settle n
  | .raw start words bytes tail, some n =>
    let c := s.chan n
    let fs := s.fenced n
    let (ok, s) := s.readDir n (if tail && !e.stale then ((c.tailOf fs words start).map (·.flips)).getD 0 else 0)
    if !ok then s
    else
      let (body, s) := s.rawRunBytes n start words bytes
      let s := s.resendMove n e (s.chan n).inPkt
      ((put s (sliceFields n.val false false true tail 0) body).readCompleted n).settle n
  | _, none => s

/-! ### The weighted fair queue (R179 to R182) -/

/-- The head of flow `i`: 0 to 19 the channels, 20 MGMT. -/
def State.flowHead (s : State) (i : Nat) : Option Head :=
  match chanOf i with
  | some n => (s.chan n).flow.head
  | none => s.link.mgmtFlow.head

/-- The flow with the smallest head tag in serial order; the lower number wins a tie (R180). -/
def State.nextFlow (s : State) : Option (Nat × Head) :=
  (List.range 21).foldl (fun b i =>
    match s.flowHead i with
    | none => b
    | some h =>
      match b with
      | none => some (i, h)
      | some (j, g) => if serialAfter 48 g.tag h.tag then some (i, h) else some (j, g)) none

/-- What a flow keeps once its head frame has been sent (R180, R183). -/
def Flow.sent (f : Flow) (h : Head) : Flow :=
  { f with f := h.tag, head := none, txFrames := inc32 f.txFrames, txBytes := satAdd64 f.txBytes h.l }

/-- A flow that is not eligible follows V (R181). -/
def Flow.follow (f : Flow) (v : Nat) : Flow :=
  if f.head.isNone && serialAfter 48 v f.f then { f with f := v } else f

/-- V has changed: every flow that is not eligible follows it (R181). -/
def State.followV (s : State) : State :=
  let v := s.link.vtime
  let s := s.forChans fun n s => s.modCh n fun c => { c with flow := c.flow.follow v }
  s.modLink fun l => { l with mgmtFlow := l.mgmtFlow.follow v }

/-- The window has become full: each flow that had a frame and was not paused waits (R179). -/
def State.windowWaits (s : State) : State :=
  if s.arq.window.length < 1024 then s
  else
    let s := s.forChans fun n s =>
      if s.flowOpen n && s.flowData n then
        s.modCh n fun c => { c with flow := { c.flow with windowWaits := inc32 c.flow.windowWaits } }
      else s
    if s.link.mgmtQ.isEmpty then s
    else s.modLink fun l => { l with mgmtFlow := { l.mgmtFlow with windowWaits := inc32 l.mgmtFlow.windowWaits } }

/-- The head frame of flow `i` leaves (R177, R180, R181); for the read-idle timer of its channel the consumer has
completed a read (R79). -/
def State.sendFlow (s : State) (i : Nat) (h : Head) : State :=
  let s := s.modLink fun l => { l with vtime := h.tag }
  let s := match chanOf i with
    | some n =>
      let s := s.modCh n fun c => { c with flow := c.flow.sent h }
      ((s.sendHead n h.kind).readCompleted n).settle n
    | none =>
      let s := s.modLink fun l => { l with mgmtFlow := l.mgmtFlow.sent h }
      match s.link.mgmtQ with
      | f :: rest =>
        (s.modLink fun l => { l with mgmtQ := rest }).sendReliable 10 20 {} 0 none f.fields f.body .copy
      | [] => s
  s.windowWaits.refreshFlows.followV

/-! ### Meanings -/

/-- FRAME_TX_CHOICE: strict classes, retransmissions, the weighted fair queue, IDLE (R162, R177, R178). After BYE only idle
blocks leave (R172); during a trial IDLE frames leave back to back (R161); in Doze and step E3 only strict frames and IDLE do (R297, R300). -/
def execFrameTxChoice (s : State) : Host.Outcome State Fault Refusal :=
  .next ((if s.link.state == .off || s.pwr.clkSource != 1 || s.link.byeIdle then s
    else match nextStrict s.link.strict with
      | some i => s.sendStrict i
      | none =>
        if s.link.state == .trial then s.transmit (plainFrame 0 [] [])
        else if !s.linkUp then s
        else if !s.clocked then
          (if s.due s.link.lastTx (us 50) then s.transmit (plainFrame 0 [] []) else s)
        else match s.arq.window.find? (fun e => s.arq.retx.contains e.seq) with
          | some e => (s.resend e).refreshFlows
          | none =>
            match (if s.blockUp 5 then s.nextFlow else none) with
            | some (i, h) => s.sendFlow i h
            | none => if s.link.lastTx + us 50 ≤ s.now then s.transmit (plainFrame 0 [] []) else s).serveFaults s)

/-- RETRANSMIT_TIMEOUT: the oldest entry was last sent RTO ago; RETRY_LIMIT of them without progress take the
link down (R162, R167). -/
def execRetransmitTimeout (dt : Nat) (s : State) : Host.Outcome State Fault Refusal :=
  let s := s.advance dt
  .next (match s.arq.window with
    | [] => s
    | e :: _ =>
      if s.linkUp && decide (e.retxAt.getD e.sentAt + us s.arq.rto ≤ s.now) then
        let s := s.modArq fun a => { a with rtoEvents := inc32 a.rtoEvents, timeouts := a.timeouts + 1 }
        if s.arq.retryLimit ≤ s.arq.timeouts then s.leaveUp 8 else s.retransmitFrom e.seq
      else s)

/-- GIVE_UP: Slice frames whose PTS has passed in sender time are released (R103, R167). -/
def execGiveUp (dt : Nat) (s : State) : Host.Outcome State Fault Refusal := .next (s.advance dt).giveUpDue

end Sys2Proof.Machine
end

