-- ==== Sys2Proof/Machine/WriteSide.lean ====
section
/-! DEFINITION. The write side of a client port (R130 to R133, R63, R112): parity, write sequence, write
refusal, selection, and what each cycle does to the addressed channel; and the commits that follow. -/

namespace Sys2Proof

/-- Whether the two WPAR bits are right (R131). -/
def WCyc.parityOk (c : WCyc) (wctl : BitVec 5) : Bool :=
  c.par.getLsbD 0 == oddParity ((c.dat.extractLsb' 0 32 ++ wctl : BitVec 37).toNat) 37 &&
  c.par.getLsbD 1 == oddParity (c.dat.extractLsb' 32 32).toNat 32

/-- The eight bytes of a cycle, cycle byte 0 first (R59). -/
def WCyc.bytes (c : WCyc) : List Byte := leBytes c.dat.toNat 8

/-- Field `len` bits from bit `lo` of a cycle. -/
def WCyc.field (c : WCyc) (lo len : Nat) : Nat := (c.dat.extractLsb' lo len).toNat

end Sys2Proof

namespace Sys2Proof.Machine

open Sys2Proof

/-! ### Port-level errors -/

/-- A write-protocol error of a port (R63, R130, R132). -/
def State.wproto (s : State) (x : Port) : State :=
  let s := (s.attn x 2).modPCnt x fun k => { k with wprotoErr := inc32 k.wprotoErr }
  s.portEvt x 5 (s.port x).expWseq.toNat

/-- Discard the packet open on the selected channel of a port (R131, R133). -/
def State.discardSelected (s : State) (x : Port) : State :=
  match (s.port x).wsel with
  | some n => if (s.chan n).cfg.producer = End.ofPort x then s.discardPacket n else s
  | none => s

/-- Write refusal begins (R133). -/
def State.beginRefusal (s : State) (x : Port) : State := s.modPort x fun p => { p with writeRefusal := true }

/-- A write cycle that fails parity (R131). -/
def State.writeParity (s : State) (x : Port) : State :=
  let s := ((s.discardSelected x).attn x 5).modPCnt x fun k => { k with parityErr := inc32 k.parityErr }
  (s.beginRefusal x).portEvt x 2 (s.port x).expWseq.toNat

/-- A SELECT or OPEN whose WSEQ does not match (R133). -/
def State.wseqGap (s : State) (x : Port) (wseq : BitVec 8) : State :=
  let s := ((s.discardSelected x).attn x 3).modPCnt x fun k => { k with wseqGaps := inc32 k.wseqGaps }
  (s.beginRefusal x).portEvt x 4 wseq.toNat

/-! ### Sampling (R130, R145) -/

/-- Whether the write side of a port takes cycles: the inbound crossing is out of reset in READY and
SEQGAP, and the consumer half of a Chain pair leaves the write side to its partner (R219, R307). -/
def State.writeOn (s : State) (x : Port) : Bool :=
  ((s.port x).state == .ready || (s.port x).state == .seqgap) && !s.chainHalf true

/-- Keep a cycle among the last eight sampled (R145). -/
def State.sample (s : State) (x : Port) (wctl : BitVec 5) (c : WCyc) : State :=
  s.modPort x fun p =>
    let l := p.sampled ++ [⟨wctl, c⟩]
    { p with sampled := l.drop (l.length - 8) }

/-! ### The cycles (R63) -/

/-- Note bytes written under a selection of a raw channel that is not the port's: each word or tail they
would make is refused (R50, R51). -/
def State.wrongRaw (s : State) (x : Port) (n : Fin 20) (k : Nat) (tail : Bool) : State :=
  let had := assocGet 0 (s.port x).wrongBytes n.val
  let total := had + k
  let words := if tail then (total - 1) / 32 else total / 32
  let left := if tail then 0 else total % 32
  let count := words + bnat (tail && decide (0 < total))
  let s := s.modPort x fun p => { p with wrongBytes := assocSet 0 p.wrongBytes n.val left }
  (List.replicate count ()).foldl (fun s _ => s.countStateRefused n (some x)) s

/-- Append bytes to the addressed channel; `last` closes the packet or makes the tail commit (R63). -/
def State.cycleBytes (s : State) (x : Port) (n : Fin 20) (bs : List Byte) (last : Bool) : State :=
  let c := s.chan n
  let own := c.cfg.producer == End.ofPort x
  if c.cfg.cls = .raw then
    if own then s.rawBytes n (some x) last bs else s.wrongRaw x n bs.length last
  else if !own then
    if (s.port x).wrongOpen.contains n.val then
      if last then s.modPort x fun p => { p with wrongOpen := p.wrongOpen.erase n.val } else s
    else s.wproto x
  else if c.refusing then
    if last then s.modCh n fun c => { c.closeCut with refusing := false } else s
  else if c.pkt.isNone then s.wproto x
  else
    let (ok, s) := s.prodBytes n bs
    if !ok then s.wproto x
    else if last then (s.prodClose n none).modCh n fun c => { c with refusing := false }
    else s

/-- OPEN with a matching WSEQ on the selected channel (R51, R61, R63). -/
def State.cycleOpen (s : State) (x : Port) (n : Fin 20) (c : WCyc) : State :=
  let k := s.chan n
  if k.cfg.cls = .raw then s.wproto x
  else
    let own := k.cfg.producer == End.ofPort x
    let s := if own then s else s.modPort x fun p => { p with wrongOpen := n.val :: p.wrongOpen.erase n.val }
    s.prodOpen n (some x) own (c.field 0 8) (c.field 8 12) (c.field 20 4) (c.field 32 32)

/-- TAIL on the selected channel (R63). -/
def State.cycleTail (s : State) (x : Port) (n : Fin 20) : State :=
  let c := s.chan n
  let own := c.cfg.producer == End.ofPort x
  if !own then
    if c.cfg.cls = .raw then s.wrongRaw x n 0 true
    else s.modPort x fun p => { p with wrongOpen := p.wrongOpen.erase n.val }
  else if c.cfg.cls = .raw then s.tailCommit n (some x) false
  else if c.refusing then s.modCh n fun c => { c.closeCut with refusing := false }
  else (s.prodClose n none).modCh n fun c => { c with refusing := false }

/-- ABORT on the selected channel (R63). -/
def State.cycleAbort (s : State) (x : Port) (n : Fin 20) : State :=
  let c := s.chan n
  if c.cfg.producer ≠ End.ofPort x then
    s.modPort x fun p => { p with wrongOpen := p.wrongOpen.erase n.val,
                                  wrongBytes := assocSet 0 p.wrongBytes n.val 0 }
  else if c.refusing then s.modCh n fun c => { c.dropCut with refusing := false }
  else s.discardOpen n

/-- A FRAME cycle 10011b that no 10100b follows is a write-protocol error (R112). -/
def State.dropFirst (s : State) (x : Port) : State :=
  if (s.port x).frameFirst.isSome then (s.modPort x fun p => { p with frameFirst := none }).wproto x else s

/-- The clock monitor sees the edges that sample a write cycle (R144, R147; notes/assumptions/69.md). -/
def State.noteWclk (s : State) (x : Port) : State :=
  if (s.port x).state = .off ∨ (s.port x).wclkSince.isSome then s
  else s.modPort x fun p => { p with wclkSince := some s.now }

/-- A FRAME marker pair on the selected channel: the checks of R112, then R113. -/
def State.cycleMarker (s : State) (x : Port) (n : Fin 20) (a b : WCyc) : State :=
  let count := a.field 32 12
  let ns := b.field 0 30
  if (s.chan n).cfg.cls ≠ .slice ∨ count = 0 ∨ 512 < count ∨ b.field 30 2 ≠ 0 ∨ 999999999 < ns then s.wproto x
  else
    let own := (s.chan n).cfg.producer == End.ofPort x
    let (bad, s) := s.marker n (some x) own (a.field 0 32) count (a.field 44 8) (b.field 32 32) ns
    if bad then s.attn x 2 else s

/-- FRAME cycle 10100b: with the cycle 10011b just before it a marker, without one a write-protocol error (R112). -/
def State.secondFrame (s : State) (x : Port) (n : Fin 20) (b : WCyc) : State :=
  match (s.port x).frameFirst with
  | some a => (s.modPort x fun p => { p with frameFirst := none }).cycleMarker x n a b
  | none => s.wproto x

/-- Whether a cycle is one of a packet of the port that was open at a snapshot's cut: DATA, DATA-LAST, ABORT or TAIL (R130, R216). -/
def Chan.cutOpen (c : Chan) (x : Port) (wctl : BitVec 5) : Bool :=
  c.cuts.any (!·.closed) && c.refusing && c.cfg.cls != .raw && c.cfg.producer == End.ofPort x &&
  (wctl == 1#5 || (decide (8#5 ≤ wctl) && decide (wctl ≤ 15#5)) || wctl == 18#5 || wctl == 21#5)

/-- A cycle other than SELECT, where the port takes it: sampled, checked for parity, ignored during write
refusal; `act` acts on the selected channel, and without one the cycle is a write-protocol error (R131 to
R133). A FRAME cycle 10011b that waits is dropped by every cycle but 10100b: in silence where the cycle fails parity,
otherwise as a write-protocol error (R112). After a snapshot the cycles before the next SELECT or OPEN are left aside, but for those of a
packet that was open at the cut: none of it is stored, but it closes (R216, R218). -/
def State.cycle (s : State) (x : Port) (wctl : BitVec 5) (c : WCyc) (act : Fin 20 → State → State) : State :=
  s.observed (.cycle x wctl c) fun s =>
  let s0 := s
  let s := s.noteWclk x
  if !s.writeOn x then s
  else
    let s := s.active.sample x wctl c
    let s := if !c.parityOk wctl then (s.modPort x fun p => { p with frameFirst := none }).writeParity x
      else
      let s := if wctl = 20#5 then s else s.dropFirst x
      if (s.port x).writeRefusal then s
      else match (s.port x).wsel with
        | some n => if (s.port x).joinSkip && !(s.chan n).cutOpen x wctl then s else act n s
        | none => if (s.port x).joinSkip then s else s.wproto x
    (s.serveFaults s0).chainPortAnew

end Sys2Proof.Machine
end

