-- ==== Sys2Proof/Machine/Events.lean ====
section
/-! DEFINITION. Commits (R62, R71, R211, R220), the events of channels (R49, R75, R76, R79, R120, R121), and the
isolation, mode and probe of a port (R147 to R150, R226). -/

namespace Sys2Proof.Machine

open Sys2Proof

/-! ### Stored packets on Clover (R204, R220) -/

/-- The data bytes of one Clover segment: 287 words, within the body limit (notes/assumptions/15.md). -/
def cloverSeg : Nat := 9184

/-- Words of a channel from `p` in stored form, uncounted. -/
def State.peekRun (s : State) (n : Fin 20) (k : Nat) (p : Ptr) : List Byte :=
  ((s.sliceWords n false 0 0 k 0 p).1.map (·.data)).flatten

/-- The bodies that carry a packet's bytes in segments; `fuel` bounds them. -/
def segBodies (ch : Nat) : Nat → Nat → List Byte → List (List Byte)
  | 0, _, _ => []
  | fuel + 1, off, bs =>
    let part := bs.take cloverSeg
    let rest := bs.drop cloverSeg
    (copyHead ch (off == 0) rest.isEmpty false false off ++ part) ::
      (if rest.isEmpty then [] else segBodies ch fuel (off + part.length) rest)

/-- The bodies that carry the bytes `bs` of one packet. -/
def bodiesOf (ch : Nat) (bs : List Byte) : List (List Byte) := segBodies ch (bs.length / cloverSeg + 1) 0 bs

/-- The COPY bodies of a packet of payload length `len` whose header is at `p`. -/
def State.packetBodies (s : State) (n : Fin 20) (p : Ptr) (len : Nat) : List (List Byte) :=
  bodiesOf n.val ((s.peekRun n (pktWords len) p).take (16 + len))

/-- A transfer is to go to device 1: it waits for a MSEQ of its own (R205, R220). -/
def State.chainSend (s : State) (body : List Byte) : State :=
  s.modTwin fun t => { t with chainWait := t.chainWait ++ [⟨12, 0, body, false, 0⟩] }

/-- Whether the next MSEQ can name a transfer: fewer than 127 have gone by since the oldest one that is kept, and it is not the
one that device 1 has acknowledged last, so that each acknowledgement names one transfer (R205; DESIGN CHOICE,
notes/assumptions/99.md). -/
def TwinSt.chainRoom (t : TwinSt) : Bool :=
  (t.retained.all fun q => decide ((t.txMseq + 256 - q.mseq) % 256 ∈ List.range' 1 126)) && t.chainAck != some t.txMseq

/-- Send what waits for device 1, as far as MSEQs are free, and keep each transfer until its acknowledgement (R205, R222); `fuel`
bounds the transfers. -/
def State.chainFlow (s : State) : Nat → State
  | 0 => s
  | fuel + 1 =>
    match s.twin.chainWait with
    | [] => s
    | q :: rest =>
      if s.chainHalf false && s.twin.cloverState == 2 && s.twin.chainRoom then
        let m := s.twin.txMseq
        ((s.clover 12 q.body).modTwin fun t =>
          { t with chainWait := rest, retained := t.retained ++ [{ q with mseq := m }],
                   chainBytes := satAdd64 t.chainBytes q.body.length }).chainFlow fuel
      else s

/-- R74 at the producer half of a Chain pair: the damaged header and the committed packets behind it are not sent; their words are
released with the channel's newest transfer that is kept, or at once (R103, R219; notes/assumptions/68.md). -/
def State.chainCut (s : State) (n : Fin 20) : State :=
  let c := s.chan n
  let d := dist c.s c.rp c.cp
  let k := d - fen c.s (s.fenced n) c.rp.off d
  let last := fun (l : List CMsg) => (l.zipIdx.filter fun q => q.1.of n).getLast?.map (·.2)
  let more := fun (q : CMsg) => { q with extra := q.extra + k }
  let s := (s.countCut n).modCh n fun c => { c with rp := c.cp, inPkt := none }
  match last s.twin.chainWait, last s.twin.retained with
  | some i, _ => s.modTwin fun t => { t with chainWait := t.chainWait.modify i more }
  | none, some i => s.modTwin fun t => { t with retained := t.retained.modify i more }
  | none, none => s.modCh n fun c => c.moveLp c.cp c.nextPseq none

/-- The body of a FRAME marker on the chain: SEGF 0 and SEGOFF 0, then the marker's fields (R220). -/
def markerBody (ch : Nat) (f : FstartItem) : List Byte :=
  copyHead ch false false false false 0 ++ leBytes f.epoch 1 ++ leBytes f.count 2 ++ leBytes f.frame 4 ++
  leBytes f.ptsSec 4 ++ leBytes f.ptsNs 4

/-- The producer half of a Chain pair sends what fits the credit, in commit order; `fuel` bounds the
transfers (R220). The Clover transmitter is the channel's consumer: its reads count (R19, R219), a packet takes its PSEQ as it is sent (R66), each transfer is a completed read for the read-idle
timer (R79), it is served while the channel is ACTIVE or DRAINING (R50), an uncorrectable tail entry is a DIRECTORY fault (R72), and a header that R74 cuts
off is passed over as link egress passes it (R103; notes/assumptions/68.md). -/
def State.chainPump (s : State) (n : Fin 20) : Nat → State
  | 0 => s
  | fuel + 1 =>
    if !(s.chainHalf false) || s.twin.cloverState != 2 then s
    else
      let c := s.chan n
      let fs := s.fenced n
      if c.state ≠ .active ∧ c.state ≠ .draining then s
      else if c.fstartDue then
        match c.fstarts with
        | [] => s
        | f :: rest =>
          ((s.modCh n fun c => { c with fstarts := rest }).chainSend (markerBody n.val f)).chainPump n fuel
      else if s.ringReadable n = 0 then s
      else
        let p := skipFenced c.s fs fs.length c.rp
        if c.cfg.cls = .raw then
          if c.chainCredit = 0 then s
          else
            let entry := c.tails.find? fun t => t.at_ == p
            let vb := (entry.map (·.vb)).getD 0
            let (ok, s) := s.readDir n ((entry.map (·.flips)).getD 0)
            if !ok then s
            else
              let (words, s) := s.readRun n 1 p
              let s := s.modCh n fun c =>
                { c with rp := step1 c.s p, chainCredit := c.chainCredit - 1,
                         rawDelivered := (c.rawDelivered + (if vb = 0 then 32 else vb)) % 2 ^ 48 }
              ((s.chainSend (copyHead n.val false false true entry.isSome 0 ++
                words.flatten.take (if vb = 0 then 32 else vb))).readCompleted n).chainPump n fuel
        else if s.headerCut n then ((s.chainCut n).settle n).chainPump n fuel
        else
          let len := c.lenAt p (readWordAt s.mem (s.phys (c.locAt p.off))).data
          let k := pktWords len
          if c.chainCredit < k then s
          else
            let (ok, s) := s.readLen n p
            if !ok then s
            else
              let (bytes, s) := s.segmentBytes n p (16 + len) c.nextPseq true
              let s := (s.assignPseq n (leField bytes 8 4)).modCh n fun c =>
                { c with rp := ptrAfter c.s fs k p, chainCredit := c.chainCredit - k }
              let bodies := bodiesOf n.val bytes
              ((bodies.foldl (fun s b => s.chainSend b) s).readCompleted n).chainPump n fuel

/-- The chain pump of a channel over everything readable, and what then may go out. -/
def State.chainRun (s : State) (n : Fin 20) : State :=
  let s := s.chainPump n (s.ringReadable n + (s.chan n).fstarts.length + 1)
  s.chainFlow s.twin.chainWait.length

/-! ### Commits (R62, R117, R211) -/

/-- The oldest closed packet commits: CP moves past it, and a slice is placed (R62, R117). -/
def State.commitPacket (s : State) (n : Fin 20) : State :=
  match (s.chan n).closing with
  | [] => s
  | k :: rest =>
    let s := s.modCh n fun c => { c with cp := k.endp, closing := rest, lastCommit := some k }
    let s := if k.refused then s else s.modCnt n fun m => { m with pktCommitted := inc32 m.pktCommitted }
    let s := if (s.chan n).cfg.cls = .slice ∧ s.chainHalf false = false then s.placeSlice n k else s
    let s := if (s.chan n).copied ∧ s.announces then
        (s.packetBodies n k.slot k.len).foldl (fun s b => s.announce 7 b) s
      else s
    (s.settle n).chainRun n

/-! ### Disabling (R49) -/

/-- A channel becomes DISABLED: its pending commands complete with FLUSHED, and what it holds goes (R48, R49). PAUSED clears here and
at the enable too, beside the three events of R85: a disabled channel keeps no pause (DESIGN CHOICE, notes/assumptions/96.md). -/
def State.disableChannel (s : State) (n : Fin 20) : State :=
  let s := ((s.presetPending n rsFlushed).stopChannel n).modCh n fun c =>
    { c with state := .disabled, cfg := { c.cfg with enable := 0 }, paused := false,
             deferred := [] }
  (s.mapChanged.evalHold n).servicePorts

/-- Whether a DRAINING channel has nothing left (R49). -/
def State.drained (s : State) (n : Fin 20) : Bool :=
  let c := s.chan n
  c.state == .draining && c.pkt.isNone && c.closing.isEmpty && decide (s.readable n = 0) &&
  !(c.cfg.cls == .raw && c.tailPending) &&
  (c.cfg.cls != .slice || c.records.toList.all fun r => r.state == .free || r.state == .held)

/-! ### Meanings: commits and channel events -/

/-- PACKET_COMMIT: the bank has granted the header write of the oldest closed packet (R62). -/
def execPacketCommit (n : Fin 20) (s : State) : Host.Outcome State Fault Refusal :=
  .next ((s.commitPacket n).serveFaults s)

/-- DEFERRED_TAIL_COMMIT: a pending tail commit, as soon as space and an entry are free (R71). -/
def execDeferredTailCommit (n : Fin 20) (s : State) : Host.Outcome State Fault Refusal :=
  .next ((if (s.chan n).tailPending then (s.tailCommit n none true).chainRun n else s.chainRun n).serveFaults s)

/-- Serve the read of port `x` that waits, whatever its channel, then what it held back (R75); a command that has been decided
meanwhile completes (R49). -/
def State.wakeReader (s : State) (x : Port) : State :=
  if s.shadows then s
  else match (s.port x).q.find? (fun k => k.stalled && k.isRead) with
    | some k =>
      match chanOf k.c.ch.toNat with
      | some n => (s.serveRead x n k).service x
      | none => s
    | none => s.service x

/-- WAITING_READ_DELIVERY: a waiting read delivers what has become readable (R75). -/
def execWaitingReadDelivery (x : Port) (s : State) : Host.Outcome State Fault Refusal := .next (s.wakeReader x)

/-- STALL_TIMEOUT: a waiting read completes with TIMEOUT, unless a word is readable now (R76). -/
def execStallTimeout (dt : Nat) (x : Port) (s : State) : Host.Outcome State Fault Refusal :=
  let s := s.advance dt
  .next (match (s.port x).q.find? (fun k => k.stalled && k.isRead) with
    | none => s
    | some k =>
      match chanOf k.c.ch.toNat with
      | none => s
      | some n =>
        let lim := (s.chan n).cfg.stallTimeout
        let due := (s.port x).stallStart.any fun a => decide (a + us lim ≤ s.pwr.timeclk)
        if lim = 0 ∨ due = false ∨ s.shadows then s
        else
          let t := s.wakeDoze.wakeReader x
          if (t.port x).q.contains k then ((t.finishStat x k rsTimeout).readCompleted n).service x else t)

/-- READ_IDLE_TIMEOUT: a raw tail commit, and the read-idle cause once per idle period (R79). -/
def execReadIdleTimeout (dt : Nat) (n : Fin 20) (s : State) : Host.Outcome State Fault Refusal :=
  let s := s.advance dt
  .next (
    let s0 := s
    let c := s.chan n
    let due := c.ridleStart.any fun a => decide (a + us c.cfg.ridleTimeout ≤ s.pwr.timeclk)
    if c.cfg.ridleTimeout = 0 ∨ due = false ∨ c.ridleFired ∨ s.ridleNonEmpty n = false then s
    else
      let s := s.wakeDoze.modCh n fun c => { c with ridleFired := true, ridleStart := none }
      let s := if c.cfg.cls = .raw then (s.tailCommit n none false).chainRun n else s
      (s.serveFaults s0).attnCh n 10)

/-- GATE_OPEN: wall time reaches PTS − GATE_LEAD in the record's epoch (R120). -/
def execGateOpen (dt : Nat) (n : Fin 20) (slot : Fin 3) (s : State) : Host.Outcome State Fault Refusal :=
  let s := s.advance dt
  let t := s.openDueGate n slot
  .next (if t.chan n = s.chan n then t else t.wakeDoze)

/-- STANDIN_DEADLINE: a READP that waits on an absent slice meets its deadline (R121, R122). -/
def execStandinDeadline (dt : Nat) (n : Fin 20) (s : State) : Host.Outcome State Fault Refusal :=
  let s := s.advance dt
  .next (if s.shadows then s
    else
      let t := (((s.retryWaiting .A n).service .A).retryWaiting .B n).service .B
      if t.chan n = s.chan n then t else t.wakeDoze)

/-- INVARIANT_BROKEN: CHENG finds the invariant of R42 broken; the channel enters FAULT with cause POINTER. -/
def execInvariantBroken (n : Fin 20) (s : State) : Host.Outcome State Fault Refusal :=
  .next (s.chFault n 3).servicePorts

/-! ### Isolation (R147 to R150) -/

/-- What a read that had delivered its first word leaves when its port is isolated: the packet ends; on a
directory-read channel, where a standby has observed part of a slice, the position moves past it (R147). -/
def State.finishPacket (s : State) (k : PCmd) : State :=
  match chanOf k.c.ch.toNat with
  | none => s
  | some n =>
    let c := s.chan n
    match c.inPkt with
    | some p =>
      if k.opc ≠ 2#5 ∨ k.delivered = 0 then s
      else if s.dirRead n then (s.modCh n fun c => { c with inPkt := none }).observePass n p.frame
      else
        ((s.modCh n fun c => { c with rp := ptrAfter c.s (s.fenced n) (p.total - p.done) c.rp, inPkt := none }).flushIfDue n).settle n
    | none => s

/-- Isolation of a port (R147, R149): accepted commands are lost, open packets and packer bytes go, write
refusal begins, selections clear, locks go free, ATTN ISOLATED. A port that is OFF stays OFF (R150). -/
def State.isolate (s : State) (x : Port) : State :=
  let s0 := s
  let cmds := (s.port x).q.filter fun k => !k.decoder
  let s := cmds.foldl (fun s k => s.finishPacket k) s
  let s := s.modPort x fun p =>
    let lost := cmds.foldl (fun m k => m ||| 2 ^ k.tag) 0
    let acted := cmds.foldl (fun m k => if k.acted then m ||| 2 ^ k.tag else m) 0
    { p with q := [], stallStart := none, wsel := none, rsel := none, writeRefusal := true, wrongOpen := [],
             wrongBytes := [], frameFirst := none, state := if p.state = .off then .off else .isolated,
             acc := { p.acc with lost := p.acc.lost ||| lost, acted := p.acc.acted ||| acted,
                                 isolations := p.acc.isolations + 1, lostCount := p.acc.lostCount + cmds.length },
             cnt := { p.cnt with isolations := inc32 p.cnt.isolations,
                                 lostCmds := satAdd p.cnt.lostCmds cmds.length } }
  let s := s.forChans fun n s => if (s.chan n).cfg.producer = End.ofPort x then s.discardOpen n else s
  ((((s.freeLocks (portOwner x)).attn x 13).portEvt x 6 (s.port x).lastAccepted.toNat).active.serveFaults s0).chainPortAnew

/-- Whether a port's block is out of reset. -/
def State.portUp (s : State) (x : Port) : Bool := s.blockUp (7 + portIdx x)

/-- The port is isolated and returns to OFF (R150). -/
def State.portOff (s : State) (x : Port) : State :=
  if (s.port x).state = .off then s.modPort x fun p => { p with probing := none }
  else (s.isolate x).modPort x fun p => { p with state := .off, probing := none }

/-- The probe step starts, where the port block runs and VDDIO_x is in range (R150, R226). -/
def State.startProbe (s : State) (x : Port) : State :=
  if (s.port x).state = .off ∧ s.portUp x ∧ (s.port x).rail then
    s.modPort x fun p => { p with probing := some s.now }
  else s

/-- MODE of a port (R150, R151). -/
def State.applyPortMode (s : State) (x : Port) (v : Nat) : State :=
  let s := s.modPort x fun p => { p with mode := v }
  if v = 0 then s.portOff x
  else if (s.port x).state = .off then s.startProbe x
  else if v = 2 ∧ (s.port x).probe = 0 then s.portOff x
  else s

/-- The ODT code a probe ends with (R226). -/
def probeOdt (odt : Nat) (detected : Bool) (z : Nat) : Nat :=
  if odt ≠ 255 then odt
  else if !detected then 3
  else if z < 50 then 1 else if z ≤ 90 then 2 else 3

/-- CLOCK_ABSENT: the clock monitor's verdict on both clocks of a port, each absent or present. A clock that is present again counts
from here. Where one is absent, a READY or SEQGAP port is isolated (R144, R147, R150, R225; notes/assumptions/69.md). -/
def execClockAbsent (x : Port) (wclk rclk : Bool) (s : State) : Host.Outcome State Fault Refusal :=
  let verdict := fun (absent : Bool) (since : Option Nat) => if absent then none else some (since.getD s.now)
  let s := s.modPort x fun p => { p with wclkSince := verdict wclk p.wclkSince, rclkSince := verdict rclk p.rclkSince }
  .next (if (wclk || rclk) && ((s.port x).state == .ready || (s.port x).state == .seqgap) then s.isolate x
    else if rclk then s.freeLocks (portOwner x) else s)

/-- STARTUP_TIME is latched once no port probe of the start remains (R284, R288). -/
def State.latchStartup (s : State) : State :=
  if s.rst.startupPending && s.pA.probing.isNone && s.pB.probing.isNone then
    s.modRst fun r =>
      { r with startupPending := false, startupTime := min max32 ((s.now - r.releasedAt) / 1000000) }
  else s

/-- PROBE_END: the 200 µs step ends; the port reaches ISOLATED or stays OFF (R150, R226). -/
def execProbeEnd (dt : Nat) (x : Port) (detected : Bool) (z : Nat) (s : State) : Host.Outcome State Fault Refusal :=
  let s := s.advance dt
  .next (if (s.port x).probing.any (fun a => decide (a + us 200 ≤ s.now)) then
      let s := s.modPort x fun p =>
        { p with probing := none, probe := bnat detected }
      let s := if (s.port x).mode = 1 ∨ ((s.port x).mode = 2 ∧ detected) then
          (s.modPort x fun p => { p with state := .isolated, odtInUse := probeOdt p.odt detected z }).attn x 13
        else s
      s.latchStartup
    else s)

/-- PORT_RAIL_RESTORED: VDDIO_x in range for 100 ms; firmware brings the port out of OFF and logs event 1020h
(R328). -/
def execPortRailRestored (x : Port) (s : State) : Host.Outcome State Fault Refusal :=
  let s := s.modPort x fun p => { p with rail := true }
  .next (if s.yar.serving then
      (if (s.port x).mode ≠ 0 then s.startProbe x else s).log 0x1020 0 6 (portIdx x)
    else s)

end Sys2Proof.Machine
end

