-- ==== Sys2Proof/Machine/Enable.lean ====
section
/-! DEFINITION. Enabling, holding, draining and disabling a channel (R49, R52, R53), and the abort codes that a
refused request carries (R259). -/

namespace Sys2Proof.Machine

open Sys2Proof

/-! ### Abort codes (R259) -/

/-- NO_OBJECT. -/
def abNoObject : Nat := 0x0101
/-- NO_SUBINDEX. -/
def abNoSub : Nat := 0x0102
/-- READ_ONLY. -/
def abReadOnly : Nat := 0x0201
/-- WRITE_ONLY. -/
def abWriteOnly : Nat := 0x0202
/-- LOCKED. -/
def abLocked : Nat := 0x0203
/-- LEVEL. -/
def abLevel : Nat := 0x0204
/-- TYPE_LENGTH. -/
def abType : Nat := 0x0301
/-- RANGE. -/
def abRange : Nat := 0x0302
/-- STATE. -/
def abState : Nat := 0x0303
/-- BUSY. -/
def abBusy : Nat := 0x0401
/-- AUTH. -/
def abAuth : Nat := 0x0501
/-- SEQ. -/
def abSeq : Nat := 0x0502

/-! ### The enable checks (R40, R53) -/

/-- Whether two block ranges overlap. -/
def overlaps (a la b lb : Nat) : Bool := decide (a < b + lb) && decide (b < a + la)

/-- Whether a master holds a right over every block of a region (R26, R39). -/
def State.holds (s : State) (m : Option (Fin 6)) (base size : Nat) (write : Bool) : Bool :=
  match m with
  | some m => (List.range size).all fun i => s.allowed m (base + i) write
  | none => true

/-- Whether class and endpoints meet R40. -/
def ChCfg.endsOk (g : ChCfg) : Bool :=
  g.producer != .none && g.consumer != .none && !(g.producer == .link && g.consumer == .link) &&
  (g.cls != .slice || (g.producer != .yarrow && g.consumer != .yarrow))

/-- Whether the release mode meets R40. -/
def ChCfg.relOk (g : ChCfg) : Bool :=
  (g.consumer != .link || g.relmode == .explicit) && (g.relmode != .framehold || g.cls == .slice)

/-- Check 09h of R53, as R55 applies it too. -/
def ChCfg.limitsOk (g : ChCfg) : Bool :=
  let sz := g.size * 128
  decide (g.pafOffset ≤ sz) && decide (g.paeOffset ≤ sz) &&
  (g.cls != .slice ||
    (decide (g.lowWm < g.highWm) && decide (g.highWm ≤ sz) && decide (g.sliceWaitMin ≤ g.sliceWaitMax)))

/-- Whether firmware reports SETTINGS_UNREADABLE (R275). -/
def State.unreadable (s : State) : Bool := s.od.storeState == 3

/-- Whether four other enabled channels use IDLE_ITEM (R56). -/
def State.idleFull (s : State) (n : Fin 20) : Bool :=
  decide (4 ≤ ((List.finRange 20).filter fun i => i != n && (s.chan i).enabled && (s.chan i).cfg.emptyMode == 1).length)

/-- The first failing check of R53 for channel `n`, or 0. While MEMCTL is held the memory counts as not open (R290; DESIGN CHOICE,
notes/assumptions/100.md). -/
def State.enableCheck (s : State) (n : Fin 20) (v : Nat) : Nat :=
  let g := (s.chan n).cfg
  let other := (List.finRange 20).any fun i =>
    i != n && (s.chan i).enabled && overlaps g.base g.size (s.chan i).cfg.base (s.chan i).cfg.size
  let area := s.mem.areas.toList.any fun a => areaOn a && overlaps g.base g.size (areaBase a) (areaSize a)
  if !s.memOpen || !s.blockUp 0 then 1
  else if !(decide (g.base + g.size ≤ 32768) && decide (1 ≤ g.size)) then 2
  else if other then 3
  else if area then 4
  else if !(s.chainHalf true) && !(s.holds g.producer.master g.base g.size true) then 5
  else if !(s.chainHalf false) && !(s.holds g.consumer.master g.base g.size false) then 6
  else if !g.endsOk then 7
  else if !g.relOk then 8
  else if !g.limitsOk then 9
  else if v ≠ 2 ∧ s.unreadable then 10
  else if s.capacity n < 128 then 11
  else if g.emptyMode = 1 ∧ s.idleFull n = true then 12
  else 0

/-! ### Moves between states (R49) -/

/-- A channel becomes enabled, empty (R49, R66). Deferred fences take effect at once; the read-idle idle period
starts anew. -/
def State.startChannel (s : State) (n : Fin 20) (st : ChState) (v : Nat) : State :=
  let s := s.modCh n fun c =>
    let c := { c with wp := {}, cp := {}, rp := {}, mp := {}, lp := {}, markValid := false, pkt := none,
                      rawBuf := [], tailPending := false, refusing := false, closing := [], tails := [] }
    { c.clearRecords with
      state := st, cfg := { c.cfg with enable := v }, enableRefusal := 0, faultCause := 0, deferred := [],
      nextPseq := (c.lastPseq + 1) % 65536, markPseq := (c.lastPseq + 1) % 65536, inPkt := none,
      markPkt := none, flushArmed := false, rawDelivered := 0, ridleStart := none, ridleFired := false,
      fstarts := [], holdReq := false, paused := false, ingNext := 0, est := 0, snap := {}, cuts := [], lastCommit := none,
      sliceWait := c.cfg.sliceWaitMax }
  s.mapChanged.settle n

/-- The producer side of a hold or drain: a raw buffer receives a tail commit at once (R49, R71). -/
def State.tailAtHold (s : State) (n : Fin 20) : State :=
  if (s.chan n).cfg.cls = .raw then s.tailCommit n none true else s

/-- An enabled channel goes to HELD; from ACTIVE its raw buffer receives a tail commit (R49). -/
def State.holdChannel (s : State) (n : Fin 20) : State :=
  if (s.chan n).state = .active ∨ (s.chan n).state = .draining then
    let t := s.modCh n fun c => { c with state := .held, cfg := { c.cfg with enable := 2 } }
    (if (s.chan n).state = .active then t.tailAtHold n else t).settle n
  else s

/-- An enabled channel goes to DRAINING (R49). -/
def State.drainChannel (s : State) (n : Fin 20) : State :=
  if (s.chan n).state = .active ∨ (s.chan n).state = .held then
    let s := s.modCh n fun c => { c with state := .draining, cfg := { c.cfg with enable := 3 } }
    (s.tailAtHold n).settle n
  else s

/-- An enabled channel goes to ACTIVE (R49). -/
def State.resumeChannel (s : State) (n : Fin 20) : State :=
  (s.modCh n fun c => { c with state := .active, cfg := { c.cfg with enable := 1 } }).settle n

/-- A refused enable. -/
def State.refuseEnable (s : State) (n : Fin 20) (code : Nat) : Nat × State :=
  (abState, s.modCh n fun c => { c with enableRefusal := code })

/-- The effect of a write of ENABLE: the abort code, 0 for OK (R49, R52, R53, R275). While CHENG is held every channel stays DISABLED
(R290). Under SETTINGS_UNREADABLE a write of 01h or 03h is refused with code 0Ah whatever earlier check of R53 fails
too (DESIGN CHOICE, notes/assumptions/65.md). A write of 00h to a DISABLED channel is accepted under R49, the memory closed or not, although
R23 speaks of an ENABLE write to any channel: only a channel that is to be enabled waits for the memory (DESIGN CHOICE,
notes/assumptions/96.md). -/
def State.moveEnable (s : State) (n : Fin 20) (v : Nat) : Nat × State :=
  let st := (s.chan n).state
  if !s.blockUp 1 then (if v = 0 then (0, s) else (abState, s))
  else if s.unreadable ∧ (v = 1 ∨ v = 3) then s.refuseEnable n 10
  else match st with
  | .disabled =>
    if v = 0 then (0, s)
    else if v = 3 then (abState, s)
    else
      let code := s.enableCheck n v
      if code ≠ 0 then s.refuseEnable n code
      else (0, s.startChannel n (if v = 1 then .active else .held) v)
  | .fault => if v = 0 then
      -- FAULT_CAUSE stays until the next enable
      (0, s.disableChannel n) else (abState, s)
  | .active => (0, if v = 0 then s.disableChannel n else if v = 2 then s.holdChannel n
                   else if v = 3 then s.drainChannel n else s)
  | .held => (0, if v = 0 then s.disableChannel n else if v = 1 then s.resumeChannel n
                 else if v = 3 then s.drainChannel n else s)
  | .draining => (0, if v = 0 then s.disableChannel n else if v = 1 then s.resumeChannel n
                     else if v = 2 then s.holdChannel n else s)

/-- A write of ENABLE. An accepted value also goes into firmware's copy of what it will write again after a reset of Stream Buffer
reach, where that is still to come (R291). -/
def State.writeEnable (s : State) (n : Fin 20) (v : Nat) : Nat × State :=
  let (code, t) := s.moveEnable n v
  if code ≠ 0 ∨ s.rst.enableCopy.isEmpty then (code, t)
  else (code, t.modRst fun r => { r with enableCopy := r.enableCopy.set n.val v })

/-- A stored ENABLE applied at start (R49, R52): 01h leads to ACTIVE, 02h and 03h to HELD. After a stored 03h the entry
reads 02h, the value of the state reached (DESIGN CHOICE, notes/assumptions/66.md). A channel that a Yarrow reset has left enabled takes
the stored value as a write of ENABLE would set it (R291). -/
def State.applyStoredEnable (s : State) (n : Fin 20) (v : Nat) : State :=
  if (s.chan n).state ≠ .disabled then
    if s.unreadable then s else (s.moveEnable n (if v = 3 then 2 else v)).2
  else if v = 0 then s
  else
    let code := s.enableCheck n v
    if code ≠ 0 then s.modCh n fun c => { c with enableRefusal := code }
    else s.startChannel n (if v = 1 then .active else .held) (if v = 1 then 1 else 2)

end Sys2Proof.Machine
end

