-- ==== Sys2Proof/Machine/Twin.lean ====
section
/-! DEFINITION. Twin pairs (R202 to R222): roles, the ownership latch, shadowing, divergence, takeover,
joining, and the Chain mode. -/

namespace Sys2Proof.Machine

open Sys2Proof

/-! ### PLAN_DIGEST, JOIN_BLOCK, STATUS (R204, R218) -/

/-- The values of 2000h + n, subs 01 to 13 (R57). -/
def ChCfg.planBytes (g : ChCfg) : List Byte :=
  leBytes g.cls.code 1 ++ leBytes g.producer.code 1 ++ leBytes g.consumer.code 1 ++ leBytes g.base 2 ++
  leBytes g.size 2 ++ leBytes g.skew 1 ++ leBytes g.pafOffset 4 ++ leBytes g.paeOffset 4 ++
  leBytes g.highWm 4 ++ leBytes g.lowWm 4 ++ leBytes g.ridleTimeout 4 ++ leBytes g.relmode.code 1 ++
  leBytes g.emptyMode 1 ++ leBytes g.stallTimeout 4 ++ leBytes g.sliceWaitMin 4 ++ leBytes g.sliceWaitMax 4 ++
  leBytes g.gateLead 4 ++ leBytes (bnat g.compat) 1 ++ leBytes g.enable 1

/-- PLAN_DIGEST with a value of 1200h.01 ROLE (R218). -/
def State.digestAs (s : State) (role : Nat) : Nat :=
  crc32c (leBytes role 1 ++ leBytes s.rst.pairNext 1 ++
    (s.ch.toList.map fun c => c.cfg.planBytes).flatten ++ takePad 32 s.mem.idlePattern ++
    (s.mem.areas.toList.map fun a => leBytes a.toNat 4).flatten ++
    (s.mem.desc.toList.map fun d => (d.toList.map fun w => leBytes w.toNat 4).flatten).flatten)

/-- PLAN_DIGEST (R218). -/
def State.planDigest (s : State) : Nat := s.digestAs s.rst.roleNext

/-- The device role that a PLAN_DIGEST covers: the one with which this device's own plan gives the digest, else the role `known` from a
STATUS before, else a free value, since no message names the role (R202, R204, R218; notes/assumptions/73.md). -/
def State.roleOfDigest (s : State) (known digest : Nat) : Nat :=
  if digest = s.digestAs 1 then 1
  else if digest = s.digestAs 2 then 2
  else if known ≠ 0 then known
  else if Config.planSender digest then 1 else 2

/-- Whether the partner has another role than the one latched here (R202). -/
def State.roleDiffers (s : State) : Bool := s.twin.partnerDevRole != 0 && s.twin.partnerDevRole != s.rst.roleInUse

/-- Whether a channel is shadowed: enabled, with a port as consumer (R210). -/
def Chan.shadowed (c : Chan) : Bool :=
  c.enabled && (c.cfg.consumer == .portA || c.cfg.consumer == .portB)

/-- JOIN_BLOCK: the first condition that remains (R218). -/
def State.joinBlock (s : State) : Nat :=
  let t := s.twin
  if t.cloverState ≠ 2 then 1
  else if t.partnerRole ≠ 0 ∧ t.partnerRole ≠ 1 then 2
  else if t.partnerMode ≠ t.pairInUse ∨ s.roleDiffers then 3
  else if t.partnerDigest ≠ s.planDigest then 4
  else if !t.snapDone then 5
  else if s.ch.toList.any (fun c => c.shadowed && c.cfg.cls == .slice && decide (c.shadowFrames < 2)) then 6
  else if s.ch.toList.any (!·.cuts.isEmpty) then 7
  else if !s.timeValid then 8
  else 0

/-- The body of STATUS (R204). -/
def State.statusBody (s : State) : List Byte :=
  let t := s.twin
  leBytes t.role.code 1 ++ leBytes t.pairInUse 1 ++ leBytes (bnat t.twinId) 1 ++
    leBytes s.joinBlock 1 ++ leBytes s.planDigest 4 ++ leBytes s.fwVersion 4 ++ zeros 4

/-- The STATUS message (R204). -/
def State.sendStatus (s : State) : State := s.clover 1 s.statusBody

/-- STATUS again where what it names has changed since the last one (R204). -/
def State.statusAnew (s : State) : State :=
  if s.twin.cloverState = 2 ∧ s.twin.statusLast ≠ s.statusBody then s.sendStatus else s

/-- A change of role: ATTN TWIN, a fresh CAPS and a STATUS (R89, R162, R204, R209). -/
def State.setRole (s : State) (r : TwinRole) : State :=
  if s.twin.role = r then s
  else
    let s := s.modTwin fun t =>
      { t with role := r, standbyHold := if r = .active then t.standbyHold else 0,
               joinLog := if r = .joining then t.joinLog else [] }
    ((s.attnBoth 16).twinChanged).sendStatus

/-- STATUS where JOIN_BLOCK or, with `plan`, PLAN_DIGEST has changed since `s`; a change of role has sent it (R204). -/
def State.statusIfChanged (t s : State) (plan : Bool) : State :=
  if s.twin.cloverState = 2 ∧ t.twin.cloverState = 2 ∧ t.twin.role = s.twin.role ∧
      (t.joinBlock ≠ s.joinBlock ∨ (plan = true ∧ t.planDigest ≠ s.planDigest)) then t.sendStatus
  else t

/-- The role FAULT with its cause (R209). -/
def State.twinFault (s : State) (cause : Nat) : State :=
  (s.modTwin fun t => { t with twinFault := cause }).setRole .fault

/-- JOINING starts: JOIN_REQ once Clover is up (R209). -/
def State.startJoining (s : State) : State :=
  let s := s.modTwin fun t =>
    { t with snapDone := false, snapParts := 0, snapTotal := 0, waiting := false, ownEvents := [],
             handed := false, releasing := false, partnerEvents := [], refusals := [], ownRefusals := [],
             standins := [], atomics := [], joinLog := [] }
  (s.setRole .joining).clover 11 []

/-- A divergence of a STANDBY (R212). -/
def State.divergence (s : State) (cause : Nat) : State :=
  if s.twin.role = .standby ∧ s.twin.pairInUse = 1 then ((s.diverge cause).twinChanged.sendStatus).clover 11 []
  else s

/-! ### The ownership latch (R206, R207, R209) -/

/-- The latch is released (R206, R207). -/
def State.releaseLatch (s : State) : State := s.modTwin fun t => { t with own := false, waiting := false }

/-- Whether CHENG and both port engines run, so that the heartbeat toggles (R207). -/
def State.enginesRun (s : State) : Bool := s.blockUp 1 && s.blockUp 7 && s.blockUp 8

/-- The heartbeat toggles again once CHENG and the port engines run (R207). -/
def State.heartbeatRuns (s : State) : State :=
  if s.twin.started && s.enginesRun then s.modTwin fun t => { t with heartbeat := true } else s

/-- Whether Clover trains: its block runs on the root PLL, its rail stands, and a partner is present in a pair mode that uses
it (R203, R294, R328). -/
def State.cloverTrains (s : State) : Bool :=
  s.blockUp 6 && s.pwr.clkSource == 1 && s.twin.rail && s.twin.partnerPresent && s.twin.pairInUse != 0

/-- Training starts where Clover is down and can train (R203, R294). -/
def State.startTraining (s : State) : State :=
  if s.twin.cloverState = 0 ∧ s.twin.started = true ∧ s.cloverTrains = true then s.modTwin fun t => { t with cloverState := 1 }
  else s

/-- A device takes its first role once its CLOVER block runs (R202, R209). -/
def State.twinStart (s : State) : State :=
  if s.twin.started || !s.blockUp 6 then s
  else
    let s := s.modTwin fun t =>
      { t with started := true, heartbeat := s.enginesRun, cloverState := if s.cloverTrains then 1 else 0 }
    if s.twin.pairInUse = 2 then s
    else if s.twin.pairInUse = 0 then
      if s.twin.busLow then s.twinFault 2 else s.modTwin fun t => { t with waiting := true }
    else if s.twin.partnerPresent && s.twin.busLow then s.startJoining
    else s.modTwin fun t => { t with waiting := true }

/-! ### Takeover (R214, R215) -/

/-- What the new active launches for a busy tag whose atomic operation was announced: its result (R215). -/
def State.resumeAtomics (s : State) (x : Port) : State :=
  (s.port x).q.foldl (fun s k =>
    let code := portIdx x + 1
    match s.twin.atomics.find? (fun a =>
        a.1 == code && a.2.1 == k.opc.toNat && a.2.2.1 == k.c.cseq.toNat) with
    | some a =>
      let stat := a.2.2.2.1
      if k.opc = 9#5 ∨ 12 ≤ k.opc.toNat ∨ stat = rsAccess then s.finishStat x k stat
      else s.finish x k (valueBeat k.tag stat a.2.2.2.2.toNat)
    | none => s) s

/-- The slice or stand-in payload that the new active holds for the slice in progress: what the old active announced,
or the slice itself (R211, R215). -/
def State.resumeEntry (s : State) (n : Fin 20) (r : FrameRec) (k : Nat) : Option SliceEntry :=
  match s.announcedStandin n k r.frame with
  | some a => if a.1 then (s.chan n).history r k else none
  | none => (r.entry k).filter (·.present)

/-- Read the directory entry of the slice or stand-in that the new active continues (R115, R215). -/
def State.readResume (s : State) (n : Fin 20) (r : FrameRec) (k : Nat) : Bool × State :=
  match s.announcedStandin n k r.frame with
  | some a => if a.1 then s.readHistory n r k else (true, s)
  | none => s.readDirEntry n r k

/-- Words of 00h with UNCORR in place of those of a slice from `done` on (R215). -/
def unsourcedWords (len done : Nat) : List RWord :=
  let total := pktWords len
  (List.range (total - done)).map fun j =>
    { data := zeros 32, vb := vbOf len total (done + j), stat := rsUncorr, cut := false, last := done + j + 1 == total }

/-- The remaining words of a slice that this device does not hold go out, and the slice counts (R215). -/
def State.emitUnsourced (s : State) (x : Port) (k : PCmd) (len done : Nat) : State :=
  (s.emitWords x k true (unsourcedWords len done)).modTwin fun t => { t with unsourced := inc32 t.unsourced }

/-- The words of a slice that the old active began and the new one continues: stored words from `done` on, or
words of 00h with UNCORR where it does not hold the slice (R215). -/
def State.resumeSlice (s : State) (x : Port) (n : Fin 20) (k : PCmd) (p : PktPos) : State :=
  match (s.chan n).slotFor p.frame with
  | none => (s.modCh n fun c => { c with inPkt := none }).emitUnsourced x k p.len p.done
  | some i =>
    let r := (s.chan n).record i
    let held := (s.resumeEntry n r r.pos).filter (·.len == p.len)
    let (ok, s) := s.readResume n r r.pos
    if !ok then s
    else
      let s := (s.passStandin n r.pos r.frame).modCh n fun c => { c with inPkt := none }
      match held with
      | some e =>
        let c := s.chan n
        let (ws, s) := s.sliceWords n true p.len p.total (p.total - p.done) p.done
          (ptrAfter c.s (s.fenced n) p.done e.start)
        let s := s.modCh n fun c => c.passSlice i
        (s.emitWords x k true ws).settle n
      | none => ((s.modCh n fun c => c.passSlice i).emitUnsourced x k p.len p.done).settle n

/-- Whether the slice or stand-in whose header the old active launched for a PEEK, of payload length `len`, can be continued here:
a slice that this device holds, or for a stand-in the history that the old active announced (R215). -/
def State.peekHeld (s : State) (n : Fin 20) (len : Nat) (standin : Bool) : Bool :=
  match s.nextSlice n with
  | none => false
  | some (i, k) =>
    let r := (s.chan n).record i
    (s.announcedStandin n k r.frame).isSome == standin && (s.resumeEntry n r k).any (·.len == len)

/-- Continue the PEEK of a slice whose header the old active launched: where the new active has no words for it, words of
00h with UNCORR (R215). -/
def State.resumePeek (s : State) (x : Port) (n : Fin 20) (k : PCmd) : State :=
  match k.peekHead with
  | none => s
  | some (len, standin) =>
    if !s.dirRead n || k.delivered == 0 || s.peekHeld n len standin then s
    else s.emitUnsourced x k len k.delivered

/-- Continue the slice in progress at a port, if there is one (R215). -/
def State.resumeReads (s : State) (x : Port) : State :=
  match (s.port x).q.find? (fun k => (k.opc == 2#5 || k.opc == 3#5) && decide (0 < k.delivered)) with
  | none => s
  | some k =>
    match chanOf k.c.ch.toNat with
    | none => s
    | some n =>
      if k.opc = 3#5 then s.resumePeek x n k
      else match (s.chan n).inPkt with
      | some p => if s.dirRead n then s.resumeSlice x n k p else s
      | none => s

/-- Takeover: this device owns the shared outputs and continues each busy tag (R214, R215). -/
def State.takeover (s : State) (r : TwinRole) : State :=
  let s := s.modTwin fun t =>
    { t with own := true, waiting := false, handed := false, busLow := false, takeovers := inc32 t.takeovers,
             stallFrom := some t.lastBeatAt, ownEvents := [], partnerEvents := [], refusals := [], ownRefusals := [] }
  let s := s.setRole r
  let s := s.forChans fun n s => if (s.chan n).copied then s.modCh n fun c => { c with copyGap := true } else s
  let s := (s.resumeAtomics .A).resumeAtomics .B
  let s := s.modTwin fun t => { t with atomics := [] }
  let s := (s.resumeReads .A).resumeReads .B
  s.servicePorts

/-- Beats launched for each tag of a port, as HANDOVER carries them (R204). -/
def State.launchedCounts (s : State) (x : Port) : List Nat :=
  (List.range 128).map fun t => (((s.port x).q.find? fun k => k.tag == t && !k.decoder).map (·.delivered)).getD 0

/-- A graceful release: HANDOVER, then the latch; this device is STANDBY at once (R214). Until the partner pulls
BUS_OWN_N the release can still be cancelled. -/
def State.gracefulRelease (s : State) : State :=
  let counts := s.launchedCounts .A ++ s.launchedCounts .B
  let s := s.clover 10 (counts.map fun k => leBytes k 2).flatten
  (s.releaseLatch.modTwin fun t => { t with busLow := false, releasing := true, snapOut := [] }).setRole .standby

/-- A partner that has diverged before HANDOVER reached it cancels a graceful release: this device keeps the latch and
is ACTIVE (R214; notes/assumptions/74.md). -/
def State.cancelRelease (s : State) : State :=
  ((s.modTwin fun t => { t with own := true, releasing := false }).setRole .active).servicePorts

/-- The graceful release of a power controller's step: an ACTIVE device with a STANDBY partner (R300, R305). -/
def State.handOver (s : State) : State :=
  if s.twin.pairInUse = 1 ∧ s.twin.role = .active ∧ s.twin.partnerRole = 2 then s.gracefulRelease else s

/-- Heartbeat loss or absence of the partner (R209, R214): the active goes SOLO; a STANDBY takes over at once
where BUS_OWN_N is high; otherwise a STANDBY, and a JOINING or CLOVER_LOST device, wait for the latch. -/
def State.partnerLost (s : State) : State :=
  if s.twin.pairInUse ≠ 1 then s
  else match s.twin.role with
    | .active => s.setRole .solo
    | .standby => if s.twin.busLow then s.modTwin fun t => { t with waiting := true } else s.takeover .solo
    | .joining => s.modTwin fun t => { t with waiting := true }
    | .solo => s
    | .fault => s

/-- A Clover message as it stands on the lane: the head with TYPE, BLEN and MSEQ, the body and the CRC-32C (R204). -/
def CMsg.bytes (m : CMsg) : List Byte :=
  let b := leBytes m.type 1 ++ leBytes m.body.length 2 ++ leBytes m.mseq 1 ++ m.body
  b ++ leBytes (crc32c b) 4

/-! ### Meanings: latch, heartbeat, partner -/

/-- HEARTBEAT_STOP: the watchdog stops the heartbeat, and the latch releases (R207). -/
def execHeartbeatStop (s : State) : Host.Outcome State Fault Refusal :=
  .next ((s.modTwin fun t => { t with heartbeat := false }).releaseLatch)

/-- HEARTBEAT_LOSS: no edge of CLV_HB_IN for 3 µs (R208, R209, R214). -/
def execHeartbeatLoss (s : State) : Host.Outcome State Fault Refusal :=
  .next (s.modTwin fun t => { t with hbInLost := true, hbLosses := inc32 t.hbLosses }).partnerLost

/-- PARTNER_ABSENT: CLV_PRES_N high for 1 µs (R208, R209); Clover goes down with it, so a Chain device reads SOLO
(R219). -/
def execPartnerAbsent (s : State) : Host.Outcome State Fault Refusal :=
  let s := s.modTwin fun t =>
    { t with partnerPresent := false, cloverState := 0, partnerRole := 255, releasing := false, snapOut := [] }
  .next (if s.twin.pairInUse = 2 ∧ s.twin.role = .active then s.setRole .solo else s.partnerLost)

/-- PARTNER_PRESENT: CLV_PRES_N low; training starts at a running device (R203). -/
def execPartnerPresent (s : State) : Host.Outcome State Fault Refusal :=
  .next (s.modTwin fun t => { t with partnerPresent := true, hbInLost := false }).startTraining

/-- LATCH_ACQUIRE: BUS_OWN_N has been high for the wait; a device that waits owns the outputs (R206, R209). A STANDBY
that has its HANDOVER becomes ACTIVE, and SOLO where the heartbeat was lost meanwhile (R214). -/
def execLatchAcquire (s : State) : Host.Outcome State Fault Refusal :=
  let s := s.modTwin fun t => { t with busLow := false }
  .next (
    if s.twin.handed ∧ s.twin.role = .standby ∧ s.twin.waiting = false then s.takeover .active
    else if !s.twin.waiting then s
    else
      let owned := s.modTwin fun t => { t with own := true, waiting := false }
      match s.twin.role with
      | .standby => s.takeover .solo
      | .joining => ((owned.isolate .A).isolate .B).setRole .solo
      | .fault => if s.twin.twinFault = 3 ∧ s.twin.hbInLost then ((owned.isolate .A).isolate .B).setRole .solo else s
      | .solo => owned
      | .active => owned)

/-- BUS_OWN_N_FALL: another device owns the outputs; a starting device that waits goes to JOINING, or in Solo
mode to FAULT with cause CONTENTION (R206, R209). -/
def execBusOwnNFall (s : State) : Host.Outcome State Fault Refusal :=
  let starting := s.twin.waiting && s.twin.role == .solo && !s.twin.own
  let s := s.modTwin fun t => { t with busLow := !t.own, releasing := false }
  .next (if starting then
      let s := s.modTwin fun t => { t with waiting := false }
      if s.twin.pairInUse = 0 then s.twinFault 2 else s.startJoining
    else s)

/-- CLOVER_LOST: BUS_OWN_N still low 2 µs after heartbeat loss (R209). -/
def execCloverLost (s : State) : Host.Outcome State Fault Refusal :=
  .next (if s.twin.pairInUse = 1 ∧ s.twin.hbInLost ∧ (s.twin.role = .standby ∨ s.twin.role = .joining) then
      (s.twinFault 3).modTwin fun t => { t with waiting := true }
    else s)

/-- SWAP: accepted on an ACTIVE device whose partner reports STANDBY (R214). -/
def State.swapAllowed (s : State) : Bool :=
  s.twin.pairInUse == 1 && s.twin.role == .active && s.twin.partnerRole == 2

/-! ### Clover messages received (R205) -/

/-- A message from the partner is lost; device 1 of a Chain pair answers with its last good MSEQ (R205, R212, R217). -/
def State.messageLost (s : State) : State :=
  if s.chainHalf true then s.sendCredits
  else if s.twin.role = .standby then s.divergence 1
  else if s.twin.role = .joining ∧ s.twin.snapDone = false then s.startJoining
  else s

/-- Whether a CHAIN_DATA at device 1 is one that device 0 sends again, with its first MSEQ: that of the last message received or of one
before it (R205; notes/assumptions/27.md). -/
def State.resent (s : State) (mseq : Nat) : Bool :=
  s.chainHalf true && s.twin.rxMseq.any fun r => !serialAfter 8 mseq r

/-- Whether a MSEQ shows that a message before it is lost: every one but that after the last, a resent transfer excepted (R205). -/
def State.mseqGap (s : State) (mseq : Nat) (again : Bool) : Bool :=
  !again && s.twin.rxMseq.any fun r => mseq != (r + 1) % 256

/-- Whether a message at device 1 of a Chain pair is the next one: nothing that it still lacks can stand before it. A first
message follows the last without a gap or loss; in a resend, which device 0 sends from the first transfer that device 1 lacks
on, none that was left aside stands before it and no message since the transfer before it has failed (R205, R220; notes/assumptions/27.md). -/
def State.chainNext (s : State) (mseq : Nat) (again : Bool) : Bool :=
  let t := s.twin
  serialAfter 8 mseq t.chainKnown && t.chainSkipped.all (fun q => !serialAfter 8 mseq q) &&
  (mseq == (t.chainKnown + 1) % 256 || (!t.chainErr && (again || !(t.chainLost || s.mseqGap mseq again))))

/-- What a good message changes in the receiver of Clover: the MSEQ last received, and at device 1 of a Chain pair what it
still lacks (R205). -/
def State.noteMseq (s : State) (mseq : Nat) (again : Bool) : State :=
  let next := s.chainNext mseq again
  s.modTwin fun t =>
    { t with rxMseq := if again then t.rxMseq else some mseq,
             chainKnown := if next then mseq else t.chainKnown,
             chainLost := !next && (t.chainLost || s.mseqGap mseq again) }

/-- The message checks of R205; `act` acts on a message that passes, `again` tells that it is a resent transfer. -/
def State.cloverTake (s : State) (m : CMeta) (again : Bool) (act : State → State) : State :=
  if s.twin.cloverState ≠ 2 ∨ s.blockUp 6 = false then s
  else if !m.crcOk then (s.modTwin fun t => { t with msgErr := inc32 t.msgErr, chainErr := true }).messageLost
  else
    let t := s.noteMseq m.mseq again
    (act (if s.mseqGap m.mseq again then t.messageLost else t)).serveFaults s

/-- The message checks of R205 on a message that is no resent transfer. -/
def State.cloverRx (s : State) (m : CMeta) (act : State → State) : State := s.cloverTake m false act

/-- A message other than STATUS, HOLD and TIME, which ends an idle period (R297). -/
def State.cloverMsg (s : State) (m : CMeta) (act : State → State) : State := s.cloverRx m fun s => act s.active

/-- Whether this device applies what the active announces: STANDBY, or JOINING from the snapshot on (R211, R216). -/
def State.applies (s : State) : Bool :=
  s.twin.pairInUse == 1 && (s.twin.role == .standby || (s.twin.role == .joining && s.twin.snapDone))

/-- Chain partner loss: FAULT; device 0 holds, device 1 drains its channels (R221). -/
def State.chainFault (s : State) : State :=
  let half1 := s.twin.twinId
  let s := s.twinFault 4
  s.forChans fun n s => if half1 then s.drainChannel n else s.holdChannel n

/-! ### Meanings: STATUS, HOLD, announcements -/

/-- CLOVER_UP: training ends with all lanes locked (R203, R209, R219). -/
def execCloverUp (latency : Nat) (s : State) : Host.Outcome State Fault Refusal :=
  .next (if s.twin.cloverState = 1 ∧ s.blockUp 6 ∧ s.pwr.clkSource = 1 then
      let s := s.modTwin fun t =>
        { t with cloverState := 2, latency := latency, rxMseq := none, chainLost := true, chainErr := false,
                 chainPortLast := [], partnerDevRole := 0, hbInLost := false }
      let s := s.sendStatus.chainPortAnew
      if s.twin.pairInUse = 2 then (if s.twin.role = .fault then s else s.setRole .active)
      else if s.twin.role = .joining then s.clover 11 []
      else s
    else s)

/-- Clover goes down: training restarts where a partner is present, and the role moves (R203, R209, R212). A device whose graceful
release the partner has not answered keeps the latch, since the STANDBY diverges (R214; notes/assumptions/74.md). -/
def State.cloverFalls (s : State) : State :=
  let s := s.modTwin fun t =>
    { t with cloverState := if t.partnerPresent && t.rail then 1 else 0, rxMseq := none, snapOut := [] }
  if s.twin.pairInUse = 1 then
    match s.twin.role with
    | .active => s.setRole .solo
    | .standby => if s.twin.releasing ∧ s.twin.busLow = false then s.cancelRelease.setRole .solo else s.divergence 5
    | .joining => if s.twin.snapDone then s else s.modTwin fun t => { t with snapParts := 0, joinLog := [] }
    | .solo => s
    | .fault => s
  else if s.twin.pairInUse = 2 ∧ s.twin.role = .active then s.setRole .solo
  else s

/-- CLOVER_DOWN: a lane lost lock for 10 µs (R203, R209). -/
def execCloverDown (s : State) : Host.Outcome State Fault Refusal := .next s.cloverFalls

/-- STATUS: the partner's role, mode, identity and digest, and the moves of R209 and R202 on them. A device that starts
is SOLO only once its wait for the latch has ended (R206). -/
def execCloverStatus (m : CMeta) (role mode : Nat) (id : Bool) (joinBlock digest fwVersion : Nat) (s : State) :
    Host.Outcome State Fault Refusal :=
  .next ((s.cloverRx m fun s =>
    let _ := joinBlock
    let _ := fwVersion
    let s := s.modTwin fun t =>
      { t with partnerRole := role, partnerMode := mode, partnerId := some id, partnerDigest := digest,
               partnerDevRole := s.roleOfDigest t.partnerDevRole digest }
    if id = s.twin.twinId then s.releaseLatch.twinFault 1
    else if s.twin.pairInUse = 2 then if mode ≠ 2 ∨ s.roleDiffers then s.chainFault else s
    else if s.twin.pairInUse = 1 then
      match s.twin.role with
      | .solo => if (role = 3 ∨ role = 2) ∧ (s.twin.own ∨ s.twin.waiting = false) then s.setRole .active else s
      | .active => if role = 4 then s.setRole .solo else s
      | .fault => if role = 0 ∨ role = 1 then s.startJoining else s
      | .standby => if role = 3 ∧ s.twin.releasing ∧ s.twin.busLow = false then s.cancelRelease else s
      | .joining => s
    else s).statusIfChanged s false)

/-- HOLD: the standby's HOLD_REQ bitmap, at the active (R84, R213). The bitmap of a partner that has left STANDBY for
JOINING counts until its next HOLD or a change of this device's role (DESIGN CHOICE, notes/assumptions/75.md). -/
def execHold (m : CMeta) (bitmap : W32) (s : State) : Host.Outcome State Fault Refusal :=
  .next (s.cloverRx m fun s =>
    if s.announces then s.modTwin fun t => { t with standbyHold := bitmap &&& 0xFFFFF#32 } else s)

/-- What a STANDIN does at the standby (R125, R211, R222). -/
def State.applyStandin (s : State) (ch : Nat) (history : Bool) (cause slice frame : Nat) : State :=
  s.observed (.standin ch history cause slice frame) fun s =>
  match chanOf ch with
  | some n =>
    if s.applies then
      let s := s.modTwin fun t =>
        { t with standinAnnounced := inc32 t.standinAnnounced,
                 standins := (t.standins ++ [(n.val, history, cause, slice, frame)]).drop
                   ((t.standins.length + 1) - 64) }
      let s := s.modCnt n fun k =>
        { k with standins := inc32 k.standins,
                 standinEmpty := if history then k.standinEmpty else inc32 k.standinEmpty }
      s.attnCh n 6
    else s
  | none => s

/-- STANDIN: applied by the standby (R125, R211, R222). -/
def execStandin (m : CMeta) (ch : Nat) (history : Bool) (cause slice frame : Nat) (s : State) :
    Host.Outcome State Fault Refusal :=
  .next (s.cloverMsg m fun s => s.applyStandin ch history cause slice frame)

/-- The command that an announced atomic operation belongs to has changed device state: a scratch operation that was performed, a
LOCK or UNLOCK that changes its slot, whose state before is that of `s` (R34, R149). -/
def State.actedAtomic (s : State) (issuer opc area rstat new cseq : Nat) : State :=
  let did := (9 ≤ opc ∧ opc ≤ 11 ∧ rstat = rsOk) ∨
    ((opc = 12 ∨ opc = 13) ∧ s.mem.locks.toList.getD area {} ≠ LockSlot.ofCode new)
  let mark := fun (p : PortSt) => { p with q := p.q.map fun k =>
    if k.opc.toNat = opc ∧ k.c.cseq.toNat = cseq ∧ !k.decoder then { k with acted := true } else k }
  if ¬did then s
  else if issuer = 1 then s.modPort .A mark
  else if issuer = 2 then s.modPort .B mark
  else s

/-- What an ATOMIC does at the standby: the announced value is written, or the slot set (R211). -/
def State.applyAtomic (s : State) (issuer opc area rstat unit : Nat) (prior new : W32) (cseq : Nat) : State :=
  s.observed (.atomic issuer opc area rstat unit prior new cseq) fun s =>
  if !s.applies then s
  else
    let s := (s.actedAtomic issuer opc area rstat new.toNat cseq).modTwin fun t =>
      { t with atomics := (t.atomics ++ [(issuer, opc, cseq, rstat, prior)]).drop ((t.atomics.length + 1) - 512) }
    if opc = 12 ∨ opc = 13 then
      let s := if rstat = rsBroken then s.modMem fun m => { m with lockBroken := inc32 m.lockBroken } else s
      s.setSlot area (LockSlot.ofCode new.toNat)
    else if rstat ≠ rsOk then s
    else
      let a := s.mem.areas.toList.getD area 0
      (s.writeP (areaBase a * 128 + unit / 8) (4 * (unit % 8)) (leBytes new.toNat 4)).2

/-- ATOMIC (R211). -/
def execAtomic (m : CMeta) (issuer opc area rstat unit : Nat) (prior new : W32) (cseq : Nat) (s : State) :
    Host.Outcome State Fault Refusal :=
  .next (s.cloverMsg m fun s => s.applyAtomic issuer opc area rstat unit prior new cseq)

/-- The port that feeds a channel, if a port does. -/
def Chan.fedBy (c : Chan) : Option Port :=
  match c.cfg.producer with
  | .portA => some .A
  | .portB => some .B
  | _ => none

/-- Whether this device has seen the OPEN with a WSEQ at the port that feeds the channel (R133). -/
def State.openSeen (s : State) (n : Fin 20) (wseq : Nat) : Bool :=
  (s.chan n).fedBy.any fun x => serialAfter 8 (s.port x).expWseq.toNat wseq

/-- A packet that the standby refuses only now counts, with its ATTN cause (R87, R211). -/
def State.countLateRefusal (s : State) (n : Fin 20) : State :=
  (s.modCnt n fun m => { m with overflowRefused := inc32 m.overflowRefused }).attnCh n 0

/-- A committed packet that nothing follows and of which no word has been read is taken back (R211). -/
def State.takeBack (s : State) (n : Fin 20) (k : ClosedPkt) : State :=
  let s := s.modCh n fun c =>
    { c with cp := k.slot, wp := k.slot, lastCommit := none }
  (s.countLateRefusal n).settle n

/-- A packet open at a snapshot's cut is refused on the active: those behind it are one nearer (R216, R218). -/
def Chan.removeCut (c : Chan) (wseq : Nat) : Chan :=
  let before := c.cuts.takeWhile (·.wseq != wseq)
  let after := (c.cuts.dropWhile (·.wseq != wseq)).drop 1
  { c with cuts := before ++ after.map fun k => { k with ahead := k.ahead - 1 } }

/-- Refuse at the standby what the active refused: the packet that it has refused itself, the open packet, a packet
closed or committed, or the packet still to come. A Slice packet already placed becomes absent with MISS 011b. What can
no longer be refused is a divergence (R211, R212; notes/assumptions/72.md). -/
def State.adoptRefusal (s : State) (n : Fin 20) (wseq why : Nat) : State :=
  let s := s.modCh n fun c => c.removeCut wseq
  let c := s.chan n
  let slice := c.cfg.cls == .slice
  let own := fun (r : Nat × Nat × Nat) => r.1 == n.val && r.2.1 == wseq
  let counted := fun (s : State) => s.countLateRefusal n
  if s.twin.ownRefusals.any own then
    s.modTwin fun t => { t with ownRefusals := t.ownRefusals.filter fun r => !own r }
  else match c.pkt.filter (·.wseq == wseq) with
  | some p => s.adoptSpace n p.wseq p.slice p.frame
  | none =>
    match c.closing.getLast?.filter (fun k => k.wseq == wseq && c.pkt.isNone) with
    | some k =>
      let s := s.modCh n fun c =>
        if slice then { c with closing := c.closing.dropLast }.setMiss k.frame k.slice 3
        else { c with closing := c.closing.dropLast }
      ((counted s).modCh n fun c => { c with wp := c.writeBase }).settle n
    | none =>
      if slice && c.closing.any (·.wseq == wseq) then
        (counted s).modCh n fun c => { c with closing := c.closing.map fun (k : ClosedPkt) =>
          if k.wseq = wseq then { k with refused := true } else k }
      else match c.lastCommit.filter (·.wseq == wseq) with
      | some k =>
        if slice then
          let drop := fun (c : Chan) => match c.slotFor k.frame with
            | some i => c.modRec i fun r => { r with entries := r.entries.filter fun e => !(e.k == k.slice && e.start == k.slot) }
            | none => c
          (counted (s.modCh n fun c => (drop c).setMiss k.frame k.slice 3)).settle n
        else if c.pkt.isNone && c.closing.isEmpty && decide (dist c.s c.lp c.rp ≤ dist c.s c.lp k.slot) then
          s.takeBack n k
        else s.divergence 4
      | none =>
        if s.openSeen n wseq then (if why = 2 then s else s.divergence 4)
        else s.modTwin fun t =>
          { t with refusals := (t.refusals ++ [(n.val, wseq, why)]).drop ((t.refusals.length + 1) - 256) }

/-- What a REFUSAL does at the standby (R211). -/
def State.applyRefusal (s : State) (ch wseq why : Nat) : State :=
  s.observed (.refusal ch wseq why) fun s =>
  match chanOf ch with
  | some n => if s.applies then s.adoptRefusal n wseq why else s
  | none => s

/-- REFUSAL (R211). -/
def execRefusal (m : CMeta) (ch wseq why : Nat) (s : State) : Host.Outcome State Fault Refusal :=
  .next ((s.cloverMsg m fun s => s.applyRefusal ch wseq why).statusIfChanged s false)

/-- PORT_EVENT: matched against the standby's own event with the same CSEQ or WSEQ (R211, R212). -/
def execPortEvent (m : CMeta) (x : Port) (event seq : Nat) (s : State) : Host.Outcome State Fault Refusal :=
  .next (s.cloverMsg m fun s =>
    if s.twin.role ≠ .standby then s
    else match s.twin.ownEvents.find? (fun e => e.x == x && e.event == event && e.seq == seq) with
      | some e => s.modTwin fun t => { t with ownEvents := t.ownEvents.erase e }
      | none => s.modTwin fun t => { t with partnerEvents := t.partnerEvents ++ [⟨x, event, seq, s.now⟩] })

/-- PORT_EVENT_MISMATCH: an event of one twin alone for 2 µs (R212); a packet that the standby alone has refused for
space as long is a divergence too (notes/assumptions/72.md). -/
def execPortEventMismatch (dt : Nat) (s : State) : Host.Outcome State Fault Refusal :=
  let s := s.advance dt
  .next (if (s.twin.ownEvents ++ s.twin.partnerEvents).any (fun e => decide (e.at_ + us 2 ≤ s.now)) then s.divergence 2
    else if s.twin.ownRefusals.any (fun r => decide (r.2.2 + us 2 ≤ s.now)) then s.divergence 4
    else s)

/-- Producer input from Clover: a segment, or raw bytes (R211, R220). The header travels as stored. R68 names no expected CRC for such input:
that of the carried header is taken, and a packet with CRCFAIL keeps it, since no CRC is 2^32 (DESIGN CHOICE, notes/assumptions/100.md).
Segments of a packet that was open at a snapshot's cut are not stored, and the last one closes it (R216, R218). -/
def State.cloverInput (s : State) (n : Fin 20) (segf : BitVec 8) (segoff : Nat) (data : List Byte) : State :=
  if segf.getLsbD 2 then
    if (s.chan n).cfg.cls = .raw then s.ingressRaw n (segf.getLsbD 3) data else s
  else if (s.chan n).cfg.cls = .raw then s
  else if segf.getLsbD 0 then
    if data.length < 16 then s.discardPacket n
    else
      let fail := (byteAt data 3).getLsbD 3
      s.ingressPacket n (segf.getLsbD 1) (if fail then 2 ^ 32 else leField data 12 4) data
  else if (s.chan n).refusing then
    s.modCh n fun c =>
      { (if segf.getLsbD 1 then c.closeCut else c) with ingNext := c.ingNext + data.length, refusing := !(segf.getLsbD 1) }
  else if (s.chan n).pkt.isNone || segoff != (s.chan n).ingNext then s.discardPacket n
  else s.ingressMore n (segf.getLsbD 1) data

/-- What a COPY does at the standby (R211, R212). -/
def State.applyCopy (s : State) (ch : Nat) (segf : BitVec 8) (segoff : Nat) (data : List Byte) : State :=
  s.observed (.copy ch segf segoff data) fun s =>
  match chanOf ch with
  | some n =>
    if s.applies && (s.chan n).copied then
      let t := s.active.cloverInput n segf segoff data
      if (t.chan n).cnt.overflowRefused = (s.chan n).cnt.overflowRefused then t else t.divergence 4
    else s
  | none => s

/-- COPY: the standby stores the active's stream (R211); what it must refuse for space is a divergence (R212). -/
def execCloverCopy (m : CMeta) (ch : Nat) (segf : BitVec 8) (segoff : Nat) (data : List Byte) (s : State) :
    Host.Outcome State Fault Refusal :=
  .next (s.cloverMsg m fun s => s.applyCopy ch segf segoff data)

/-- TIME: a sender's standby or joiner follows the active with the servo of R196 (R213). -/
def execCloverTime (m : CMeta) (t : Stamp) (epoch : Nat) (valid : Bool) (s : State) : Host.Outcome State Fault Refusal :=
  .next (s.cloverRx m fun s =>
    if s.sender && s.shadows && valid && s.blockUp 2 then
      ((s.servo (stampOf s.time.wall) t epoch (s.twin.latency : Int)).2).statusIfChanged s false
    else s)

/-! ### Joining (R216, R217) -/

/-- Load the record of a snapshot: no PRESENT entries (R216). -/
def snapRecord (rank : Nat) (r : SnapRec) : FrameRec :=
  { state := match r.state with
             | 1 => .filling
             | 2 => .reading
             | 3 => .held
             | _ => .free,
    frame := r.frame, count := r.count, epoch := r.epoch, ptsSec := r.pts / 1000000000,
    ptsNs := r.pts % 1000000000, gateOpen := r.gateOpen, g := r.g, sw := r.sw, d := r.d, late := r.late,
    pos := r.pos, entries := [], rank := rank }

/-- Load the content of a Stream channel from the mark's place on, committed (R216). -/
def State.loadWords (s : State) (n : Fin 20) (d : SnapCh) : State :=
  (d.words.zipIdx).foldl (fun s (w, i) =>
    if s.free n = 0 then s
    else
      let at_ := s.writeSlot n
      (s.writeWord n (takePad 32 w)).modCh n fun c =>
        { c with cp := c.wp,
                 tails := match d.tails.find? (fun t => t.1 == i) with
                   | some t => c.tails ++ [⟨at_, t.2, 0⟩]
                   | none => c.tails }) s

/-- Load the records of a Slice channel from a snapshot: no PRESENT entries (R216). -/
def Chan.loadRecords (c : Chan) (rs : List SnapRec) : Chan :=
  (rs.zipIdx).foldl (fun c (r, i) =>
    if h : r.slot < 3 then
      { c.modRec ⟨r.slot, h⟩ (fun _ => snapRecord i r) with
        newest := some r.frame, nextRank := i + 1, lastRead := if r.state = 1 then c.lastRead else some r.frame }
    else c) c

/-- Load one channel of a snapshot: a shadowed one as position keys, any other Slice channel with its records (R216). -/
def State.loadSnapCh (s : State) (d : SnapCh) : State :=
  match chanOf d.ch with
  | none => s
  | some n =>
    if !d.shadowed then
      if (s.chan n).enabled then
        (s.modCh n fun c => { c with est := d.est, sliceWait := d.sliceWait, dropped := d.dropped }.loadRecords d.records).settle n
      else s
    else
    let st : ChState := match d.state with
      | 1 => .active
      | 2 => .held
      | 3 => .draining
      | 4 => .fault
      | _ => .disabled
    let s := s.startChannel n st (if d.state = 4 then (s.chan n).cfg.enable else d.state)
    let s := s.loadWords n d
    let fs := s.fenced n
    let s := s.modCh n fun c =>
      { c with nextPseq := d.nextPseq, lastPseq := d.lastPseq, lastFrame := d.lastFrame, markValid := d.markValid,
               markPseq := d.markPseq, flushArmed := d.flushArmed, rawDelivered := d.rawBytes, est := d.est,
               sliceWait := d.sliceWait, dropped := d.dropped, cuts := d.cuts, refusing := d.cuts.any (!·.closed),
               holdReq := d.holdReq, shadowFrames := 0, rp := ptrAfter c.s fs d.readWords c.rp, inPkt := d.pos, markPkt := d.markPos }
    (s.modCh n fun c => c.loadRecords d.records).settle n

/-- Load one port of a snapshot; its write side starts at the next SELECT or OPEN (R216). A port whose rail is out of range, whose
block is held or whose MODE is 00h stays OFF (R150, R290, R328). -/
def State.loadSnapPort (s : State) (x : Port) (d : SnapPort) : State :=
  let off := !s.portUp x || !(s.port x).rail || (s.port x).mode == 0
  s.modPort x fun p =>
    { p with joinSkip := true,
             state := if off then p.state else (match d.state with
                       | 1 => .isolated
                       | 2 => .ready
                       | 3 => .seqgap
                       | _ => .off),
             expCseq := BitVec.ofNat 8 d.expCseq, lastAccepted := BitVec.ofNat 8 d.lastAccepted,
             lastCompleted := BitVec.ofNat 8 d.lastCompleted, expWseq := BitVec.ofNat 8 d.expWseq,
             wsel := d.wsel.bind chanOf, rsel := d.rsel.bind chanOf, writeRefusal := d.writeRefusal,
             q := d.busy.map fun k => { opc := k.opc, c := k.c, op1 := k.op1, op2 := k.op2, latched := 0,
                                        delivered := k.launched, waiting := k.waiting,
                                        acted := decide (0 < k.launched), preset := none } }

/-- The joiner's time steps to that of the snapshot and stays valid; a change of epoch gives up the frames of the old one, and either ends
lock (R89, R195, R199, R216). -/
def State.loadSnapTime (s : State) (d : Snap) : State :=
  let old := s.time.epoch
  let s := s.modTime fun t =>
    { t with wall := wallAdd (stampWall d.time) (Config.round ((d.latency : Rat) * (tk : Rat) / 1000)), valid := true }
  (if d.epoch = old then s.modRst fun r => { r with aonEpoch := d.epoch, aonEpochKnown := true }
   else (s.setEpoch d.epoch).giveUpEpoch).endLock

/-- Load the state data of one part of a snapshot; the first part brings the time (R216). -/
def State.loadSnap (s : State) (first : Bool) (d : Snap) : State :=
  let s := match d.ports with
    | [a, b] => (s.loadSnapPort .A a).loadSnapPort .B b
    | _ => s
  let s := d.chans.foldl (fun s c => s.loadSnapCh c) s
  let s := d.scratch.foldl (fun s u => (s.writeP (u.1 / 8) (4 * (u.1 % 8)) (leBytes u.2.toNat 4)).2) s
  let s := d.locks.foldl (fun s l => s.setSlot l.1 ⟨Owner.ofCode l.2.1, l.2.2⟩) s
  if first then s.loadSnapTime d else s

/-! #### The snapshot that the active sends -/

/-- One record of the snapshot. -/
def snapRecOf (i : Nat) (r : FrameRec) : SnapRec :=
  { slot := i, state := r.state.code, frame := r.frame, count := r.count, epoch := r.epoch,
    pts := r.ptsSec * 1000000000 + r.ptsNs, gateOpen := r.gateOpen, g := r.g, sw := r.sw, d := r.d, late := r.late,
    pos := r.pos }

/-- The stored words of a ring-read channel from `p` up to CP, fenced words left out, with the tail words among them;
`fuel` bounds them. -/
def State.snapWords (s : State) (n : Fin 20) : Nat → Nat → Ptr → List (List Byte) × List (Nat × Nat)
  | 0, _, _ => ([], [])
  | fuel + 1, i, p =>
    let c := s.chan n
    let fs := s.fenced n
    let p := skipFenced c.s fs fs.length p
    if dist c.s c.lp c.cp ≤ dist c.s c.lp p then ([], [])
    else
      let w := (readWordAt s.mem (s.phys (c.locAt p.off))).data
      let (ws, ts) := s.snapWords n fuel (i + 1) (step1 c.s p)
      (w :: ws, match c.tails.find? (fun t => t.at_ == p) with
        | some t => (i, t.vb) :: ts
        | none => ts)

/-- The packets of a channel that are open at the cut, or closed with their commit still to come, in commit order; `ahead` packets
are to be delivered before them. -/
def Chan.cutsOf (c : Chan) (ahead : Nat) : List CutPkt :=
  (c.closing.zipIdx.map fun (k, i) => ⟨k.wseq, k.slice, k.frame, ahead + i, true, false⟩) ++
  (c.pkt.toList.map fun p => ⟨p.wseq, p.slice, p.frame, ahead + c.closing.length, false, false⟩)

/-- The committed packets from RP on that no word has been delivered of; `fuel` bounds them. -/
def State.packetsAhead (s : State) (n : Fin 20) : Nat → Ptr → Nat
  | 0, _ => 0
  | fuel + 1, p =>
    let c := s.chan n
    let fs := s.fenced n
    let p := skipFenced c.s fs fs.length p
    if dist c.s c.rp c.cp ≤ dist c.s c.rp p then 0
    else
      let len := c.lenAt p (readWordAt s.mem (s.phys (c.locAt p.off))).data
      s.packetsAhead n fuel (ptrAfter c.s fs (pktWords len) p) + 1

/-- One channel of the snapshot (R216). -/
def State.snapChan (s : State) (n : Fin 20) : SnapCh :=
  let c := s.chan n
  let ring := !s.dirRead n
  let (words, tails) := if ring then s.snapWords n (s.ringReadable n + dist c.s c.mp c.rp + 1) 0 c.mp else ([], [])
  let next := match c.inPkt with
    | some k => ptrAfter c.s (s.fenced n) (k.total - k.done) c.rp
    | none => c.rp
  let ahead := if ring && c.cfg.cls != .raw then s.packetsAhead n (s.ringReadable n + 1) next else 0
  { ch := n.val, shadowed := c.shadowed, state := c.state.code, holdReq := c.holdReq, lastPseq := c.lastPseq, nextPseq := c.nextPseq, lastFrame := c.lastFrame,
    markValid := c.markValid, markPseq := c.markPseq, flushArmed := c.flushArmed, rawBytes := c.rawDelivered,
    pos := c.inPkt, markPos := c.markPkt, words := words,
    readWords := if ring then dist c.s c.mp c.rp - fen c.s (s.fenced n) c.mp.off (dist c.s c.mp c.rp) else 0,
    tails := tails, cuts := c.cutsOf ahead,
    records := ((List.finRange 3).map fun i => snapRecOf i.val (c.record i)).filter (·.state != 0),
    est := c.est, sliceWait := c.sliceWait, dropped := c.dropped }

/-- One port of the snapshot (R216). -/
def PortSt.snapPort (p : PortSt) : SnapPort :=
  { state := p.state.code, expCseq := p.expCseq.toNat, lastAccepted := p.lastAccepted.toNat,
    lastCompleted := p.lastCompleted.toNat, expWseq := p.expWseq.toNat, wsel := p.wsel.map (·.val),
    rsel := p.rsel.map (·.val), writeRefusal := p.writeRefusal,
    busy := (p.q.filter (!·.decoder)).map fun k => ⟨k.opc, k.c, k.op1, k.op2, k.delivered, k.waiting⟩ }

/-- The units of the enabled scratch areas, by word and unit (R216). -/
def State.snapScratch (s : State) : List (Nat × W32) :=
  ((s.mem.areas.toList.filter areaOn).map fun a =>
    ((List.range (areaSize a * 128)).map fun i =>
      let p := areaBase a * 128 + i
      let d := (readWordAt s.mem (s.phys (s.placeOf p))).data
      (List.range 8).map fun u => (8 * p + u, BitVec.ofNat 32 (leField d (4 * u) 4))).flatten).flatten

/-- Whether the snapshot holds a channel: a shadowed one, or an enabled Slice channel for its records (R216). -/
def Chan.inSnapshot (c : Chan) : Bool := c.shadowed || (c.enabled && c.cfg.cls == .slice)

/-- The snapshot taken at the cut (R216). -/
def State.snapshot (s : State) : Snap :=
  { ports := [s.pA.snapPort, s.pB.snapPort],
    chans := ((List.finRange 20).filter fun n => (s.chan n).inSnapshot).map s.snapChan,
    scratch := s.snapScratch,
    locks := s.mem.locks.toList.zipIdx.map fun (l, i) => (i, l.owner.code, l.mark),
    time := stampOf s.time.wall, epoch := s.time.epoch, latency := s.twin.latency }

/-- A list on the wire: its length, then its elements. -/
def wireList {α : Type} (f : α → List Byte) (l : List α) : List Byte := leBytes l.length 4 ++ (l.map f).flatten

/-- An optional value on the wire: whether it is there, then the value. -/
def wireOpt {α : Type} (f : α → List Byte) : Option α → List Byte
  | some a => 1 :: f a
  | none => [0]

/-- A signed value on the wire: its sign, then its size. -/
def wireInt (i : Int) : List Byte := leBytes (bnat (decide (i < 0))) 1 ++ leBytes i.natAbs 16

/-- A position on the wire. -/
def wirePos (p : PktPos) : List Byte := leBytes p.len 4 ++ leBytes p.total 4 ++ leBytes p.done 4 ++ leBytes p.frame 4

/-- A record on the wire. -/
def wireRec (r : SnapRec) : List Byte :=
  leBytes r.slot 1 ++ leBytes r.state 1 ++ leBytes r.frame 4 ++ leBytes r.count 2 ++ leBytes r.epoch 1 ++
  leBytes r.pts 8 ++ leBytes (natOfBits [r.gateOpen, r.late]) 1 ++ wireInt r.g ++ leBytes r.sw 4 ++ wireInt r.d ++
  leBytes r.pos 2

/-- A channel on the wire. -/
def wireChan (c : SnapCh) : List Byte :=
  leBytes c.ch 1 ++ leBytes (natOfBits [c.shadowed, c.holdReq]) 1 ++ leBytes c.state 1 ++ leBytes c.lastPseq 2 ++ leBytes c.nextPseq 2 ++ leBytes c.lastFrame 4 ++
  leBytes (natOfBits [c.markValid, c.flushArmed]) 1 ++ leBytes c.markPseq 2 ++ leBytes c.rawBytes 6 ++
  wireOpt wirePos c.pos ++ wireOpt wirePos c.markPos ++ wireList (takePad 32) c.words ++ leBytes c.readWords 4 ++
  wireList (fun t => leBytes t.1 4 ++ leBytes t.2 1) c.tails ++
  wireList (fun k => leBytes k.wseq 1 ++ leBytes k.slice 2 ++ leBytes k.frame 4 ++ leBytes k.ahead 4 ++
    leBytes (natOfBits [k.closed, k.delivering]) 1) c.cuts ++
  wireList wireRec c.records ++ leBytes c.est 4 ++ leBytes c.sliceWait 4 ++ wireOpt (leBytes · 4) c.dropped

/-- A port on the wire. -/
def wirePort (p : SnapPort) : List Byte :=
  leBytes p.state 1 ++ leBytes p.expCseq 1 ++ leBytes p.lastAccepted 1 ++ leBytes p.lastCompleted 1 ++
  leBytes p.expWseq 1 ++ leBytes (p.wsel.getD 255) 1 ++ leBytes (p.rsel.getD 255) 1 ++
  leBytes (bnat p.writeRefusal) 1 ++
  wireList (fun k => leBytes (k.c.first k.opc).toNat 4 ++ leBytes k.op1.toNat 4 ++ leBytes k.op2.toNat 4 ++
    leBytes k.launched 2 ++ leBytes (bnat k.waiting) 1) p.busy

/-- The state data of a snapshot on the wire, in a layout of the model's own (notes/assumptions/16.md). -/
def snapBytes (d : Snap) : List Byte :=
  stampBytes d.time ++ leBytes d.epoch 1 ++ leBytes d.latency 4 ++ wireList wirePort d.ports ++ wireList wireChan d.chans ++
  wireList (fun u => leBytes u.1 4 ++ leBytes u.2.toNat 4) d.scratch ++
  wireList (fun l => leBytes l.1 1 ++ leBytes l.2.1 1 ++ leBytes (bnat l.2.2) 1) d.locks

/-- The bodies of the SNAP messages of a snapshot: part number, total parts, and up to 9,184 bytes of state data
(R204, R216). -/
def snapBodies (d : Snap) : List (List Byte) :=
  let bs := snapBytes d
  let total := (bs.length + cloverSeg - 1) / cloverSeg
  (List.range total).map fun i => leBytes i 4 ++ leBytes total 4 ++ (bs.drop (cloverSeg * i)).take cloverSeg

/-- Send the next SNAP that waits; announcements go first because they do not wait (R217). -/
def State.sendSnap (s : State) : State :=
  match s.twin.snapOut with
  | [] => s
  | b :: rest => (s.modTwin fun t => { t with snapOut := rest }).clover 9 b

/-- JOIN_REQ: the active takes the snapshot at the cut and sends its first part; the others wait behind announcements
(R216, R217). -/
def execJoinReq (m : CMeta) (s : State) : Host.Outcome State Fault Refusal :=
  .next (s.cloverMsg m fun s =>
    if s.twin.pairInUse = 1 ∧ s.twin.own ∧ (s.twin.role = .active ∨ s.twin.role = .solo) then
      let s := s.active
      (s.modTwin fun t => { t with snapOut := snapBodies s.snapshot }).sendSnap
    else s)

/-- JOIN_COMPLETE: no JOIN_BLOCK condition remains (R209, R218). -/
def execJoinComplete (s : State) : Host.Outcome State Fault Refusal :=
  .next (if s.twin.role = .joining ∧ s.twin.pairInUse = 1 ∧ s.joinBlock = 0 then
      s.setRole .standby
    else s)

/-- HANDOVER: the counts are checked; the standby takes over once BUS_OWN_N is released (R209, R212, R214). -/
def execHandover (m : CMeta) (counts : List Nat) (s : State) : Host.Outcome State Fault Refusal :=
  .next (s.cloverMsg m fun s =>
    if s.twin.role ≠ .standby then s
    else if counts ≠ s.launchedCounts .A ++ s.launchedCounts .B then s.divergence 6
    else
      let s := s.modTwin fun t => { t with handed := true }
      if s.twin.busLow then s else s.takeover .active)

/-! ### Chain mode (R219 to R221) -/

/-- Words of a channel that a CHAIN_DATA body carries. -/
def chainWords (b : List Byte) : Nat :=
  let segf := (byteAt b 1).toNat
  let raw := segf.testBit 2
  if raw then 1 else if segf = 0 ∧ leField b 2 4 = 0 then 0 else (b.length - 6 + 31) / 32

/-- The marker that a CHAIN_DATA of SEGF 0 and SEGOFF 0 carries (R220). -/
def State.chainMarker (s : State) (n : Fin 20) (d : List Byte) : State :=
  (s.marker n none true (leField d 3 4) (leField d 1 2) (leField d 0 1) (leField d 7 4) (leField d 11 4)).2

/-- A transfer that device 1 does not take is left aside until device 0 sends it again; one that it has taken before is dropped
(R205). -/
def State.skipChain (s : State) (mseq : Nat) : State :=
  if serialAfter 8 mseq s.twin.chainKnown && !s.twin.chainSkipped.contains mseq then
    s.modTwin fun t => { t with chainSkipped := t.chainSkipped ++ [mseq] }
  else s

/-- CHAIN_DATA: written into device 1's channel. After a loss a transfer before which one is still lacking is not taken, and
device 0 sends it again; the acknowledgement of one taken is sent at once (R204, R205, R220). -/
def execChainData (m : CMeta) (ch : Nat) (segf : BitVec 8) (segoff : Nat) (data : List Byte) (s : State) :
    Host.Outcome State Fault Refusal :=
  let again := s.resent m.mseq
  let next := s.chainNext m.mseq again
  .next (s.cloverTake m again fun s =>
    let s := s.active.modTwin fun t => { t with chainErr := false }
    if !(s.chainHalf true) then s
    else
      if !next then s.skipChain m.mseq
      else
        let s := s.modTwin fun t =>
          { t with chainGood := m.mseq, chainSkipped := t.chainSkipped.filter (· != m.mseq),
                   chainBytes := satAdd64 t.chainBytes (data.length + 6) }
        let t := match chanOf ch with
          | none => s
          | some n => if segf = 0 ∧ segoff = 0 then s.chainMarker n data else s.cloverInput n segf segoff data
        if t.twin.txMseq = s.twin.txMseq then t.sendCredits else t)

/-- The acknowledged transfers release their words, as AUTO (R219). -/
def State.chainRelease (s : State) (q : CMsg) : State :=
  match chanOf (byteAt q.body 0).toNat with
  | none => s
  | some n =>
    let c := s.chan n
    let k := chainWords q.body + q.extra
    let p := ptrAfter c.s (s.fenced n) k c.lp
    if k = 0 ∨ dist c.s c.lp c.rp < dist c.s c.lp p then s
    else (s.modCh n fun c => c.moveLp p c.nextPseq c.inPkt).settle n

/-- CHAIN_CREDIT: credits less what is in flight, releases, and the resend after a loss (R205, R219, R220). -/
def execChainCredit (m : CMeta) (credits : List Nat) (mseqAck : Nat) (s : State) : Host.Outcome State Fault Refusal :=
  .next (s.cloverMsg m fun s =>
    if !(s.chainHalf false) then s
    else
      let (acked, kept) := s.twin.retained.splitAt (((s.twin.retained.findIdx? (·.mseq == mseqAck)).map (· + 1)).getD 0)
      let again := s.twin.chainAck == some mseqAck
      let s := s.modTwin fun t => { t with retained := kept, chainAck := some mseqAck }
      let s := acked.foldl (fun s q => if q.stale then s else s.chainRelease q) s
      let s := if again then s.modTwin fun t => { t with sent := t.sent ++ kept } else s
      s.forChans fun n s =>
        let out := (s.twin.retained ++ s.twin.chainWait).filter fun q => byteAt q.body 0 == BitVec.ofNat 8 n.val
        let flying := (out.map fun q => chainWords q.body).sum
        (s.modCh n fun c => { c with chainCredit := credits.getD n.val 0 - flying }).chainRun n)

/-- CHAIN_PORT: device 1's copy of device 0's write-side state (R219). -/
def execChainPort (m : CMeta) (ports : List ChainPortRec) (chans : List ChainChRec) (s : State) :
    Host.Outcome State Fault Refusal :=
  .next (s.cloverMsg m fun s =>
    if s.chainHalf true then s.modTwin fun t => { t with chainPorts := ports, chainChans := chans } else s)

/-- CHAIN_PARTNER_FAULT: partner loss for 10 µs (R221). -/
def execChainPartnerFault (s : State) : Host.Outcome State Fault Refusal :=
  .next (if s.twin.pairInUse = 2 then s.chainFault else s)

/-- DRAIN_COMPLETE (R49); the ENABLE value is part of the plan that STATUS names (R204, R218). -/
def execDrainComplete (n : Fin 20) (s : State) : Host.Outcome State Fault Refusal :=
  .next (if s.drained n then (s.disableChannel n).statusIfChanged s true else s)

/-! ### Meanings: periods -/

/-- CLOVER_STATUS_PERIOD: every 100 µs (R204). -/
def execCloverStatusPeriod (dt : Nat) (s : State) : Host.Outcome State Fault Refusal :=
  let s := s.advance dt
  .next (if s.due s.twin.statusAt (us 100) then s.sendStatus else s)

/-- HOLD_PERIOD: every 10 µs, standby to active (R204). -/
def execHoldPeriod (dt : Nat) (s : State) : Host.Outcome State Fault Refusal :=
  let s := s.advance dt
  .next (if s.twin.pairInUse = 1 ∧ s.twin.role = .standby ∧ s.due s.twin.holdAt (us 10) = true then s.clover 2 (leBytes s.holdMap 4) else s)

/-- CLOVER_TIME_PERIOD: every 125 µs, active to standby (R204). -/
def execCloverTimePeriod (dt : Nat) (s : State) : Host.Outcome State Fault Refusal :=
  let s := s.advance dt
  .next (if s.due s.twin.timeAt (us 125) then
      s.announce 8 (stampBytes (stampOf s.time.wall) ++ leBytes s.time.epoch 1 ++ leBytes (bnat s.timeValid) 1)
    else s)

/-- JOIN_REQ_PERIOD: every 1 ms while JOINING without a snapshot; one of which parts have come is not asked for again
(R204). -/
def execJoinReqPeriod (dt : Nat) (s : State) : Host.Outcome State Fault Refusal :=
  let s := s.advance dt
  .next (if s.twin.pairInUse = 1 ∧ s.twin.role = .joining ∧ s.twin.snapDone = false ∧ s.twin.snapParts = 0 ∧
      s.due s.twin.joinAt (ms 1) = true then
      s.clover 11 []
    else s)

/-- CHAIN_CREDIT_PERIOD: device 1's credits, FREE plus HELDW (R204, R220). -/
def execChainCreditPeriod (dt : Nat) (s : State) : Host.Outcome State Fault Refusal :=
  let s := s.advance dt
  .next (if s.due s.twin.creditAt (us 10) then s.sendCredits else s)

/-! ### Beats observed by a standby (R210, R212) -/

/-- RPAR as a beat should carry it: bit 2u + i for RDAT half i of unit u (R138). -/
def beatParity (d : List Byte) : Nat :=
  natOfBits ((List.range 8).map fun i => oddParity (leField d (4 * i) 4) 32)

/-- Whether the next word on the bus belongs to a packet that was open at a snapshot's cut, which this device does not
hold (R216, R218). -/
def Chan.skipsCut (c : Chan) : Bool := c.cuts.any fun k => k.delivering || (c.inPkt.isNone && k.ahead == 0)

/-- A header has passed on the bus: the packet open at a snapshot's cut is one nearer, or its delivery begins (R218). -/
def Chan.passHeader (c : Chan) : Chan :=
  { c with cuts := c.cuts.map fun k => if k.ahead = 0 then { k with delivering := true } else { k with ahead := k.ahead - 1 } }

/-- A packet's last word has passed on the bus (R218). -/
def Chan.passPacket (c : Chan) : Chan := { c with cuts := c.cuts.filter (!·.delivering) }

/-- Whether the beat that carries a header word is one with which the active cut the channel off (R74): UNCORR, with RLAST before the
command has what it asked for. Where the command would end with it all the same, this device's own word decides. -/
def State.observedCut (s : State) (n : Fin 20) (k : PCmd) (b : Beat) : Bool :=
  (s.chan n).cfg.cls == .packet && b.stat == rsUncorr && b.last &&
  (if k.opc = 2#5 then decide (1 < pktWords (leField b.data 0 3)) || s.headerCut n
   else k.delivered + 1 != k.op1.toNat % 256 + 1 || s.headerCut n)

/-- R74 as observed: RP moves to CP, and the packets that have closed since a snapshot's cut go with it (R210, R216). -/
def State.cutObserved (s : State) (n : Fin 20) : State :=
  (s.modCh n fun c => { c with cuts := (c.cuts.filter fun k => !k.closed).map fun k => { k with ahead := 0 } }).cutAll n

/-- One word of a read observed on a ring-read channel (R210). -/
def State.observeRing (s : State) (n : Fin 20) (k : PCmd) (b : Beat) : State :=
  let cmd := k
  let c := s.chan n
  let fs := s.fenced n
  let skip := c.skipsCut
  let has := decide (0 < s.ringReadable n) && !skip
  let rp := if has then step1 c.s (skipFenced c.s fs fs.length c.rp) else c.rp
  if c.cfg.cls = .raw then
    ((s.modCh n fun c =>
      { c with rp := rp, rawDelivered := (c.rawDelivered + (if b.vb = 0 then 32 else b.vb)) % 2 ^ 48 }).flushIfDue n).settle n
  else match c.inPkt with
    | some k =>
      let last := decide (k.total ≤ k.done + 1)
      ((s.modCh n fun c =>
        { (if last then c.passPacket else c) with
          rp := rp, inPkt := if last then none else some { k with done := k.done + 1 } }).flushIfDue n).settle n
    | none =>
      if s.observedCut n cmd b then s.cutObserved n
      else
        let len := leField b.data 0 3
        let total := pktWords len
        let frame := leField b.data 8 4
        let s := s.modCh n fun c => { c.passHeader with nextPseq := leField b.data 4 2 }
        let s := s.assignPseq n frame
        ((s.modCh n fun c =>
          { (if total ≤ 1 then c.passPacket else c) with
            rp := rp, inPkt := if total ≤ 1 then none else some ⟨len, total, 1, frame⟩ }).flushIfDue n).settle n

/-- One word of a READP observed on a directory-read channel (R210). -/
def State.observeSlice (s : State) (n : Fin 20) (b : Beat) : State :=
  match (s.chan n).inPkt with
  | some k =>
    if k.total ≤ k.done + 1 ∨ b.last then
      (s.modCh n fun c => { c with inPkt := none }).observePass n k.frame
    else s.modCh n fun c => { c with inPkt := some { k with done := k.done + 1 } }
  | none =>
    let len := leField b.data 0 3
    let frame := leField b.data 8 4
    let slice := leField b.data 6 2 % 4096
    let s := s.modCh n fun c => { c with nextPseq := leField b.data 4 2 }
    let s := s.assignPseq n frame
    let s := match (s.chan n).slotFor frame with
      | some i => (s.beginFrame n i).modCh n fun c => (c.gateObserved i).modRec i fun r => { r with pos := slice }
      | none => s.modCh n fun c => { c with lastRead := some frame }
    if pktWords len ≤ 1 ∨ b.last then s.observePass n frame
    else s.modCh n fun c => { c with inPkt := some ⟨len, pktWords len, 1, frame⟩ }

/-- Whether a beat of a read carries a word: OK or UNCORR, and not the beat that ends a read with nothing more to
deliver. -/
def State.carriesWord (s : State) (n : Fin 20) (k : PCmd) (b : Beat) : Bool :=
  b.stat == rsUncorr ||
  (b.stat == rsOk && (s.dirRead n || !b.last || k.delivered == 0 || decide (0 < s.ringReadable n)))

/-- What an observed beat does to the command that its tag names (R210); both twins perform SRD (R211). The last beat of a read completes
it for the read-idle timer (R79). -/
def State.observe (s : State) (x : Port) (k : PCmd) (b : Beat) : State :=
  let s := match chanOf k.c.ch.toNat with
    | none => s
    | some n =>
      if k.opc = 1#5 ∨ k.opc = 2#5 then
        if s.carriesWord n k b then (if s.dirRead n then s.observeSlice n b else s.observeRing n k b) else s
      else if k.opc = 3#5 ∧ k.delivered = 0 ∧ (b.stat = rsOk ∨ b.stat = rsUncorr) then
        s.updCmd x k { k with peekHead := some (leField b.data 0 3, (byteAt b.data 3).toNat % 4 != 0) }
      else if k.onChannel ∧ k.isRead = false ∧ b.stat = rsOk then s.chCmd n k.opc.toNat (k.c.mod.getLsbD 0)
      else s
  let k : PCmd := ((s.port x).q.find? (fun j => j.tag == k.tag)).getD k
  let s := if k.opc = 8#5 ∧ k.preset = none ∧ b.stat ≠ rsFlushed then
      (s.scratchOp (portMaster x) 8 (k.c.mod.toNat % 4) k.op1.toNat 0).2.2
    else s
  let s := if k.opc = 14#5 ∧ b.stat = rsOk then ((s.statusCmd x k).map (·.2)).getD s else s
  let read := k.isRead && k.preset.isNone && (b.stat == rsOk || b.stat == rsUncorr || b.stat == rsEmpty || b.stat == rsIdle ||
    b.stat == rsTimeout)
  let s := match chanOf k.c.ch.toNat with
    | some n => if b.last && read then s.readCompleted n else s
    | none => s
  let left := s.twin.atomics.filter fun a => !(a.1 == portIdx x + 1 && a.2.2.1 == k.c.cseq.toNat)
  let s := if b.last then s.modTwin fun t => { t with atomics := left } else s
  (s.modPort x fun p =>
    if b.last then { p with q := p.q.erase k, lastCompleted := if k.decoder then p.lastCompleted else k.c.cseq }
    else { p with q := p.q.map fun j => if j = k then { k with delivered := k.delivered + 1, acted := true } else j }).idleAnew

/-- What a beat on the return bus does at a device that shadows (R210, R212). -/
def State.takeBeat (s : State) (x : Port) (b : Beat) (rpar : BitVec 8) (rqs : Bool) : State :=
  s.observed (.beat x b rpar rqs) fun s =>
  if !s.applies || s.twin.own then s
  else
    let s := s.modTwin fun t => { t with lastBeatAt := s.now }
    if rpar.toNat ≠ beatParity b.data ∨ rqs = false then s.divergence 3
    else match (s.port x).q.find? (fun k => k.tag == b.tag) with
      | some k => (s.observe x k b).statusIfChanged s false
      | none => s

/-- RETURN_BUS_BEAT: a beat that the active launches, observed by a standby; one that fails RPAR, or RQS lost, is a
divergence (R210, R212). -/
def execReturnBusBeat (x : Port) (b : Beat) (rpar : BitVec 8) (rqs : Bool) (s : State) : Host.Outcome State Fault Refusal :=
  .next (s.takeBeat x b rpar rqs)

end Sys2Proof.Machine
end

