-- ==== Sys2Proof/Machine/WriteCycles.lean ====
section
/-! DEFINITION. The meanings of the write-side cycles of a client port (R130 to R133, R63, R112). -/

namespace Sys2Proof.Machine

open Sys2Proof

/-! ### The cycles outside `State.cycle` -/

/-- An IDLE cycle (R130, R131, R112). -/
def State.idleCycle (s : State) (x : Port) (c : WCyc) : State :=
  s.observed (.cycle x 0#5 c) fun s =>
  let s0 := s
  let s := s.noteWclk x
  if !s.writeOn x then s
  else
    let t := s.sample x 0#5 c
    if c.parityOk 0#5 then t.dropFirst x
    else (((t.modPort x fun p => { p with frameFirst := none }).writeParity x).serveFaults s0).chainPortAnew

/-- A SELECT cycle (R132, R133). -/
def State.selectCycle (s : State) (x : Port) (c : WCyc) : State :=
  s.observed (.cycle x 16#5 c) fun s =>
  let s0 := s
  let s := s.noteWclk x
  if !s.writeOn x then s
  else
    let s := s.active.sample x 16#5 c
    let wseq := BitVec.ofNat 8 (c.field 8 8)
    let s :=
      if !c.parityOk 16#5 then (s.modPort x fun p => { p with frameFirst := none }).writeParity x
      else
      let s := s.dropFirst x
      if wseq ≠ (s.port x).expWseq then
        if (s.port x).writeRefusal then s else s.wseqGap x wseq
      else
        let s := s.modPort x fun p =>
          { p with expWseq := p.expWseq + 1, writeRefusal := false, joinSkip := false, wsel := chanOf (c.field 0 5) }
        if (chanOf (c.field 0 5)).isNone then s.wproto x else s
    (s.serveFaults s0).chainPortAnew

/-- An OPEN cycle (R61, R63, R132, R133). -/
def State.openCycle (s : State) (x : Port) (c : WCyc) : State :=
  s.observed (.cycle x 17#5 c) fun s =>
  let s0 := s
  let s := s.noteWclk x
  if !s.writeOn x then s
  else
    let s := s.active.sample x 17#5 c
    let wseq := BitVec.ofNat 8 (c.field 0 8)
    let s :=
      if !c.parityOk 17#5 then (s.modPort x fun p => { p with frameFirst := none }).writeParity x
      else
      let s := s.dropFirst x
      if (s.port x).writeRefusal then s
      else
        let hit := wseq == (s.port x).expWseq
        let s := if hit then s.modPort x fun p => { p with expWseq := p.expWseq + 1, joinSkip := false } else s.wseqGap x wseq
        match (s.port x).wsel with
        | some n => if hit then s.cycleOpen x n c else s
        | none => s.wproto x
    (s.serveFaults s0).chainPortAnew

/-- The cycle of a WCTL code, after its own checks, on the selected channel (R59, R63, R112, R130). -/
def State.cycleOf (s : State) (x : Port) (wctl : BitVec 5) (c : WCyc) : State :=
  if wctl = 0#5 then s.idleCycle x c
  else if wctl = 16#5 then s.selectCycle x c
  else if wctl = 17#5 then s.openCycle x c
  else s.cycle x wctl c fun n s =>
    if wctl = 1#5 then s.cycleBytes x n c.bytes false
    else if 8#5 ≤ wctl ∧ wctl ≤ 15#5 then s.cycleBytes x n (c.bytes.take ((wctl.extractLsb' 0 3).toNat + 1)) true
    else if wctl = 18#5 then s.cycleAbort x n
    else if wctl = 19#5 then s.modPort x fun p => { p with frameFirst := some c }
    else if wctl = 20#5 then s.secondFrame x n c
    else if wctl = 21#5 then s.cycleTail x n
    else s.wproto x

/-! ### Meanings: write-side cycles -/

/-- IDLE: no effect beyond the parity check (R130, R131) and on a FRAME cycle that waits (R112). -/
def execIdle (x : Port) (c : WCyc) (s : State) : Host.Outcome State Fault Refusal := .next (s.idleCycle x c)

/-- DATA: eight bytes appended (R59, R63). -/
def execData (x : Port) (c : WCyc) (s : State) : Host.Outcome State Fault Refusal :=
  .next (s.cycle x 1#5 c fun n s => s.cycleBytes x n c.bytes false)

/-- DATA-LAST: nnn + 1 bytes appended, then close or tail commit (R59, R62, R71). -/
def execDataLast (x : Port) (nnn : BitVec 3) (c : WCyc) (s : State) : Host.Outcome State Fault Refusal :=
  .next (s.cycle x (1#2 ++ nnn) c fun n s => s.cycleBytes x n (c.bytes.take (nnn.toNat + 1)) true)

/-- SELECT: the WSEQ check, which a match in write refusal ends, then the selection (R132, R133). -/
def execSelect (x : Port) (c : WCyc) (s : State) : Host.Outcome State Fault Refusal := .next (s.selectCycle x c)

/-- OPEN: the WSEQ check, also without a selected channel, then the packet opens (R61, R63, R132, R133). -/
def execOpenPacket (x : Port) (c : WCyc) (s : State) : Host.Outcome State Fault Refusal := .next (s.openCycle x c)

/-- ABORT (R63). -/
def execAbort (x : Port) (c : WCyc) (s : State) : Host.Outcome State Fault Refusal :=
  .next (s.cycle x 18#5 c fun n s => s.cycleAbort x n)

/-- The two FRAME cycles: a pair is a marker (R112, R113). A first cycle alone waits for the cycle after it, which
decides; a second cycle without its first is a write-protocol error (R112). -/
def execFrameMarker (x : Port) (first second : Option WCyc) (s : State) : Host.Outcome State Fault Refusal :=
  let s := match first with
    | some a => s.cycle x 19#5 a fun _ s => s.modPort x fun p => { p with frameFirst := some a }
    | none => s
  .next (match second with
    | some b => s.cycle x 20#5 b fun n s => s.secondFrame x n b
    | none => s)

/-- TAIL (R63). -/
def execTail (x : Port) (c : WCyc) (s : State) : Host.Outcome State Fault Refusal :=
  .next (s.cycle x 21#5 c fun n s => s.cycleTail x n)

/-- A reserved WCTL code: ignored, a write-protocol error (R130). -/
def execReservedWctl (x : Port) (code : BitVec 5) (c : WCyc) (s : State) : Host.Outcome State Fault Refusal :=
  .next (s.cycle x code c fun _ s => s.wproto x)

end Sys2Proof.Machine
end

