-- ==== Sys2Proof/Machine/Join.lean ====
section
/-! DEFINITION. The snapshot of a join as the joiner takes it: of what it has observed on the buses, what the cut leaves to it, and the
end, where what it has kept acts (R216). -/

namespace Sys2Proof.Machine

open Sys2Proof

/-! ### What comes after the cut (R216) -/

/-- The WSEQ of a SELECT or OPEN at port `x` whose parity is good. -/
def joinWseq (e : JoinEvent) (x : Port) : Option Nat :=
  match e with
  | .cycle y wctl c =>
    if x != y || !c.parityOk wctl then none
    else if wctl = 16#5 then some (c.field 8 8)
    else if wctl = 17#5 then some (c.field 0 8)
    else none
  | .cmd .. | .beat .. | .standin .. | .atomic .. | .refusal .. | .copy .. => none

/-- Whether an event is a SELECT of port `x` with good parity. -/
def joinSelects (e : JoinEvent) (x : Port) : Bool :=
  match e with
  | .cycle _ wctl _ => wctl == 16#5 && (joinWseq e x).isSome
  | .cmd .. | .beat .. | .standin .. | .atomic .. | .refusal .. | .copy .. => false

/-- The CSEQ of a command at port `x` whose parity is good. -/
def joinCseq (e : JoinEvent) (x : Port) : Option Nat :=
  match e with
  | .cmd y _ opc c op1 op2 => if x == y && cmdParityOk opc c op1 op2 then some c.cseq.toNat else none
  | .cycle .. | .beat .. | .standin .. | .atomic .. | .refusal .. | .copy .. => none

/-- The place just behind the last event of a log for which `old` holds. -/
def placeAfter (old : JoinEvent → Bool) (log : List JoinEvent) : Nat :=
  log.zipIdx.foldl (fun k e => if old e.1 then e.2 + 1 else k) 0

/-- The place from which write cycles of a port count: behind the last SELECT or OPEN whose WSEQ does not follow the cut's EXP_WSEQ, and
under write refusal at the SELECT that comes next (R133, R216). -/
def writesFrom (d : SnapPort) (x : Port) (log : List JoinEvent) : Nat :=
  let k := placeAfter (fun e => (joinWseq e x).any fun w => w != d.expWseq && !serialAfter 8 w d.expWseq) log
  if d.writeRefusal then k + ((log.drop k).takeWhile fun e => !joinSelects e x).length else k

/-- The place from which commands of a port count: behind the last one whose CSEQ is not after the cut's LAST_ACCEPTED (R216). -/
def cmdsFrom (d : SnapPort) (x : Port) (log : List JoinEvent) : Nat :=
  placeAfter (fun e => (joinCseq e x).any fun q => !serialAfter 8 q d.lastAccepted) log

/-- For each tag of a port, how many beats of its command are still ones that the active launched before the cut; `none` where the command
was accepted before the joiner observed (R216). -/
abbrev CutBeats := List (Nat × Nat)

/-- The beats before the cut of a command that the joiner has observed: none after the cut, as many as the snapshot gives for a busy tag, all of
any other. -/
def launchedAt (d : SnapPort) (after : Bool) (c : RCmd) : Option Nat :=
  if after then some 0
  else (d.busy.find? fun k => k.c.tag == c.tag && k.c.cseq == c.cseq).map (·.launched)

/-- Of what the joiner has observed at port `x`, what comes after the cut; events elsewhere stay. A beat whose command it has not observed
counts only where it ends a command that is busy at the cut. -/
def afterCut (d : SnapPort) (x : Port) (writes cmds : Nat) : Nat → CutBeats → List JoinEvent → List JoinEvent
  | _, _, [] => []
  | i, m, e :: rest =>
    match e with
    | .cycle y _ _ => if x == y && decide (i < writes) then afterCut d x writes cmds (i + 1) m rest else e :: afterCut d x writes cmds (i + 1) m rest
    | .cmd y _ _ c _ _ =>
      if x != y then e :: afterCut d x writes cmds (i + 1) m rest
      else
        let after := decide (cmds ≤ i)
        let m := m.filter fun p => p.1 != c.tag.toNat
        let m := match launchedAt d after c with
          | some k => (c.tag.toNat, k) :: m
          | none => m
        if after then e :: afterCut d x writes cmds (i + 1) m rest else afterCut d x writes cmds (i + 1) m rest
    | .beat y b _ _ =>
      if x != y then e :: afterCut d x writes cmds (i + 1) m rest
      else
        match m.find? fun p => p.1 == b.tag with
        | some (t, k + 1) => afterCut d x writes cmds (i + 1) ((t, k) :: m.filter fun p => p.1 != t) rest
        | some (_, 0) => e :: afterCut d x writes cmds (i + 1) m rest
        | none =>
          if b.last && d.busy.any (fun k => k.c.tag.toNat == b.tag) then e :: afterCut d x writes cmds (i + 1) m rest
          else afterCut d x writes cmds (i + 1) m rest
    | .standin .. => e :: afterCut d x writes cmds (i + 1) m rest
    | .atomic .. => e :: afterCut d x writes cmds (i + 1) m rest
    | .refusal .. => e :: afterCut d x writes cmds (i + 1) m rest
    | .copy .. => e :: afterCut d x writes cmds (i + 1) m rest

/-- What the joiner keeps of its log as the ports of the snapshot come: what is after the cut (R216; notes/assumptions/20.md). -/
def State.keepAfterCut (s : State) (ports : List SnapPort) : State :=
  let keep := fun (d : SnapPort) (x : Port) (log : List JoinEvent) =>
    afterCut d x (writesFrom d x log) (cmdsFrom d x log) 0 [] log
  match ports with
  | [a, b] => s.modTwin fun t => { t with joinLog := keep b .B (keep a .A t.joinLog) }
  | _ => s

/-! ### The end of the snapshot -/

/-- Act as at the instant `at_`, where the counter of TIME is concerned: both twins take a SET at the edge that sampled it (R146, R194). Where
the act leaves TIME alone, the counter stands as before it. -/
def State.atEdge (s : State) (at_ : Nat) (act : State → State) : State :=
  let k := if s.pwr.clkSource == 1 && s.blockUp 2 then (s.now - at_) / 1250 else 0
  let r := s.modTime fun t => { t with wall := wallAdd t.wall (-((k * inc t.trim : Nat) : Int)) }
  let t := act r
  if t.time = r.time then t.modTime fun _ => s.time else t.modTime fun z => z.advance k

/-- What the joiner has kept acts. -/
def State.replay (s : State) (e : JoinEvent) : State :=
  match e with
  | .cycle x wctl c => s.cycleOf x wctl c
  | .cmd x at_ opc c op1 op2 => s.atEdge at_ fun s => s.command x opc c op1 op2
  | .beat x b rpar rqs => s.takeBeat x b rpar rqs
  | .standin ch history cause slice frame => s.applyStandin ch history cause slice frame
  | .atomic issuer opc area rstat unit prior new cseq => s.applyAtomic issuer opc area rstat unit prior new cseq
  | .refusal ch wseq why => s.applyRefusal ch wseq why
  | .copy ch segf segoff data => s.applyCopy ch segf segoff data

/-- Everything that the joiner has kept acts, in its order. -/
def State.replayAll (s : State) : State :=
  s.twin.joinLog.foldl State.replay (s.modTwin fun t => { t with joinLog := [] })

/-- SNAP: the joiner loads the parts; the snapshot is complete with the last, and what has been observed since the cut then acts
(R216; notes/assumptions/20.md). -/
def execSnap (m : CMeta) (part total : Nat) (d : Snap) (s : State) : Host.Outcome State Fault Refusal :=
  .next ((s.cloverMsg m fun s =>
    if s.twin.role ≠ .joining ∨ s.twin.snapDone ∨ part ≠ s.twin.snapParts then s
    else
      let s := ((s.loadSnap (part == 0) d).keepAfterCut d.ports).modTwin fun t =>
        { t with snapParts := part + 1, snapTotal := total, snapDone := decide (total ≤ part + 1) }
      if s.twin.snapDone then s.replayAll else s).statusIfChanged s false)

end Sys2Proof.Machine
end

