-- ==== Sys2Proof/Machine/Memory.lean ====
section
/-! DEFINITION. The banks themselves: arbitration (R16, R17), the write-back of corrected words (R19), and the way
back from a stored word to its address. -/

namespace Sys2Proof.Machine

open Sys2Proof

/-! ### From a stored word to its address -/

/-- The logical bank that a physical bank serves, if it serves one (R317). -/
def State.logicalBank (s : State) (b : Nat) : Option Nat :=
  if b < 128 then (if s.tansy.s0 = some b ∨ s.tansy.s1 = some b then none else some b)
  else if b = 128 then (if s.tansy.s1 = some 128 then none else s.tansy.s0)
  else match s.tansy.s1 with
    | some 128 => s.tansy.s0
    | x => x

/-- The row that a physical row of a bank stands for at a column, if it is in use (R316). -/
def State.logicalRow (s : State) (b prow col : Nat) : Option Nat :=
  if prow < 512 then (if s.physRow b prow col = prow then some prow else none)
  else match s.tansy.rowMaps.find? (fun m => m.bank == b && m.spare + 512 == prow) with
    | some m => if s.physRow b m.row col = prow then some m.row else none
    | none => none

/-- The word address at a logical place (R14). -/
def State.addrOf (s : State) (l : Loc) : Nat := unplace (s.skewOf ((l.row * 64 + l.col) * 128)) l

/-- The logical place of a physical word number, if it is in use. -/
def State.placeOfWord (s : State) (w : Nat) : Option Loc :=
  let b := w / 33792
  let col := w % 64
  match s.logicalBank b, s.logicalRow b (w % 33792 / 64) col with
  | some lb, some r => some ⟨lb, r, col⟩
  | _, _ => none

/-- Put `a` into a list sorted by `f`, before what has the same key. -/
def insertBy {α : Type} (f : α → Nat) (a : α) : List α → List α
  | [] => [a]
  | b :: t => if f a ≤ f b then a :: b :: t else b :: insertBy f a t

/-- A list sorted by `f`, equal keys in their order. -/
def sortBy {α : Type} (f : α → Nat) (l : List α) : List α := l.foldr (insertBy f) []

/-! ### Arbitration (R16, R17) -/

/-- Where the priority pointer of one side of a bank stands. -/
def MemSt.pointer (m : MemSt) (bank : Nat) (wr : Bool) : Nat :=
  match m.pointers.find? (fun p => p.1 == bank && p.2.1 == wr) with
  | some p => p.2.2
  | none => 0

/-- Set a priority pointer. -/
def MemSt.setPointer (m : MemSt) (bank : Nat) (wr : Bool) (v : Nat) : MemSt :=
  { m with pointers := m.pointers.filter (fun p => !(p.1 == bank && p.2.1 == wr)) ++ [(bank, wr, v)] }

/-- The first element with the least key. -/
def leastBy {α : Type} (f : α → Nat) : List α → Option α
  | [] => none
  | a :: t => match leastBy f t with
    | some b => if f a ≤ f b then some a else some b
    | none => some a

/-- The longest wait among requests. -/
def waitedLongest (ws : List Waiting) : Nat := ws.foldl (fun a w => max a w.age) 0

/-- The source of input 3 that stands first in the rotation of one side of a bank (R16). -/
def MemSt.rotation (m : MemSt) (bank : Nat) (wr : Bool) : Nat :=
  ((m.rot3.find? fun p => p.1 == bank && p.2.1 == wr).map (·.2.2)).getD 0

/-- What the inputs of one side of a bank present in a MEMCLK: for each input at which something waits, its wait and its
request, at input 3 that of the source next in rotation (R15, R16). -/
def MemSt.presented (m : MemSt) (bank : Nat) (wr : Bool) : List (Nat × Waiting) :=
  (List.range 5).filterMap fun i =>
    let ws := m.waiting.filter fun w => w.bank == bank && w.wr == wr && w.req.input.val == i
    let first := if i = 3 then leastBy (fun v => (v.req.src3.val + 3 - m.rotation bank wr % 3) % 3) ws else ws.head?
    first.map fun w => (waitedLongest ws, w)

/-- The request that one side of a bank grants among those presented that `may` be granted: that of the input that has
waited longest, ties from the priority pointer on (R16). -/
def MemSt.pick (m : MemSt) (bank : Nat) (wr : Bool) (may : Waiting → Bool) : Option (Nat × Waiting) :=
  let ws := (m.presented bank wr).filter fun w => may w.2
  let age := ws.foldl (fun a w => max a w.1) 0
  let ptr := m.pointer bank wr
  leastBy (fun w => (w.2.req.input.val + 5 - ptr % 5) % 5) (ws.filter fun w => w.1 == age)

/-- A grant leaves the queue; the pointer, and the rotation of input 3, move past it, and what else waits at the input
begins its wait anew (R16). -/
def MemSt.granted (m : MemSt) (w : Waiting) : MemSt :=
  let m := { m with
    waiting := (m.waiting.erase w).map fun (v : Waiting) =>
      if v.bank = w.bank ∧ v.wr = w.wr ∧ v.req.input = w.req.input then { v with age := 0 } else v,
    rot3 := if w.req.input.val = 3 then
        m.rot3.filter (fun (p : Nat × Bool × Nat) => !(p.1 == w.bank && p.2.1 == w.wr)) ++ [(w.bank, w.wr, (w.req.src3.val + 1) % 3)]
      else m.rot3 }
  m.setPointer w.bank w.wr ((w.req.input.val + 1) % 5)

/-- Whether an operation is atomic. -/
def atomicOp : BankOp → Bool
  | .swr _ _ => true
  | .sset _ _ => true
  | .sclr _ _ => true
  | .rd => false
  | .wr _ => false

/-- Count the read half of an atomic operation at a bank's word (R19, R31). -/
def State.countPhys (s : State) (bank row col : Nat) (r : WordRd) : State :=
  match s.logicalBank bank with
  | some lb => s.countRead ⟨lb, row, col⟩ (s.addrOf ⟨lb, row, col⟩) r
  | none => s

/-- An atomic operation on a 4-byte unit of a bank's word: the unit's lane decides (R20, R31). -/
def State.bankAtomic (s : State) (bank row col : Nat) (unit : Nat) (f : Nat → Nat) : State :=
  let w := wordNo bank (s.physRow bank row col) col
  let r := readWordAt s.mem w
  let s := s.countPhys bank row col r
  if r.lane (unit / 2) = .uncorr then s
  else
    let data := r.data.take (4 * unit) ++ leBytes (f (leField r.data (4 * unit) 4)) 4 ++ r.data.drop (4 * unit + 4)
    (s.modMem fun m => rewriteLanes m w r data).mirrorPhys bank row col fun m v =>
      rewriteLanes (copyWordAt m w v) v r data

/-- What a granted request does at its bank (R16, R20, R31, R317). -/
def State.bankDo (s : State) (bank : Nat) (q : BankReq) : State :=
  match q.op with
  | .rd => s
  | .wr d => (s.modMem fun m => writeWordAt m (wordNo bank (s.physRow bank q.row q.col) q.col) d).mirrorPhys
      bank q.row q.col fun m w => writeWordAt m w d
  | .swr u v => s.bankAtomic bank q.row q.col u.val fun _ => v.toNat
  | .sset u v => s.bankAtomic bank q.row q.col u.val fun x => x ||| v.toNat
  | .sclr u v => s.bankAtomic bank q.row q.col u.val fun x => x &&& (v.toNat ^^^ 0xFFFFFFFF)

/-- Grant a request: it acts at the bank, and the grant is recorded with the word a read returned, read before any
write of the same MEMCLK (R16). -/
def State.bankServe (s : State) (w : Waiting) : State :=
  let r := readWordAt s.mem (wordNo w.bank (s.physRow w.bank w.req.row w.req.col) w.req.col)
  let s := (s.modMem fun m => m.granted w).bankDo w.bank w.req
  s.modMem fun m =>
    { m with grants := m.grants ++ [⟨w.bank, w.wr, w.req.input.val, if w.wr then [] else r.data, if w.wr then 0 else r.mask⟩],
             holding := if atomicOp w.req.op then m.holding ++ [w.bank] else m.holding }

/-- What a bank's read side grants in a MEMCLK. An atomic operation takes the bank from the write side too, so it gives
way while a write has waited longer than its input: then the read of another input is granted, and the input keeps its wait
(R16, R17; notes/assumptions/71.md). -/
def MemSt.pickRead (m : MemSt) (bank : Nat) : Option Waiting :=
  match m.pick bank false fun _ => true with
  | none => none
  | some (age, w) =>
    let older := waitedLongest (m.waiting.filter fun v => v.bank == bank && v.wr)
    if atomicOp w.req.op && decide (age < older) then (m.pick bank false fun v => !atomicOp v.req.op).map (·.2) else some w

/-- One MEMCLK passes for the requests that wait at a bank; what a grant of that MEMCLK leaves at its input begins anew
after it (R16). -/
def MemSt.ageBank (m : MemSt) (bank : Nat) : MemSt :=
  { m with waiting := m.waiting.map fun w => if w.bank == bank then { w with age := w.age + 1 } else w }

/-- BANK_GRANT: one MEMCLK of a bank's two arbiters (R16, R17), those of the spare where one serves the bank (R317). The
second MEMCLK of an atomic operation grants nothing, and an atomic grant leaves the write side waiting. -/
def execBankGrant (bank : Fin 130) (reads writes : List BankReq) (s : State) : Host.Outcome State Fault Refusal :=
  .next (if !s.blockUp 0 then s
    else
      let b := s.physBank bank.val
      let new := (reads.map fun q => (⟨b, false, q, 0⟩ : Waiting)) ++ writes.map fun q => ⟨b, true, q, 0⟩
      let s := s.modMem fun m =>
        { m with waiting := m.waiting ++ new, grants := m.grants.filter (·.bank != b) }.ageBank b
      if s.mem.holding.contains b then s.modMem fun m => { m with holding := m.holding.erase b }
      else
        let rd := s.mem.pickRead b
        let wr := if rd.any (fun w => atomicOp w.req.op) then none else (s.mem.pick b true fun _ => true).map (·.2)
        let s := match rd with
          | some w => s.bankServe w
          | none => s
        match wr with
        | some w => s.bankServe w
        | none => s)

/-- ECC_WRITE_BACK: the corrected word goes back at the bank's next free write cycle, unless it has been written in
the meantime (R19). -/
def execEccWriteBack (bank : Fin 130) (row col : Nat) (s : State) : Host.Outcome State Fault Refusal :=
  let w := wordNo bank.val row col
  .next (if s.blockUp 0 && s.mem.writeBack.contains w then
      let r := readWordAt s.mem w
      let t := s.modMem fun m => rewriteLanes m w r r.data
      match s.logicalRow bank.val row col with
      | some lr => t.mirrorPhys bank.val lr col fun m v => rewriteLanes (copyWordAt m w v) v r r.data
      | none => t
    else s)

end Sys2Proof.Machine
end

