-- ==== Sys2Proof/Machine/Tansy.lean ====
section
/-! DEFINITION. Tansy (R310 to R325): the clear, the marches and the scrub, the repair of failing rows by spare
rows, spare banks and fences, the field repair log, and the array side of TANSY_CMD. -/

namespace Sys2Proof.Machine

open Sys2Proof

/-! ### Records of repairs (R322) -/

/-- Append a record to the field repair log: the one before it has its COMMIT programmed first, and its own is programmed
by `State.commitLog` (R236, R322). -/
def TansySt.append (t : TansySt) (r : RepairRec) : TansySt :=
  let t := t.commitRecord
  { t with fieldLog := t.fieldLog ++ [{ r with committed := false, void := false }] }

/-- A record of a repair begun: into the log while firmware runs, otherwise into the pending list of 32. -/
def State.repairRecord (s : State) (r : RepairRec) : State :=
  s.modTansy fun t =>
    if s.yar.serving ∧ s.upd.runningSlot ≠ 2 ∧ s.blockUp 17 = true then t.append r
    else if t.pending.length < 32 then { t with pending := t.pending ++ [r] } else t

/-- Firmware writes the pending records (R322); an image in SRAM writes none (R287), and none is written while FLASH_IF is
held (R290). -/
def State.flushPending (s : State) : State :=
  if s.upd.runningSlot = 2 ∨ s.blockUp 17 = false then s
  else s.modTansy fun t => { t.pending.foldl TansySt.append t with pending := [] }

/-! ### Availability -/

/-- Whether Tansy and the banks run (R290). -/
def State.tansyUp (s : State) : Bool := s.blockUp 0 && s.blockUp 9

/-- The lowest free spare row of a bank (R316). -/
def TansySt.freeRow (t : TansySt) (bank : Nat) : Option Nat :=
  (List.range 16).find? fun k => !(t.spareUsed.contains (bank, k))

/-- Spare rows of a bank not in use and not retired (R325). -/
def TansySt.freeRows (t : TansySt) (bank : Nat) : Nat :=
  ((List.range 16).filter fun k => !(t.spareUsed.contains (bank, k))).length

/-- The free spare bank, S0 first (R317). -/
def TansySt.freeBank (t : TansySt) : Option Nat :=
  if t.s0.isNone ∧ t.copy.all (fun c => c.2 ≠ 128) then some 128
  else if t.s1.isNone ∧ t.copy.all (fun c => c.2 ≠ 129) then some 129
  else none

/-- Whether a bank has a repair in progress (R315). -/
def TansySt.bankBusy (t : TansySt) (bank : Nat) : Bool :=
  t.rowMaps.any (fun m => m.bank == bank && decide (m.progress < 64)) || t.copy.any (fun c => c.1 == bank)

/-- Banks with a row copy in progress. -/
def TansySt.copying (t : TansySt) : Nat := (t.rowMaps.filter fun m => decide (m.progress < 64)).length

/-! ### Clear and march (R22, R23, R310, R311) -/

/-- Every word zero with valid check bits (R22, R24). -/
def MemSt.zeroed (m : MemSt) : MemSt := { m with cells := [], errs := [], writeBack := [] }

/-- The saved value of an entry (R261). -/
def OdSt.savedVal (o : OdSt) (index sub : Nat) : Option (List Byte) :=
  (o.saved.find? fun v => v.index == index && v.sub == sub).map (·.bytes)

/-- The stored ENABLE values apply once the memory is open (R52). -/
def State.applyEnables (s : State) : State :=
  if s.rst.enablesDue && s.memOpen then
    let s := s.forChans fun n s => s.applyStoredEnable n (leNat ((s.od.savedVal (0x2000 + n.val) 0x13).getD []))
    s.modRst fun r => { r with enablesDue := false }
  else s

/-- The memory opens (R23). Scrub passes count their period from here (notes/assumptions/40.md). -/
def State.openMemory (s : State) : State :=
  ((s.modMem fun m => { m with clearState := 2 }).modTansy fun t =>
    { t with scrubStart := some (t.scrubStart.getD s.now) }).applyEnables

/-- What follows once the clear has ended: the start-up march, which also waits for the reapplied repair map, or
the opening of the memory (R23, R288, R322). -/
def State.afterClear (s : State) : State :=
  if s.mem.clearState = 0 ∧ s.mem.cleared then
    if !s.tansy.marchAtStart then s.openMemory
    else if s.tansy.mapApplied then s.modMem fun m => { m with clearState := 1 }
    else s
  else s

/-- ARRAY_CLEAR_DONE: every word holds zero with valid check bits (R22). The clear runs from the end of option
loading. -/
def execArrayClearDone (s : State) : Host.Outcome State Fault Refusal :=
  .next (if s.mem.clearState = 0 ∧ s.mem.cleared = false ∧ s.rst.phase ≠ .held ∧ s.rst.phase ≠ .optionLoad then
      (s.modMem fun m => { m.zeroed with cleared := true }).afterClear
    else s)

/-- Queue the rows that a compare found failing; a failing spare row in use counts as the row it stands for, and one
that is not in use is retired (R315, R316; notes/assumptions/41.md). -/
def State.queueFault (s : State) (f : RowLoc) : State :=
  if f.row < 512 then s.queueRepair f.bank f.row f.col
  else match s.logicalRow f.bank f.row f.col with
    | some r => s.queueRepair f.bank r f.col
    | none => s.modTansy fun t =>
      if t.spareUsed.contains (f.bank, f.row - 512) then t
      else { t with spareUsed := t.spareUsed ++ [(f.bank, f.row - 512)] }

/-- MARCH_DONE: a start-up or requested March C− ends with every word zero, and the memory opens (R310, R311). -/
def execMarchDone (faults : List RowLoc) (s : State) : Host.Outcome State Fault Refusal :=
  .next (if s.mem.clearState = 1 ∧ (s.tansy.destructive = false ∨ s.tansyUp) then
      let s := (s.modMem fun m => m.zeroed).openMemory
      let s := s.modTansy fun t => { t with destructive := false, marchResult := if faults.isEmpty then 1 else 2 }
      faults.foldl (fun s f => s.queueFault f) s
    else s)

/-! ### Passes over stored words (R19, R28, R310, R312, R313) -/

/-- Where a pass comes to a physical word of its bank, all banks in parallel: rows 0 to 511, then the spare rows, each
from column 0 on (R310). -/
def passPlace (w : Nat) : Nat := w % 33792

/-- The words in use that hold an error in some lane, with their addresses, in the order in which a pass comes to them,
those of one instant from bank 0 on; every other word reads good, and a pass has no effect on it. -/
def State.faultyWords (s : State) : List (Loc × Nat) :=
  ((sortBy passPlace (sortBy id (s.mem.errs.map fun e => e.1 / 4).eraseDups)).filterMap s.placeOfWord).map
    fun l => (l, s.addrOf l)

/-- Whether a word's row is under copy (R316, R324). -/
def State.rowCopying (s : State) (l : Loc) : Bool :=
  s.tansy.rowMaps.any fun m => m.bank == s.physBank l.bank && m.row == l.row && decide (m.progress < 64)

/-- Whether a fence is in effect on a word: not while an enabled channel still holds data there (R43). -/
def State.fenceHolds (s : State) (l : Loc) (p : Nat) : Bool :=
  s.fencedAt l && !(match s.regionOf p with
    | some n => (s.chan n).enabled && (s.chan n).deferred.contains (p - (s.chan n).cfg.base * 128)
    | none => false)

/-- The blocks among the first `k` that a pass skips for a missing right of TS (R28, R310). -/
def State.uncovered (s : State) (write : Bool) (k : Nat) : Nat :=
  ((List.range k).filter fun k => !(s.allowed 5 k false && (!write || s.allowed 5 k true))).length

/-- A pass has come past the first `k` blocks: each one that it skipped is counted in NOT_COVERED and as a refused access of
TS (R28, R310). Block `k` lies at row `k / 64` and column `k % 64` of every bank, so a pass takes the blocks in order. -/
def State.skipBlocks (s : State) (write : Bool) (k : Nat) : State :=
  let u := s.uncovered write k
  (s.modTansy fun t => { t with notCovered := satAdd t.notCovered u }).modMem fun m =>
    { m with accessRefused := m.accessRefused.set 5 (satAdd m.accessRefused[5] u) }

/-- A pass reads one word, unless its block is skipped or a fence is in effect on it (R43, R310). -/
def State.passWord (s : State) (write : Bool) (w : Loc × Nat) (act : WordRd → State → State) : State :=
  let k := w.2 / 128
  if s.fenceHolds w.1 w.2 || !(s.allowed 5 k false) || (write && !(s.allowed 5 k true)) then s
  else
    let r := readWordAt s.mem (s.phys w.1)
    act r (s.countRead w.1 w.2 r)

/-- Note a location that this scrub pass has corrected; 256 are kept in all, the latest, of this pass and the one before
(R315). -/
def TansySt.noteCorrected (t : TansySt) (key : Nat) : TansySt :=
  let before := t.correctedBefore.filter (· != key)
  let now := (t.corrected.filter (· != key)) ++ [key]
  { t with correctedBefore := before.drop (before.length + now.length - 256), corrected := now.drop (now.length - 256) }

/-- Scrub reads one word; a word corrected in two consecutive passes makes its row failing (R313, R315). -/
def State.scrubWord (s : State) (w : Loc × Nat) : State :=
  s.passWord false w fun r s =>
    if r.fixed then
      let key := s.phys w.1
      let again := s.tansy.correctedBefore.contains key
      let s := s.modTansy fun t => t.noteCorrected key
      if again then s.queueRepair (s.physBank w.1.bank) w.1.row w.1.col else s
    else s

/-- A scrub pass begins and reads every covered word, but for the rows under copy, which it takes when their copy has ended
(R313, R324). -/
def State.startScrub (s : State) : State :=
  let s := s.wakeDoze.modTansy fun t =>
    { t with scrubbing := true, scrubDue := false, scrubStart := some s.now, correctedBefore := t.corrected,
             corrected := [],
             later := (t.rowMaps.filter fun m => decide (m.progress < 64)).map fun m => (m.bank, m.row) }
  let s := s.skipBlocks false 32768
  (s.faultyWords.filter fun w => !s.rowCopying w.1).foldl State.scrubWord s

/-- The copy of a row has ended: a scrub pass that left the row takes it now (R324). -/
def State.scrubLater (s : State) (bank row : Nat) : State :=
  if s.tansy.later.contains (bank, row) then
    let s := s.modTansy fun t => { t with later := t.later.filter (· != (bank, row)) }
    if s.tansy.scrubbing then
      (s.faultyWords.filter fun w => s.physBank w.1.bank == bank && w.1.row == row).foldl State.scrubWord s
    else s
  else s

/-- SCRUB_PASS: SCRUB_PERIOD has passed since the previous pass began; while one runs, the next waits (R313). -/
def execScrubPass (dt : Nat) (s : State) : Host.Outcome State Fault Refusal :=
  let s := s.advance dt
  let t := s.tansy
  let due := t.scrubStart.any fun a => decide (a + ms (t.scrubPeriod * 1000) ≤ s.now)
  .next (if t.scrubPeriod = 0 || !due || !s.tansyUp || !s.memOpen then s
    else if t.scrubbing then s.wakeDoze.modTansy fun t => { t with scrubDue := true }
    else s.startScrub)

/-- Whether a location lies in a spare row or a spare bank that is not in use (R310). -/
def State.idleSpare (s : State) (f : RowLoc) : Bool :=
  (decide (512 ≤ f.row) && (s.logicalRow f.bank f.row f.col).isNone) ||
  (decide (128 ≤ f.bank) && (s.logicalBank f.bank).isNone)

/-- SCRUB_PASS_COMPLETE: the pass ends, with what its tests of the spares not in use found, and one that fell due
meanwhile starts (R310, R313). It does not end while a row of it is under copy (R324). -/
def execScrubPassComplete (faults : List RowLoc) (s : State) : Host.Outcome State Fault Refusal :=
  .next (if s.tansy.scrubbing && s.tansyUp && s.memOpen && s.tansy.later.isEmpty then
      let s := s.modTansy fun t => { t with scrubbing := false, scrubPasses := inc32 t.scrubPasses }
      let s := (faults.filter s.idleSpare).foldl (fun s f => s.queueFault f) s
      if s.tansy.scrubDue then s.startScrub else s
    else s)

/-- PRESERVING_MARCH_DONE: each covered word has been read once on the requester's behalf; a correctable word is
written again with fresh check bits, an uncorrectable one is skipped and queued (R19, R312). A march that was stopped has
passed the first `reached` words of each bank only, none of a row under copy; any other takes such a row after its copy and
does not end before (R324). -/
def execPreservingMarchDone (faults : List RowLoc) (reached : Nat) (s : State) : Host.Outcome State Fault Refusal :=
  let stopped := s.tansy.stopRequested
  .next (if s.tansy.preserving && s.tansyUp && s.memOpen && (stopped || decide (s.tansy.copying = 0)) then
      let k := if stopped then reached else 33792
      let before := s.mem.ueTotal
      let s := (s.faultyWords.filter fun w => decide (passPlace (s.phys w.1) < k) && !s.rowCopying w.1).foldl (fun s w =>
        s.passWord true w fun r s => if r.fixed then s.storeWord w.1 r.data else s) (s.skipBlocks true (min k 32768))
      let bad := !faults.isEmpty || s.mem.ueTotal != before
      let s := s.modTansy fun t =>
        { t with preserving := false, stopRequested := false,
                 marchResult := if stopped then 3 else if bad then 2 else 1 }
      faults.foldl (fun s f => s.queueFault f) s
    else s)

/-! ### Fencing (R43, R319, R320) -/

/-- An entry that covers a column. -/
def Fence.covers (f : Fence) (bank row col : Nat) : Bool :=
  f.bank == bank && f.row == row && decide (f.first ≤ col) && decide (col ≤ f.last)

/-- The table with a column fenced, and the entry that covers it then; none where all 64 entries are valid and none
can be extended (R319, R320). -/
def fenceColumn (fs : List Fence) (bank row col : Nat) : Option (List Fence × Fence) :=
  let below := fs.find? fun f => f.bank == bank && f.row == row && f.last + 1 == col
  let above := fs.find? fun f => f.bank == bank && f.row == row && f.first == col + 1
  match below, above with
  | some b, some a =>
    let n := { b with last := a.last }
    some ((fs.filter (· ≠ a)).map fun f => if f = b then n else f, n)
  | some b, none =>
    let n := { b with last := col }
    some (fs.map fun f => if f = b then n else f, n)
  | none, some a =>
    let n := { a with first := col }
    some (fs.map fun f => if f = a then n else f, n)
  | none, none =>
    match (List.range 64).find? fun k => !(fs.any fun f => f.slot == k) with
    | some k =>
      let n : Fence := ⟨k, bank, row, col, col⟩
      some (fs ++ [n], n)
    | none => none

/-- The region offset at which a channel holds a place, if it does (R14). -/
def Chan.offsetOf (c : Chan) (bank row col : Nat) : Option Nat :=
  let p := unplace c.cfg.skew ⟨bank, row, col⟩
  if c.cfg.base * 128 ≤ p ∧ p < c.cfg.base * 128 + c.s then some (p - c.cfg.base * 128) else none

/-- What a new fence means for the channels: deferred in an occupied span, and FAULT with cause CAPACITY below 128
words (R43, R46). -/
def State.fenceChannels (s : State) (bank row col : Nat) : State :=
  s.forChans fun n s =>
    let c := s.chan n
    match c.offsetOf bank row col with
    | none => s
    | some o =>
      if !c.enabled then s
      else
        let occupied := decide ((o + c.s - c.lp.off % c.s) % c.s < dist c.s c.lp c.wp)
        let s := if occupied then s.modCh n fun c => { c with deferred := c.deferred ++ [o] } else s
        if s.capacity n < 128 then (s.chFault n 1).servicePorts else s.settle n

/-- REPLACE is raised (R320): the alarm, and the SWAP of an ACTIVE device that AUTO_SWAP_REPLACE asks for. -/
def State.raiseReplace (s : State) : State :=
  if s.tansy.replace then s
  else
    let s := s.modTansy fun t => { t with replace := true }
    let s := ((s.attnBoth 17).log 0x2005 8 15 0).repairRecord ⟨4, 0, 0, 0, 0, false, false⟩
    if s.twin.autoSwap && s.swapAllowed && s.yar.serving then s.gracefulRelease else s

/-- Fence one word of a logical bank (R319, R320). -/
def State.fenceWord (s : State) (bank row col : Nat) : State :=
  if s.tansy.fences.any (·.covers bank row col) then s
  else match fenceColumn s.tansy.fences bank row col with
    | some (fs, f) =>
      let s := s.modTansy fun t => { t with fences := fs }
      let s := s.log 0x2004 8 8 (bank * 2 ^ 24 + row * 2 ^ 15 + col)
      (s.repairRecord ⟨3, bank, row, f.first, f.last, false, false⟩).fenceChannels bank row col
    | none => s.raiseReplace

/-! ### Repair (R315 to R317) -/

/-- A row repair begins: the newest map entry of a row stands first, and the spare row it replaces is retired
(R316). -/
def State.startRow (s : State) (q : RepairItem) (spare : Nat) : State :=
  let s := s.modTansy fun t =>
    { t with spareUsed := t.spareUsed ++ [(q.bank, spare)], rowRepairs := inc32 t.rowRepairs,
             rowMaps := ⟨q.bank, q.row, spare, 0⟩ :: t.rowMaps }
  (s.log 0x2001 8 8 (q.bank * 2 ^ 24 + q.row * 2 ^ 8 + spare)).repairRecord ⟨1, q.bank, q.row, spare, 0, false, false⟩

/-- A bank enters COPY (R317). -/
def State.startCopy (s : State) (q : RepairItem) (spare : Nat) : State :=
  let s := s.modTansy fun t => { t with copy := some (q.bank, spare), copied := 0, copyRow := some q.row }
  (s.log 0x2002 7 8 (q.bank * 2 ^ 8 + spare)).repairRecord ⟨2, q.bank, 0, spare - 128, 0, false, false⟩

/-- The first step that is possible for a failing row (R315 to R320). A spare bank not in service whose rows run
out is given up (notes/assumptions/41.md). -/
def State.repair (s : State) (q : RepairItem) : State :=
  match s.tansy.freeRow q.bank with
  | some k => s.startRow q k
  | none =>
    match s.logicalBank q.bank with
    | none => s
    | some lb =>
      match s.tansy.freeBank with
      | some b => s.startCopy q b
      | none => s.fenceWord lb q.row q.col

/-- Whether the repair of a queued row can begin: one row per bank, up to 4 banks at once; a second bank waits for the
copy of the first (R315, R317, R318). -/
def State.canStart (s : State) (q : RepairItem) : Bool :=
  !(s.tansy.bankBusy q.bank) && decide (s.tansy.copying + (if s.tansy.copy.isSome then 1 else 0) < 4) &&
  ((s.tansy.freeRow q.bank).isSome || s.tansy.freeBank.isNone || s.tansy.copy.isNone)

/-- REPAIR_START: the first queued row whose repair can begin (R315). -/
def execRepairStart (s : State) : Host.Outcome State Fault Refusal :=
  .next (if !s.tansyUp || !s.memOpen then s
    else match s.tansy.queue.find? s.canStart with
      | none => s
      | some q => (s.modTansy fun t => { t with queue := t.queue.erase q }).repair q)

/-- Copy `k` columns of a row, from column `c` on, from one physical row to another, exactly as stored (R316). -/
def copyRowFrom (m : MemSt) (bank src dst c : Nat) : Nat → MemSt
  | 0 => m
  | k + 1 =>
    let m := copyRowFrom m bank src dst c k
    copyWordAt m (wordNo bank src (c + k)) (wordNo bank dst (c + k))

/-- A row copy goes on from its progress column up to column `e`: each column is copied and mapped to the spare row, and its
write-back moves with it (R316, R321). -/
def State.copyColumns (s : State) (r : RowMap) (e : Nat) : State :=
  let old := match s.tansy.rowMaps.find? (fun m => m.bank == r.bank && m.row == r.row && m.progress == 64) with
    | some o => 512 + o.spare
    | none => r.row
  let lo := wordNo r.bank old 0
  let hi := wordNo r.bank (512 + r.spare) 0
  (s.modMem fun m =>
    { copyRowFrom m r.bank old (512 + r.spare) r.progress (e - r.progress) with
      writeBack := m.writeBack.map fun w => if lo + r.progress ≤ w ∧ w < lo + e then w - lo + hi else w }).modTansy fun t =>
    { t with rowMaps := t.rowMaps.map fun m => if m = r then { m with progress := max r.progress e } else m }

/-- ROW_COPY_DONE: every column of the row is mapped to the spare row (R316), and a scrub pass that left the row takes
it (R324). -/
def execRowCopyDone (bank : Fin 130) (s : State) : Host.Outcome State Fault Refusal :=
  .next (if !s.tansyUp then s
    else match s.tansy.rowMaps.find? (fun m => m.bank == bank.val && decide (m.progress < 64)) with
      | none => s
      | some r =>
        ((s.copyColumns r 64).modTansy fun t =>
          { t with rowMaps := { r with progress := 64 } ::
              t.rowMaps.filter fun m => !(m.bank == r.bank && m.row == r.row) }).scrubLater r.bank r.row)

/-- TANSY stops in the middle of its row copies: how far each has come is a free value, and the columns copied are mapped to
the spare row (R316, R321; notes/assumptions/41.md). -/
def State.stopCopies (s : State) : State :=
  if !s.tansyUp then s
  else (s.tansy.rowMaps.filter fun m => decide (m.progress < 64)).foldl (fun s r =>
    let (v, s) := s.draw
    s.copyColumns r (r.progress + v.toNat % (64 - r.progress))) s

/-- The copied map of a bank with every word copied. -/
def allCopied : Nat := 2 ^ 32768 - 1

/-- Copy logical word `i` of a bank to the spare under COPY, unless it is marked copied (R317, R318). -/
def State.copyLogical (s : State) (bank spare i : Nat) : State :=
  if s.tansy.copied.testBit i then s
  else
    let row := i / 64
    let col := i % 64
    (s.modMem fun m => copyWordAt m (wordNo bank (s.physRow bank row col) col)
      (wordNo spare (s.physRow spare row col) col)).modTansy fun t => { t with copied := t.copied ||| 2 ^ i }

/-- Copy `k` logical words in order from word `i`, wrapping after the last (R318). -/
def State.copyRun (s : State) (bank spare i : Nat) : Nat → State
  | 0 => s
  | k + 1 => (s.copyLogical bank spare (i % 32768)).copyRun bank spare (i + 1) k

/-- BANK_SWITCH: all words are copied, and from the next MEMCLK the spare serves the bank (R317, R318). Faults queued
for the old bank go on in the spare (R324), and so do the requests that wait at it. -/
def execBankSwitch (s : State) : Host.Outcome State Fault Refusal :=
  .next (match s.tansy.copy with
    | none => s
    | some (b, spare) =>
      if s.blockUp 0 && s.tansy.copied == allCopied then
        let moved := fun w => if w / 33792 = b then (s.logicalRow b (w % 33792 / 64) (w % 64)).map fun r =>
            wordNo spare (s.physRow spare r (w % 64)) (w % 64) else some w
        let back := s.mem.writeBack.filterMap moved
        let s := s.modTansy fun t =>
          { t with copy := none, copied := 0, copyRow := none,
                   s0 := if spare = 128 then some b else t.s0, s1 := if spare = 129 then some b else t.s1,
                   queue := t.queue.map fun q => if q.bank = b then { q with bank := spare } else q }
        let s := s.modMem fun m =>
          { m with waiting := m.waiting.map fun w => if w.bank = b then { w with bank := spare } else w,
                   holding := m.holding.map fun h => if h = b then spare else h,
                   writeBack := back }
        let s := s.modYar fun y => { y with bankCopyStart := false, bankCopySwitched := true }
        s.log 0x2003 7 8 (b * 2 ^ 8 + spare)
      else s)

/-! ### Reapplying the map at start (R321, R322) -/

/-- Join a fenced range into the table. -/
def fenceRange (fs : List Fence) (bank row : Nat) : Nat → Nat → List Fence
  | _, 0 => fs
  | c, k + 1 =>
    let fs := if fs.any (·.covers bank row c) then fs
      else match fenceColumn fs bank row c with
        | some (g, _) => g
        | none => fs
    fenceRange fs bank row (c + 1) k

/-- Map a row to a spare row at once: the cleared array needs no copy (R322). -/
def TansySt.mapRow (t : TansySt) (bank row spare : Nat) : TansySt :=
  { t with spareUsed := if t.spareUsed.contains (bank, spare) then t.spareUsed else t.spareUsed ++ [(bank, spare)],
           rowMaps := ⟨bank, row, spare, 64⟩ :: t.rowMaps.filter fun m => !(m.bank == bank && m.row == row) }

/-- Apply one record of the field repair log (R322). -/
def TansySt.applyRecord (t : TansySt) (r : RepairRec) : TansySt :=
  if r.type = 1 then t.mapRow r.bank r.row r.spare
  else if r.type = 2 then (if r.spare = 0 then { t with s0 := some r.bank } else { t with s1 := some r.bank })
  else if r.type = 3 then { t with fences := fenceRange t.fences r.bank r.row r.spare (r.last + 1 - r.spare) }
  else if r.type = 4 then { t with replace := true }
  else t

/-- A start discards the records that a torn append left with COMMIT 1 (R236, R322). -/
def TansySt.dropTorn (t : TansySt) : TansySt :=
  { t with fieldLog := t.fieldLog.map fun r => { r with void := r.void || !r.committed } }

/-- The boot ROM applies the committed records in sequence order, and leaves a torn one out for good (R322). -/
def State.reapplyLog (s : State) : State :=
  (s.modTansy fun t =>
    { ((t.fieldLog.filter fun r => r.committed).foldl TansySt.applyRecord t).dropTorn with mapApplied := true }).afterClear

/-! ### TANSY_CMD and REPAIR_CLEAR (R311 to R313, R323, R324) -/

/-- Whether every channel is DISABLED. -/
def State.allDisabled (s : State) : Bool := (List.finRange 20).all fun n => (s.chan n).state == .disabled

/-- Whether a scratch area is enabled. -/
def State.anyArea (s : State) : Bool := s.mem.areas.toList.any areaOn

/-- Whether a destructive march runs: that of the start-up, or one that TANSY_CMD asked for (R310, R311). -/
def State.destructiveMarch (s : State) : Bool := s.tansy.destructive || s.mem.clearState == 1

/-- Whether a march, a row copy or a bank copy runs (R311). -/
def State.marching (s : State) : Bool :=
  s.tansy.preserving || s.destructiveMarch || decide (0 < s.tansy.copying) || s.tansy.copy.isSome

/-- TANSY_STATE (R325). -/
def State.tansyState (s : State) : Nat :=
  natOfBits [s.tansy.scrubbing, s.tansy.preserving, s.destructiveMarch, decide (0 < s.tansy.copying),
             s.tansy.copy.isSome]

/-- The effect of an accepted TANSY_CMD. -/
def State.applyTansy (s : State) (v : Nat) : State :=
  if v = 1 then (s.modTansy fun t => { t with destructive := true }).modMem fun m => { m with clearState := 1 }
  else if v = 2 then
    s.modTansy fun t => { t with preserving := true, stopRequested := false }
  else if v = 3 then s.startScrub
  else if s.tansy.preserving then s.modTansy fun t => { t with stopRequested := true }
  else s

end Sys2Proof.Machine
end

