-- ==== Sys2Proof/Machine/Yarrow.lean ====
section
/-! DEFINITION. Yarrow's processor-side accesses and YDMA (R38, R223, R224, R231 to R234, R237, R318). -/

namespace Sys2Proof.Machine

open Sys2Proof

/-- Whether YCORE runs: the boot ROM has started an image or its loader since Yarrow was last released. -/
def State.ycoreRuns (s : State) : Bool := s.rst.yarBooted

/-- Whether the YS part is out of reset. -/
def State.yarUp (s : State) : Bool := s.rst.phase != .held && s.rst.phase != .optionLoad

/-- Whether Yarrow's domain is still held by a source of narrower reach: for 1 µs, or while the debug module requests a reset
(R278, R279). -/
def State.yarrowHeld (s : State) : Bool := decide (s.now < s.rst.yarUntil) || s.rst.debugHold != 0

/-- Whether the YS blocks run: Yarrow is out of reset and YCLK is not gated (R279, R297, R300). -/
def State.ysRuns (s : State) : Bool := s.yarUp && !s.yarrowHeld && s.clocked

/-! ### LOCK_REQ, BANK_COPY, the memory window, the watchdog -/

/-- The access fault that YCORE takes (R223, R224). -/
def State.yFault (s : State) : State := s.modYar fun y => { y with winFault := true, winResult := [] }

/-- A store to LOCK_REQ: LOCK or UNLOCK at the lock unit as YC; RESULT is ISOLATED on a STANDBY or JOINING device of a
Mirror pair (R38). -/
def State.storeLockReq (s : State) (v : W32) : State :=
  if !s.blockUp 0 then s.yFault
  else
    let op := if v.getLsbD 7 then 13 else 12
    let slot := v.toNat % 64
    let (res, s) := if s.shadows then (rsIsolated, s) else s.lockOp .yc op slot 0
    s.modYar fun y => { y with winFault := false,
                               lockReq := BitVec.ofNat 32 (res * 65536 + bnat (v.getLsbD 7) * 128 + slot) }

/-- A store to BANK_COPY. START takes 1 only while a bank is in COPY state; a 1 in SWITCHED clears it; a START that rises
begins at logical word 0 (R318). A held YDMA answers with an error (R290). -/
def State.storeBankCopy (s : State) (v : W32) : State :=
  if !s.blockUp 16 then s.yFault
  else
    let start := v.getLsbD 31 && s.tansy.copy.isSome
    s.modYar fun y =>
      { y with winFault := false, bankCopyStart := start, bankCopySwitched := y.bankCopySwitched && !v.getLsbD 30,
               bankCopyPos := if start && !y.bankCopyStart then 0 else y.bankCopyPos }

/-- What YCORE does with a register of the peripherals or of the configuration interface: PMP lets machine mode alone reach
it (R224). -/
def State.machineOnly (s : State) (machine : Bool) (act : State → State) : State :=
  if !s.ycoreRuns then s else if !machine then s.yFault else act s

/-- LOCK_REQ (R38). -/
def execLockReq (machine : Bool) (v : W32) (s : State) : Host.Outcome State Fault Refusal :=
  .next (s.machineOnly machine fun s => s.storeLockReq v)

/-- BANK_COPY_START: a write of BANK_COPY (R318). -/
def execBankCopyStart (machine : Bool) (v : W32) (s : State) : Host.Outcome State Fault Refusal :=
  .next (s.machineOnly machine fun s => s.storeBankCopy v)

/-- BANK_COPY as read (R318). -/
def State.bankCopyReg (s : State) : Nat :=
  let (spare, bank) := match s.tansy.copy with
    | some (b, p) => (p, b)
    | none => (255, 255)
  bnat s.yar.bankCopyStart * 2 ^ 31 + bnat s.yar.bankCopySwitched * 2 ^ 30 + bnat s.tansy.copy.isSome * 2 ^ 29 +
    spare * 2 ^ 16 + bank

/-- Whether the lanes that hold bytes `off` to `off + len − 1` are all readable. -/
def WordRd.lanesOk (r : WordRd) (off len : Nat) : Bool :=
  (List.range 4).all fun i =>
    r.lane i != .uncorr || decide (off + len ≤ 8 * i) || decide (8 * i + 8 ≤ off)

/-- SRAM as a load reads it: its words pass ECC, a corrected word is written back and counted, and an uncorrectable one
answers nothing (R224). -/
def YarSt.sramLoad (y : YarSt) (a n : Nat) : Option (List Byte) × YarSt :=
  let touched := fun (e : Nat × Bool) => decide (a / 4 ≤ e.1) && decide (e.1 * 4 < a + n)
  let fixed := y.sramErr.filter fun e => touched e && !e.2
  let z := { y with sramErr := y.sramErr.filter (fun e => !(fixed.contains e)), sramCe := satAdd y.sramCe fixed.length }
  (if y.sramErr.any fun e => touched e && e.2 then none else some (loadBytes y.sram a n), z)

/-- A store to SRAM: a word written whole, or rewritten from a correctable one, which the partial store reads and counts, has
fresh check bits (R224). -/
def YarSt.sramStore (y : YarSt) (a : Nat) (bs : List Byte) : YarSt :=
  let whole := fun (w : Nat) => decide (a ≤ 4 * w) && decide (4 * w + 4 ≤ a + bs.length)
  let touched := fun (w : Nat) => decide (a / 4 ≤ w) && decide (w * 4 < a + bs.length)
  { y with sram := storeBytes y.sram a bs,
           sramCe := satAdd y.sramCe (y.sramErr.filter fun e => touched e.1 && !whole e.1 && !e.2).length,
           sramErr := y.sramErr.filter fun e => !(whole e.1) && !(touched e.1 && !e.2) }

/-- WATCHDOG_KICK: the period starts anew, and firmware may set it, from 1 ms to 10 s, in µs (R237). -/
def execWatchdogKick (machine : Bool) (period : Option Nat) (s : State) : Host.Outcome State Fault Refusal :=
  .next (s.machineOnly machine fun s =>
    s.modYar fun y =>
      { y with wdtAt := some s.yclkNow,
               wdtPeriod := match period with
                 | some p => if 1000 ≤ p ∧ p ≤ 10000000 then p else y.wdtPeriod
                 | none => y.wdtPeriod })

/-- SRAM_SCRUB, once a second while Yarrow is out of reset and YCLK runs: the words that hold a correctable error, those that the scrubber reports among them, are
written back and counted (R224, R279, R297, R300). -/
def execSramScrub (dt : Nat) (corrected : List Nat) (s : State) : Host.Outcome State Fault Refusal :=
  let s := s.advance dt
  .next (if s.ysRuns && s.due s.yar.scrubAt (ms 1000) then s.modYar fun y =>
      let own := (y.sramErr.filter fun e => !e.2).map (·.1)
      { y with sramCe := satAdd y.sramCe (own ++ corrected.filter fun w => !(own.contains w)).length,
               sramErr := y.sramErr.filter (·.2), scrubAt := s.now }
    else s)

/-! ### Flash as YCORE and YDMA read it (R235, R236, R266, R322) -/

/-- A record of the field repair log as its 16 bytes (R322). -/
def repairBytes (r : RepairRec) (seq : Nat) : List Byte :=
  let b := leBytes r.type 1 ++ leBytes r.bank 1 ++ leBytes r.row 2 ++ leBytes r.spare 1 ++ leBytes r.last 1 ++
    [0#8, if r.committed then 0#8 else 0x80#8] ++ leBytes seq 4
  b ++ leBytes (crc32c b) 4

/-- The entry in slot `i` of page `p` of the event-log ring: of the entries appended, the newest that the slot took, where it
is still there (R236). -/
def YarSt.ringEntry (y : YarSt) (p i : Nat) : Option LogEntry :=
  let first := y.ringCount - y.flashLog.length
  let j := p * 255 + i
  let turn := if j < y.ringCount then (y.ringCount - 1 - j) / 65280 else 0
  let k := j + turn * 65280
  if first ≤ k ∧ k < y.ringCount then y.flashLog[k - first]? else none

/-- How many pages of the ring were begun up to the one that page `p` holds now, if it has been begun (R236). -/
def YarSt.pageNo (y : YarSt) (p : Nat) : Option Nat :=
  let begun := (y.ringCount + 254) / 255
  if p < begun then some (p + (begun - 1 - p) / 256 * 256) else none

/-- A byte of an image slot: of the image that it holds, otherwise of what an open or interrupted session has programmed. -/
def slotByte (img : List Byte) (raw : List (Option Byte)) (o : Nat) (free : Byte) : Byte :=
  if o < img.length then byteAt img o else ((raw.getD o none).getD free)

/-- A byte of the flash by its offset: image slots, the field repair log and the entries of the event-log ring as the spec
lays them out; what the spec does not state, the layout of the control, settings and key records among it, is a free
value. -/
def State.flashAt (s : State) (a : Nat) : Byte :=
  let free := Config.flashByte a
  if 0x400000 ≤ a ∧ a < 0x800000 then slotByte s.upd.imageA s.upd.rawA (a - 0x400000) free
  else if 0x800000 ≤ a ∧ a < 0xC00000 then slotByte s.upd.imageB s.upd.rawB (a - 0x800000) free
  else if 0xC90000 ≤ a ∧ a < 0xCA0000 then
    let i := (a - 0xC90000) / 16
    match s.tansy.fieldLog[i]? with
    | some r => byteAt (repairBytes r i) (a % 16)
    | none => free
  else if 0xD00000 ≤ a ∧ a < 0xE00000 ∧ 16 ≤ a % 4096 then
    match s.yar.ringEntry ((a - 0xD00000) / 4096) (a % 4096 / 16 - 1) with
    | some e => if e.void then free else byteAt e.bytes (a % 16)
    | none => free
  else if 0xD00000 ≤ a ∧ a < 0xE00000 then
    match s.yar.pageNo ((a - 0xD00000) / 4096) with
    | some k => Config.pageHeader s.yar.ringBase k (a % 4096)
    | none => free
  else free

/-! ### The address map of YCORE (R223, R224) -/

/-- The parts of the address map. -/
inductive YMap where
  | rom
  | sram (a : Nat)
  | log (a : Nat)
  | peripheral
  | config
  | flash (a : Nat)
  | window (a : Nat)
  | unmapped
  deriving DecidableEq, Repr

/-- The part that `n` bytes at an address lie in; bytes that leave their part are mapped nowhere (R223). -/
def yMap (addr n : Nat) : YMap :=
  let within := fun (lo hi : Nat) => decide (lo ≤ addr) && decide (addr + n ≤ hi)
  if within 0 0x8000 then .rom
  else if within 0x10000000 0x10040000 then .sram (addr - 0x10000000)
  else if within 0x18000000 0x18010000 then .log (addr - 0x18000000)
  else if within 0x20000000 0x20010000 then .peripheral
  else if within 0x21000000 0x22000000 then .config
  else if within 0x30000000 0x34000000 then .flash (addr - 0x30000000)
  else if within 0x40000000 0x48000000 then .window (addr - 0x40000000)
  else .unmapped

/-- A load that answers `bs`. -/
def State.yLoaded (s : State) (bs : List Byte) : State :=
  s.modYar fun y => { y with winFault := false, winResult := bs }

/-- A load of `n` bytes from a register: LOCK_REQ and BANK_COPY read as the spec gives them, with an error while their block
is held (R290); of the other registers it gives
neither place nor content, so their bytes are free values (notes/assumptions/86.md). -/
def State.loadRegister (s : State) (addr n : Nat) : State :=
  if addr = 0x21000040 ∧ n = 4 then (if s.blockUp 0 then s.yLoaded (leBytes s.yar.lockReq.toNat 4) else s.yFault)
  else if addr = 0x20000380 ∧ n = 4 then (if s.blockUp 16 then s.yLoaded (leBytes s.bankCopyReg 4) else s.yFault)
  else
    ({ s with freeCtr := s.freeCtr + 1 }).yLoaded ((List.range n).map fun i => Config.mappedByte (addr + i) s.freeCtr)

/-- A load by YCORE (R223, R224). -/
def State.yLoad (s : State) (machine : Bool) (addr n : Nat) : State :=
  match yMap addr n with
  | .rom =>
    if !machine then s.yFault
    else ({ s with freeCtr := s.freeCtr + 1 }).yLoaded ((List.range n).map fun i => Config.mappedByte (addr + i) 0)
  | .sram a =>
    let (r, y) := s.yar.sramLoad a n
    let s := s.modYar fun _ => y
    match r with
    | some bs => s.yLoaded bs
    | none => s.yFault
  | .log a => if s.blockUp 21 then s.yLoaded (loadBytes s.yar.logRam a n) else s.yFault
  | .peripheral => if machine then s.loadRegister addr n else s.yFault
  | .config => if machine then s.loadRegister addr n else s.yFault
  | .flash a => if s.blockUp 17 then s.yLoaded ((List.range n).map fun i => s.flashAt (a + i)) else s.yFault
  | .window a =>
    let p := a / 32
    let off := a % 32
    if !machine || !s.memOpen || !s.blockUp 0 || decide (32 < off + n) then s.yFault
    else if !s.allowed 3 (p / 128) false then (s.countRefused 3).yFault
    else
      let (r, s) := s.readP p
      if r.lanesOk off n then s.yLoaded ((r.data.drop off).take n) else s.yFault
  | .unmapped => s.yFault

/-- A store by YCORE (R223, R224). A store to a register of which the spec gives no place changes nothing here
(notes/assumptions/86.md). -/
def State.yStore (s : State) (machine : Bool) (addr : Nat) (d : List Byte) : State :=
  match yMap addr d.length with
  | .rom => s.yFault
  | .flash _ => s.yFault
  | .unmapped => s.yFault
  | .sram a => (s.modYar fun y => y.sramStore a d).yLoaded []
  | .log a => if s.blockUp 21 then (s.modYar fun y => { y with logRam := storeBytes y.logRam a d }).yLoaded [] else s.yFault
  | .peripheral =>
    if !machine then s.yFault
    else if addr = 0x20000380 ∧ d.length = 4 then s.storeBankCopy (BitVec.ofNat 32 (leNat d))
    else s.yLoaded []
  | .config =>
    if !machine then s.yFault
    else if addr = 0x21000040 ∧ d.length = 4 then s.storeLockReq (BitVec.ofNat 32 (leNat d))
    else s.yLoaded []
  | .window a =>
    let p := a / 32
    let off := a % 32
    if !machine || !s.memOpen || !s.blockUp 0 || decide (32 < off + d.length) then s.yFault
    else if !s.allowed 3 (p / 128) true then (s.countRefused 3).yFault
    else
      let (ok, s) := s.writeP p off d
      if ok then s.yLoaded [] else s.yFault

/-- MEMORY_WINDOW_ACCESS: a load or store of YCORE anywhere in its address map. In the window it is checked against the
descriptors of YC; refusals, accesses before the memory opens, uncorrectable lanes and stores that R20 refuses raise access
faults (R23, R28, R223, R224). -/
def execMemoryWindowAccess (machine : Bool) (addr : Nat) (op : WinOp) (s : State) : Host.Outcome State Fault Refusal :=
  .next (if !s.ycoreRuns then s
    else match op with
      | .load n => s.yLoad machine addr n
      | .store d => s.yStore machine addr d)

/-! ### YDMA (R231 to R234) -/

/-- The 256 bits of a descriptor as the SRAM holds them (R232). -/
def State.descriptor (s : State) (i : Nat) : Nat := leNat (loadBytes s.yar.sram (0x30000 + 32 * i) 32)

/-- A field of a descriptor. -/
def dField (w lo n : Nat) : Nat := w / 2 ^ lo % 2 ^ n

/-- A step field, signed (R232). -/
def dStep (w lo : Nat) : Int :=
  let v := dField w lo 24
  if v < 2 ^ 23 then v else (v : Int) - 2 ^ 24

/-- The targets of R231. -/
inductive YTarget where
  | array (a : Nat)
  | sram (a : Nat)
  | log (a : Nat)
  | aperture (n : Nat)
  | flash (a : Nat)
  | unmapped
  deriving DecidableEq, Repr

/-- The target of a byte address (R231). -/
def yTarget (a : Int) : YTarget :=
  if a < 0 then .unmapped
  else
    let a := a.toNat
    if a < 0x8000000 then .array a
    else if a < 0x8040000 then .sram (a - 0x8000000)
    else if 0x9000000 ≤ a ∧ a < 0x9010000 then .log (a - 0x9000000)
    else if 0xA000000 ≤ a ∧ a < 0xA140000 then .aperture ((a - 0xA000000) / 65536)
    else if 0xC000000 ≤ a ∧ a < 0x10000000 then .flash (a - 0xC000000)
    else .unmapped

/-- The channel that an aperture selects. -/
def YTarget.chan : YTarget → Option (Fin 20)
  | .aperture n => chanOf n
  | _ => none

/-- Whether a target is an aperture. -/
def YTarget.isAperture : YTarget → Bool
  | .aperture _ => true
  | _ => false

/-- Change a YDMA channel. -/
def State.modYdma (s : State) (k : Fin 4) (f : YdmaCh → YdmaCh) : State :=
  s.modYar fun y => { y with ydma := y.ydma.set k.val (f (y.ydma.get k)) k.isLt }

/-- The outcome of a unit's read or write: done, a halt with its cause, SHORT, or REFUSED. -/
inductive YRes where
  | done
  | halt (cause : Nat)
  | short
  | refused
  deriving DecidableEq, Repr

/-- The word at RP has been read and not delivered: it counts under R19 all the same. -/
def State.countAtRp (s : State) (n : Fin 20) : State :=
  let c := s.chan n
  let fs := s.fenced n
  let p := skipFenced c.s fs fs.length c.rp
  let l := c.locAt p.off
  s.countRead l (c.addr p.off) (readWordAt s.mem (s.phys l))

/-- Read one unit (R231, R233, R234). For the read-idle timer each word of an aperture is a completed read (R79,
notes/assumptions/87.md), and an uncorrectable tail entry puts the channel in FAULT (R72). An aperture reaches the array through its channel,
so MEMCTL must be out of reset for it too (R290). -/
def State.yRead (s : State) (k : Fin 4) (a : Int) : YRes × List Byte × State :=
  match yTarget a with
  | .array a =>
    if !s.blockUp 0 then (.halt 3, [], s)
    else if !s.allowed 4 (a / 4096) false then (.halt 1, [], s.countRefused 4)
    else
      let (r, s) := s.readP (a / 32)
      if r.lanesOk (a % 32) 4 then (.done, (r.data.drop (a % 32)).take 4, s) else (.halt 2, [], s)
  | .sram a =>
    let (r, y) := s.yar.sramLoad a 4
    let s := s.modYar fun _ => y
    match r with
    | some bs => (.done, bs, s)
    | none => (.halt 2, [], s)
  | .log a => if s.blockUp 21 then (.done, loadBytes s.yar.logRam a 4, s) else (.halt 3, [], s)
  | .flash a => if s.blockUp 17 then (.done, (List.range 4).map fun i => s.flashAt (a + i), s) else (.halt 3, [], s)
  | .unmapped => (.halt 4, [], s)
  | .aperture i =>
    match chanOf i with
    | none => (.halt 4, [], s)
    | some n =>
      let c := s.chan n
      let buf := (s.yar.ydma.get k).buf
      if !s.blockUp 0 || !s.blockUp 1 || c.state == .disabled || c.state == .fault || c.cfg.consumer != .yarrow then (.halt 3, [], s)
      else if 4 ≤ buf.length then
        if (s.yar.ydma.get k).bufBad then (.halt 2, [], s)
        else (.done, buf.take 4, s.modYdma k fun y => { y with buf := y.buf.drop 4 })
      else if c.state == .held then (.short, [], s)
      else match s.ringWord n with
        | (none, s') => if (s'.chan n).state == .fault then (.halt 3, [], s') else (.short, [], s')
        | (some w, s') =>
          if w.stat = rsUncorr then (.halt 2, [], s.countAtRp n)
          else (.done, w.data.take 4, ((s'.modYdma k fun y => { y with buf := w.data.drop 4, bufBad := false }).readCompleted n).settle n)

/-- SKIP leaves the source of the failing unit behind without reading it again: a unit of an aperture word that is held goes, and a word
at RP that was read and found uncorrectable is taken, where every other unit of it halts in its turn (R234). -/
def State.ySkipSource (s : State) (k : Fin 4) : State :=
  let y := s.yar.ydma.get k
  match (yTarget y.s).chan with
  | none => s
  | some n =>
    let c := s.chan n
    if 4 ≤ y.buf.length then s.modYdma k fun y => { y with buf := y.buf.drop 4 }
    else if y.haltCause != 2 || y.haltWrite || !s.blockUp 0 || !s.blockUp 1 || c.state == .disabled || c.state == .fault ||
        c.state == .held || c.cfg.consumer != .yarrow then s
    else match s.ringWordAs n false with
      | (none, t) => t
      | (some w, t) => ((t.modYdma k fun y => { y with buf := w.data.drop 4, bufBad := true }).readCompleted n).settle n

/-- Whether a channel has lost raw bytes of its own for want of space: fewer are held back than came, and no word was written. -/
def rawLost (before after : Chan) (k : Nat) : Bool :=
  before.cp == after.cp && decide (after.rawBuf.length < before.rawBuf.length + k)

/-- A channel's close that Yarrow makes: answers whether the packet was refused at it (R87, R233). -/
def State.yClose (s : State) (n : Fin 20) : Bool × State :=
  let s := s.prodClose n none
  ((s.chan n).refusing, s.modCh n fun c => { c with refusing := false })

/-- Write one unit; `first` and `last` tell its place in the descriptor. A raw word that finds no space ends the descriptor with REFUSED (R87,
R231, R233, R234). -/
def State.yWrite (s : State) (a : Int) (first last : Bool) (bs : List Byte) : YRes × State :=
  match yTarget a with
  | .array a =>
    if !s.blockUp 0 then (.halt 3, s)
    else if !s.allowed 4 (a / 4096) true then (.halt 1, s.countRefused 4)
    else
      let (ok, s) := s.writeP (a / 32) (a % 32) bs
      (if ok then .done else .halt 2, s)
  | .sram a => (.done, s.modYar fun y => y.sramStore a bs)
  | .log a =>
    if s.blockUp 21 then (.done, s.modYar fun y => { y with logRam := storeBytes y.logRam a bs }) else (.halt 3, s)
  | .flash _ => (.halt 4, s)
  | .unmapped => (.halt 4, s)
  | .aperture i =>
    match chanOf i with
    | none => (.halt 4, s)
    | some n =>
      let c := s.chan n
      if !s.blockUp 0 || !s.blockUp 1 || c.state == .disabled || c.state == .fault || c.cfg.producer != .yarrow then (.halt 3, s)
      else if c.cfg.cls = .raw then
        if c.state ≠ .active then (.refused, s.countStateRefused n none)
        else
          let t := s.rawBytes n none last bs
          (if rawLost c (t.chan n) bs.length then .refused else .done, t)
      else
        let s := if first then s.prodOpen n none true 0 0 0 0 else s
        if (s.chan n).pkt.isNone then (.refused, s.modCh n fun c => { c with refusing := false })
        else
          let s := (s.prodBytes n bs).2
          if (s.chan n).pkt.isNone then (.refused, s.modCh n fun c => { c with refusing := false })
          else
            let (refused, s) := if last then s.yClose n else (false, s)
            (if refused then .refused else .done, s)

/-- The total units of a descriptor. -/
def dUnits (w : Nat) : Nat := (dField w 64 16 + 1) * (dField w 128 16 + 1) * (dField w 192 16 + 1)

/-- The units of a descriptor already moved. -/
def YdmaCh.moved (y : YdmaCh) (w : Nat) : Nat :=
  (y.k2 * (dField w 128 16 + 1) + y.k1) * (dField w 64 16 + 1) + y.k0

/-- A channel after one unit: the loops of R232; the steps on an aperture's side are ignored (R233). -/
def YdmaCh.advance (y : YdmaCh) (w : Nat) : YdmaCh :=
  let sAp := (yTarget y.s).isAperture
  let dAp := (yTarget y.d).isAperture
  let mv := fun (y : YdmaCh) (so d : Nat) =>
    { y with s := if sAp then y.s else y.s + dStep w so, d := if dAp then y.d else y.d + dStep w d }
  let y := mv y 104 80
  if y.k0 < dField w 64 16 then { y with k0 := y.k0 + 1 }
  else
    let y := mv { y with k0 := 0 } 168 144
    if y.k1 < dField w 128 16 then { y with k1 := y.k1 + 1 }
    else
      let y := mv { y with k1 := 0 } 232 208
      { y with k2 := y.k2 + 1 }

/-- Whether a descriptor is in error: a step of an address that is used with bits [1:0] not 00b, or an aperture read
that is no whole number of words (R232, R233). -/
def descriptorError (w : Nat) : Bool :=
  let bad := fun (lo : Nat) => dField w lo 24 % 4 != 0
  let sAp := (yTarget (4 * dField w 12 26 : Nat)).isAperture
  let dAp := (yTarget (4 * dField w 38 26 : Nat)).isAperture
  (!sAp && (bad 104 || bad 168 || bad 232)) || (!dAp && (bad 80 || bad 144 || bad 208)) ||
  (sAp && dUnits w % 8 != 0)

/-- A halt: address, direction and cause are latched and YCORE is interrupted (R234). -/
def State.yHalt (s : State) (k : Fin 4) (cause : Nat) (a : Int) (write : Bool) : State :=
  s.modYdma k fun y => { y with haltCause := cause, haltAddr := (a % 2 ^ 28).toNat, haltWrite := write, irq := true }

/-- The channel whose packet or raw bytes a descriptor's destination aperture holds open. -/
def State.yOpen (s : State) (k : Fin 4) : Option (Fin 20) :=
  match (yTarget (s.yar.ydma.get k).d).chan with
  | some n => if (s.chan n).cfg.producer = .yarrow then some n else none
  | none => none

/-- The end of a descriptor on its destination aperture: a raw channel makes its tail commit, and a packet that SHORT cuts off closes with
what it holds (notes/assumptions/43.md); answers the status, REFUSED where that close was refused (R87, R233). -/
def State.yClosing (s : State) (k : Fin 4) (status : Nat) : Nat × State :=
  match s.yOpen k with
  | none => (status, s)
  | some n =>
    if (s.chan n).cfg.cls = .raw then (status, if status = 1 then s else s.tailCommit n none false)
    else if status = 2 then
      let (refused, s) := s.yClose n
      (if refused then 3 else status, s)
    else (status, s)

/-- A descriptor completes: 1 OK, 2 SHORT, 3 REFUSED; the chain goes on at NEXT or ends (R232, R233). -/
def State.yComplete (s : State) (k : Fin 4) (w status : Nat) : State :=
  let (status, s) := s.yClosing k status
  (s.modYdma k fun y =>
    { y with status := status, residual := dUnits w - y.moved w, irq := y.irq || dField w 0 1 == 1,
             started := false, active := dField w 1 11 != 0, index := dField w 1 11, k0 := 0, k1 := 0, k2 := 0,
             buf := [], bufBad := false }).idleAnew

/-- Whether a descriptor's source aperture is on a DRAINING channel. -/
def State.yDraining (s : State) (k : Fin 4) : Bool :=
  (yTarget (s.yar.ydma.get k).s).chan.any fun n => (s.chan n).state == .draining

/-- The unit is behind: answers whether the descriptor goes on, and completes it after its last unit. A source aperture on a
DRAINING channel delivers what is stored and completes with SHORT (R50, R234, notes/assumptions/85.md). -/
def State.yNext (s : State) (k : Fin 4) (w : Nat) (last : Bool) : Bool × State :=
  let short := s.yDraining k
  let s := s.modYdma k fun y => y.advance w
  if last then
    let s := s.yComplete k w 1
    (false, if short then s.modYdma k fun y => { y with status := 2 } else s)
  else (true, s)

/-- A skipped unit is not written. A packet of an aperture still opens at the descriptor's first unit and closes at its
last, and a raw channel still makes its tail commit (R233, R234). -/
def State.ySkipped (s : State) (k : Fin 4) (w : Nat) (first last : Bool) : Bool × State :=
  match s.yOpen k with
  | none => s.yNext k w last
  | some n =>
    if !s.blockUp 0 || !s.blockUp 1 || (s.chan n).state == .disabled || (s.chan n).state == .fault then s.yNext k w last
    else if (s.chan n).cfg.cls = .raw then (if last then s.tailCommit n none false else s).yNext k w last
    else
      let s := if first then s.prodOpen n none true 0 0 0 0 else s
      if (s.chan n).pkt.isNone then
        (false, (s.modCh n fun c => { c with refusing := false }).yComplete k w 3)
      else
        let (refused, s) := if last then s.yClose n else (false, s)
        if refused then (false, s.yComplete k w 3) else s.yNext k w last

/-- A unit that was read from an aperture and could not be written stays to be written again (R234). -/
def State.yKeep (s : State) (k : Fin 4) (bs : List Byte) : State :=
  s.modYdma k fun y => if (yTarget y.s).isAperture then { y with buf := bs ++ y.buf } else y

/-- Move one unit; answers whether the descriptor goes on. -/
def State.yUnit (s : State) (k : Fin 4) (w : Nat) : Bool × State :=
  let y := s.yar.ydma.get k
  let first := y.moved w == 0
  let last := y.moved w + 1 == dUnits w
  match s.yRead k y.s with
  | (.halt c, _, s') => (false, s'.yHalt k c y.s false)
  | (.short, _, s') => (false, s'.yComplete k w 2)
  | (.refused, _, s') => (false, s'.yComplete k w 3)
  | (.done, bs, s') =>
    match s'.yWrite y.d first last bs with
      | (.halt c, s'') => (false, (s''.yKeep k bs).yHalt k c y.d true)
      | (.refused, s'') => (false, s''.yComplete k w 3)
      | (.short, s'') => (false, s''.yComplete k w 2)
      | (.done, s'') => s''.yNext k w last

/-- Move units until the descriptor completes or halts; `fuel` bounds the units. -/
def State.yLoop (s : State) (k : Fin 4) (w : Nat) : Nat → State
  | 0 => s
  | fuel + 1 =>
    match s.yUnit k w with
    | (true, s) => s.yLoop k w fuel
    | (false, s) => s

/-- Go on with the descriptor in progress. -/
def State.yRun (s : State) (k : Fin 4) (w : Nat) : State :=
  s.yLoop k w (dUnits w - (s.yar.ydma.get k).moved w)

/-- A descriptor in bank-copy mode: only C0, C1, C2, NEXT and IRQ count (R318). -/
def State.yBankCopy (s : State) (w bank spare : Nat) : State :=
  let n := dUnits w
  let s := s.copyRun bank spare s.yar.bankCopyPos n
  let s := s.modYar fun y =>
    { y with bankCopyPos := if dField w 1 11 = 0 then 0 else (y.bankCopyPos + n) % 32768 }
  s.modYdma 3 fun y =>
    { y with status := 1, residual := 0, irq := y.irq || dField w 0 1 == 1, active := dField w 1 11 != 0,
             index := dField w 1 11, started := false }

/-- The descriptor in progress as its channel fetches it, through the SRAM's check bits: a corrected word is written back and counted, and
an uncorrectable one halts the channel with cause 02h at the descriptor's address, with nothing moved (R224, R232, R234;
notes/assumptions/97.md). -/
def State.yFetch (s : State) (k : Fin 4) : Option Nat × State :=
  let a := 0x30000 + 32 * (s.yar.ydma.get k).index
  let (r, y) := s.yar.sramLoad a 32
  let s := s.modYar fun _ => y
  match r with
  | some bs => (some (leNat bs), s)
  | none => (none, s.yHalt k 2 ((0x8000000 + a : Nat) : Int) false)

/-- The loops of a descriptor start, where they do not run already (R232). -/
def State.yStart (s : State) (k : Fin 4) (w : Nat) : State :=
  if (s.yar.ydma.get k).started then s
  else s.modYdma k fun y =>
    { y with started := true, k0 := 0, k1 := 0, k2 := 0, buf := [], bufBad := false,
             s := (4 * dField w 12 26 : Nat), d := (4 * dField w 38 26 : Nat) }

/-- The descriptor error of the descriptor in progress halts at the unit that comes next; otherwise its units move (R234). -/
def State.yMove (s : State) (k : Fin 4) (w : Nat) : State :=
  if descriptorError w then s.yHalt k 5 ((s.yar.ydma.get k).s) false else s.yRun k w

/-- Channel `k` takes up its descriptor, or goes on with it (R232, R318). -/
def State.yGo (s : State) (k : Fin 4) : State :=
  match s.yFetch k with
  | (none, s) => s
  | (some w, s) =>
    if k.val = 3 ∧ s.yar.bankCopyStart then
      match s.tansy.copy with
      | some (b, spare) => if s.blockUp 0 then s.yBankCopy w b spare else s
      | none => s
    else (s.yStart k w).yMove k w

/-- YDMA_DESCRIPTOR: a channel takes descriptor `index`, the first of a chain or the NEXT of the last, and moves its
units. Machine mode alone starts a chain (R224). A descriptor started before the memory opens waits (R23); a halted channel waits for firmware's choice
(R233, R234). -/
def execYdmaDescriptor (machine : Bool) (k : Fin 4) (index : Nat) (s : State) : Host.Outcome State Fault Refusal :=
  let y := s.yar.ydma.get k
  .next (if !s.ycoreRuns || !s.blockUp 16 || y.haltCause != 0 || (y.active && y.index != index) then s
    else if !y.active && !machine then s.yFault
    else
      let t := s.active.modYdma k fun y => { y with active := true, index := index }
      if !s.memOpen then t else (t.yGo k).serveFaults s)

/-- Whether a channel waits for firmware's choice after a halt. -/
def State.yHalted (s : State) (k : Fin 4) : Bool := s.ycoreRuns && s.blockUp 16 && (s.yar.ydma.get k).haltCause != 0

/-- YDMA_RESUME: the failing unit is tried again, once the memory is open (R23, R234). -/
def execYdmaResume (machine : Bool) (k : Fin 4) (s : State) : Host.Outcome State Fault Refusal :=
  .next (if !s.yHalted k then s
    else if !machine then s.yFault
    else
      let t := s.active.modYdma k fun y => { y with haltCause := 0 }
      if !s.memOpen then t else (t.yGo k).serveFaults s)

/-- YDMA_SKIP: the destination unit stays unchanged, and the next unit follows once the memory is open, where an erroneous descriptor halts
again (R23, R234). A descriptor that could not be fetched has no unit yet: it is fetched again (notes/assumptions/97.md). -/
def execYdmaSkip (machine : Bool) (k : Fin 4) (s : State) : Host.Outcome State Fault Refusal :=
  .next (if !s.yHalted k then s
    else if !machine then s.yFault
    else
      let t := (s.active.ySkipSource k).modYdma k fun y => { y with haltCause := 0 }
      if !(t.yar.ydma.get k).started then (if !s.memOpen then t else (t.yGo k).serveFaults s)
      else match t.yFetch k with
        | (none, t) => t
        | (some w, t) =>
          let first := (t.yar.ydma.get k).moved w == 0
          let last := (t.yar.ydma.get k).moved w + 1 == dUnits w
          match t.ySkipped k w first last with
          | (true, t) => (if s.memOpen then t.yMove k w else t).serveFaults s
          | (false, t) => t.serveFaults s)

/-- A chain ends, with its open aperture packet discarded; the next chain in bank-copy mode starts at logical word 0 (R234, R238, R318). -/
def State.yEnd (s : State) (k : Fin 4) (status : Nat) : State :=
  let w := s.descriptor (s.yar.ydma.get k).index
  let s := match s.yOpen k with
    | some n => if (s.yar.ydma.get k).started then s.discardOpen n else s
    | none => s
  let s := if k.val = 3 then s.modYar fun y => { y with bankCopyPos := 0 } else s
  (s.modYdma k fun y =>
    { y with active := false, started := false, haltCause := 0, status := status,
             residual := dUnits w - y.moved w, k0 := 0, k1 := 0, k2 := 0, buf := [], bufBad := false }).idleAnew

/-- YDMA_ABORT: the chain ends with status ABORTED (R234). -/
def execYdmaAbort (machine : Bool) (k : Fin 4) (s : State) : Host.Outcome State Fault Refusal :=
  .next (if !s.yHalted k then s else if !machine then s.yFault else s.yEnd k 4)

end Sys2Proof.Machine
end

