-- ==== Sys2Proof/Machine/Loops.lean ====
section
/-! DEFINITION. What Yarrow measures and adapts (R225 to R230, R328), and the performance levels (R295). -/

namespace Sys2Proof.Machine

open Sys2Proof

/-! ### Performance levels (R229, R295) -/

/-- The level changes: it moves to `l`; VCORE settles later (R295). -/
def PwrSt.moveLevel (p : PwrSt) (l : Nat) : PwrSt :=
  if l = p.level then p else { p with level := l, levelChanges := inc32 p.levelChanges }

/-- Begin a change to level `l`: a fall switches at once and VCORE follows, a rise waits until VCORE has settled
(R295). -/
def PwrSt.beginLevel (p : PwrSt) (l : Nat) : PwrSt :=
  if l = p.level then p
  else if l < p.level then { p.moveLevel l with target := some l, vcoreSettled := false }
  else { p with target := some l, vcoreSettled := false }

/-- A level request: one made during a change is applied when the change completes (R295). -/
def PwrSt.requestLevel (p : PwrSt) (l : Nat) : PwrSt :=
  match p.target with
  | some _ => { p with nextLevel := some l }
  | none => p.beginLevel l

/-- A protection acts at once: it replaces the pending target (R295). -/
def PwrSt.forceLevel (p : PwrSt) (cap : Nat) : PwrSt :=
  let p := { p with nextLevel := p.nextLevel.map (min cap) }
  if cap < p.level then { (p.moveLevel cap) with target := some cap, vcoreSettled := false }
  else { p with target := p.target.map (min cap) }

/-- What the protections allow (R228, R229). -/
def PwrSt.cap (p : PwrSt) : Nat :=
  min (min p.thermalCap p.limitCap) (if p.marginLow ∨ p.aonTrip then 0 else 3)

/-- The protections that hold the level below PL_FLOOR, as the bits of OVERRIDDEN (R229, R240). -/
def PwrSt.holding (p : PwrSt) : Nat :=
  natOfBits [decide (p.thermalCap < p.plFloor), decide (p.limitCap < p.plFloor),
             p.marginLow && decide (0 < p.plFloor), p.aonTrip && decide (0 < p.plFloor)]

/-- The lowest bit that is set in a byte. -/
def lowBit (m : Nat) : Nat := ((List.range 8).find? (m.testBit ·)).getD 0

/-- An evaluation of the protections: the level obeys them, OVERRIDDEN is set anew, and an episode starts or ends
with its log entry (R229). -/
def State.evaluate (s : State) : State :=
  let s := s.modPwr fun p => p.forceLevel p.cap
  let m := s.pwr.holding
  if m = 0 then
    if s.pwr.episode then
      (s.modPwr fun p => { p with episode := false }).log 0x1011 0 8
        (s.pwr.episodeBit * 2 ^ 24 + s.pwr.plFloor * 256 + s.pwr.level)
    else s
  else
    let s := s.modYar fun y => { y with overridden := y.overridden ||| m }
    if s.pwr.episode then s
    else
      let d := lowBit m * 2 ^ 24 + s.pwr.plFloor * 256 + s.pwr.level
      ((s.modPwr fun p => { p with episode := true, episodeBit := lowBit m }).modYar fun y =>
        { y with overrideCount := inc32 y.overrideCount, lastOverride := d }).log 0x1010 0 8 d

/-- Whether firmware's loops run: it serves, holds the permit, has read the sensors since Yarrow's reset, and the device is not in Doze
(R228, R230, R239, R298). -/
def State.loopsRun (s : State) : Bool :=
  s.yar.serving && s.yar.permit && s.yar.sensed && s.pwr.state == .run && !s.yar.loader

/-- The governor's demand (R228). -/
def State.demand (s : State) : Nat :=
  let a := s.pA.state == .ready
  let b := s.pB.state == .ready
  if a && b then 2 else if a || b || (s.linkUp && s.link.rate == 2) then 1 else 0

/-- The level wanted: demand within the bounds, then the protections (R228, R229). -/
def State.wanted (s : State) : Nat := min s.pwr.cap (min s.pwr.plCeiling (max s.pwr.plFloor s.demand))

/-- A write of a bound clamps the level in force at once, or the level that a change in progress leads to (R227, R295). -/
def State.clampLevel (s : State) : State :=
  if s.pwr.clkSource ≠ 1 then s
  else s.modPwr fun p =>
    let due := p.nextLevel.getD (p.target.getD p.level)
    let l := min p.cap (min p.plCeiling (max p.plFloor due))
    if l = due then p else p.requestLevel l

/-- The states of both ports, as the governor sees them. -/
def State.portStates (s : State) : Nat := s.pA.state.code + 4 * s.pB.state.code

/-- PERFORMANCE_GOVERNOR: every 10 ms, and where a port has changed its state since the last run (R228, R294). -/
def execPerformanceGovernor (dt : Nat) (s : State) : Host.Outcome State Fault Refusal :=
  let s := s.advance dt
  let due := s.due s.yar.governAt (ms 10) || s.portStates != s.yar.governPorts
  .next (if s.loopsRun && s.pwr.clkSource == 1 && due then
      let s := s.modYar fun y => { y with governAt := s.now, governPorts := s.portStates }
      (s.modPwr fun p => p.requestLevel s.wanted).evaluate
    else s)

/-- TJ: the highest of the six sites, in 0.25 °C (R225). -/
def State.tj (s : State) : Int :=
  match s.yar.temp with
  | [] => 0
  | t :: ts => ts.foldl max t

/-- Whether TJ lets the device enter Retention: 95 °C or lower (R299). -/
def State.coolEnough (s : State) : Bool := decide (s.tj ≤ 380)

/-- THERMAL_CAP, once a second: down one level while TJ is at TJ_THROTTLE or above, up one per 10 s while it is 5 °C
or more below (R228). The trip of the AON comparator ends below 110 °C. -/
def execThermalCap (dt : Nat) (s : State) : Host.Outcome State Fault Refusal :=
  let s := s.advance dt
  .next (if !s.loopsRun || !s.due s.yar.capAt (ms 1000) then s
    else
      let s := s.modYar fun y => { y with capAt := s.now }
      let hot : Int := 4 * s.yar.tjThrottle
      let tj := s.tj
      let s := s.modPwr fun p =>
        let p := { p with aonTrip := p.aonTrip && decide (440 ≤ tj) }
        if hot ≤ tj then { p with thermalCap := p.thermalCap - 1, capRise := 0 }
        else if tj ≤ hot - 20 then
          if 9 ≤ p.capRise then { p with thermalCap := min 3 (p.thermalCap + 1), capRise := 0 }
          else { p with capRise := p.capRise + 1 }
        else { p with capRise := 0 }
      s.evaluate)

/-- VCORE_SETTLED: a rise switches the clock now, and a request made meanwhile is taken up (R295). -/
def execVcoreSettled (s : State) : Host.Outcome State Fault Refusal :=
  .next (s.modPwr fun p =>
    let p := { p with vcoreSettled := true }
    let p := match p.target with
      | some t => { (p.moveLevel t) with target := none }
      | none => p
    match p.nextLevel with
    | some l => { p with nextLevel := none }.beginLevel l
    | none => p)

/-- AON_THERMAL_TRIP: PL0 without firmware (R229). -/
def execAonThermalTrip (s : State) : Host.Outcome State Fault Refusal :=
  .next ((s.modPwr fun p => { p with aonTrip := true }).evaluate)

/-- CURRENT_LIMIT: the regulator reports current limit, and the level drops by one; or it reports it no longer, and the
second without limit begins (R229, R303). -/
def execCurrentLimit (present : Bool) (s : State) : Host.Outcome State Fault Refusal :=
  .next (if present then
      (s.modPwr fun p =>
        { p with limitNow := true, limitAt := none, regLimits := inc32 p.regLimits, limitCap := p.level - 1 }).evaluate
    else if s.pwr.limitNow then s.modPwr fun p => { p with limitNow := false, limitAt := some s.now }
    else s)

/-- CURRENT_LIMIT_CLEAR: 1 s without limit (R229). -/
def execCurrentLimitClear (dt : Nat) (s : State) : Host.Outcome State Fault Refusal :=
  let s := s.advance dt
  .next (if s.pwr.limitAt.any (fun a => s.due a (ms 1000)) then
      (s.modPwr fun p => { p with limitAt := none, limitCap := 3 }).evaluate
    else s)

/-- BROWN_OUT_MARGIN: VIN, in mV, below VIN_MARGIN drops the level to PL0 (R229). -/
def execBrownOutMargin (vin : Nat) (s : State) : Host.Outcome State Fault Refusal :=
  .next (if vin < s.yar.vinMargin then (s.modPwr fun p => { p with marginLow := true, marginAt := none }).evaluate else s)

/-- VIN as measured while the margin protection holds: since when it has been above VIN_MARGIN + 20 mV (R229). -/
def State.noteVin (s : State) (vin : Nat) : State :=
  s.modPwr fun p =>
    { p with marginAt := if p.marginLow && decide (s.yar.vinMargin + 20 < vin) then some (p.marginAt.getD s.now) else none }

/-- MARGIN_RECOVERY: VIN has been measured above VIN_MARGIN + 20 mV for 100 ms (R225, R229). -/
def execMarginRecovery (dt : Nat) (s : State) : Host.Outcome State Fault Refusal :=
  let s := s.advance dt
  .next (if s.pwr.marginAt.any (fun a => s.due a (ms 100)) then
      (s.modPwr fun p => { p with marginLow := false, marginAt := none }).evaluate
    else s)

/-! ### Link equalisation (R228, R241) -/

/-- CTLE_ADAPT: at most once per 100 ms a step up or down within the bounds, kept only if the eye height grows (R228). -/
def execCtleAdapt (dt : Nat) (up : Bool) (newEye : Nat) (s : State) : Host.Outcome State Fault Refusal :=
  let s := s.advance dt
  .next (if !s.loopsRun || !s.linkUp || !s.link.eqAdapt || !s.due s.link.adaptAt (ms 100) then s
    else
      let s := s.modLink fun l => { l with adaptAt := s.now }
      let l := s.link
      let c := if up then l.ctle + 1 else l.ctle - 1
      if c = l.ctle ∨ c < l.ctleMin ∨ l.ctleMax < c ∨ newEye ≤ l.eyeHeight then s
      else s.modLink fun l => { l with ctle := c, eyeHeight := newEye, eqChanges := inc32 l.eqChanges })

/-! ### Sensors and rails (R225, R328) -/

/-- Whether a value in mV lies in a range. -/
def inRange (lo hi v : Nat) : Bool := decide (lo ≤ v) && decide (v ≤ hi)

/-- A port's rail: below 1.08 V firmware keeps the port in OFF; out of its range while on, the port is isolated
(R327, R328). -/
def State.portRail (s : State) (x : Port) (mv : Nat) : State :=
  if mv < 1080 then
    if (s.port x).rail then (s.portOff x).modPort x fun p => { p with rail := false } else s
  else if !(inRange 1140 1260 mv) && ((s.port x).state == .ready || (s.port x).state == .seqgap) then s.isolate x
  else s

/-- The SerDes rails: while VDDL is out of range the link stays in OFF, while VDDC is, Clover stays down (R328). -/
def State.serdesRails (s : State) (vddl vddc : Nat) : State :=
  let s := if inRange 870 930 vddl then s
    else (if s.link.state = .off then s else s.linkOff).modLink fun l => { l with rail := false }
  if inRange 870 930 vddc then s
  else
    let s := s.modTwin fun t => { t with rail := false }
    if s.twin.cloverState = 0 then s else s.cloverFalls.modTwin fun t => { t with cloverState := 0 }

/-- Note a clock that is present. -/
def clockSeen (since : Option Nat) (now freq : Nat) : Option Nat :=
  if freq = 0 then since else some (since.getD now)

/-- The temperatures as read, the peak of TJ, and the instant at which TJ falls to 95 °C (R225, R240, R299). -/
def State.noteTemp (s : State) (temp : List Int) : State :=
  let hot := !s.coolEnough
  let s := s.modYar fun y => { y with temp := temp, sensed := true }
  let s := s.modYar fun y => { y with tjPeak := some (max (y.tjPeak.getD s.tj) s.tj) }
  if hot && s.coolEnough then s.modPwr fun p => { p with coolAt := s.now } else s

/-- The clocks of a port as a sample counts them: presence at every sample, the frequencies every 10 ms (R225). -/
def State.noteClocks (s : State) (x : Port) (wclk rclk : Nat) (count : Bool) : State :=
  s.modPort x fun p =>
    { p with wclkFreq := if count then wclk else p.wclkFreq, rclkFreq := if count then rclk else p.rclkFreq,
             wclkSince := clockSeen p.wclkSince s.now wclk, rclkSince := clockSeen p.rclkSince s.now rclk }

/-- The eye figures of a sample, every 100 ms while UP (R225). -/
def State.noteEye (s : State) (height width : Nat) : State :=
  if s.linkUp && s.due s.link.eyeAt (ms 100) then
    s.modLink fun l => { l with eyeHeight := height, eyeWidth := width, eyeAt := s.now }
  else s

/-- SENSOR_SAMPLE, every 1 ms: supplies, temperatures and presence of clocks as read, the port clocks' frequencies every 10 ms, and the
eye figures every 100 ms while UP (R225). While YCLK is gated or Yarrow is in reset, the readings hold (R279, R297, R300). With the
sample comes whether VDDIO_M is in range, which SENSORS does not measure (notes/assumptions/100.md). -/
def execSensorSample (dt : Nat) (r : Sensors) (s : State) : Host.Outcome State Fault Refusal :=
  let s := (s.advance dt).modPwr fun p => { p with mgmtRail := r.mgmtRail }
  .next (if !s.ysRuns || !s.blockUp 20 || !s.due s.yar.sampleAt (ms 1) then s
    else
      let count := s.due s.yar.freqAt (ms 10)
      let s := s.modYar fun y =>
        { y with supply := r.supply, refclk := r.refclk, sampleAt := s.now, freqAt := if count then s.now else y.freqAt }
      let s := s.noteTemp r.temp
      let s := ((s.noteClocks .A r.wclkA r.rclkA count).noteClocks .B r.wclkB r.rclkB count).noteEye r.eyeHeight r.eyeWidth
      let mv := fun i => r.supply.getD i 0
      let s := s.noteVin (mv 0)
      ((s.portRail .A (mv 4)).portRail .B (mv 5)).serdesRails (mv 6) (mv 7))

/-- SERDES_RAIL_RETRY, once a second while firmware runs: a SerDes held off whose rail is in range again comes up (R298, R328). -/
def execSerdesRailRetry (dt : Nat) (linkOk cloverOk : Bool) (s : State) : Host.Outcome State Fault Refusal :=
  let s := s.advance dt
  .next (if !s.yar.serving || !s.clocked || !s.due s.yar.railAt (ms 1000) then s
    else
      let s := s.modYar fun y => { y with railAt := s.now }
      let s := if linkOk && !s.link.rail then
          (s.modLink fun l => { l with rail := true }).applyLinkEnable s.link.enable
        else s
      if cloverOk then (s.modTwin fun t => { t with rail := true }).startTraining else s)

end Sys2Proof.Machine
end

