-- ==== Sys2Proof/Machine/Reset.lean ====
section
/-! DEFINITION. Resets (R277 to R284, R289 to R291): what each block, subsystem and device reset does to the state,
the sources, and the escalation of the watchdog. -/

namespace Sys2Proof.Machine

open Sys2Proof

/-! ### Blocks held and released (R36, R148, R290) -/

/-- MEMCTL is held: row copies stop, slots are freed and marked, requests in flight end, descriptors, counters and LOCK_REQ, which stands in
the lock unit, take their reset values (R38, R290; notes/assumptions/39.md). -/
def State.holdMemctl (s : State) : State :=
  (s.stopCopies.freeAllLocks.modYar fun y => { y with lockReq := 0 }).modMem fun m =>
    { m with desc := resetDesc, ceTotal := 0, ueTotal := 0, ceBank := Vector.replicate 130 0,
             ueBank := Vector.replicate 130 0, lastUe := 0, dirCe := 0, dirUe := 0,
             accessRefused := Vector.replicate 6 0, lockBroken := 0, writeBack := [], waiting := [], pointers := [],
             holding := [], rot3 := [], grants := [] }

/-- TANSY is held: passes stop, to start again at the release; the queue and the maps stay (R290, R321, R324). -/
def State.holdTansy (s : State) : State :=
  s.stopCopies.modTansy fun t =>
    { t with scrubPasses := 0, notCovered := 0, rowRepairs := 0, repairDrops := 0, marchResult := 0, corrected := [],
             correctedBefore := [] }

/-- TANSY is released: a pass in progress starts again, and scrub periods count from here (R290, R313). -/
def State.releaseTansy (s : State) : State :=
  let s := s.modTansy fun t => { t with scrubStart := some s.now, scrubDue := false }
  if s.tansy.scrubbing && s.tansyUp && s.memOpen then s.startScrub else s

/-- A channel as CHENG's reset leaves it: DISABLED, with its configuration, SLICE_WAIT at the configured SLICE_WAIT_MAX, and
what INGRESS and EGRESS keep (R129). -/
def Chan.fresh (c : Chan) : Chan :=
  { cfg := { c.cfg with enable := 0 }, pol := c.pol, flow := { c.flow with head := none },
    sliceWait := c.cfg.sliceWaitMax }

/-- CHENG is held: every channel DISABLED, pending channel commands FLUSHED, its counters, the resync records and the other
values of 3010h and 3011h, subs 07 to 17, cleared (R49, R148, R290). -/
def State.holdCheng (s : State) : State :=
  let s := s.forChans fun n s => if (s.chan n).state = .disabled then s else s.disableChannel n
  let s := s.forChans fun n s => s.modCh n Chan.fresh
  let f := fun (p : PortSt) =>
    { p with record := {}, acc := {}, expCseq := 0, expWseq := 0, lastAccepted := 0, lastCompleted := 0,
             writeRefusal := false, frameFirst := none, joinSkip := false, cnt := {} }
  ((s.modPort .A f).modPort .B f).chainPortAnew

/-- TIME is held: time is not valid, and a lock that stood is lost, with its ATTN TIME (R192, R199, R290). -/
def State.holdTime (s : State) : State :=
  s.endLock.modTime fun t =>
    { source := t.source, syncPeriod := t.syncPeriod, stepThreshold := t.stepThreshold, asymmetry := t.asymmetry,
      slewLimit := t.slewLimit, holdover := t.holdover, lockThreshold := t.lockThreshold }

/-- TIME is released: the counter starts at 0; a sender's epoch is the last of the AON domain plus 1, or random after
a loss of AON power, records of older epochs are given up, and a port whose block runs has ATTN TIME; a free-running sender's time is
valid (R89, R194, R195). A port whose block is held gets no ATTN TIME from the release, while every other event sets its bit there too
(`State.attnBoth`; DESIGN CHOICE, notes/assumptions/100.md). A
receiver's epoch is the last of the AON domain, 0 after a loss of AON power, with time not valid (R197). -/
def State.releaseTime (s : State) : State :=
  let s := s.holdTime
  if s.sender then
    let (v, s) := if s.rst.aonEpochKnown then (BitVec.ofNat 32 (s.rst.aonEpoch + 1), s) else s.draw
    let e := v.toNat % 256
    let s := s.modTime fun t => { t with epoch := e, valid := t.source == 0 }
    let s := (s.modRst fun r => { r with aonEpoch := e, aonEpochKnown := true }).giveUpEpoch
    [Port.A, Port.B].foldl (fun s x => if s.portUp x then s.attn x 15 else s) s
  else s.modTime fun t => { t with epoch := if s.rst.aonEpochKnown then s.rst.aonEpoch else 0 }

/-- LINK is held: OFF, with the counters of the link and of the ARQ cleared; REPORT_NO counts from 1 again (R160, R189, R290). -/
def State.holdLink (s : State) : State :=
  let s := if s.link.state = .off then s else s.linkOff
  let s := s.modLink fun l =>
    { l with cnt := {}, cableDelay := 0, cableLength := 0, peer := none, classMismatch := 0,
             ctle := 0, eyeHeight := 0, eyeWidth := 0, eqChanges := 0, peerBootNonce := none, lastReportNo := 0, firstReport := true }
  s.modArq fun a =>
    { rto := a.rto, nakHoldoff := a.nakHoldoff, ackCoalesce := a.ackCoalesce, ackDelay := a.ackDelay,
      retryLimit := a.retryLimit }

/-- LINK is released: bring-up from DETECT (R160, R290). -/
def State.releaseLink (s : State) : State := s.applyLinkEnable s.link.enable

/-- INGRESS is held or released: buckets full, counters of 4200h + n cleared (R290). -/
def State.resetIngress (s : State) : State :=
  s.forChans fun n s => s.modCh n fun c =>
    { c with pol := { mode := c.pol.mode, cir := c.pol.cir, pir := c.pol.pir, cbs := c.pol.cbs, pbs := c.pol.pbs,
                      tc := c.pol.cbs * 1024, tp := c.pol.pbs * 1024 } }

/-- EGRESS is held: no head frame stands, V and every tag are 0, the flows' counters are cleared (R290). -/
def State.resetEgress (s : State) : State :=
  let s := s.forChans fun n s => s.modCh n fun c => { c with flow := { weight := c.flow.weight } }
  s.modLink fun l => { l with vtime := 0, mgmtFlow := { weight := l.mgmtFlow.weight }, rxreportRx := 0 }

/-- CLOVER is held: Clover is down and its counters are cleared; the role moves under R209. -/
def State.holdClover (s : State) : State :=
  let s := if s.twin.cloverState = 0 then s else s.cloverFalls
  s.modTwin fun t =>
    { t with cloverState := 0, takeovers := 0, lastStall := 0, hbLosses := 0, divergences := 0, msgErr := 0,
             standinAnnounced := 0, unsourced := 0, discarded := 0, streamGap := 0, chainBytes := 0, txMseq := 0,
             rxMseq := none }

/-- CLOVER is released: training restarts, and a device without a role takes its first (R203, R209). -/
def State.releaseClover (s : State) : State :=
  if s.twin.started then s.startTraining else s.twinStart

/-- A port block is held: isolation; its registers reset, and its configuration, its pins and what the wrapper keeps
stay (R147, R148, R290). -/
def State.holdPort (s : State) (x : Port) : State :=
  let s := if (s.port x).state = .off then s else s.isolate x
  (s.modPort x fun p =>
    { p with attnCause := 1#32 <<< 13, attnChannels := 0, writeRefusal := true, sampled := [], wsel := none,
             rsel := none, probing := none, wrongOpen := [], wrongBytes := [] }).chainPortAnew

/-- The blocks of BLOCK_RESET in the order of R289, each with its bit and its step. -/
def blockOrder : List (Nat × Nat) :=
  [(0, 0), (9, 0), (1, 1), (2, 2), (3, 3), (4, 4), (5, 5), (6, 6), (7, 7), (8, 8)]

/-- A YDMA reset: every chain ends (R238, R290). -/
def State.holdYdma (s : State) : State :=
  let s := [0, 1, 2, 3].foldl (fun s (k : Fin 4) =>
    if (s.yar.ydma.get k).active then s.yEnd k 4 else s) s
  s.modYar fun y => { y with ydma := Vector.replicate 4 {}, bankCopyStart := false, bankCopySwitched := false }

/-- What a block loses when its bit is set. BYE of a LINK that is held has reason 04h, LINK disabled: R160 asks for a BYE, and R172 lists no
reason for it (DESIGN CHOICE, notes/assumptions/96.md). SENSORS and LOG lose nothing: the readings and LOG RAM hold what they have. The
transfers of FLASH_IF and TWI are whole steps here; while one of these blocks is held, each of its users tests its bit
(R290). -/
def State.holdBlock (s : State) (bit : Nat) : State :=
  match bit with
  | 0 => s.holdMemctl
  | 1 => s.holdCheng
  | 2 => s.holdTime
  | 3 => (s.bye 4).holdLink  -- the reason of BYE is the model's choice: notes/assumptions/96.md
  | 4 => s.resetIngress
  | 5 => s.resetEgress
  | 6 => s.holdClover
  | 7 => s.holdPort .A
  | 8 => s.holdPort .B
  | 9 => s.holdTansy
  | 16 => s.holdYdma
  | 18 => s.modOd fun o => { o with mbxRsp := none, mbxReq := none }
  | _ => s

/-- What a block does when its bit is cleared. MEMCTL comes up with its descriptors at their reset values whatever was written while it was
held (R290). -/
def State.releaseBlock (s : State) (bit : Nat) : State :=
  match bit with
  | 0 => s.modMem fun m => { m with desc := resetDesc }
  | 1 => s.heartbeatRuns
  | 2 => s.releaseTime
  | 3 => s.releaseLink
  | 4 => s.resetIngress
  | 5 => s.refreshFlows
  | 6 => s.releaseClover
  | 7 => s.heartbeatRuns
  | 8 => s.heartbeatRuns
  | 17 => if s.yar.serving then s.flushPending else s
  | _ => s

/-- A new value of BLOCK_RESET: blocks newly held, then blocks released in the order of R289; Tansy restarts its pass where MEMCTL or TANSY
is released and both are up (R290). While a source of Stream
Buffer reach stays asserted, its domain stays held (R279). -/
def State.applyBlockReset (s : State) (v : W32) : State :=
  let v := if s.now < s.rst.sbUntil then (v &&& 0x3F0000#32) ||| 0x3FF#32 else v &&& 0x3F03FF#32
  let old := s.rst.blockReset
  let rising := (List.range 32).filter fun i => v.getLsbD i && !old.getLsbD i
  let falling := (17 :: blockOrder.map (·.1)).filter fun i => !v.getLsbD i && old.getLsbD i
  let s := rising.foldl (fun s i => s.holdBlock i) s
  let s := s.modRst fun r =>
    { r with blockReset := v, lastReach := if rising.isEmpty then r.lastReach else 4,
             sbHeld := (v &&& 0x3FF#32) != 0 }
  let s := falling.foldl (fun s i => s.releaseBlock i) s
  if falling.contains 0 || falling.contains 9 then s.releaseTansy else s

/-- Whether a write of BLOCK_RESET is refused with STATE (R289). -/
def State.blockResetRefused (s : State) (v : W32) : Bool :=
  let old := s.rst.blockReset
  let setsMem := v.getLsbD 0 && !old.getLsbD 0
  (setsMem && (!s.allDisabled || s.anyArea)) ||
  blockOrder.any fun b => old.getLsbD b.1 && !v.getLsbD b.1 &&
    blockOrder.any fun a => decide (a.2 < b.2) && old.getLsbD a.1

/-! ### Yarrow reach (R238, R253) -/

/-- What a request path keeps across a Yarrow reset: LAST and its abort code. -/
def PathSt.aonPart (p : PathSt) : PathSt := { last := p.last, lastAbort := p.lastAbort }

/-- A reset of Yarrow reach: its release clears the YS bits of BLOCK_RESET too. Flash and fuse steps in progress, waiting
requests and the mailbox's requests forwarded to the peer are dropped, and the registers of LOG and SENSORS outside AON take their reset values (R36, R238, R240, R242,
R255, R277, R289). -/
def State.yarrowReset (s : State) : State :=
  let s := (s.freeLocks .yc).holdYdma
  let s := s.attnBoth 19
  let s := s.modYar fun y =>
    { y with permit := false, sram := [], sramErr := [], wdtAt := none, wdtPeriod := 5000000,
             bankCopyStart := false, bankCopySwitched := false, bankCopyPos := 0, winResult := [], winFault := false,
             serving := false, loader := false, supply := List.replicate 8 0, temp := List.replicate 6 0, tjPeak := none, sensed := false,
             refclk := false, overridden := 0, lastOverride := 0, flashSkipped := 0, tornDiscarded := 0 }
  let s := s.modLink fun l => { l with forwarded := l.forwarded.filter (·.own) }
  let s := s.modOd fun o =>
    { o with link := o.link.aonPart, mailbox := o.mailbox.aonPart, failTimes := [], lockoutUntil := none,
             mbxReq := none, mbxRsp := none, task := none, queue := [] }
  let s := s.modUpd fun u => { u with ram := [], ramCheck := 8, raising := none }
  s.modRst fun r => { r with yarBooted := false, blockReset := r.blockReset &&& 0x3FF#32 }

/-! ### Stream Buffer reach (R277, R291) -/

/-- The twin after a reset that reaches the Stream Buffer subsystem: the latch released, no role taken yet; pins and
settings stay (R207, R209). -/
def TwinSt.fresh (t : TwinSt) : TwinSt :=
  { pairInUse := t.pairInUse, autoSwap := t.autoSwap, twinId := t.twinId, partnerPresent := t.partnerPresent,
    hbInLost := t.hbInLost, busLow := t.busLow, rail := t.rail, sent := t.sent, lastBeatAt := t.lastBeatAt }

/-- The twin in Retention: as after a reset of the subsystem, with the values of 6000h that hold (R302). -/
def TwinSt.asleep (t : TwinSt) : TwinSt :=
  { t.fresh with divergeCause := t.divergeCause, takeovers := t.takeovers, lastStall := t.lastStall,
                 hbLosses := t.hbLosses, divergences := t.divergences, msgErr := t.msgErr,
                 standinAnnounced := t.standinAnnounced, unsourced := t.unsourced, discarded := t.discarded,
                 streamGap := t.streamGap, chainBytes := t.chainBytes }

/-- A reset of Stream Buffer subsystem reach: every SB block is held, and firmware keeps its copy of what it will
write again, that of an earlier such reset where it has not written it yet (R277, R291). -/
def State.sbReset (s : State) : State :=
  let enables := (List.finRange 20).map fun n => (s.chan n).cfg.enable
  let s := s.modRst fun r =>
    { r with enableCopy := if r.enableCopy.isEmpty then enables else r.enableCopy, sbHeld := true }
  let desc := if s.blockUp 0 then some s.mem.desc else s.mem.descCopy
  let s := ((s.holdLink.holdPort .A).holdPort .B).holdCheng
  let s := (s.holdTime.resetIngress).resetEgress
  let s := (s.holdMemctl.holdTansy).modTwin TwinSt.fresh
  (s.modMem fun m => { m with descCopy := desc }).modRst fun r => { r with blockReset := r.blockReset ||| 0x3FF#32 }

/-! ### Device reach (R277) -/

/-- A port after a Device reset: its pins stay, and ATTN_CAUSE reads ISOLATED (R91). -/
def PortSt.pins (p : PortSt) : PortSt :=
  { wclkSince := p.wclkSince, rclkSince := p.rclkSince, rail := p.rail, ret := p.ret }

/-- The state that a reset of Device reach leaves: the AON domain, flash, fuses and pins are kept, the array until
its clear, the isolation clamp until the release, and everything else is as at power-on (R277, R284, R240, R262, R304, R308, R325).
SAVE_COUNT, of which R5 names no block, is cleared here and kept over the other resets (DESIGN CHOICE, notes/assumptions/100.md). -/
def State.deviceReset (s : State) : State :=
  let z := State.reset
  { z with
    pending := s.pending, now := s.now, freeCtr := s.freeCtr,
    pA := s.pA.pins, pB := s.pB.pins,
    mem := { z.mem with cells := s.mem.cells, errs := s.mem.errs },
    tansy := { z.tansy with marchAtStart := s.tansy.marchAtStart, fieldLog := s.tansy.fieldLog },
    link := { z.link with modPresent := s.link.modPresent, modLos := s.link.modLos, rail := s.link.rail,
                          sent := s.link.sent },
    twin := { s.twin.fresh with pairInUse := s.twin.pairInUse, autoSwap := true },
    od := { z.od with link := s.od.link.aonPart, mailbox := s.od.mailbox.aonPart, wallKey := s.od.wallKey,
                      operatorKey := s.od.operatorKey, observerKey := s.od.observerKey, authFail := s.od.authFail,
                      seqReject := s.od.seqReject, dupReq := s.od.dupReq, lockouts := s.od.lockouts,
                      mbxRejected := s.od.mbxRejected, bootNonce := s.od.bootNonce, mbxSent := s.od.mbxSent,
                      statusSent := s.od.statusSent },
    yar := { z.yar with overrideCount := s.yar.overrideCount, yarrowResets := s.yar.yarrowResets,
                        mgmtUnserved := s.yar.mgmtUnserved, sramCe := s.yar.sramCe, flashLog := s.yar.flashLog,
                        nextSeq := s.yar.nextSeq, eraseMax := s.yar.eraseMax, ringCount := s.yar.ringCount,
                        ringBase := s.yar.ringBase, bucketAt := s.yar.bucketAt, bucket := s.yar.bucket },
    upd := { s.upd with trialWindow := 1800, trialSaved := false, ram := [], ramCheck := 8, raising := none },
    rst := { s.rst with dbgReach := 1, window := none, sbHeld := true, yarBooted := false, startupPending := false,
                        enablesDue := false, enableCopy := [], blockReset := 0x3FF#32, phase := .held,
                        startupTime := 0 },
    pwr := { z.pwr with lastWake := s.pwr.lastWake, dozeEntries := s.pwr.dozeEntries,
                        sleepEntries := s.pwr.sleepEntries, sleepAborts := s.pwr.sleepAborts,
                        levelChanges := s.pwr.levelChanges, regLimits := s.pwr.regLimits,
                        pllLosses := s.pwr.pllLosses, refclkMode := s.pwr.refclkMode, pwrdn := s.pwr.pwrdn,
                        clamp := s.pwr.clamp } }

/-- What POR also resets: the AON domain and the TAP (R8, R277, R278, R283, R284). -/
def State.aonReset (s : State) : State :=
  let z := State.reset
  let s := s.modRst fun r =>
    { z.rst with straps := r.straps, optionStatus := r.optionStatus, roleInUse := r.roleInUse, uptimeBase := s.now }
  let s := s.modOd fun o =>
    { o with link := {}, mailbox := {}, authFail := 0, seqReject := 0, dupReq := 0, lockouts := 0, mbxRejected := 0 }
  let s := s.modYar fun y => { y with overrideCount := 0, yarrowResets := 0, mgmtUnserved := 0, sramCe := 0 }
  let s := s.modTansy fun t => { t with marchAtStart := true }
  s.modPwr fun p =>
    { p with lastWake := 0, dozeEntries := 0, sleepEntries := 0, sleepAborts := 0, levelChanges := 0, regLimits := 0,
             pllLosses := 0 }

/-! ### Sources (R278, R279) -/

/-- Record a source: its bit in RESET_CAUSE, its count, and the reach (R278, R283, R284). -/
def State.noteCause (s : State) (src reach : Nat) : State :=
  s.modRst fun r =>
    { r with cause := r.cause ||| (1#16 <<< src), lastReach := reach,
             counts := r.counts.setIfInBounds src (inc32 (r.counts.toList.getD src 0)) }

/-- A source of Device reach asserts. One that interrupts a release sequence returns it to its start (R279). -/
def State.raiseDevice (s : State) (src : Nat) : State :=
  let again := s.rst.phase == .optionLoad || s.rst.phase == .starting || s.rst.phase == .booted
  let s := (s.noteCause src 3).deviceReset
  s.modRst fun r =>
    { r with asserted := if r.asserted.contains src then r.asserted else r.asserted ++ [src],
             optionRestarts := if again then inc32 r.optionRestarts else r.optionRestarts }

/-- A source of Yarrow reach asserts, for 1 µs. During a Device sequence it is recorded, and it holds its domain: the boot
ROM waits for its end (R278, R279). -/
def State.raiseYarrow (s : State) (src : Nat) : State :=
  let s := (s.noteCause src 1).modRst fun r => { r with yarUntil := s.now + us 1 }
  if s.yarUp then s.yarrowReset.modYar fun y => { y with yarrowResets := inc32 y.yarrowResets } else s

/-- A source of Stream Buffer reach asserts, for 1 µs; during a Device sequence it holds its domain (R278, R279). -/
def State.raiseSb (s : State) (src : Nat) : State :=
  let s := (s.noteCause src 2).modRst fun r => { r with sbUntil := s.now + us 1 }
  if s.yarUp then s.sbReset else s

/-- A source asserts with a reach: 1 Yarrow, 2 Stream Buffer subsystem, 3 Device. -/
def State.raise (s : State) (src reach : Nat) : State :=
  if reach = 1 then s.raiseYarrow src else if reach = 2 then s.raiseSb src else s.raiseDevice src

/-- A software-requested reset: the log's append in progress is finished, and BYE goes out first for the wider reaches
(R172, R236, R278). -/
def State.swReset (s : State) (reach : Nat) : State :=
  let s := s.commitLog
  (if reach = 1 then s else s.bye 3).raise 4 reach

/-! ### Meanings: the sources -/

/-- POR: VAON below its threshold (R278, R283). -/
def execPor (s : State) : Host.Outcome State Fault Refusal :=
  .next ((s.raiseDevice 0).aonReset.modRst fun r => { r with cause := 1, asserted := [0], phase := .held })

/-- BOR: VIN, VCORE or VMEM below its threshold. The uptime counter restarts, and the brown-out detector drives the
isolation clamp until the reset is released (R235, R277, R278, R304). -/
def execBor (s : State) : Host.Outcome State Fault Refusal :=
  .next (((s.raiseDevice 1).modRst fun r => { r with uptimeBase := s.now }).modPwr fun p => { p with clamp := true })

/-- PIN: a low pulse on RST_N, its width in ns. Below 100 ns the filter ignores it; between 100 ns and 1 µs it may be
taken either way (R282). In a sleep state it wakes the device, and LAST_WAKE says so (R302). -/
def execPin (width : Nat) (s : State) : Host.Outcome State Fault Refusal :=
  let (take, s) := if width < 100 then (false, s) else if 1000 ≤ width then (true, s)
    else
      let (v, s) := s.draw
      (v.getLsbD 0, s)
  .next (if take then
      let asleep := s.pwr.state == .retention || s.pwr.state == .off
      let s := s.raiseDevice 2
      if asleep then s.modPwr fun p => { p with lastWake := 3 } else s
    else s)

/-- Whether the escalation window of a bite is open: 60 s from it (R280). -/
def State.windowOpen (s : State) : Bool := s.rst.window.any fun a => decide (s.now < a + ms 60000)

/-- WATCHDOG_BITE: a period without a kick; the loader kicks while it waits (R287). A second bite inside the window acts with
Device reach, and any other opens a window (R237, R280). -/
def execWatchdogBite (dt : Nat) (s : State) : Host.Outcome State Fault Refusal :=
  let s := s.advance dt
  .next (if s.clocked && !s.yar.loader && s.yar.wdtAt.any (fun a => decide (a + us s.yar.wdtPeriod ≤ s.yclkNow)) then
      if s.windowOpen then (s.raiseDevice 3).modRst fun r => { r with wdtEscalations := inc32 r.wdtEscalations }
      else (s.raiseYarrow 3).modRst fun r => { r with window := some s.now }
    else s)

/-- ESCALATION_WINDOW_END: 60 s after the bite that opened it (R280). -/
def execEscalationWindowEnd (dt : Nat) (s : State) : Host.Outcome State Fault Refusal :=
  let s := s.advance dt
  .next (if s.rst.window.any (fun a => decide (a + ms 60000 ≤ s.now)) then s.modRst fun r => { r with window := none }
    else s)

/-- DBGREQ: the reset request bit of the debug module rises, with the reach that DBG_REACH names, or falls. While it is 1 its
domain stays in reset (R278, R279). -/
def execDbgreq (request : Bool) (s : State) : Host.Outcome State Fault Refusal :=
  let reach := s.rst.dbgReach
  .next (if !request then s.modRst fun r => { r with debugHold := 0 }
    else if s.rst.debugHold ≠ 0 then s
    else (s.raise 5 reach).modRst fun r => { r with debugHold := reach })

/-- CLKFAIL: loss of PLL lock or of REFCLK while CORECLK runs from the root PLL (R281, R309). -/
def execClkfail (s : State) : Host.Outcome State Fault Refusal :=
  .next (if s.pwr.clkfailArmed && s.pwr.clkSource == 1 then
      (s.modPwr fun p => { p with pllLosses := inc32 p.pllLosses }).raiseDevice 6
    else s)

/-- LOCKUP: a lock-up of YCORE (R237, R280). -/
def execLockup (s : State) : Host.Outcome State Fault Refusal :=
  .next (if s.ycoreRuns then s.raiseYarrow 7 else s)

/-- LINKRESET received, whatever the link's state: the MAC under the wall key over the 16 header bytes, the own LINK_NONCE, and REACH
01h or 02h; otherwise it is discarded, counted and logged (R156, R171). The header's CRC and length are those of
every frame. -/
def execLinkreset (m : RxMeta) (hdr mac : List Byte) (s : State) : Host.Outcome State Fault Refusal :=
  .next (s.received m 8 fun s =>
    let reach := leField hdr 8 1
    let nonce := leField hdr 10 4
    let good := match s.keyOf 1 with
      | some k => (hmac k hdr).take 8 == mac
      | none => false
    if good && nonce == s.link.nonce && (reach == 1 || reach == 2) then
      let s := s.leaveUp 5
      if reach = 1 then s.raiseSb 8 else s.raiseDevice 8
    else
      (s.modLinkCnt fun c => { c with linkresetRejected := inc32 c.linkresetRejected }).log 0x5001 3 8 reach)

end Sys2Proof.Machine
end

