-- ==== Sys2Proof/Machine/Power.lean ====
section
/-! DEFINITION. Doze, Retention, Off and the orderly power-down (R297 to R305). -/

namespace Sys2Proof.Machine

open Sys2Proof

/-! ### Idle conditions and entries (R297, R299) -/

/-- The conditions of R297 that are states rather than events. -/
def State.quiet (s : State) : Bool :=
  s.pA.q.isEmpty && s.pB.q.isEmpty && s.arq.window.isEmpty && s.yar.ydma.toList.all fun y => !y.active

/-- Whether an idle time of `p` ps has passed; 0 disables it. -/
def State.idleFor (s : State) (p : Nat) : Bool := decide (0 < p) && s.quiet && decide (s.pwr.idleSince + p ≤ s.now)

/-- DOZE_ENTRY (R297). -/
def execDozeEntry (dt : Nat) (s : State) : Host.Outcome State Fault Refusal :=
  let s := s.advance dt
  .next (if s.pwr.state == .run && s.rst.phase == .running && s.idleFor (us s.pwr.dozeIdle) then
      s.modPwr fun p => { p.gate s.now with state := .doze, dozeEntries := inc32 p.dozeEntries }
    else s)

/-- A sleep entry begins at E1 at instant `at_`, and Doze ends there (R298 to R300): kind 1 Retention, 2 Off. -/
def State.beginSleep (s : State) (kind at_ : Nat) : State :=
  s.modPwr fun p => { p.ungate s.now with state := .entering, entry := kind, step := 1, entryAt := at_ }

/-- A sleep entry is abandoned at a point; the idle timers restart (R301). -/
def State.abandonSleep (s : State) (point : Nat) : State := s.modPwr fun p => p.abandon s.now point

/-- DOZE_EXIT: one of the events of R298. The clocks run again, or a sleep entry is abandoned (R298, R301). -/
def execDozeExit (s : State) : Host.Outcome State Fault Refusal :=
  .next (if s.pwr.state = .entering then s.abandonSleep s.pwr.step else s.wakeDoze)

/-- Whether the ports are quiesced: no command outstanding and no packet open (R300). -/
def State.quiesced (s : State) : Bool :=
  s.pA.q.isEmpty && s.pB.q.isEmpty && (List.finRange 20).all fun n => (s.chan n).pkt.isNone

/-! ### Going down (R300, R304) -/

/-- What the clamp and the power cut do to the pins and the clocks: the ports' pads at weak pull-up, the link OFF,
the latch released with its role, Clover down, clocks on no PLL (R89, R209, R292, R304). Channels keep what they hold; the
spec does not say whether the raw bytes of a write packer are part of the saved state, and here they are, with no ABORTED
counted (DESIGN CHOICE, notes/assumptions/88.md). -/
def State.clampDown (s : State) : State :=
  let s := if s.link.state = .off then s else s.linkOff
  let s := if s.twin.role = .solo then s else s.attnBoth 16
  let off := fun (p : PortSt) =>
    { p with state := .off, probing := none, wsel := none, rsel := none, writeRefusal := true, sampled := [],
             frameFirst := none, stallStart := none }
  let s := (((s.modPort .A off).modPort .B off).modTwin TwinSt.asleep).endLock
  s.modPwr fun p =>
    { p with clamp := true, clkSource := 0, pllLocked := false, clkfailArmed := false, level := 0, target := none,
             nextLevel := none, entry := 0, step := 0, gatedAt := none }

/-- The device is in Retention: the array and the saved state are kept, every block is down (R300, R302). -/
def State.goRetention (s : State) : State :=
  let s := s.commitLog.clampDown
  let s := s.modPwr fun p =>
    { p with state := .retention, lowPower := true, savedWall := s.time.wall, savedAt := s.now,
             savedBlocks := s.rst.blockReset }
  (s.modYar fun y => { y with serving := false, permit := false, wdtAt := none }).modRst fun r =>
    { r with blockReset := 0x3F03FF#32, sbHeld := true }

/-- The device is in Off: only the AON domain is left; the locks of WOL entries and the escalation window, which are
AON state, stay, and the wake sources as they are set (R257, R280, R300, R302). -/
def State.goOff (s : State) : State :=
  let z := s.commitLog.clampDown.deviceReset
  { z with od := { z.od with keyLock := s.od.keyLock, storeLock := s.od.storeLock },
           link := { z.link with wakeAny := s.link.wakeAny },
           rst := { z.rst with window := s.rst.window, asserted := [] },
           pwr := { z.pwr with state := .off, clamp := true, wakeMask := s.pwr.wakeMask } }

/-- The commit step C: graceful release, BYE, clamp (R300). What this device sends for it does not abandon the entry (R301). -/
def State.commitSleep (s : State) : State :=
  let kind := s.pwr.entry
  let s := s.modPwr fun p => { p with step := 4 }
  let s := (s.handOver.bye 2).modPwr fun p => { p with sleepEntries := inc32 p.sleepEntries }
  if kind = 2 then s.goOff else s.goRetention

/-- The step that an entry has reached `d` ps after its begin, with the ports quiesced: E1 takes 5 µs, E2 50 µs, E3 20 µs;
4 is the commit step C (R300). -/
def entryStep (d : Nat) : Nat := if d < us 5 then 1 else if d < us 55 then 2 else if d < us 75 then 3 else 4

/-- The entry that the idle timers begin, with its instant: that of the timer that fell due first, to Off where both fell due
together; a Retention entry waits until TJ is 95 °C or lower, and begins then (R299). -/
def State.timerEntry (s : State) : Option (Nat × Nat) :=
  let off := s.pwr.idleSince + ms s.pwr.offIdle
  let ret := max (s.pwr.idleSince + ms s.pwr.retIdle) s.pwr.coolAt
  let offDue := s.idleFor (ms s.pwr.offIdle)
  let retDue := s.idleFor (ms s.pwr.retIdle) && s.coolEnough
  if offDue && (!retDue || decide (off ≤ ret)) then some (2, off) else if retDue then some (1, ret) else none

/-- SLEEP_ENTRY: an idle timer passes, or an entry goes on. With the ports quiesced the entry runs through E1, E2, E3 and
the commit step, as far as the time since its begin allows; otherwise it waits in E1 (R299, R300, notes/assumptions/45.md). -/
def execSleepEntry (dt : Nat) (s : State) : Host.Outcome State Fault Refusal :=
  let s := s.advance dt
  .next (
    let ready := (s.pwr.state == .run || s.pwr.state == .doze) && s.rst.phase == .running
    let s := match s.timerEntry with
      | some (kind, at_) => if ready then s.beginSleep kind at_ else s
      | none => s
    if s.pwr.state == .entering && s.quiesced then
      let k := max s.pwr.step (entryStep (s.now - s.pwr.entryAt))
      if k = 4 then s.commitSleep
      else s.modPwr fun p => { (if k = 3 then p.gate s.now else p) with step := k, lowPower := k == 3 }
    else s)

/-- E1_TIMEOUT: the ports are not quiesced after 10 ms in E1 (R300, R308). -/
def execE1Timeout (dt : Nat) (s : State) : Host.Outcome State Fault Refusal :=
  let s := s.advance dt
  .next (if s.pwr.state == .entering && s.pwr.step == 1 && !s.quiesced && decide (s.pwr.entryAt + ms 10 ≤ s.now) then
      s.abandonSleep 4
    else s)

/-! ### Waking (R302) -/

/-- LAST_WAKE's code of a wake source (R308). -/
def wakeCode : WakeSrc → Nat
  | .link _ => 1 | .spi => 2 | .rstN => 3 | .thermal => 4

/-- Whether a source wakes the device: WAKE_MASK lets it through, and a link signal is Bluebell or WAKE_ANY is set (R173,
R302). -/
def State.wakes (s : State) (w : WakeSrc) : Bool :=
  match w with
  | .link bluebell => s.pwr.wakeMask.testBit 0 && (bluebell || s.link.wakeAny)
  | .spi => s.pwr.wakeMask.testBit 1
  | .rstN => true
  | .thermal => s.pwr.state == .retention

/-- The counter after Retention: the saved value plus what the uptime counter measured; valid at once only in a
free-running sender. The servo's rate, the trim and a slew in progress are saved state (R300, R302). -/
def State.restoreTime (s : State) : State :=
  let elapsed := (s.now - s.rst.uptimeBase) / 1000000 - (s.pwr.savedAt - s.rst.uptimeBase) / 1000000
  s.modTime fun t =>
    { t with wall := (s.pwr.savedWall + elapsed * 1000 * tk) % wallMod, valid := s.sender && t.source == 0 }

/-- The first part of a wake from Retention: the clamp is released, the saved state stands, and YCORE goes on on the RC
oscillator; the Stream Buffer blocks wait for the root PLL (R294, R302). -/
def State.wakeRetention (s : State) (code : Nat) : State :=
  let s := s.modPwr fun p =>
    { p with state := .run, clamp := false, lowPower := false, lastWake := code, clkSource := 0, level := 0,
             idleSince := s.now, waking := true }
  (s.modRst fun r => { r with blockReset := s.pwr.savedBlocks ||| 0x3FF#32 }).modYar fun y => { y with wdtAt := some s.yclkNow }

/-- A port that is to leave OFF is probed (R150, R226). -/
def State.probePort (s : State) (x : Port) : State := if (s.port x).mode = 0 then s else s.startProbe x

/-- The end of a wake from Retention, on the root PLL: TIME's counter, the blocks, the ports by their probe step, the link
from DETECT, and the twin from its start (R226, R302). -/
def State.endWake (s : State) : State :=
  let s := s.modPwr fun p => { p with waking := false }
  let s := s.restoreTime
  let s := s.modRst fun r => { r with blockReset := s.pwr.savedBlocks, sbHeld := (s.pwr.savedBlocks &&& 0x3FF#32) != 0 }
  let s := s.modLink fun l => { l with refillAt := s.now }
  (((s.probePort .A).probePort .B).twinStart).applyLinkEnable s.link.enable

/-- RETENTION_WAKE: a wake source that WAKE_MASK lets through; RST_N wakes by a PIN reset (R302). -/
def execRetentionWake (dt : Nat) (w : WakeSrc) (s : State) : Host.Outcome State Fault Refusal :=
  let s := s.advance dt
  .next (if s.pwr.state != .retention || !s.wakes w then s
    else match w with
      | .rstN => (s.raiseDevice 2).modPwr fun p => { p with lastWake := 3 }
      | .link _ => s.wakeRetention (wakeCode w)
      | .spi => s.wakeRetention (wakeCode w)
      | .thermal => s.wakeRetention (wakeCode w))

/-- The release after a Device reset or at a wake from Off: the clamp is released, option loading starts, BOOT_NONCE is drawn,
and LAST and the caches are cleared (R252, R279, R288, R304). -/
def State.startLoad (s : State) : State :=
  let (v, s) := s.draw
  let s := s.modOd fun o => { o with bootNonce := v.toNat, link := {}, mailbox := {} }
  let s := s.modPwr fun p => { p with clamp := false }
  s.modRst fun r => { r with asserted := [], phase := .optionLoad, releasedAt := s.now }

/-- The wake from Off: steps 2 to 10 of R288 (R302). -/
def State.wakeOff (s : State) (code : Nat) : State :=
  (s.modPwr fun p => { p with state := .run, lastWake := code, idleSince := s.now }).startLoad

/-- OFF_WAKE, with PWRDN_N low too: the steps that its fall began are then over (R302, R305; notes/assumptions/47.md). -/
def execOffWake (w : WakeSrc) (s : State) : Host.Outcome State Fault Refusal :=
  .next (if s.pwr.state != .off || !s.wakes w then s
    else
      let s := s.modPwr fun p => { p with pwrdn := none }
      match w with
      | .rstN => (s.raiseDevice 2).modPwr fun p => { p with lastWake := 3 }
      | .link _ => s.wakeOff (wakeCode w)
      | .spi => s.wakeOff (wakeCode w)
      | .thermal => s)

/-! ### Orderly power-down (R305) -/

/-- PWRDN_FALL: an entry is abandoned, BYE with reason 01h, graceful release; in Retention, Off at once. Log entries
are in flash as they are made (R236, R305). -/
def execPwrdnFall (s : State) : Host.Outcome State Fault Refusal :=
  let s := s.modPwr fun p => { p with pwrdn := some (p.pwrdn.getD s.now) }
  .next (match s.pwr.state with
    | .off => s
    | .retention => s.goOff
    | .entering => ((s.abandonSleep s.pwr.step).bye 1).handOver
    | .doze => (s.active.bye 1).handOver
    | .run => (s.bye 1).handOver)

/-- Whether a reset source is asserted: the device is held, and it neither enters nor leaves a power state (R278, R279). -/
def State.heldByReset (s : State) : Bool := s.pwr.state != .off && s.rst.phase == .held

/-- POWER_DOWN_CLAMP: 2 ms after PWRDN_N fell (R305). Under an asserted reset the clamp alone acts (R304). -/
def execPowerDownClamp (dt : Nat) (s : State) : Host.Outcome State Fault Refusal :=
  let s := s.advance dt
  .next (if s.pwr.pwrdn.any (fun a => decide (a + ms 2 ≤ s.now)) && s.pwr.state != .off then
      if s.heldByReset then s.modPwr fun p => { p with clamp := true } else s.goOff
    else s)

/-- PWRDN_RISE: the device wakes as from Off, LAST_WAKE 05h (R305). A rise before the clamp ends the steps first
(notes/assumptions/47.md). It wakes nothing under an asserted reset, that of a rail that has failed among them: the supplies must hold
(R304, R305). -/
def execPwrdnRise (s : State) : Host.Outcome State Fault Refusal :=
  .next (if s.pwr.pwrdn.isNone then s
    else if s.heldByReset then s.modPwr fun p => { p with pwrdn := none }
    else
      let s := if s.pwr.state = .off then s else s.goOff
      (s.modPwr fun p => { p with pwrdn := none }).wakeOff 5)

end Sys2Proof.Machine
end

