-- ==== Sys2Proof/Machine/Boot.lean ====
section
/-! DEFINITION. Images and settings slots (R266 to R275): the checks of an image, its settings slot, what the boot ROM
starts, and the moves of the update state. -/

namespace Sys2Proof.Machine

open Sys2Proof

/-! ### The checks of an image (R267, R268) -/

/-- The most body bytes of an image in flash (R267). -/
def bodyMax : Nat := 4194048
/-- The most body bytes of an image in SRAM (R287). -/
def ramBodyMax : Nat := 196352

/-- Header fields: MAGIC, HDR_VERSION, DEVICE, and READ_MIN within 1 to SCHEMA. -/
def imgHeadOk (b : List Byte) : Bool :=
  b.take 4 == [0x43#8, 0x51#8, 0x46#8, 0x57#8] && leField b 4 2 == 1 && leField b 6 2 == 0x2010 &&
  decide (1 ≤ leField b 14 2) && decide (leField b 14 2 ≤ leField b 12 2)

/-- LENGTH of an image. -/
def imgLength (b : List Byte) : Nat := leField b 20 4
/-- The body of an image. -/
def imgBody (b : List Byte) : List Byte := (b.drop 256).take (imgLength b)
/-- ROLLBACK of an image. -/
def imgRollback (b : List Byte) : Nat := leField b 16 4

/-- The signature check: ECDSA over SHA-256 of header bytes 0 to 63 and the body. -/
def imgSigOk (b : List Byte) : Bool :=
  ecdsaVerify (leField b 128 32) (leField b 160 32) (beNat (sha256 (b.take 64 ++ imgBody b))) (leField b 64 32)
    (leField b 96 32)

/-- The first failing check of R268, 00h for a valid image and 08h for an empty slot; `lim` bounds the body. -/
def imageCheck (keyHash : List Byte) (rollback lim : Nat) (b : List Byte) : Nat :=
  if b.isEmpty then 8
  else if !imgHeadOk b then 1
  else if !(decide (1 ≤ imgLength b) && decide (imgLength b ≤ lim) && decide (leField b 28 4 < imgLength b)) then 2
  else if crc32c (imgBody b) ≠ leField b 24 4 then 3
  else if keyHash = zeros 32 ∨ sha256 ((b.drop 128).take 64) ≠ keyHash then 4
  else if !imgSigOk b then 5
  else if imgRollback b < rollback then 6
  else 0

/-- The image that the bytes of a slot make up although no session closed on it: 256 + LENGTH bytes, all programmed. -/
def rawImage (raw : List (Option Byte)) : List Byte :=
  let b := raw.map fun x => x.getD 0
  let n := 256 + imgLength b
  if n ≤ raw.length ∧ (raw.take n).all Option.isSome = true then b.take n else []

/-- The boot ROM finds in a slot what is programmed there (R268). -/
def UpdSt.findImages (u : UpdSt) : UpdSt :=
  { u with imageA := if u.imageA.isEmpty then rawImage u.rawA else u.imageA,
           imageB := if u.imageB.isEmpty then rawImage u.rawB else u.imageB }

/-- The check of the image in a slot. -/
def UpdSt.check (u : UpdSt) (slot : Nat) : Nat := imageCheck u.keyHash u.rollbackFuse bodyMax (u.image slot)

/-- The last result of R268 for a slot. -/
def UpdSt.checkOf (u : UpdSt) (slot : Nat) : Nat := if slot = 0 then u.checkA else u.checkB

/-- Record a result. -/
def UpdSt.setCheck (u : UpdSt) (slot v : Nat) : UpdSt := if slot = 0 then { u with checkA := v } else { u with checkB := v }

/-- Put an image into a slot of the flash; nothing else is left there. -/
def UpdSt.setImage (u : UpdSt) (slot : Nat) (b : List Byte) : UpdSt :=
  if slot = 0 then { u with imageA := b, rawA := [] } else { u with imageB := b, rawB := [] }

/-- The image of a slot stops being one: its bytes stay until they are erased (R270). -/
def UpdSt.dissolve (u : UpdSt) (slot : Nat) : UpdSt :=
  let raw := fun (img : List Byte) (raw : List (Option Byte)) => if img.isEmpty then raw else img.map some
  if slot = 0 then { u with imageA := [], rawA := raw u.imageA u.rawA }
  else { u with imageB := [], rawB := raw u.imageB u.rawB }

/-- A segment of a session in flash: the first one into a 64 KiB block erases the block, and its bytes are programmed
(R270). -/
def programRaw (raw : List (Option Byte)) (off : Nat) (bs : List Byte) : List (Option Byte) :=
  let tail := if off % 65536 ≠ 0 then raw.drop (off + bs.length)
    else if raw.length ≤ off + 65536 then []
    else List.replicate (65536 - bs.length) none ++ raw.drop (off + 65536)
  raw.take off ++ List.replicate (off - raw.length) none ++ bs.map some ++ tail

/-- A segment programmed into a slot, which ends at 4 MiB (R266, R270). -/
def UpdSt.program (u : UpdSt) (slot off : Nat) (bs : List Byte) : UpdSt :=
  let bs := bs.take (0x400000 - off)
  if slot = 0 then { u with rawA := programRaw u.rawA off bs } else { u with rawB := programRaw u.rawB off bs }

/-- The image slot that is not running: the one that IMAGE_CHECK reports and ACTIVATE starts. An image in SRAM
leaves the slot that is not committed. -/
def UpdSt.otherSlot (u : UpdSt) : Nat := if u.runningSlot < 2 then 1 - u.runningSlot else 1 - u.committedSlot

/-- IMAGE_CHECK (R276). -/
def UpdSt.imageCheckReg (u : UpdSt) : Nat := u.checkOf u.otherSlot

/-- The target slot of an IMAGE session: neither running nor committed (R270). -/
def UpdSt.target (u : UpdSt) : Option Nat :=
  [0, 1].find? fun k => k != u.runningSlot && k != u.committedSlot

/-! ### Anti-rollback (R269) -/

/-- A result of R268 after the counter has risen. -/
def recheck (img : List Byte) (fuse c : Nat) : Nat := if c = 0 ∧ imgRollback img < fuse then 6 else c

/-- Whether the running image's ROLLBACK exceeds the counter, so that fuses are to be blown (R269). -/
def UpdSt.mustRaise (u : UpdSt) : Bool := decide (u.rollbackFuse < imgRollback (u.image u.runningSlot))

/-- Raise ROLLBACK_FUSE to the running image's ROLLBACK (R269). -/
def UpdSt.raiseRollback (u : UpdSt) : UpdSt :=
  let f := max u.rollbackFuse (imgRollback (u.image u.runningSlot))
  { u with rollbackFuse := f, checkA := recheck u.imageA f u.checkA, checkB := recheck u.imageB f u.checkB }

/-- The fuses of ROLLBACK_FUSE are blown and read back: the counter rises, or FUSE_ERR is event 8004h, with the index and
subindex as the events of R257 have them (R257, R269). -/
def State.blowRollback (s : State) (readBack : Bool) : State :=
  if readBack then s.modUpd UpdSt.raiseRollback else s.log 0x8004 0 12 0xA000000D

/-! ### The control record (R266) -/

/-- The control record in force, as a copy with a sequence number. -/
def UpdSt.ctl (u : UpdSt) (seq : Nat) : CtlRec :=
  { seq := seq, committedSlot := u.committedSlot, state := u.state, trialSlot := u.trialSlot, bindA := u.bindA,
    bindB := u.bindB }

/-- The sequence number of a copy of the control record, 0 where there is none. -/
def ctlSeq (c : Option CtlRec) : Nat := (c.map (·.seq)).getD 0

/-- The control record is written to the copy with the lower sequence number, one that is not valid before any other; it does not
count before it is verified (R266). -/
def UpdSt.recordCtl (u : UpdSt) : UpdSt :=
  let new := { u.ctl (max (ctlSeq u.ctlA) (ctlSeq u.ctlB) + 1) with good := false }
  if ctlSeq (u.ctlA.filter (·.good)) ≤ ctlSeq (u.ctlB.filter (·.good)) then { u with ctlA := some new }
  else { u with ctlB := some new }

/-- The copy written last has been verified: it counts (R266). -/
def UpdSt.verifyCtl (u : UpdSt) : UpdSt :=
  let whole := fun (c : CtlRec) => { c with good := true }
  if ctlSeq u.ctlB < ctlSeq u.ctlA then { u with ctlA := u.ctlA.map whole } else { u with ctlB := u.ctlB.map whole }

/-- The control record written and verified in one step: by the boot ROM, before the reset of ACTIVATE, at the end of a trial's window, and
at the end of a SAVE (R266; notes/assumptions/98.md). -/
def UpdSt.keepCtl (u : UpdSt) : UpdSt := u.recordCtl.verifyCtl

/-- A reader uses the valid copy with the higher sequence number; where there is none, the record stands as it is
(R266). -/
def UpdSt.loadCtl (u : UpdSt) : UpdSt :=
  let take := fun (c : CtlRec) =>
    { u with committedSlot := c.committedSlot, state := c.state, trialSlot := c.trialSlot, bindA := c.bindA,
             bindB := c.bindB }
  match u.ctlA.filter (·.good), u.ctlB.filter (·.good) with
  | some a, some b => if a.seq < b.seq then take b else take a
  | some a, none => take a
  | none, some b => take b
  | none, none => u

/-! ### Settings slots (R261, R266, R272 to R274) -/

/-- The copy of a slot that is in force: of those whose CRC passes, the one with the higher sequence number. -/
def SettingsSlot.best (v : SettingsSlot) : Option SettingsCopy :=
  match v.a.filter (·.good), v.b.filter (·.good) with
  | some a, some b => if a.seq < b.seq then some b else some a
  | some a, none => some a
  | none, b => b

/-- Whether a copy of the slot was cut off while it was written. -/
def SettingsSlot.torn (v : SettingsSlot) : Bool := v.a.any (!·.good) || v.b.any (!·.good)

/-- A new copy is written beside the one in force; it is not whole yet (R261). -/
def SettingsSlot.begin (v : SettingsSlot) (schema : Nat) (vals : List Saved) : SettingsSlot :=
  let c : SettingsCopy := { seq := (v.best.map (·.seq)).getD 0 + 1, schema := schema, good := false, vals := vals }
  if v.best = none ∨ v.best ≠ v.a then { v with a := some c } else { v with b := some c }

/-- The copy being written has been verified (R261). -/
def SettingsSlot.finish (v : SettingsSlot) : SettingsSlot :=
  let whole := fun (c : SettingsCopy) => { c with good := true }
  { a := v.a.map whole, b := v.b.map whole }

/-- A new copy, whole. -/
def SettingsSlot.put (v : SettingsSlot) (schema : Nat) (vals : List Saved) : SettingsSlot := (v.begin schema vals).finish

/-- The settings slot bound to an image slot. -/
def UpdSt.bind (u : UpdSt) (slot : Nat) : Option Nat := if slot = 0 then u.bindA else if slot = 1 then u.bindB else none

/-- Bind an image slot to a settings slot. -/
def UpdSt.setBind (u : UpdSt) (slot : Nat) (v : Option Nat) : UpdSt :=
  if slot = 0 then { u with bindA := v } else if slot = 1 then { u with bindB := v } else u

/-- A settings slot of the flash. -/
def UpdSt.settings (u : UpdSt) (k : Nat) : SettingsSlot := if k = 0 then u.settingsA else u.settingsB

/-- Write a settings slot. -/
def UpdSt.setSettings (u : UpdSt) (k : Nat) (v : SettingsSlot) : UpdSt :=
  if k = 0 then { u with settingsA := v } else { u with settingsB := v }

/-- The settings slot that the running image reads: its own, otherwise that of the committed image, otherwise A
(R272). -/
def UpdSt.readSlot (u : UpdSt) : Nat := (u.bind u.runningSlot).getD ((u.bind u.committedSlot).getD 0)

/-- The trial settings slot: the one not bound to the committed image (R272). -/
def UpdSt.trialSettings (u : UpdSt) : Nat := 1 - (u.bind u.committedSlot).getD 0

/-- Whether an image runs in trial: TRIAL or EXPIRED. -/
def UpdSt.inTrial (u : UpdSt) : Bool := u.state == .trial || u.state == .expired

/-- The settings slot that SAVE writes: in a trial the trial settings slot (R261, R272). -/
def UpdSt.saveSlot (u : UpdSt) : Nat := if u.inTrial then u.trialSettings else u.settingsSlot

/-- Erase each settings slot that is bound to no image (R271). -/
def UpdSt.eraseUnbound (u : UpdSt) : UpdSt :=
  [0, 1].foldl (fun u k => if u.bindA = some k ∨ u.bindB = some k then u else u.setSettings k {}) u

/-- Whether firmware can read a copy of the settings: its schema lies in READ_MIN to SCHEMA (R274). -/
def State.canRead (s : State) (c : SettingsCopy) : Bool :=
  decide (leField (s.upd.image s.upd.runningSlot) 14 2 ≤ c.schema) && decide (c.schema ≤ s.schema)

/-- The settings cannot be read: SETTINGS_UNREADABLE, which sets every enabled channel HELD. STORED_SCHEMA reads the schema as found
(R274, R275). -/
def State.storeUnread (s : State) (schema : Nat) : State :=
  let s := s.modOd fun o => { o with saved := [], storedSchema := schema, storeState := 3 }
  (s.attnBoth 18).forChans fun n s => s.holdChannel n

/-- Read the settings store of the slot in use: the values of the copy in force, or SETTINGS_UNREADABLE where its schema is out of range
or no copy passes its CRC. STORE_STATE reads 05h where a save was cut off beside a copy that passes; a slot whose only copy is a save cut
off holds none that passes, and R274 goes before the 05h of R261 (R261, R274, R275; DEDUCED, notes/assumptions/89.md). -/
def State.loadStore (s : State) : State :=
  let v := s.upd.settings s.upd.settingsSlot
  match v.best with
  | none =>
    match v.a, v.b with
    | none, none => s.modOd fun o => { o with saved := [], storedSchema := 0, storeState := 4 }
    | some c, _ => s.storeUnread c.schema
    | none, some c => s.storeUnread c.schema
  | some c =>
    if s.canRead c then
      s.modOd fun o => { o with saved := c.vals, storedSchema := c.schema, storeState := if v.torn then 5 else 0 }
    else s.storeUnread c.schema

/-- SAVE begins: it takes its values, and the new copy is written beside the one in force (R261, R272). -/
def State.beginSave (s : State) (vals : List Saved) : State :=
  let k := s.upd.saveSlot
  (s.modUpd fun u => u.setSettings k ((u.settings k).begin s.schema vals)).modOd fun o => { o with storeState := 1 }

/-- SAVE ends: the copy is verified and counts; the binding it may make is in the control record by then; outside a trial the running image is bound to the slot (R261, R272). -/
def State.endSave (s : State) (slot : Nat) (vals : List Saved) : State :=
  let s := s.modUpd fun u =>
    let u := u.setSettings slot (u.settings slot).finish
    if u.inTrial then { u with trialSaved := true }
    else if u.bind u.runningSlot = some slot then u
    else (u.setBind u.runningSlot (some slot)).keepCtl
  s.modOd fun o => { o with saved := vals, storeState := 0, saveCount := inc32 o.saveCount, storedSchema := s.schema }

/-- RESTORE_DEFAULTS ends: every saved value is erased; in a trial the trial settings slot takes an empty set (R261,
R272). -/
def State.eraseStore (s : State) : State :=
  let s := s.modUpd fun u =>
    if u.inTrial then
      { u.setSettings u.trialSettings ((u.settings u.trialSettings).put s.schema []) with trialSaved := true }
    else u.setSettings u.settingsSlot {}
  s.modOd fun o => { o with saved := [], storeState := 4, storedSchema := 0 }

/-! ### COMMIT and ACTIVATE (R271, R273, R275) -/

/-- The settings step of COMMIT: the slot of a SAVE of this trial; otherwise the saved values migrated to a higher
SCHEMA; otherwise the slot read (R273). -/
def State.commitSettings (s : State) : State :=
  s.modUpd fun u =>
    let k := if u.trialSaved then u.trialSettings
      else if (u.settings u.settingsSlot).best.any (fun v => decide (v.schema < s.schema)) then u.trialSettings
      else u.settingsSlot
    let u := if u.trialSaved ∨ k = u.settingsSlot then u
      else u.setSettings k ((u.settings k).put s.schema s.od.saved)
    { u.setBind u.runningSlot (some k) with settingsSlot := k, trialSaved := false }

/-- The settings and the control record of an accepted COMMIT of a trial; the record is still to be verified (R273, steps 1 and 2). -/
def State.commitTrial (s : State) : State :=
  let s := s.commitSettings
  let s := s.modUpd fun u =>
    ({ u with committedSlot := u.runningSlot, state := .committed, lastResult := 1 } : UpdSt).recordCtl
  s.modOd fun o => { o with storedSchema := ((s.upd.settings s.upd.settingsSlot).best.map (·.schema)).getD 0 }

/-- An accepted COMMIT under SETTINGS_UNREADABLE, before the counter: the image takes the other settings slot, left empty
(R275). -/
def State.commitUnreadable (s : State) : State :=
  let s := s.modUpd fun u =>
    let k := 1 - u.settingsSlot
    let u := (u.setSettings k {}).setBind u.runningSlot (some k)
    ({ u with settingsSlot := k, committedSlot := u.runningSlot, state := .committed, lastResult := 4,
              trialSaved := false } : UpdSt).recordCtl
  s.modOd fun o => { o with storeState := 4, storedSchema := 0, saved := [] }

/-- An accepted ACTIVATE, before its reset (R271). -/
def UpdSt.activate (u : UpdSt) : UpdSt :=
  ({ u.eraseUnbound with trialSlot := u.otherSlot, state := .pending } : UpdSt).keepCtl

/-! ### Starting an image (R237, R269, R271, R272) -/

/-- Firmware discards and counts the torn entries of the flash ring (R236). -/
def YarSt.dropTorn (y : YarSt) : YarSt :=
  { y with flashLog := y.flashLog.map fun e => { e with void := e.void || !e.committed },
           tornDiscarded := satAdd y.tornDiscarded (y.flashLog.filter fun e => !e.committed && !e.void).length }

/-- The boot ROM starts an image: the watchdog runs with 5 s, and the image's settings slot is chosen; the image, which is firmware,
discards the torn entries of the flash ring and of the repair log before it writes anything there (R236, R237, R272, R322). -/
def State.startImage (s : State) (slot : Nat) : State :=
  let s := s.modUpd fun u =>
    let u := { u with runningSlot := slot, trialSaved := false }
    { u with settingsSlot := u.readSlot }
  let s := s.modOd fun o =>
    { o with link := { o.link with cache := [], session := none, snap := none },
             mailbox := { o.mailbox with cache := [], session := none, snap := none } }
  let s := s.modYar fun y => { y with wdtAt := some s.yclkNow, wdtPeriod := 5000000, loader := false }.dropTorn
  let s := s.modTansy TansySt.dropTorn
  s.modRst fun r => { r with yarBooted := true }

/-- An image starts that is not in trial. Where it is the committed one and its ROLLBACK exceeds the counter, firmware starts
to blow the fuses, which will read back as `readBack` says (R269). -/
def State.startCommitted (s : State) (slot : Nat) (readBack : Bool) : State :=
  let s := s.startImage slot
  if slot = s.upd.committedSlot ∧ s.upd.mustRaise = true then s.modUpd fun u => { u with raising := some readBack }
  else s

/-- Whether the loader answers on the LINK path: BOOT strap 10b; otherwise on the MAILBOX path (R287). -/
def State.loaderLink (s : State) : Bool := s.rst.straps.boot == 2#2

/-- The boot ROM stays in ROM and serves its loader; under strap 10b it brings the link up, whatever ENABLE was, at rate 00h only, with
the blocks up to EGRESS released in the order of R289; a link that a Yarrow reset has left UP stays as it is (R287; notes/assumptions/50.md). A mailbox request of the time before is dropped
without a response (R238). -/
def State.startLoader (s : State) : State :=
  let s := s.modYar fun y => { y with loader := true, wdtAt := some s.yclkNow, wdtPeriod := 5000000 }
  let s := s.modOd fun o => { o with mbxReq := none }
  let s := s.modUpd fun u => { u with ram := [], ramCheck := 8 }
  let s := s.modRst fun r => { r with yarBooted := true }
  if s.loaderLink then
    (s.applyBlockReset (s.rst.blockReset &&& (~~~ 0x23F#32))).applyLinkEnable true
  else s

end Sys2Proof.Machine
end

