-- ==== Sys2Proof/Machine/OdTable.lean ====
section
/-! DEFINITION. The entries of the object dictionary (R256 to R258, R265): index, subindex, type, right, level and range of
values, as the object tables give them. -/

namespace Sys2Proof.Machine

open Sys2Proof

/-- The types of R256; the sizes of integers in bytes. -/
inductive OTy where
  | bool | uint (size : Nat) | sint (size : Nat) | time | str | domain
  deriving DecidableEq, Repr

/-- The rights of R257. -/
inductive Right where
  | ro | rw | rws | wo | wol | wof
  deriving DecidableEq, Repr

/-- The values that an entry takes. -/
inductive Rg where
  | any
  | span (lo hi : Int)
  | zeroOr (lo hi : Nat)
  | oneOf (l : List Nat)
  deriving DecidableEq, Repr

/-- An entry: its subindex, type, right, the level of its Level column (0 Observer to 3 Factory), and its range. -/
structure Row where
  sub : Nat
  ty : OTy
  right : Right
  level : Nat
  rg : Rg
  deriving DecidableEq, Repr

/-- The objects of R265. -/
inductive Obj where
  | identity | access | store | role
  | chCfg (n : Fin 20) | chStat (n : Fin 20)
  | common | scratch
  | desc (m : Fin 6)
  | portCfg (x : Port) | portStat (x : Port)
  | linkCfg | linkStat | capsLocal | capsPeer | arq
  | flow (i : Fin 21)
  | overhead
  | policer (n : Fin 20)
  | meas | time | twin | reset | blocks | power | clocks | mem | sensors | log | update
  deriving DecidableEq, Repr

/-- A number as an index below `k`. -/
def finOf (k n : Nat) : Option (Fin k) := if h : n < k then some ⟨n, h⟩ else none

/-- The object of an index (R265). -/
def objOf (i : Nat) : Option Obj :=
  if i = 0x1000 then some .identity
  else if i = 0x1010 then some .access
  else if i = 0x1100 then some .store
  else if i = 0x1200 then some .role
  else if 0x2000 ≤ i ∧ i < 0x2100 then (finOf 20 (i - 0x2000)).map .chCfg
  else if 0x2100 ≤ i ∧ i < 0x2200 then (finOf 20 (i - 0x2100)).map .chStat
  else if i = 0x2200 then some .common
  else if i = 0x2300 then some .scratch
  else if 0x2400 ≤ i ∧ i < 0x3000 then (finOf 6 (i - 0x2400)).map .desc
  else if i = 0x3000 then some (.portCfg .A)
  else if i = 0x3001 then some (.portCfg .B)
  else if i = 0x3010 then some (.portStat .A)
  else if i = 0x3011 then some (.portStat .B)
  else if i = 0x4000 then some .linkCfg
  else if i = 0x4001 then some .linkStat
  else if i = 0x4010 then some .capsLocal
  else if i = 0x4011 then some .capsPeer
  else if i = 0x4020 then some .arq
  else if 0x4100 ≤ i ∧ i < 0x4120 then (finOf 21 (i - 0x4100)).map .flow
  else if i = 0x4120 then some .overhead
  else if 0x4200 ≤ i ∧ i < 0x4300 then (finOf 20 (i - 0x4200)).map .policer
  else if i = 0x4300 then some .meas
  else if i = 0x5000 then some .time
  else if i = 0x6000 then some .twin
  else if i = 0x7000 then some .reset
  else if i = 0x7010 then some .blocks
  else if i = 0x7100 then some .power
  else if i = 0x7200 then some .clocks
  else if i = 0x8000 then some .mem
  else if i = 0x9000 then some .sensors
  else if i = 0x9100 then some .log
  else if i = 0xA000 then some .update
  else none

/-- The index of an object. -/
def Obj.index : Obj → Nat
  | .identity => 0x1000 | .access => 0x1010 | .store => 0x1100 | .role => 0x1200
  | .chCfg n => 0x2000 + n.val | .chStat n => 0x2100 + n.val
  | .common => 0x2200 | .scratch => 0x2300
  | .desc m => 0x2400 + m.val
  | .portCfg x => 0x3000 + (match x with | .A => 0 | .B => 1)
  | .portStat x => 0x3010 + (match x with | .A => 0 | .B => 1)
  | .linkCfg => 0x4000 | .linkStat => 0x4001 | .capsLocal => 0x4010 | .capsPeer => 0x4011 | .arq => 0x4020
  | .flow i => 0x4100 + i.val
  | .overhead => 0x4120
  | .policer n => 0x4200 + n.val
  | .meas => 0x4300 | .time => 0x5000 | .twin => 0x6000 | .reset => 0x7000 | .blocks => 0x7010 | .power => 0x7100
  | .clocks => 0x7200 | .mem => 0x8000 | .sensors => 0x9000 | .log => 0x9100 | .update => 0xA000

/-! ### The object tables -/

/-- The entries of 1000h (R7). -/
def identityRows : List Row :=
  [⟨0x01, .str, .ro, 0, .any⟩,
   ⟨0x02, .uint 2, .ro, 0, .any⟩,
   ⟨0x03, .uint 1, .ro, 0, .any⟩,
   ⟨0x04, .uint 8, .ro, 0, .any⟩,
   ⟨0x05, .uint 4, .ro, 0, .any⟩,
   ⟨0x06, .uint 2, .ro, 0, .any⟩]

/-- The entries of 1010h (R262). -/
def accessRows : List Row :=
  [⟨0x01, .domain, .wo, 2, .any⟩,
   ⟨0x02, .domain, .wo, 2, .any⟩,
   ⟨0x03, .domain, .wo, 2, .any⟩,
   ⟨0x04, .domain, .ro, 0, .any⟩,
   ⟨0x05, .uint 1, .wol, 2, .oneOf [1]⟩,
   ⟨0x08, .uint 4, .ro, 0, .any⟩,
   ⟨0x09, .uint 4, .ro, 0, .any⟩,
   ⟨0x0A, .uint 4, .ro, 0, .any⟩,
   ⟨0x0B, .uint 4, .ro, 0, .any⟩,
   ⟨0x0C, .uint 4, .ro, 0, .any⟩,
   ⟨0x0D, .bool, .wof, 3, .span 0 1⟩,
   ⟨0x0E, .uint 4, .ro, 0, .any⟩,
   ⟨0x0F, .uint 4, .ro, 0, .any⟩,
   ⟨0x10, .uint 1, .wo, 1, .oneOf [1]⟩]

/-- The entries of 1100h (R261). -/
def storeRows : List Row :=
  [⟨0x01, .uint 1, .wo, 2, .oneOf [1]⟩,
   ⟨0x02, .uint 1, .wo, 2, .oneOf [1]⟩,
   ⟨0x03, .uint 1, .wol, 2, .oneOf [1]⟩,
   ⟨0x04, .uint 1, .ro, 0, .any⟩,
   ⟨0x05, .uint 4, .ro, 0, .any⟩,
   ⟨0x06, .uint 2, .ro, 0, .any⟩,
   ⟨0x07, .bool, .ro, 0, .any⟩]

/-- The entries of 1200h (R1, R263). -/
def roleRows : List Row :=
  [⟨0x01, .uint 1, .rws, 2, .span 1 2⟩,
   ⟨0x02, .uint 1, .ro, 0, .any⟩]

/-- The entries of 2000h + n (R57). -/
def chCfgRows : List Row :=
  [⟨0x01, .uint 1, .rws, 2, .span 1 3⟩,
   ⟨0x02, .uint 1, .rws, 2, .span 0 4⟩,
   ⟨0x03, .uint 1, .rws, 2, .span 0 4⟩,
   ⟨0x04, .uint 2, .rws, 2, .span 0 32767⟩,
   ⟨0x05, .uint 2, .rws, 2, .span 1 32768⟩,
   ⟨0x06, .uint 1, .rws, 2, .span 0 127⟩,
   ⟨0x07, .uint 4, .rws, 1, .span 0 4194304⟩,
   ⟨0x08, .uint 4, .rws, 1, .span 0 4194304⟩,
   ⟨0x09, .uint 4, .rws, 1, .span 1 4194304⟩,
   ⟨0x0A, .uint 4, .rws, 1, .span 0 4194303⟩,
   ⟨0x0B, .uint 4, .rws, 1, .zeroOr 1 10000000⟩,
   ⟨0x0C, .uint 1, .rws, 2, .span 0 2⟩,
   ⟨0x0D, .uint 1, .rws, 1, .span 0 1⟩,
   ⟨0x0E, .uint 4, .rws, 1, .zeroOr 1 1000000⟩,
   ⟨0x0F, .uint 4, .rws, 1, .span 0 100000000⟩,
   ⟨0x10, .uint 4, .rws, 1, .span 0 100000000⟩] ++
  [⟨0x11, .uint 4, .rws, 1, .span 0 1000000000⟩,
   ⟨0x12, .bool, .rws, 2, .span 0 1⟩,
   ⟨0x13, .uint 1, .rws, 1, .span 0 3⟩]

/-- The entries of 2100h + n (R58, R129). -/
def chStatRows : List Row :=
  [⟨0x01, .uint 1, .ro, 0, .any⟩,
   ⟨0x02, .uint 1, .ro, 0, .any⟩,
   ⟨0x03, .uint 1, .ro, 0, .any⟩,
   ⟨0x04, .uint 4, .ro, 0, .any⟩,
   ⟨0x05, .uint 4, .ro, 0, .any⟩,
   ⟨0x06, .uint 4, .ro, 0, .any⟩,
   ⟨0x07, .uint 4, .ro, 0, .any⟩,
   ⟨0x08, .uint 4, .ro, 0, .any⟩,
   ⟨0x09, .uint 4, .ro, 0, .any⟩,
   ⟨0x0A, .uint 4, .ro, 0, .any⟩,
   ⟨0x0B, .uint 4, .ro, 0, .any⟩,
   ⟨0x0C, .uint 4, .ro, 0, .any⟩,
   ⟨0x0D, .uint 1, .ro, 0, .any⟩,
   ⟨0x0E, .uint 2, .ro, 0, .any⟩,
   ⟨0x0F, .uint 4, .ro, 0, .any⟩,
   ⟨0x10, .uint 4, .ro, 0, .any⟩] ++
  [⟨0x11, .uint 4, .ro, 0, .any⟩,
   ⟨0x12, .uint 4, .ro, 0, .any⟩,
   ⟨0x13, .uint 4, .ro, 0, .any⟩,
   ⟨0x14, .uint 4, .ro, 0, .any⟩,
   ⟨0x15, .uint 4, .ro, 0, .any⟩,
   ⟨0x16, .uint 4, .ro, 0, .any⟩,
   ⟨0x17, .uint 4, .ro, 0, .any⟩,
   ⟨0x18, .uint 4, .ro, 0, .any⟩,
   ⟨0x19, .uint 4, .ro, 0, .any⟩,
   ⟨0x1A, .uint 4, .ro, 0, .any⟩,
   ⟨0x1B, .uint 1, .wo, 1, .oneOf [1]⟩,
   ⟨0x20, .domain, .ro, 0, .any⟩,
   ⟨0x21, .uint 4, .ro, 0, .any⟩,
   ⟨0x22, .uint 4, .ro, 0, .any⟩,
   ⟨0x23, .uint 4, .ro, 0, .any⟩,
   ⟨0x24, .uint 4, .ro, 0, .any⟩] ++
  [⟨0x25, .uint 4, .ro, 0, .any⟩,
   ⟨0x26, .uint 4, .ro, 0, .any⟩,
   ⟨0x27, .uint 4, .ro, 0, .any⟩,
   ⟨0x28, .uint 4, .ro, 0, .any⟩,
   ⟨0x29, .domain, .ro, 2, .any⟩,
   ⟨0x2A, .uint 1, .wo, 1, .oneOf [1]⟩]

/-- The entries of 2200h (R78). -/
def commonRows : List Row :=
  [⟨0x01, .domain, .rws, 2, .any⟩,
   ⟨0x02, .uint 4, .ro, 0, .any⟩]

/-- The entries of 2300h (R29, R37). -/
def scratchRows : List Row :=
  [⟨0x01, .uint 4, .rws, 2, .any⟩,
   ⟨0x02, .uint 4, .rws, 2, .any⟩,
   ⟨0x03, .uint 4, .rws, 2, .any⟩,
   ⟨0x04, .uint 4, .rws, 2, .any⟩,
   ⟨0x10, .uint 8, .ro, 0, .any⟩,
   ⟨0x11, .uint 8, .ro, 0, .any⟩,
   ⟨0x12, .domain, .ro, 0, .any⟩,
   ⟨0x13, .uint 1, .wo, 2, .span 0 63⟩,
   ⟨0x14, .uint 4, .ro, 0, .any⟩]

/-- The entries of 2400h to 2405h (R25). -/
def descRows : List Row :=
  [⟨0x01, .uint 4, .rws, 2, .any⟩,
   ⟨0x02, .uint 4, .rws, 2, .any⟩,
   ⟨0x03, .uint 4, .rws, 2, .any⟩,
   ⟨0x04, .uint 4, .rws, 2, .any⟩,
   ⟨0x05, .uint 4, .rws, 2, .any⟩,
   ⟨0x06, .uint 4, .rws, 2, .any⟩,
   ⟨0x07, .uint 4, .rws, 2, .any⟩,
   ⟨0x08, .uint 4, .rws, 2, .any⟩]

/-- The entries of 3000h and 3001h (R90, R151). -/
def portCfgRows : List Row :=
  [⟨0x01, .uint 1, .rws, 2, .span 0 2⟩,
   ⟨0x02, .uint 1, .rws, 2, .oneOf [0, 1, 2, 3, 255]⟩,
   ⟨0x03, .uint 1, .rws, 1, .span 0 31⟩,
   ⟨0x04, .uint 1, .rws, 1, .span 0 31⟩,
   ⟨0x20, .uint 4, .rws, 1, .any⟩]

/-- The entries of 3010h and 3011h (R89, R90, R152). -/
def portStatRows : List Row :=
  [⟨0x01, .uint 1, .ro, 0, .any⟩,
   ⟨0x02, .uint 1, .ro, 0, .any⟩,
   ⟨0x03, .uint 1, .ro, 0, .any⟩,
   ⟨0x04, .uint 4, .ro, 0, .any⟩,
   ⟨0x05, .uint 4, .ro, 0, .any⟩,
   ⟨0x06, .uint 1, .ro, 0, .any⟩,
   ⟨0x07, .uint 1, .ro, 0, .any⟩,
   ⟨0x08, .uint 1, .ro, 0, .any⟩,
   ⟨0x09, .uint 1, .ro, 0, .any⟩,
   ⟨0x0A, .uint 1, .ro, 0, .any⟩,
   ⟨0x0B, .bool, .ro, 0, .any⟩,
   ⟨0x10, .uint 4, .ro, 0, .any⟩,
   ⟨0x11, .uint 4, .ro, 0, .any⟩,
   ⟨0x12, .uint 4, .ro, 0, .any⟩,
   ⟨0x13, .uint 4, .ro, 0, .any⟩,
   ⟨0x14, .uint 4, .ro, 0, .any⟩] ++
  [⟨0x15, .uint 4, .ro, 0, .any⟩,
   ⟨0x16, .uint 4, .ro, 0, .any⟩,
   ⟨0x17, .uint 4, .ro, 0, .any⟩,
   ⟨0x18, .uint 1, .wo, 1, .oneOf [1]⟩,
   ⟨0x20, .uint 4, .rw, 1, .any⟩,
   ⟨0x21, .uint 4, .rw, 1, .any⟩]

/-- The entries of 4000h (R174). -/
def linkCfgRows : List Row :=
  [⟨0x01, .bool, .rws, 2, .span 0 1⟩,
   ⟨0x02, .uint 1, .rws, 2, .span 0 2⟩,
   ⟨0x03, .uint 4, .rws, 2, .any⟩,
   ⟨0x04, .bool, .rws, 2, .span 0 1⟩,
   ⟨0x05, .uint 4, .rws, 1, .zeroOr 10 60000⟩,
   ⟨0x06, .uint 4, .rws, 1, .span 3000 6000⟩,
   ⟨0x07, .bool, .rws, 2, .span 0 1⟩,
   ⟨0x08, .uint 1, .wo, 1, .oneOf [1]⟩,
   ⟨0x09, .uint 1, .wo, 2, .oneOf [1]⟩,
   ⟨0x0A, .uint 1, .wo, 2, .span 1 2⟩]

/-- The entries of 4001h (R175). -/
def linkStatRows : List Row :=
  [⟨0x01, .uint 1, .ro, 0, .any⟩,
   ⟨0x02, .uint 1, .ro, 0, .any⟩,
   ⟨0x03, .uint 1, .ro, 0, .any⟩,
   ⟨0x04, .uint 4, .ro, 0, .any⟩,
   ⟨0x05, .uint 4, .ro, 0, .any⟩,
   ⟨0x06, .uint 4, .ro, 0, .any⟩,
   ⟨0x07, .uint 4, .ro, 0, .any⟩,
   ⟨0x08, .uint 4, .ro, 0, .any⟩,
   ⟨0x09, .uint 1, .ro, 0, .any⟩,
   ⟨0x0A, .domain, .ro, 0, .any⟩,
   ⟨0x0B, .domain, .ro, 0, .any⟩,
   ⟨0x10, .uint 4, .ro, 0, .any⟩,
   ⟨0x11, .uint 4, .ro, 0, .any⟩,
   ⟨0x12, .uint 4, .ro, 0, .any⟩,
   ⟨0x13, .uint 4, .ro, 0, .any⟩,
   ⟨0x14, .uint 4, .ro, 0, .any⟩] ++
  [⟨0x15, .uint 4, .ro, 0, .any⟩,
   ⟨0x16, .uint 4, .ro, 0, .any⟩,
   ⟨0x17, .uint 1, .wo, 1, .oneOf [1]⟩]

/-- The entries of 4010h (R157). -/
def capsLocalRows : List Row :=
  [⟨0x01, .domain, .ro, 0, .any⟩]

/-- The entries of 4011h (R157). -/
def capsPeerRows : List Row :=
  [⟨0x01, .domain, .ro, 0, .any⟩]

/-- The entries of 4020h (R176). -/
def arqRows : List Row :=
  [⟨0x01, .uint 4, .rws, 1, .span 5 10000⟩,
   ⟨0x02, .uint 4, .rws, 1, .span 1 1000⟩,
   ⟨0x03, .uint 2, .rws, 1, .span 1 256⟩,
   ⟨0x04, .uint 4, .rws, 1, .span 100 100000⟩,
   ⟨0x05, .uint 1, .rws, 1, .span 1 255⟩,
   ⟨0x10, .uint 2, .ro, 0, .any⟩,
   ⟨0x11, .uint 4, .ro, 0, .any⟩,
   ⟨0x12, .uint 4, .ro, 0, .any⟩,
   ⟨0x13, .uint 4, .ro, 0, .any⟩,
   ⟨0x14, .uint 4, .ro, 0, .any⟩,
   ⟨0x15, .uint 4, .ro, 0, .any⟩,
   ⟨0x16, .uint 4, .ro, 0, .any⟩,
   ⟨0x17, .uint 4, .ro, 0, .any⟩,
   ⟨0x18, .uint 4, .ro, 0, .any⟩,
   ⟨0x19, .uint 4, .ro, 0, .any⟩,
   ⟨0x1A, .uint 4, .ro, 0, .any⟩] ++
  [⟨0x1B, .uint 1, .wo, 1, .oneOf [1]⟩]

/-- The entries of 4100h + i (R183). -/
def flowRows : List Row :=
  [⟨0x01, .uint 1, .rws, 1, .span 1 255⟩,
   ⟨0x02, .uint 4, .ro, 0, .any⟩,
   ⟨0x03, .uint 8, .ro, 0, .any⟩,
   ⟨0x04, .uint 4, .ro, 0, .any⟩,
   ⟨0x05, .uint 4, .ro, 0, .any⟩,
   ⟨0x06, .uint 1, .wo, 1, .oneOf [1]⟩]

/-- The entries of 4120h (R184). -/
def overheadRows : List Row :=
  [⟨0x01, .uint 1, .rws, 1, .span 0 63⟩,
   ⟨0x02, .uint 8, .ro, 0, .any⟩,
   ⟨0x03, .uint 4, .ro, 0, .any⟩,
   ⟨0x04, .uint 4, .ro, 0, .any⟩]

/-- The entries of 4200h + n (R190). -/
def policerRows : List Row :=
  [⟨0x01, .uint 1, .rws, 2, .span 0 1⟩,
   ⟨0x02, .uint 4, .rws, 2, .span 0 25000⟩,
   ⟨0x03, .uint 4, .rws, 2, .span 0 25000⟩,
   ⟨0x04, .uint 4, .rws, 2, .span 1 16777215⟩,
   ⟨0x05, .uint 4, .rws, 2, .span 1 16777215⟩,
   ⟨0x10, .uint 4, .ro, 0, .any⟩,
   ⟨0x11, .uint 4, .ro, 0, .any⟩,
   ⟨0x12, .uint 4, .ro, 0, .any⟩,
   ⟨0x13, .uint 4, .ro, 0, .any⟩,
   ⟨0x14, .uint 1, .wo, 1, .oneOf [1]⟩,
   ⟨0x18, .uint 4, .ro, 0, .any⟩,
   ⟨0x19, .uint 4, .ro, 0, .any⟩,
   ⟨0x1A, .uint 4, .ro, 0, .any⟩]

/-- The entries of 4300h (R241). -/
def measRows : List Row :=
  [⟨0x01, .bool, .rws, 2, .span 0 1⟩,
   ⟨0x02, .uint 1, .rws, 2, .span 0 15⟩,
   ⟨0x03, .uint 1, .rws, 2, .span 0 15⟩,
   ⟨0x04, .uint 1, .ro, 0, .any⟩,
   ⟨0x05, .uint 2, .ro, 0, .any⟩,
   ⟨0x06, .uint 2, .ro, 0, .any⟩,
   ⟨0x07, .uint 4, .ro, 0, .any⟩]

/-- The entries of 5000h (R201). -/
def timeRows : List Row :=
  [⟨0x01, .uint 1, .rws, 2, .span 0 1⟩,
   ⟨0x02, .uint 4, .rws, 1, .span 125 1000000⟩,
   ⟨0x03, .uint 4, .rws, 1, .span 1000 10000000⟩,
   ⟨0x04, .sint 4, .rws, 1, .span (-1000000) 1000000⟩,
   ⟨0x05, .uint 2, .rws, 1, .span 1 200⟩,
   ⟨0x06, .uint 4, .rws, 1, .span 10 60000⟩,
   ⟨0x07, .uint 4, .rws, 1, .span 5 10000⟩,
   ⟨0x08, .uint 1, .wo, 2, .oneOf [1]⟩,
   ⟨0x10, .time, .ro, 0, .any⟩,
   ⟨0x11, .uint 1, .ro, 0, .any⟩,
   ⟨0x12, .uint 1, .ro, 0, .any⟩,
   ⟨0x13, .sint 8, .ro, 0, .any⟩,
   ⟨0x14, .sint 4, .ro, 0, .any⟩,
   ⟨0x15, .uint 4, .ro, 0, .any⟩,
   ⟨0x16, .uint 4, .ro, 0, .any⟩,
   ⟨0x17, .uint 4, .ro, 0, .any⟩] ++
  [⟨0x18, .uint 4, .ro, 0, .any⟩,
   ⟨0x19, .uint 4, .ro, 0, .any⟩,
   ⟨0x1A, .uint 4, .ro, 0, .any⟩,
   ⟨0x1B, .uint 1, .wo, 1, .oneOf [1]⟩]

/-- The entries of 6000h (R222). -/
def twinRows : List Row :=
  [⟨0x01, .uint 1, .rws, 2, .span 0 2⟩,
   ⟨0x02, .uint 1, .wo, 1, .oneOf [1]⟩,
   ⟨0x03, .bool, .rws, 2, .span 0 1⟩,
   ⟨0x10, .uint 1, .ro, 0, .any⟩,
   ⟨0x11, .uint 1, .ro, 0, .any⟩,
   ⟨0x12, .bool, .ro, 0, .any⟩,
   ⟨0x13, .uint 1, .ro, 0, .any⟩,
   ⟨0x14, .uint 1, .ro, 0, .any⟩,
   ⟨0x15, .uint 1, .ro, 0, .any⟩,
   ⟨0x16, .uint 1, .ro, 0, .any⟩,
   ⟨0x17, .uint 4, .ro, 0, .any⟩,
   ⟨0x18, .uint 4, .ro, 0, .any⟩,
   ⟨0x20, .uint 4, .ro, 0, .any⟩,
   ⟨0x21, .uint 4, .ro, 0, .any⟩,
   ⟨0x22, .uint 4, .ro, 0, .any⟩,
   ⟨0x23, .uint 4, .ro, 0, .any⟩] ++
  [⟨0x24, .uint 4, .ro, 0, .any⟩,
   ⟨0x25, .uint 4, .ro, 0, .any⟩,
   ⟨0x26, .uint 4, .ro, 0, .any⟩,
   ⟨0x27, .uint 4, .ro, 0, .any⟩,
   ⟨0x28, .uint 4, .ro, 0, .any⟩,
   ⟨0x29, .uint 8, .ro, 0, .any⟩,
   ⟨0x2A, .uint 1, .wo, 1, .oneOf [1]⟩]

/-- The entries of 7000h (R284). -/
def resetRows : List Row :=
  [⟨0x01, .uint 2, .rw, 1, .any⟩,
   ⟨0x02, .uint 1, .ro, 0, .any⟩,
   ⟨0x03, .uint 1, .wo, 2, .span 1 3⟩,
   ⟨0x04, .uint 1, .rws, 2, .oneOf [1, 3]⟩,
   ⟨0x05, .domain, .ro, 0, .any⟩,
   ⟨0x06, .uint 4, .ro, 0, .any⟩,
   ⟨0x07, .uint 4, .ro, 0, .any⟩,
   ⟨0x08, .uint 1, .ro, 0, .any⟩,
   ⟨0x09, .uint 1, .ro, 0, .any⟩,
   ⟨0x0A, .uint 4, .ro, 0, .any⟩,
   ⟨0x0B, .uint 1, .wo, 1, .oneOf [1]⟩]

/-- The entries of 7010h (R289). -/
def blocksRows : List Row :=
  [⟨0x01, .uint 4, .rw, 2, .any⟩]

/-- The entries of 7100h (R308). -/
def powerRows : List Row :=
  [⟨0x01, .uint 1, .rws, 2, .span 0 3⟩,
   ⟨0x02, .uint 1, .rws, 2, .span 0 3⟩,
   ⟨0x03, .uint 1, .ro, 0, .any⟩,
   ⟨0x04, .uint 4, .rws, 1, .zeroOr 10 1000000⟩,
   ⟨0x05, .uint 4, .rws, 2, .zeroOr 1 86400000⟩,
   ⟨0x06, .uint 4, .rws, 2, .zeroOr 1 86400000⟩,
   ⟨0x07, .uint 1, .wo, 2, .span 1 2⟩,
   ⟨0x08, .uint 1, .rws, 2, .any⟩,
   ⟨0x09, .uint 1, .ro, 0, .any⟩,
   ⟨0x0A, .uint 1, .ro, 0, .any⟩,
   ⟨0x0B, .uint 1, .ro, 0, .any⟩,
   ⟨0x0C, .uint 1, .ro, 0, .any⟩,
   ⟨0x10, .uint 4, .ro, 0, .any⟩,
   ⟨0x11, .uint 4, .ro, 0, .any⟩,
   ⟨0x12, .uint 4, .ro, 0, .any⟩,
   ⟨0x13, .uint 4, .ro, 0, .any⟩] ++
  [⟨0x14, .uint 4, .ro, 0, .any⟩,
   ⟨0x15, .uint 1, .wo, 1, .oneOf [1]⟩]

/-- The entries of 7200h (R309). -/
def clocksRows : List Row :=
  [⟨0x01, .uint 1, .ro, 0, .any⟩,
   ⟨0x02, .uint 1, .ro, 0, .any⟩,
   ⟨0x03, .bool, .ro, 0, .any⟩,
   ⟨0x04, .uint 4, .ro, 0, .any⟩,
   ⟨0x05, .uint 4, .ro, 0, .any⟩,
   ⟨0x06, .uint 4, .ro, 0, .any⟩,
   ⟨0x07, .uint 4, .ro, 0, .any⟩,
   ⟨0x08, .uint 4, .ro, 0, .any⟩]

/-- The entries of 8000h (R21, R325). -/
def memRows : List Row :=
  [⟨0x01, .uint 4, .ro, 0, .any⟩,
   ⟨0x02, .uint 4, .ro, 0, .any⟩,
   ⟨0x03, .domain, .ro, 0, .any⟩,
   ⟨0x04, .domain, .ro, 0, .any⟩,
   ⟨0x05, .uint 4, .ro, 0, .any⟩,
   ⟨0x06, .uint 4, .ro, 0, .any⟩,
   ⟨0x07, .uint 4, .ro, 0, .any⟩,
   ⟨0x08, .uint 1, .wo, 1, .oneOf [1]⟩,
   ⟨0x09, .uint 1, .ro, 0, .any⟩,
   ⟨0x0A, .domain, .ro, 0, .any⟩,
   ⟨0x10, .bool, .rws, 2, .span 0 1⟩,
   ⟨0x11, .uint 1, .wo, 2, .span 1 4⟩,
   ⟨0x12, .uint 1, .ro, 0, .any⟩,
   ⟨0x13, .uint 4, .rws, 1, .zeroOr 10 86400⟩,
   ⟨0x14, .uint 4, .ro, 0, .any⟩,
   ⟨0x15, .uint 1, .ro, 0, .any⟩] ++
  [⟨0x16, .uint 4, .ro, 0, .any⟩,
   ⟨0x17, .uint 4, .ro, 0, .any⟩,
   ⟨0x18, .domain, .ro, 0, .any⟩,
   ⟨0x19, .uint 2, .ro, 0, .any⟩,
   ⟨0x1A, .domain, .ro, 0, .any⟩,
   ⟨0x1B, .uint 1, .ro, 0, .any⟩,
   ⟨0x1C, .uint 4, .ro, 0, .any⟩,
   ⟨0x1D, .bool, .ro, 0, .any⟩,
   ⟨0x1E, .uint 1, .ro, 0, .any⟩,
   ⟨0x1F, .uint 1, .wo, 3, .oneOf [1]⟩]

/-- The entries of 9000h (R240). -/
def sensorsRows : List Row :=
  [⟨0x01, .domain, .ro, 0, .any⟩,
   ⟨0x02, .domain, .ro, 0, .any⟩,
   ⟨0x03, .sint 2, .ro, 0, .any⟩,
   ⟨0x04, .sint 2, .ro, 0, .any⟩,
   ⟨0x05, .uint 1, .rws, 2, .span 85 105⟩,
   ⟨0x06, .uint 1, .ro, 0, .any⟩,
   ⟨0x07, .uint 1, .rw, 1, .any⟩,
   ⟨0x08, .uint 4, .ro, 0, .any⟩,
   ⟨0x09, .uint 4, .ro, 0, .any⟩,
   ⟨0x0A, .uint 1, .ro, 0, .any⟩,
   ⟨0x0B, .uint 2, .rws, 2, .span 780 840⟩,
   ⟨0x0C, .uint 4, .ro, 0, .any⟩,
   ⟨0x0D, .uint 4, .ro, 0, .any⟩,
   ⟨0x0E, .uint 4, .ro, 0, .any⟩,
   ⟨0x0F, .uint 1, .wo, 1, .oneOf [1]⟩]

/-- The entries of 9100h (R242). -/
def logRows : List Row :=
  [⟨0x01, .domain, .ro, 0, .any⟩,
   ⟨0x02, .domain, .ro, 2, .any⟩,
   ⟨0x03, .uint 4, .ro, 0, .any⟩,
   ⟨0x04, .uint 4, .ro, 0, .any⟩,
   ⟨0x05, .uint 4, .ro, 0, .any⟩,
   ⟨0x06, .uint 1, .rws, 1, .span 0 15⟩,
   ⟨0x07, .uint 1, .wo, 2, .span 1 2⟩,
   ⟨0x08, .uint 4, .ro, 0, .any⟩]

/-- The entries of A000h (R276). -/
def updateRows : List Row :=
  [⟨0x01, .uint 1, .ro, 0, .any⟩,
   ⟨0x02, .uint 1, .ro, 0, .any⟩,
   ⟨0x03, .uint 1, .ro, 0, .any⟩,
   ⟨0x04, .domain, .ro, 0, .any⟩,
   ⟨0x05, .domain, .ro, 0, .any⟩,
   ⟨0x06, .domain, .wo, 2, .any⟩,
   ⟨0x07, .uint 1, .ro, 0, .any⟩,
   ⟨0x08, .uint 1, .wo, 2, .span 1 2⟩,
   ⟨0x09, .uint 1, .wo, 2, .oneOf [1]⟩,
   ⟨0x0A, .uint 4, .rws, 2, .span 60 86400⟩,
   ⟨0x0B, .uint 4, .ro, 0, .any⟩,
   ⟨0x0C, .uint 1, .ro, 0, .any⟩,
   ⟨0x0D, .uint 4, .ro, 0, .any⟩,
   ⟨0x0E, .domain, .ro, 0, .any⟩,
   ⟨0x0F, .uint 1, .ro, 0, .any⟩,
   ⟨0x10, .uint 1, .wo, 2, .oneOf [1]⟩]

/-- The entries of an object besides subindex 00h. -/
def Obj.rows : Obj → List Row
  | .identity => identityRows | .access => accessRows | .store => storeRows | .role => roleRows
  | .chCfg _ => chCfgRows | .chStat _ => chStatRows
  | .common => commonRows | .scratch => scratchRows | .desc _ => descRows
  | .portCfg _ => portCfgRows | .portStat _ => portStatRows
  | .linkCfg => linkCfgRows | .linkStat => linkStatRows | .capsLocal => capsLocalRows | .capsPeer => capsPeerRows
  | .arq => arqRows | .flow _ => flowRows | .overhead => overheadRows | .policer _ => policerRows
  | .meas => measRows | .time => timeRows | .twin => twinRows | .reset => resetRows | .blocks => blocksRows
  | .power => powerRows | .clocks => clocksRows | .mem => memRows | .sensors => sensorsRows | .log => logRows
  | .update => updateRows

/-- The highest subindex of an object (R243). -/
def Obj.maxSub (o : Obj) : Nat := o.rows.foldl (fun m r => max m r.sub) 0

/-- The entry of a subindex; 00h reads the highest subindex (R243). -/
def Obj.row (o : Obj) (sub : Nat) : Option Row :=
  if sub = 0 then some ⟨0, .uint 1, .ro, 0, .any⟩ else o.rows.find? fun r => r.sub == sub

/-- Every object. -/
def allObjs : List Obj :=
  List.flatten
    [[Obj.identity, Obj.access, Obj.store, Obj.role],
     (List.finRange 20).map Obj.chCfg, (List.finRange 20).map Obj.chStat, [Obj.common, Obj.scratch],
     (List.finRange 6).map Obj.desc, [Obj.portCfg .A, Obj.portCfg .B, Obj.portStat .A, Obj.portStat .B],
     [Obj.linkCfg, Obj.linkStat, Obj.capsLocal, Obj.capsPeer, Obj.arq],
     (List.finRange 21).map Obj.flow, [Obj.overhead], (List.finRange 20).map Obj.policer,
     [Obj.meas, Obj.time, Obj.twin, Obj.reset, Obj.blocks, Obj.power, Obj.clocks, Obj.mem, Obj.sensors, Obj.log,
      Obj.update]]

/-- Every RWS entry, in the order of the index table (R257, R261). -/
def rwsEntries : List (Obj × Row) :=
  (allObjs.map fun o => (o.rows.filter fun r => r.right == .rws).map fun r => (o, r)).flatten

/-! ### Types and ranges (R256) -/

/-- The size that a type fixes; none for STR and DOMAIN. -/
def OTy.size : OTy → Option Nat
  | .bool => some 1 | .uint k => some k | .sint k => some k | .time => some 10 | .str => none | .domain => none

/-- The value that bytes of a type spell. -/
def OTy.value (t : OTy) (bs : List Byte) : Int :=
  match t with
  | .sint k => let v := leNat bs; if v < 2 ^ (8 * k - 1) then v else (v : Int) - 2 ^ (8 * k)
  | _ => (leNat bs : Nat)

/-- Whether a value lies in a range. -/
def Rg.holds (g : Rg) (v : Int) : Bool :=
  match g with
  | .any => true
  | .span lo hi => decide (lo ≤ v) && decide (v ≤ hi)
  | .zeroOr lo hi => v == 0 || (decide ((lo : Int) ≤ v) && decide (v ≤ hi))
  | .oneOf l => l.any fun k => v == (k : Int)

/-- A signed number in `size` bytes. -/
def sBytes (v : Int) (size : Nat) : List Byte := leBytes (v % 2 ^ (8 * size)).toNat size

end Sys2Proof.Machine
end

