-- ==== Sys2Proof/Machine/OdRead.lean ====
section
/-! DEFINITION. What a read of each entry of the object dictionary returns. -/

namespace Sys2Proof.Machine

open Sys2Proof

/-! ### Values -/

/-- A Boolean as its byte. -/
def bByte (b : Bool) : List Byte := leBytes (bnat b) 1

/-- A pointer as its entry reads (R58). -/
def ptrWord (p : Ptr) (mark : Bool) : Nat := bnat mark * 2 ^ 31 + bnat p.lap * 2 ^ 22 + p.off

/-- A list of counters as U32 values. -/
def u32s (l : List Nat) : List Byte := (l.map fun v => leBytes v 4).flatten

/-! ### Channels (R57, R58, R115, R129) -/

/-- 2000h + n. -/
def ChCfg.read (g : ChCfg) (sub : Nat) : List Byte :=
  match sub with
  | 0x01 => leBytes g.cls.code 1
  | 0x02 => leBytes g.producer.code 1
  | 0x03 => leBytes g.consumer.code 1
  | 0x04 => leBytes g.base 2
  | 0x05 => leBytes g.size 2
  | 0x06 => leBytes g.skew 1
  | 0x07 => leBytes g.pafOffset 4
  | 0x08 => leBytes g.paeOffset 4
  | 0x09 => leBytes g.highWm 4
  | 0x0A => leBytes g.lowWm 4
  | 0x0B => leBytes g.ridleTimeout 4
  | 0x0C => leBytes g.relmode.code 1
  | 0x0D => leBytes g.emptyMode 1
  | 0x0E => leBytes g.stallTimeout 4
  | 0x0F => leBytes g.sliceWaitMin 4
  | 0x10 => leBytes g.sliceWaitMax 4
  | 0x11 => leBytes g.gateLead 4
  | 0x12 => bByte g.compat
  | 0x13 => leBytes g.enable 1
  | _ => []

/-- The snapshot of subs 04 to 0D, taken in one cycle (R58). -/
def State.takeSnap (s : State) (n : Fin 20) : ChSnapshot :=
  let c := s.chan n
  { taken := true, wp := c.wp, cp := c.cp, rp := c.rp, mp := c.mp, lp := c.lp, markValid := c.markValid,
    occ := s.occ n, free := s.free n, readable := s.readable n, fenced := s.fencedCount n, flags := s.flags n }

/-- Subs 04 to 0D of a snapshot. -/
def ChSnapshot.read (p : ChSnapshot) (sub : Nat) : List Byte :=
  match sub with
  | 0x04 => leBytes (ptrWord p.wp false) 4
  | 0x05 => leBytes (ptrWord p.cp false) 4
  | 0x06 => leBytes (ptrWord p.rp false) 4
  | 0x07 => leBytes (ptrWord p.mp p.markValid) 4
  | 0x08 => leBytes (ptrWord p.lp false) 4
  | 0x09 => leBytes p.occ 4
  | 0x0A => leBytes p.free 4
  | 0x0B => leBytes p.readable 4
  | 0x0C => leBytes p.fenced 4
  | 0x0D => leBytes p.flags 1
  | _ => []

/-- One slot of RECORDS (R129). -/
def FrameRec.bytes (r : FrameRec) : List Byte :=
  leBytes r.state.code 1 ++ leBytes r.epoch 1 ++ leBytes r.count 2 ++
  leBytes (r.entries.filter (·.present)).length 2 ++ leBytes r.pos 2 ++ leBytes (natOfBits [r.gateOpen, r.late]) 1 ++
  zeros 3 ++ leBytes r.frame 4 ++ leBytes r.ptsSec 4 ++ leBytes r.ptsNs 4

/-- A slice entry as its field map (R115). -/
def SliceEntry.bytes (e : SliceEntry) : List Byte :=
  leBytes (bnat e.present * 2 ^ 63 + e.miss % 8 * 2 ^ 60 + e.kind % 16 * 2 ^ 56 + e.len % 2 ^ 24 * 2 ^ 24 +
    ptrWord e.start false) 8

/-- DIR_ENTRIES (R129): the 512 entries of a record. -/
def FrameRec.dirBytes (r : FrameRec) : List Byte :=
  ((List.range 512).map fun k =>
    match r.entries.find? fun e => e.k == k with
    | some e => e.bytes
    | none => zeros 8).flatten

/-- Entries of 2100h + n that take no snapshot; those of R129 read 0 on a channel that is not Slice. -/
def Chan.statRead (c : Chan) (sub : Nat) : List Byte :=
  let k := c.cnt
  let slice := c.cfg.cls == .slice
  match sub with
  | 0x01 => leBytes c.state.code 1
  | 0x02 => leBytes c.enableRefusal 1
  | 0x03 => leBytes c.faultCause 1
  | 0x0E => leBytes c.lastPseq 2
  | 0x0F => leBytes c.lastFrame 4
  | 0x10 => leBytes k.pktCommitted 4
  | 0x11 => leBytes k.pktDelivered 4
  | 0x12 => leBytes k.overflowRefused 4
  | 0x13 => leBytes k.stateRefused 4
  | 0x14 => leBytes k.aborted 4
  | 0x15 => leBytes k.standins 4
  | 0x16 => leBytes k.late 4
  | 0x17 => leBytes k.holdDropped 4
  | 0x18 => leBytes k.ce 4
  | 0x19 => leBytes k.ueDelivered 4
  | 0x1A => leBytes k.flushes 4
  | 0x20 => if slice then (c.records.toList.map FrameRec.bytes).flatten else zeros 72
  | 0x21 => leBytes (if slice then c.sliceWait else 0) 4
  | 0x22 => leBytes (if slice then c.est else 0) 4
  | 0x23 => leBytes (if slice then k.misplaced else 0) 4
  | 0x24 => leBytes (if slice then k.noRecord else 0) 4
  | 0x25 => leBytes (if slice then k.crcDiscarded else 0) 4
  | 0x26 => leBytes (if slice then k.standinEmpty else 0) 4
  | 0x27 => leBytes (if slice then k.lateframe else 0) 4
  | 0x28 => leBytes (if slice then k.frameSkipped else 0) 4
  | 0x29 => if slice then (c.records.toList.map FrameRec.dirBytes).flatten else zeros 12288
  | _ => []

/-! ### Memory, scratch, descriptors (R21, R25, R29, R37, R325) -/

/-- A fence entry as its field map (R325). -/
def Fence.word (f : Fence) : Nat :=
  2 ^ 31 + f.bank % 128 * 2 ^ 24 + f.row % 512 * 2 ^ 15 + f.first % 64 * 2 ^ 9 + f.last % 64 * 2 ^ 3

/-- FENCE_TABLE: 64 entries by their place. -/
def TansySt.fenceTable (t : TansySt) : List Byte :=
  u32s ((List.range 64).map fun k => ((t.fences.find? fun f => f.slot == k).map Fence.word).getD 0)

/-- 8000h. -/
def State.memRead (s : State) (sub : Nat) : List Byte :=
  let m := s.mem
  let t := s.tansy
  match sub with
  | 0x01 => leBytes m.ceTotal 4
  | 0x02 => leBytes m.ueTotal 4
  | 0x03 => u32s m.ceBank.toList
  | 0x04 => u32s m.ueBank.toList
  | 0x05 => leBytes m.lastUe.toNat 4
  | 0x06 => leBytes m.dirCe 4
  | 0x07 => leBytes m.dirUe 4
  | 0x09 => leBytes m.clearState 1
  | 0x0A => u32s m.accessRefused.toList
  | 0x10 => bByte t.marchAtStart
  | 0x12 => leBytes s.tansyState 1
  | 0x13 => leBytes t.scrubPeriod 4
  | 0x14 => leBytes t.scrubPasses 4
  | 0x15 => leBytes t.marchResult 1
  | 0x16 => leBytes t.notCovered 4
  | 0x17 => leBytes t.rowRepairs 4
  | 0x18 => ((List.range 130).map fun b => leBytes (t.freeRows b) 1).flatten
  | 0x19 => leBytes (t.s0.getD 255) 1 ++ leBytes (t.s1.getD 255) 1
  | 0x1A => t.fenceTable
  | 0x1B => leBytes t.fences.length 1
  | 0x1C => leBytes t.repairDrops 4
  | 0x1D => bByte t.replace
  | 0x1E => leBytes t.pending.length 1
  | _ => []

/-- 2300h. -/
def MemSt.scratchRead (m : MemSt) (sub : Nat) : List Byte :=
  match sub with
  | 0x10 => leBytes (natOfBits (m.locks.toList.map fun l => l.owner != .free)) 8
  | 0x11 => leBytes (natOfBits (m.locks.toList.map (·.mark))) 8
  | 0x12 => (m.locks.toList.map fun l => leBytes l.owner.code 1).flatten
  | 0x14 => leBytes m.lockBroken 4
  | k => if 1 ≤ k ∧ k ≤ 4 then leBytes (m.areas.toList.getD (k - 1) 0).toNat 4 else []

/-! ### Ports (R89, R90, R151, R152) -/

/-- 3000h and 3001h. -/
def PortSt.cfgRead (p : PortSt) (sub : Nat) : List Byte :=
  match sub with
  | 0x01 => leBytes p.mode 1
  | 0x02 => leBytes p.odt 1
  | 0x03 => leBytes p.wcapDelay 1
  | 0x04 => leBytes p.rqsDelay 1
  | 0x20 => leBytes p.attnMask.toNat 4
  | _ => []

/-- 3010h and 3011h. -/
def PortSt.statRead (p : PortSt) (sub : Nat) : List Byte :=
  match sub with
  | 0x01 => leBytes p.state.code 1
  | 0x02 => leBytes p.probe 1
  | 0x03 => leBytes p.odtInUse 1
  | 0x04 => leBytes (if p.wclkSince.isSome then p.wclkFreq else 0) 4
  | 0x05 => leBytes (if p.rclkSince.isSome then p.rclkFreq else 0) 4
  | 0x06 => leBytes (natOfBits [p.wclkSince.isSome, p.rclkSince.isSome]) 1
  | 0x07 => leBytes p.expCseq.toNat 1
  | 0x08 => leBytes p.lastAccepted.toNat 1
  | 0x09 => leBytes p.lastCompleted.toNat 1
  | 0x0A => leBytes p.expWseq.toNat 1
  | 0x0B => bByte p.writeRefusal
  | 0x10 => leBytes p.cnt.cmdAccepted 4
  | 0x11 => leBytes p.cnt.parityErr 4
  | 0x12 => leBytes p.cnt.seqgapRefused 4
  | 0x13 => leBytes p.cnt.tagBusy 4
  | 0x14 => leBytes p.cnt.wprotoErr 4
  | 0x15 => leBytes p.cnt.wseqGaps 4
  | 0x16 => leBytes p.cnt.isolations 4
  | 0x17 => leBytes p.cnt.lostCmds 4
  | 0x20 => leBytes p.attnCause.toNat 4
  | 0x21 => leBytes p.attnChannels.toNat 4
  | _ => []

/-! ### Link (R174 to R176, R183, R184, R190, R241) -/

/-- 4000h. -/
def LinkSt.cfgRead (l : LinkSt) (sub : Nat) : List Byte :=
  match sub with
  | 0x01 => bByte l.enable
  | 0x02 => leBytes l.maxRate 1
  | 0x03 => leBytes l.trialErrLimit 4
  | 0x04 => bByte l.moduleRateCheck
  | 0x05 => leBytes l.echoPeriod 4
  | 0x06 => leBytes l.propFactor 4
  | 0x07 => bByte l.wakeAny
  | _ => []

/-- 4001h. -/
def LinkSt.statRead (l : LinkSt) (sub : Nat) : List Byte :=
  match sub with
  | 0x01 => leBytes l.state.code 1
  | 0x02 => leBytes l.rate 1
  | 0x03 => leBytes l.leaveCause 1
  | 0x04 => leBytes l.cnt.upCount 4
  | 0x05 => leBytes l.cableDelay 4
  | 0x06 => leBytes l.cableLength 4
  | 0x07 => leBytes l.cnt.echoSets 4
  | 0x08 => leBytes l.classMismatch 4
  | 0x09 => leBytes (natOfBits [l.modPresent, l.modLos, l.modDiag, l.modNoTwi]) 1
  | 0x0A => takePad 96 (l.moduleId.take 96)
  | 0x0B => takePad 10 (l.moduleDdm.take 10)
  | 0x10 => leBytes l.cnt.crcErr 4
  | 0x11 => leBytes l.cnt.badFrame 4
  | 0x12 => leBytes l.cnt.misrouted 4
  | 0x13 => leBytes l.cnt.mgmtFwd 4
  | 0x14 => leBytes l.cnt.mgmtNoroute 4
  | 0x15 => leBytes l.cnt.linkresetRejected 4
  | 0x16 => leBytes l.cnt.byeRx 4
  | _ => []

/-- 4020h. -/
def ArqSt.read (a : ArqSt) (sub : Nat) : List Byte :=
  match sub with
  | 0x01 => leBytes a.rto 4
  | 0x02 => leBytes a.nakHoldoff 4
  | 0x03 => leBytes a.ackCoalesce 2
  | 0x04 => leBytes a.ackDelay 4
  | 0x05 => leBytes a.retryLimit 1
  | 0x10 => leBytes a.window.length 2
  | 0x11 => leBytes a.retxFrames 4
  | 0x12 => leBytes a.nakRx 4
  | 0x13 => leBytes a.rtoEvents 4
  | 0x14 => leBytes a.giveupFrames 4
  | 0x15 => leBytes a.nakTx 4
  | 0x16 => leBytes a.dupRx 4
  | 0x17 => leBytes a.earlyRx 4
  | 0x18 => leBytes a.earlyDiscarded 4
  | 0x19 => leBytes a.skippedRx 4
  | 0x1A => leBytes a.outOfWindow 4
  | _ => []

/-- 4100h + i. -/
def Flow.read (f : Flow) (sub : Nat) : List Byte :=
  match sub with
  | 0x01 => leBytes f.weight 1
  | 0x02 => leBytes f.txFrames 4
  | 0x03 => leBytes f.txBytes 8
  | 0x04 => leBytes f.pausedEvents 4
  | 0x05 => leBytes f.windowWaits 4
  | _ => []

/-- Flow `i`: 0 to 19 the channels, 20 MGMT. -/
def State.flowOf (s : State) (i : Fin 21) : Flow :=
  match finOf 20 i.val with
  | some n => (s.chan n).flow
  | none => s.link.mgmtFlow

/-- 4120h. -/
def LinkSt.overheadRead (l : LinkSt) (sub : Nat) : List Byte :=
  match sub with
  | 0x01 => leBytes l.oh 1
  | 0x02 => leBytes (l.vtime % 2 ^ 48) 8
  | 0x03 => leBytes l.rxreportRx 4
  | 0x04 => leBytes l.lastReportNo 4
  | _ => []

/-- 4200h + n. -/
def Policer.read (p : Policer) (sub : Nat) : List Byte :=
  match sub with
  | 0x01 => leBytes p.mode 1
  | 0x02 => leBytes p.cir 4
  | 0x03 => leBytes p.pir 4
  | 0x04 => leBytes p.cbs 4
  | 0x05 => leBytes p.pbs 4
  | 0x10 => leBytes p.green 4
  | 0x11 => leBytes p.yellowAccepted 4
  | 0x12 => leBytes p.yellowDropped 4
  | 0x13 => leBytes p.redDropped 4
  | 0x18 => leBytes p.peerYellow 4
  | 0x19 => leBytes p.peerRed 4
  | 0x1A => leBytes p.peerOverflow 4
  | _ => []

/-- 4300h. -/
def LinkSt.measRead (l : LinkSt) (sub : Nat) : List Byte :=
  match sub with
  | 0x01 => bByte l.eqAdapt
  | 0x02 => leBytes l.ctleMin 1
  | 0x03 => leBytes l.ctleMax 1
  | 0x04 => leBytes l.ctle 1
  | 0x05 => leBytes l.eyeHeight 2
  | 0x06 => leBytes l.eyeWidth 2
  | 0x07 => leBytes l.eqChanges 4
  | _ => []

/-! ### Time and twin (R201, R222) -/

/-- 5000h. TIME_VALID is the validity that the users of time see (R192). -/
def State.timeRead (s : State) (sub : Nat) : List Byte :=
  let t := s.time
  match sub with
  | 0x01 => leBytes t.source 1
  | 0x02 => leBytes t.syncPeriod 4
  | 0x03 => leBytes t.stepThreshold 4
  | 0x04 => sBytes t.asymmetry 4
  | 0x05 => leBytes t.slewLimit 2
  | 0x06 => leBytes t.holdover 4
  | 0x07 => leBytes t.lockThreshold 4
  | 0x10 => stampBytes (stampOf t.wall)
  | 0x11 => leBytes t.epoch 1
  | 0x12 => leBytes (natOfBits [s.timeValid, t.locked, t.inHoldover, t.slew != 0]) 1
  | 0x13 => sBytes t.offset 8
  | 0x14 => sBytes (Config.round (t.trim * 1000000000)) 4
  | 0x15 => leBytes t.steps 4
  | 0x16 => leBytes t.epochChanges 4
  | 0x17 => leBytes t.syncRx 4
  | 0x18 => leBytes t.syncIgnored 4
  | 0x19 => leBytes t.epochConflict 4
  | 0x1A => leBytes t.lockLosses 4
  | _ => []

/-- 6000h. PAIR_MODE reads its always-on copy (R264). -/
def State.twinRead (s : State) (sub : Nat) : List Byte :=
  let t := s.twin
  match sub with
  | 0x01 => leBytes s.rst.pairNext 1
  | 0x03 => bByte t.autoSwap
  | 0x10 => leBytes t.role.code 1
  | 0x11 => leBytes t.partnerRole 1
  | 0x12 => bByte t.twinId
  | 0x13 => leBytes t.cloverState 1
  | 0x14 => leBytes s.joinBlock 1
  | 0x15 => leBytes t.divergeCause 1
  | 0x16 => leBytes t.twinFault 1
  | 0x17 => leBytes s.planDigest 4
  | 0x18 => leBytes t.partnerDigest 4
  | 0x20 => leBytes t.takeovers 4
  | 0x21 => leBytes t.lastStall 4
  | 0x22 => leBytes t.hbLosses 4
  | 0x23 => leBytes t.divergences 4
  | 0x24 => leBytes t.msgErr 4
  | 0x25 => leBytes t.standinAnnounced 4
  | 0x26 => leBytes t.unsourced 4
  | 0x27 => leBytes t.discarded 4
  | 0x28 => leBytes t.streamGap 4
  | 0x29 => leBytes t.chainBytes 8
  | _ => []

/-! ### Identity, access, store, role (R7, R261 to R263) -/

/-- 1000h. -/
def State.identityRead (s : State) (sub : Nat) : List Byte :=
  match sub with
  | 0x01 => [0x44#8, 0x61#8, 0x6C#8, 0x72#8, 0x65#8, 0x78#8]
  | 0x02 => leBytes 0x2010 2
  | 0x03 => leBytes s.upd.siliconRev 1
  | 0x04 => leBytes s.upd.serial 8
  | 0x05 => leBytes s.fwVersion 4
  | 0x06 => leBytes s.schema 2
  | _ => []

/-- The text that KEY_CHECK signs: "Dalrex key check". -/
def keyCheckText : List Byte :=
  [0x44#8, 0x61#8, 0x6C#8, 0x72#8, 0x65#8, 0x78#8, 0x20#8, 0x6B#8, 0x65#8, 0x79#8, 0x20#8, 0x63#8, 0x68#8, 0x65#8,
   0x63#8, 0x6B#8]

/-- KEY_CHECK of one key. -/
def State.keyCheck (s : State) (k : Nat) : List Byte :=
  match s.keyOf k with
  | some key => (hmac key keyCheckText).take 4
  | none => zeros 4

/-- 1010h. -/
def State.accessRead (s : State) (sub : Nat) : List Byte :=
  let o := s.od
  match sub with
  | 0x04 => s.keyCheck 1 ++ s.keyCheck 2 ++ s.keyCheck 3
  | 0x05 => bByte o.keyLock
  | 0x08 => leBytes o.authFail 4
  | 0x09 => leBytes o.seqReject 4
  | 0x0A => leBytes o.bootNonce 4
  | 0x0B => leBytes o.dupReq 4
  | 0x0C => leBytes o.lockouts 4
  | 0x0D => bByte s.upd.factoryLock
  | 0x0E => leBytes o.lastAuthFail.toNat 4
  | 0x0F => leBytes o.mbxRejected 4
  | _ => []

/-- 1100h, but for DIRTY. -/
def OdSt.storeRead (o : OdSt) (sub : Nat) : List Byte :=
  match sub with
  | 0x03 => bByte o.storeLock
  | 0x04 => leBytes o.storeState 1
  | 0x05 => leBytes o.saveCount 4
  | 0x06 => leBytes o.storedSchema 2
  | _ => []

/-- 1200h. ROLE reads its always-on copy (R264). -/
def RstSt.roleRead (r : RstSt) (sub : Nat) : List Byte :=
  match sub with
  | 0x01 => leBytes r.roleNext 1
  | 0x02 => leBytes r.roleInUse 1
  | _ => []

/-! ### Reset, power, clocks (R284, R308, R309) -/

/-- 7000h. -/
def RstSt.read (r : RstSt) (sub : Nat) : List Byte :=
  match sub with
  | 0x01 => leBytes r.cause.toNat 2
  | 0x02 => leBytes r.lastReach 1
  | 0x04 => leBytes r.dbgReach 1
  | 0x05 => u32s r.counts.toList
  | 0x06 => leBytes r.wdtEscalations 4
  | 0x07 => leBytes r.optionRestarts 4
  | 0x08 => leBytes r.optionStatus 1
  | 0x09 => leBytes (r.straps.boot.toNat + 4 * r.straps.clkm.toNat + 16 * bnat r.straps.twinId) 1
  | 0x0A => leBytes r.startupTime 4
  | _ => []

/-- POWER_STATE: run, Doze, entering (R308). -/
def PowerState.code : PowerState → Nat
  | .run => 0 | .doze => 1 | .entering => 2 | .retention => 2 | .off => 2

/-- 7100h. -/
def PwrSt.read (p : PwrSt) (sub : Nat) : List Byte :=
  match sub with
  | 0x01 => leBytes p.plFloor 1
  | 0x02 => leBytes p.plCeiling 1
  | 0x03 => leBytes p.level 1
  | 0x04 => leBytes p.dozeIdle 4
  | 0x05 => leBytes p.retIdle 4
  | 0x06 => leBytes p.offIdle 4
  | 0x08 => leBytes p.wakeMask 1
  | 0x09 => leBytes p.state.code 1
  | 0x0A => leBytes p.lastWake 1
  | 0x0B => leBytes p.lastAbort 1
  | 0x0C => leBytes (natOfBits [p.lowPower, p.limitNow, p.vcoreSettled]) 1
  | 0x10 => leBytes p.dozeEntries 4
  | 0x11 => leBytes p.sleepEntries 4
  | 0x12 => leBytes p.sleepAborts 4
  | 0x13 => leBytes p.levelChanges 4
  | 0x14 => leBytes p.regLimits 4
  | _ => []

/-- CORECLK of a performance level in kHz (R295). -/
def levelFreq (l : Nat) : Nat := if l = 0 then 300000 else if l = 1 then 600000 else if l = 2 then 800000 else 1200000

/-- 7200h: on the RC oscillator every clock that runs is its nominal 100 MHz (R293). -/
def PwrSt.clockRead (p : PwrSt) (sub : Nat) : List Byte :=
  let pll := p.clkSource == 1
  match sub with
  | 0x01 => leBytes p.refclkMode 1
  | 0x02 => leBytes p.clkSource 1
  | 0x03 => bByte p.pllLocked
  | 0x04 => leBytes (if pll then levelFreq p.level else 100000) 4
  | 0x05 => leBytes (if pll then levelFreq p.level / 2 else 100000) 4
  | 0x06 => leBytes (if pll then 200000 else 100000) 4
  | 0x07 => leBytes (if pll then 800000 else 0) 4
  | 0x08 => leBytes p.pllLosses 4
  | _ => []

/-! ### Sensors, log, update (R240, R242, R276) -/

/-- 9000h. -/
def State.sensorRead (s : State) (sub : Nat) : List Byte :=
  let y := s.yar
  match sub with
  | 0x01 => (y.supply.map fun v => leBytes v 2).flatten
  | 0x02 => (y.temp.map fun v => sBytes v 2).flatten
  | 0x03 => sBytes s.tj 2
  | 0x04 => sBytes (y.tjPeak.getD 0) 2
  | 0x05 => leBytes y.tjThrottle 1
  | 0x06 => leBytes (natOfBits [y.refclk, s.pA.wclkSince.isSome, s.pA.rclkSince.isSome, s.pB.wclkSince.isSome,
      s.pB.rclkSince.isSome]) 1
  | 0x07 => leBytes y.overridden 1
  | 0x08 => leBytes y.overrideCount 4
  | 0x09 => leBytes y.lastOverride 4
  | 0x0A => bByte y.permit
  | 0x0B => leBytes y.vinMargin 2
  | 0x0C => leBytes y.yarrowResets 4
  | 0x0D => leBytes y.mgmtUnserved 4
  | 0x0E => leBytes y.sramCe 4
  | _ => []

/-- 9100h. LOG_RAM is given oldest entry first: the place after the newest holds the oldest. -/
def YarSt.logRead (y : YarSt) (sub : Nat) : List Byte :=
  let at_ := y.nextSeq % 4096 * 16
  match sub with
  | 0x01 => loadBytes y.logRam at_ (65536 - at_) ++ loadBytes y.logRam 0 at_
  | 0x02 => (((y.flashLog.filter fun e => e.committed && !e.void).take 65280).map LogEntry.bytes).flatten
  | 0x03 => leBytes y.nextSeq 4
  | 0x04 => leBytes y.flashSkipped 4
  | 0x05 => leBytes y.tornDiscarded 4
  | 0x06 => leBytes y.minSeverity 1
  | 0x08 => leBytes y.eraseMax 4
  | _ => []

/-- TRIAL_REMAINING in seconds, 0 outside TRIAL (R276). -/
def State.trialRemaining (s : State) : Nat :=
  if s.upd.state = .trial then s.upd.trialWindow - (s.now - s.upd.trialAt) / 1000000000000 else 0

/-- IMAGE_CHECK: in the loader that of the image in SRAM (R276, R287). -/
def State.imageCheckValue (s : State) : Nat := if s.yar.loader then s.upd.ramCheck else s.upd.imageCheckReg

/-- A000h. -/
def State.updateRead (s : State) (sub : Nat) : List Byte :=
  let u := s.upd
  match sub with
  | 0x01 => leBytes u.runningSlot 1
  | 0x02 => leBytes u.committedSlot 1
  | 0x03 => leBytes u.state.code 1
  | 0x04 => takePad 64 (u.imageA.take 64)
  | 0x05 => takePad 64 (u.imageB.take 64)
  | 0x07 => leBytes s.imageCheckValue 1
  | 0x0A => leBytes u.trialWindow 4
  | 0x0B => leBytes s.trialRemaining 4
  | 0x0C => leBytes u.lastResult 1
  | 0x0D => leBytes u.rollbackFuse 4
  | 0x0E => takePad 32 (u.keyHash.take 32)
  | 0x0F => leBytes u.settingsSlot 1
  | _ => []

/-! ### A read of an entry -/

/-- The value of an entry, but for DIRTY and the snapshots of 2100h + n. -/
def State.readPlain (s : State) (o : Obj) (sub : Nat) : List Byte :=
  if sub = 0 then leBytes o.maxSub 1
  else match o with
    | .identity => s.identityRead sub
    | .access => s.accessRead sub
    | .store => s.od.storeRead sub
    | .role => s.rst.roleRead sub
    | .chCfg n => (s.chan n).cfg.read sub
    | .chStat n => (s.chan n).statRead sub
    | .common => if sub = 1 then takePad 32 (s.mem.idlePattern.take 32) else leBytes s.idleMap 4
    | .scratch => s.mem.scratchRead sub
    | .desc m => leBytes ((s.mem.desc.get m).toList.getD (sub - 1) 0).toNat 4
    | .portCfg x => (s.port x).cfgRead sub
    | .portStat x => (s.port x).statRead sub
    | .linkCfg => s.link.cfgRead sub
    | .linkStat => s.link.statRead sub
    | .capsLocal => s.capsBody
    | .capsPeer => match s.link.peer with
      | some c => capsBytes c
      | none => zeros 32
    | .arq => s.arq.read sub
    | .flow i => (s.flowOf i).read sub
    | .overhead => s.link.overheadRead sub
    | .policer n => (s.chan n).pol.read sub
    | .meas => s.link.measRead sub
    | .time => s.timeRead sub
    | .twin => s.twinRead sub
    | .reset => s.rst.read sub
    | .blocks => leBytes s.rst.blockReset.toNat 4
    | .power => s.pwr.read sub
    | .clocks => s.pwr.clockRead sub
    | .mem => s.memRead sub
    | .sensors => s.sensorRead sub
    | .log => s.yar.logRead sub
    | .update => s.updateRead sub

/-- The running values of every RWS entry (R261). -/
def State.running (s : State) : List Saved :=
  rwsEntries.map fun e => ⟨e.1.index, e.2.sub, s.readPlain e.1 e.2.sub⟩

/-- The defaults of the role in use (R12, R261). -/
def State.defaults (s : State) : State :=
  { State.reset with ch := Vector.ofFn fun (i : Fin 20) => defaultChan s.sender i.val }

/-- DIRTY: a running RWS value differs from its saved value, or from the default where none is saved (R261). -/
def State.dirty (s : State) : Bool :=
  let d := s.defaults
  rwsEntries.any fun e =>
    s.readPlain e.1 e.2.sub != (s.od.savedVal e.1.index e.2.sub).getD (d.readPlain e.1 e.2.sub)

/-- The directory words that a read of DIR_ENTRIES takes, with their bit errors (R115, R129). -/
def State.readEntries (s : State) (n : Fin 20) : State :=
  if (s.chan n).cfg.cls = .slice then
    ((s.chan n).records.toList.flatMap FrameRec.entries).foldl (fun s e => (s.readDir n e.flips).2) s |>.serveFaults s
  else s

/-- A read of an entry: its value, with the snapshot that a read of subs 04 to 0D of 2100h + n takes, and what the reads of
the directory count (R58, R115). -/
def State.readEntry (s : State) (o : Obj) (sub : Nat) : List Byte × State :=
  match o with
  | .chStat n =>
    if sub = 0x29 then (s.readPlain o sub, s.readEntries n)
    else if 4 ≤ sub ∧ sub ≤ 13 then
      let old := (s.chan n).snap
      let p := if sub = 4 || !old.taken then s.takeSnap n else old
      (p.read sub, s.modCh n fun c => { c with snap := p })
    else (s.readPlain o sub, s)
  | .store => if sub = 7 then (bByte s.dirty, s) else (s.readPlain o sub, s)
  | o => (s.readPlain o sub, s)

end Sys2Proof.Machine
end

