-- ==== Sys2Proof/Machine/OdWrite.lean ====
section
/-! DEFINITION. What an accepted write of each entry of the object dictionary does, with the checks of steps 9 to 11 of
R247 that concern the entry's state. An abort code of 0 is OK. -/

namespace Sys2Proof.Machine

open Sys2Proof

/-- What a write carries besides its value: whether a sleep entry was in progress when it arrived (R299), whether a
fuse will read back as written (R257), and the request itself, which a flash or fuse step completes later (R248). -/
structure WCtx where
  entering : Bool := false
  readBack : Bool := true
  path : Path := .mailbox
  image : List Byte := []
  key : Option (List Byte) := none
  deriving DecidableEq, Repr

/-- A flash or fuse step begins that holds the service until it ends (R248). -/
def State.startTask (s : State) (q : WCtx) (k : TaskKind) : State :=
  s.modOd fun o => { o with task := some { kind := k, path := q.path, image := q.image, key := q.key } }

/-- Whether a step of the settings store runs (R261). -/
def TaskKind.ofStore : TaskKind → Bool
  | .save _ _ => true
  | .restore => true
  | .key _ _ => false
  | .lockFuse _ _ => false
  | .rollback _ => false
  | .record _ _ => false

/-- Whether a step blows fuses (R257, R269). -/
def TaskKind.ofFuse : TaskKind → Bool
  | .save _ _ => false
  | .restore => false
  | .key _ _ => false
  | .lockFuse _ _ => true
  | .rollback _ => true
  | .record _ _ => false

/-- Whether fuses are being blown: for a request, or after the start of a committed image (R257, R269). -/
def State.fusing (s : State) : Bool := s.upd.raising.isSome || s.od.task.any fun t => t.kind.ofFuse

/-- Whether firmware may write settings, keys and the control record: FLASH_IF runs, and the image does not run from SRAM
(R287, R290; notes/assumptions/90.md). -/
def State.flashWritable (s : State) : Bool := s.upd.runningSlot != 2 && s.blockUp 17

/-- An accepted write. -/
def ok (s : State) : Nat × State := (0, s)

/-- A write accepted where a condition holds, refused with an abort code otherwise. -/
def guarded (c : Bool) (code : Nat) (s t : State) : Nat × State := if c then (0, t) else (code, s)

/-! ### Channels (R54 to R57) -/

/-- The configuration with one entry written. -/
def ChCfg.put (g : ChCfg) (sub v : Nat) : ChCfg :=
  match sub with
  | 0x01 => { g with cls := (Cls.ofCode v).getD g.cls }
  | 0x02 => { g with producer := (End.ofCode v).getD g.producer }
  | 0x03 => { g with consumer := (End.ofCode v).getD g.consumer }
  | 0x04 => { g with base := v }
  | 0x05 => { g with size := v }
  | 0x06 => { g with skew := v }
  | 0x07 => { g with pafOffset := v }
  | 0x08 => { g with paeOffset := v }
  | 0x09 => { g with highWm := v }
  | 0x0A => { g with lowWm := v }
  | 0x0B => { g with ridleTimeout := v }
  | 0x0C => { g with relmode := (RelMode.ofCode v).getD g.relmode }
  | 0x0D => { g with emptyMode := v }
  | 0x0E => { g with stallTimeout := v }
  | 0x0F => { g with sliceWaitMin := v }
  | 0x10 => { g with sliceWaitMax := v }
  | 0x11 => { g with gateLead := v }
  | 0x12 => { g with compat := v == 1 }
  | _ => g

/-- The structural entries of R54. -/
def structural (sub : Nat) : Bool := (decide (1 ≤ sub) && decide (sub ≤ 6)) || sub == 0x0C || sub == 0x12

/-- A write of 2000h + n: the structural entries only while DISABLED, the others under check 09h of R53 and the bounds of
R227, clamping SLICE_WAIT at once (R54 to R56, R126, R227). -/
def State.writeChCfg (s : State) (n : Fin 20) (sub v : Nat) : Nat × State :=
  let c := s.chan n
  let g := c.cfg.put sub v
  if sub = 0x13 then s.writeEnable n v
  else if structural sub then
    guarded (c.state == .disabled) abState s (s.modCh n fun c => { c with cfg := g })
  else if decide (g.sliceWaitMax < g.sliceWaitMin) || (c.enabled && !g.limitsOk) then (abRange, s)
  else if sub = 0x0D ∧ v = 1 ∧ c.enabled = true ∧ c.cfg.emptyMode ≠ 1 ∧ s.idleFull n = true then (abState, s)
  else
    ok ((s.modCh n fun c => { c with cfg := g, sliceWait := g.clampWait c.sliceWait }).settle n)

/-- COUNT_CLEAR and FRAME_CLEAR of 2100h + n (R58, R129). -/
def ChCounters.clear (k : ChCounters) (sub : Nat) : ChCounters :=
  if sub = 0x1B then
    { k with pktCommitted := 0, pktDelivered := 0, overflowRefused := 0, stateRefused := 0, aborted := 0, standins := 0,
             late := 0, holdDropped := 0, ce := 0, ueDelivered := 0, flushes := 0 }
  else { k with misplaced := 0, noRecord := 0, crcDiscarded := 0, standinEmpty := 0, lateframe := 0, frameSkipped := 0 }

/-! ### Descriptors, scratch areas, lock slots (R27, R29, R37) -/

/-- Whether the masters of a channel's endpoints hold the rights it needs (R13, R53). -/
def State.rightsOk (s : State) (n : Fin 20) : Bool :=
  let g := (s.chan n).cfg
  (s.chainHalf true || s.holds g.producer.master g.base g.size true) &&
  (s.chainHalf false || s.holds g.consumer.master g.base g.size false)

/-- Descriptor `k` (from 0) of master `m` written, and firmware's copy of it where a reset of Stream Buffer reach has left one to be
written again (R291). -/
def State.putDesc (s : State) (m : Fin 6) (k : Nat) (v : W32) : State :=
  let put := fun (d : Vector (Vector W32 8) 6) => d.set m.val ((d.get m).setIfInBounds k v) m.isLt
  s.modMem fun mm => { mm with desc := put mm.desc, descCopy := mm.descCopy.map put }

/-- A write of a region descriptor (R27). -/
def State.writeDesc (s : State) (m : Fin 6) (k : Nat) (v : W32) : Nat × State :=
  if (v.extractLsb 31 17).toNat < (v.extractLsb 16 2).toNat then (abRange, s)
  else
    let t := s.putDesc m k v
    let lost := (List.finRange 20).any fun n => (s.chan n).enabled && s.rightsOk n && !t.rightsOk n
    guarded (!lost) abState s t

/-- A write of scratch area entry `k` (from 0): RANGE before STATE (R29). -/
def State.writeArea (s : State) (k : Nat) (w : W32) : Nat × State :=
  let v := w &&& 0x83FFFFFF#32
  let old := s.mem.areas.toList.getD k 0
  let others := (s.mem.areas.toList.zipIdx.filter fun a => a.2 != k && areaOn a.1).map (·.1)
  let sum := (others.map areaSize).sum + (if areaOn v then areaSize v else 0)
  if 1024 < areaSize v ∨ 32768 < areaBase v + areaSize v ∨ 1024 < sum then (abRange, s)
  else
    let moved := areaOn old && (areaBase old != areaBase v || areaSize old != areaSize v)
    let clash := others.any fun a => overlaps (areaBase v) (areaSize v) (areaBase a) (areaSize a)
    let region := (List.finRange 20).any fun n =>
      (s.chan n).enabled && overlaps (areaBase v) (areaSize v) (s.chan n).cfg.base (s.chan n).cfg.size
    if (areaOn old || areaOn v) && (moved || clash || region || areaSize v == 0) then (abState, s)
    else ok (s.modMem fun m => { m with areas := m.areas.setIfInBounds k v })

/-- LOCK_FORCE: a held slot is freed and marked (R37). -/
def State.forceLock (s : State) (k : Nat) : State :=
  if (s.slot k).owner = .free then s else s.setSlot k ⟨.free, true⟩

/-! ### Ports (R89, R90, R150 to R152) -/

/-- A write of 3000h and 3001h. -/
def State.writePortCfg (s : State) (x : Port) (sub v : Nat) : State :=
  match sub with
  | 0x01 => s.applyPortMode x v
  | 0x02 => s.modPort x fun p => { p with odt := v, odtInUse := if v = 255 then p.odtInUse else v }
  | 0x03 => s.modPort x fun p => { p with wcapDelay := v }
  | 0x04 => s.modPort x fun p => { p with rqsDelay := v }
  | 0x20 => s.modPort x fun p => { p with attnMask := BitVec.ofNat 32 v &&& 0xFFFFF#32 }
  | _ => s

/-- A write of 3010h and 3011h: W1C, and COUNT_CLEAR. -/
def State.writePortStat (s : State) (x : Port) (sub v : Nat) : State :=
  match sub with
  | 0x18 => s.modPort x fun p => { p with cnt := {} }
  | 0x20 => s.modPort x fun p => { p with attnCause := p.attnCause &&& ~~~(BitVec.ofNat 32 v) }
  | 0x21 => s.modPort x fun p => { p with attnChannels := p.attnChannels &&& ~~~(BitVec.ofNat 32 v) }
  | _ => s

/-! ### Link (R171 to R176, R183, R184, R186, R190, R227, R241) -/

/-- A write of 4000h. -/
def State.writeLinkCfg (s : State) (sub v : Nat) : Nat × State :=
  match sub with
  | 0x01 => ok (s.applyLinkEnable (v == 1))
  | 0x02 => ok (s.modLink fun l => { l with maxRate := v })
  | 0x03 => ok (s.modLink fun l => { l with trialErrLimit := v })
  | 0x04 => ok (s.modLink fun l => { l with moduleRateCheck := v == 1 })
  | 0x05 => ok (s.modLink fun l => { l with echoPeriod := v })
  | 0x06 => ok (s.modLink fun l => { l with propFactor := v })
  | 0x07 => ok (s.modLink fun l => { l with wakeAny := v == 1 })
  | 0x08 => ok s.applyWakePeer
  | 0x09 => ok s.applyRetrain
  | 0x0A => guarded s.linkUp abState s (s.applyLinkresetSend v)
  | _ => ok s

/-- A write of 4020h. -/
def ArqSt.put (a : ArqSt) (sub v : Nat) : ArqSt :=
  match sub with
  | 0x01 => { a with rto := v }
  | 0x02 => { a with nakHoldoff := v }
  | 0x03 => { a with ackCoalesce := v }
  | 0x04 => { a with ackDelay := v }
  | 0x05 => { a with retryLimit := v }
  | 0x1B => { a with retxFrames := 0, nakRx := 0, rtoEvents := 0, giveupFrames := 0, nakTx := 0, dupRx := 0,
                     earlyRx := 0, earlyDiscarded := 0, skippedRx := 0, outOfWindow := 0 }
  | _ => a

/-- A write of 4100h + i. -/
def Flow.put (f : Flow) (sub v : Nat) : Flow :=
  match sub with
  | 0x01 => { f with weight := v }
  | 0x06 => { f with txFrames := 0, txBytes := 0, pausedEvents := 0, windowWaits := 0 }
  | _ => f

/-- Change flow `i`. -/
def State.modFlow (s : State) (i : Fin 21) (f : Flow → Flow) : State :=
  match finOf 20 i.val with
  | some n => s.modCh n fun c => { c with flow := f c.flow }
  | none => s.modLink fun l => { l with mgmtFlow := f l.mgmtFlow }

/-- The policer with one entry written: MODE 01h fills the buckets, a lower CBS or PBS clamps its bucket (R186). -/
def Policer.put (p : Policer) (sub v : Nat) : Policer :=
  match sub with
  | 0x01 => if v = 1 ∧ p.mode ≠ 1 then { p with mode := 1, tc := p.cbs * 1024, tp := p.pbs * 1024 } else { p with mode := v }
  | 0x02 => { p with cir := v }
  | 0x03 => { p with pir := v }
  | 0x04 => { p with cbs := v, tc := min p.tc (v * 1024) }
  | 0x05 => { p with pbs := v, tp := min p.tp (v * 1024) }
  | 0x14 => { p with green := 0, yellowAccepted := 0, yellowDropped := 0, redDropped := 0 }
  | _ => p

/-- A write of 4200h + n: while policing, PIR stays at least CIR (R190). -/
def State.writePolicer (s : State) (n : Fin 20) (sub v : Nat) : Nat × State :=
  let p := (s.chan n).pol.put sub v
  guarded (!(p.mode == 1 && decide (p.pir < p.cir))) abRange s (s.modCh n fun c => { c with pol := p })

/-- A write of 4300h: a floor above its ceiling is refused, and the step in force is clamped at once (R227). -/
def State.writeMeas (s : State) (sub v : Nat) : Nat × State :=
  let l := s.link
  let lo := if sub = 2 then v else l.ctleMin
  let hi := if sub = 3 then v else l.ctleMax
  if sub = 1 then ok (s.modLink fun l => { l with eqAdapt := v == 1 })
  else if hi < lo then (abRange, s)
  else ok (s.modLink fun l => { l with ctleMin := lo, ctleMax := hi, ctle := min hi (max lo l.ctle) })

/-! ### Time and twin (R194, R195, R201, R214, R222, R264) -/

/-- A write of 5000h. A SLEW_LIMIT below the rates in force clamps them at once (R227). While TIME is held, EPOCH_BUMP is refused with
STATE: the block answers with an error (R195, R290; DESIGN CHOICE, notes/assumptions/96.md). -/
def State.writeTime (s : State) (sub : Nat) (v : Int) : Nat × State :=
  let k := v.toNat
  match sub with
  | 0x01 => ok (s.applySource k)
  | 0x02 => ok (s.modTime fun t => { t with syncPeriod := k })
  | 0x03 => ok (s.modTime fun t => { t with stepThreshold := k })
  | 0x04 => ok (s.modTime fun t => { t with asymmetry := v })
  | 0x05 => ok (s.modTime fun t =>
      { t with slewLimit := k, freq := clampRate k t.freq, trim := clampRate k t.trim })
  | 0x06 => ok (s.modTime fun t => { t with holdover := k })
  | 0x07 => ok (s.modTime fun t => { t with lockThreshold := k })
  | 0x08 => guarded (s.sender && s.blockUp 2) abState s s.senderEpoch
  | 0x1B => ok (s.modTime fun t =>
      { t with steps := 0, epochChanges := 0, syncRx := 0, syncIgnored := 0, epochConflict := 0, lockLosses := 0 })
  | _ => ok s

/-- A write of 6000h. -/
def State.writeTwin (s : State) (sub v : Nat) : Nat × State :=
  match sub with
  | 0x01 => ok (s.modRst fun r => { r with pairNext := v })
  | 0x02 => guarded s.swapAllowed abState s s.gracefulRelease
  | 0x03 => ok (s.modTwin fun t => { t with autoSwap := v == 1 })
  | 0x2A => ok (s.modTwin fun t =>
      { t with takeovers := 0, hbLosses := 0, divergences := 0, msgErr := 0, standinAnnounced := 0, unsourced := 0,
               discarded := 0, streamGap := 0, chainBytes := 0 })
  | _ => ok s

/-! ### Reset and power (R283, R284, R289, R295, R299, R308) -/

/-- A write of 7000h. -/
def State.writeReset (s : State) (sub v : Nat) : State :=
  match sub with
  | 0x01 => s.modRst fun r => { r with cause := r.cause &&& ~~~(BitVec.ofNat 16 v) }
  | 0x03 => s.swReset v
  | 0x04 => s.modRst fun r => { r with dbgReach := v }
  | 0x0B => s.modRst fun r => { r with counts := Vector.replicate 9 0, wdtEscalations := 0, optionRestarts := 0 }
  | _ => s

/-- A write of PL_FLOOR or PL_CEILING: a floor above the ceiling is refused, and the level in force is clamped at once
(R227, R229). -/
def State.writeBound (s : State) (floor ceiling : Nat) : Nat × State :=
  guarded (decide (floor ≤ ceiling)) abRange s
    ((s.modPwr fun p => { p with plFloor := floor, plCeiling := ceiling }).clampLevel)

/-- SLEEP_REQUEST: BUSY while an entry is in progress, STATE for Retention above 95 °C (R299). -/
def State.sleepRequest (s : State) (q : WCtx) (kind : Nat) : Nat × State :=
  if kind = 1 ∧ s.coolEnough = false then (abState, s)
  else if q.entering then (abBusy, s)
  else ok (s.beginSleep kind s.now)

/-- A write of 7100h. -/
def State.writePower (s : State) (q : WCtx) (sub v : Nat) : Nat × State :=
  match sub with
  | 0x01 => s.writeBound v s.pwr.plCeiling
  | 0x02 => s.writeBound s.pwr.plFloor v
  | 0x04 => ok (s.modPwr fun p => { p with dozeIdle := v })
  | 0x05 => ok (s.modPwr fun p => { p with retIdle := v })
  | 0x06 => ok (s.modPwr fun p => { p with offIdle := v })
  | 0x07 => s.sleepRequest q v
  | 0x08 => ok (s.modPwr fun p => { p with wakeMask := v % 4 })
  | 0x15 => ok (s.modPwr fun p =>
      { p with dozeEntries := 0, sleepEntries := 0, sleepAborts := 0, levelChanges := 0, regLimits := 0 })
  | _ => ok s

/-! ### Memory and Tansy (R21, R311 to R313, R323 to R325) -/

/-- ECC_CLEAR (R21). -/
def MemSt.clearEcc (m : MemSt) : MemSt :=
  { m with ceTotal := 0, ueTotal := 0, ceBank := Vector.replicate 130 0, ueBank := Vector.replicate 130 0, lastUe := 0,
           dirCe := 0, dirUe := 0 }

/-- TANSY_CMD: STATE before BUSY (R247, R311, R324). A pass asked for while the memory is closed, or TANSY held, is
refused. -/
def State.writeTansy (s : State) (v : Nat) : Nat × State :=
  if s.tansyUp = false ∨ (v = 1 ∧ (s.allDisabled = false ∨ s.anyArea = true)) then (abState, s)
  else if v ≠ 4 ∧ s.memOpen = false then (abBusy, s)
  else if (v = 1 ∧ s.marching = true) ∨ (v = 2 ∧ s.tansy.preserving = true) ∨
      (v = 3 ∧ s.tansy.scrubbing = true) then (abBusy, s)
  else ok (s.applyTansy v)

/-- A write of 8000h. -/
def State.writeMem (s : State) (sub v : Nat) : Nat × State :=
  match sub with
  | 0x08 => ok (s.modMem MemSt.clearEcc)
  | 0x10 => ok (s.modTansy fun t => { t with marchAtStart := v == 1 })
  | 0x11 => s.writeTansy v
  | 0x13 => ok (s.modTansy fun t => { t with scrubPeriod := v })
  | 0x1F => guarded (s.allDisabled && s.flashWritable) abState s (s.modTansy fun t => { t with fieldLog := [] })
  | _ => ok s

/-! ### Sensors and log (R229, R240, R242) -/

/-- A write of 9000h. -/
def YarSt.putSensor (y : YarSt) (sub v : Nat) : YarSt :=
  match sub with
  | 0x05 => { y with tjThrottle := v }
  | 0x07 => { y with overridden := y.overridden &&& (255 - v % 256) }
  | 0x0B => { y with vinMargin := v }
  | 0x0F => { y with tjPeak := none, overrideCount := 0, yarrowResets := 0, mgmtUnserved := 0, sramCe := 0 }
  | _ => y

/-- LOG_CLEAR 02h: the ring is erased, each page once more (R236, R242). -/
def YarSt.eraseRing (y : YarSt) : YarSt :=
  { y with flashLog := [], ringCount := 0, eraseMax := y.eraseMax + 1, ringBase := y.eraseMax + 1 }

/-- A write of 9100h. -/
def State.writeLog (s : State) (sub v : Nat) : Nat × State :=
  match sub with
  | 0x06 => ok (s.modYar fun y => { y with minSeverity := v })
  | 0x07 =>
    if v = 1 then ok (s.modYar fun y => { y with logRam := [] })
    else guarded s.flashWritable abState s (s.modYar YarSt.eraseRing)
  | _ => ok s

/-! ### Store, access, update (R261, R262, R271, R273, R275) -/

/-- Whether the settings store may be written: the settings are readable, and flash can be written (R261, R275, R287). -/
def State.storeWritable (s : State) : Bool := !s.unreadable && s.flashWritable

/-- A write of 1100h. SAVE takes its values in this step, and its response waits for the flash; so does that of
RESTORE_DEFAULTS. While one runs, another is refused with BUSY (R248, R261). -/
def State.writeStoreObj (s : State) (q : WCtx) (sub : Nat) : Nat × State :=
  if sub = 3 then ok (s.modOd fun o => { o with storeLock := true })
  else if s.storeWritable = false then (abState, s)
  else if s.od.task.isSome = true then (abBusy, s)
  else if sub = 1 then
    let vals := s.running
    ok ((s.beginSave vals).startTask q (.save s.upd.saveSlot vals))
  else ok ((s.modOd fun o => { o with storeState := 2 }).startTask q .restore)

/-- FACTORY_LOCK: the fuse is blown in a sequence, and the response waits for it; BUSY while fuses are being blown
(R257). -/
def State.writeFactoryLock (s : State) (q : WCtx) (v : Nat) : Nat × State :=
  guarded (!s.fusing) abBusy s (s.startTask q (.lockFuse (v == 1) q.readBack))

/-- A write of 1010h other than of a key. -/
def State.writeAccess (s : State) (q : WCtx) (sub v : Nat) : Nat × State :=
  match sub with
  | 0x05 => ok (s.modOd fun o => { o with keyLock := true })
  | 0x0D => s.writeFactoryLock q v
  | 0x10 => ok (s.modOd fun o =>
      { o with authFail := 0, seqReject := 0, dupReq := 0, lockouts := 0, mbxRejected := 0 })
  | _ => ok s

/-- ACTIVATE: the reset source follows, with BYE first for Device reach (R271). -/
def State.writeActivate (s : State) (v : Nat) : Nat × State :=
  let u := s.upd
  guarded (u.state == .committed && u.imageCheckReg == 0 && s.blockUp 17) abState s
    ((s.modUpd UpdSt.activate).swReset (if v = 1 then 1 else 3))

/-- The last steps of COMMIT: the control record is verified, and where the image's ROLLBACK exceeds the counter, its fuses are blown;
the response waits for them (R266, R269, R273). -/
def State.raiseAtCommit (s : State) (q : WCtx) : State :=
  s.startTask q (.record 0 (if s.upd.mustRaise then some q.readBack else none))

/-- COMMIT: in TRIAL, or under SETTINGS_UNREADABLE in every update state; BUSY while fuses are being blown (R257, R271, R273,
R275). -/
def State.writeCommit (s : State) (q : WCtx) : Nat × State :=
  if s.flashWritable = false ∨ (s.unreadable = false ∧ s.upd.state ≠ .trial) then (abState, s)
  else if s.fusing = true then (abBusy, s)
  else ok ((if s.unreadable then s.commitUnreadable else s.commitTrial).raiseAtCommit q)

/-- RAM_START: in the loader the image in SRAM starts when its check reads 00h; while firmware runs, STATE (R276, R287). -/
def State.writeRamStart (s : State) : Nat × State :=
  guarded (s.yar.loader && s.upd.ramCheck == 0) abState s (s.startImage 2)

/-- A write of A000h other than of IMAGE. -/
def State.writeUpdate (s : State) (q : WCtx) (sub v : Nat) : Nat × State :=
  match sub with
  | 0x08 => s.writeActivate v
  | 0x09 => s.writeCommit q
  | 0x0A => ok (s.modUpd fun u => { u with trialWindow := v })
  | 0x10 => s.writeRamStart
  | _ => ok s

/-! ### A write of an entry -/

/-- The effect of a WRITE of an entry. -/
def State.writeValue (s : State) (q : WCtx) (o : Obj) (sub : Nat) (v : Int) : Nat × State :=
  let k := v.toNat
  match o with
  | .access => s.writeAccess q sub k
  | .store => s.writeStoreObj q sub
  | .role => ok (s.modRst fun r => { r with roleNext := k })
  | .chCfg n => s.writeChCfg n sub k
  | .chStat n => ok (s.modCnt n fun c => c.clear sub)
  | .scratch => if sub = 0x13 then ok (s.forceLock k) else s.writeArea (sub - 1) (BitVec.ofNat 32 k)
  | .desc m => s.writeDesc m (sub - 1) (BitVec.ofNat 32 k)
  | .portCfg x => ok (s.writePortCfg x sub k)
  | .portStat x => ok (s.writePortStat x sub k)
  | .linkCfg => s.writeLinkCfg sub k
  | .linkStat => ok (s.modLink fun l => { l with cnt := {} })
  | .arq => ok (s.modArq fun a => a.put sub k)
  | .flow i => ok (s.modFlow i fun f => f.put sub k)
  | .overhead => ok (s.modLink fun l => { l with oh := k })
  | .policer n => s.writePolicer n sub k
  | .meas => s.writeMeas sub k
  | .time => s.writeTime sub v
  | .twin => s.writeTwin sub k
  | .reset => ok (s.writeReset sub k)
  | .blocks =>
    let w := BitVec.ofNat 32 k
    guarded (!s.blockResetRefused w) abState s (s.applyBlockReset w)
  | .power => s.writePower q sub k
  | .mem => s.writeMem sub k
  | .sensors => ok (s.modYar fun y => y.putSensor sub k)
  | .log => s.writeLog sub k
  | .update => s.writeUpdate q sub k
  | .identity => ok s
  | .common => ok s
  | .capsLocal => ok s
  | .capsPeer => ok s
  | .clocks => ok s

/-- A WRITE of an entry whose type, level and range have passed; STATUS follows a change of what it names (R204, R218). -/
def State.writeEntry (s : State) (q : WCtx) (o : Obj) (sub : Nat) (v : Int) : Nat × State :=
  let (code, t) := s.writeValue q o sub v
  (code, t.statusIfChanged s true)

/-! ### The settings store at a start (R52, R261, R264) -/

/-- Put a saved or default value of an RWS entry into the registers. ROLE and PAIR_MODE go to their copies, unless the
settings are unreadable (R264), ENABLE of a channel waits for the memory (R52), ENABLE of the link acts as a write of it does (R160, R288),
and SOURCE acts where TIME runs (R194). The refusals of R27 and R29 do not bind this application: descriptors and areas take what is
saved, while channels are enabled too (DESIGN CHOICE, notes/assumptions/100.md). -/
def State.applySaved (s : State) (o : Obj) (r : Row) (bs : List Byte) : State :=
  let v := r.ty.value bs
  let k := v.toNat
  match o with
  | .chCfg n => if r.sub = 0x13 then s else s.modCh n fun c =>
      let g := if structural r.sub && c.enabled then c.cfg else c.cfg.put r.sub k
      { c with cfg := g, sliceWait := g.clampWait c.sliceWait }
  | .common => s.modMem fun m => { m with idlePattern := bs }
  | .scratch => s.modMem fun m => { m with areas := m.areas.setIfInBounds (r.sub - 1) (BitVec.ofNat 32 k &&& 0x83FFFFFF#32) }
  | .desc m => s.putDesc m (r.sub - 1) (BitVec.ofNat 32 k)
  | .portCfg x => if r.sub = 1 then s.modPort x fun p => { p with mode := k } else s.writePortCfg x r.sub k
  | .linkCfg => (s.writeLinkCfg r.sub k).2
  | .policer n => s.modCh n fun c => { c with pol := c.pol.put r.sub k }
  | .meas => s.modLink fun l =>
      if r.sub = 1 then { l with eqAdapt := k == 1 } else if r.sub = 2 then { l with ctleMin := k } else { l with ctleMax := k }
  | .time => (s.writeTime r.sub v).2
  | .role => if s.unreadable then s else (s.writeValue {} o r.sub v).2
  | .twin => if r.sub = 1 ∧ s.unreadable = true then s else (s.writeValue {} o r.sub v).2
  | .power =>
    if r.sub = 1 then s.modPwr fun p => { p with plFloor := k }
    else if r.sub = 2 then s.modPwr fun p => { p with plCeiling := k }
    else (s.writePower {} r.sub k).2
  | o => (s.writeValue {} o r.sub v).2

/-- Firmware applies the settings store and the defaults; what follows from a channel's new watermarks follows at once (R52, R83,
R261). -/
def State.applyStore (s : State) : State :=
  let d := s.defaults
  let s := rwsEntries.foldl (fun s e =>
    s.applySaved e.1 e.2 ((s.od.savedVal e.1.index e.2.sub).getD (d.readPlain e.1 e.2.sub))) s
  s.forChans fun n s => s.settle n

end Sys2Proof.Machine
end

