-- ==== Sys2Proof/Machine/OdServe.lean ====
section
/-! DEFINITION. The service of management requests (R170, R244 to R260, R287): authentication, request sequence and
duplicates, the checks of R247, DOMAIN transfers, the scratch and lock services, the loader, and the mailbox. -/

namespace Sys2Proof.Machine

open Sys2Proof

/-! ### Requests and responses (R170, R245) -/

/-- The service data of a request of service 01h, but for KEYSEL and DLEN; `dlen` is DLEN as sent. -/
structure OdReq where
  op : Nat
  index : Nat
  sub : Nat
  flags : Nat
  abort : Nat
  offset : Nat
  crc : Nat
  dlen : Nat
  rsv : Nat
  data : List Byte
  deriving DecidableEq, Repr

/-- The service data of services 02h and 03h, but for KEYSEL. -/
structure UnitReq where
  lock : Bool
  opc : Nat
  place : Nat
  rsv : Nat
  unit : Nat
  operand : Nat
  deriving DecidableEq, Repr

/-- What a request asks, by its service. -/
inductive Ask where
  | od (o : OdReq)
  | unit (u : UnitReq)
  | reserved (svc : Nat) (bytes : List Byte)
  deriving DecidableEq, Repr

/-- A request as it arrives. -/
structure Req where
  addr : Nat
  keysel : Nat
  reqseq : Nat
  mac : List Byte
  ask : Ask
  deriving DecidableEq, Repr

/-- The service of a request. -/
def Ask.svc : Ask → Nat
  | .od _ => 1
  | .unit u => if u.lock then 3 else 2
  | .reserved v _ => v

/-- The service data of a request. -/
def Req.sdata (r : Req) : List Byte :=
  match r.ask with
  | .od o =>
    leBytes o.op 1 ++ leBytes r.keysel 1 ++ leBytes o.index 2 ++ leBytes o.sub 1 ++ leBytes o.flags 1 ++
    leBytes o.abort 2 ++ leBytes o.offset 4 ++ leBytes o.crc 4 ++ leBytes o.dlen 2 ++ leBytes o.rsv 2 ++ o.data
  | .unit u =>
    leBytes r.keysel 1 ++ leBytes u.opc 1 ++ leBytes u.place 1 ++ leBytes u.rsv 1 ++ leBytes u.unit 4 ++
    leBytes u.operand 4
  | .reserved _ bs => bs

/-- Whether a request is unauthenticated (R250). -/
def Req.unauth (r : Req) : Bool := r.keysel == 0 && r.mac == zeros 8

/-- The request that a mailbox image holds (R170, R245, R255). -/
def parseImage (img : List Byte) : Req :=
  let svc := leField img 1 1
  let body := img.drop 8
  let n := body.length - 8
  let sd := body.take n
  let ask := if svc = 1 then
      .od { op := leField sd 0 1, index := leField sd 2 2, sub := leField sd 4 1, flags := leField sd 5 1,
            abort := leField sd 6 2, offset := leField sd 8 4, crc := leField sd 12 4, dlen := leField sd 16 2,
            rsv := leField sd 18 2, data := sd.drop 20 }
    else if svc = 2 ∨ svc = 3 then
      .unit { lock := svc == 3, opc := leField sd 1 1, place := leField sd 2 1, rsv := leField sd 3 1,
              unit := leField sd 4 4, operand := leField sd 8 4 }
    else .reserved svc sd
  { addr := leField img 0 1, keysel := if svc = 1 then leField sd 1 1 else leField sd 0 1, reqseq := leField img 2 2,
    mac := body.drop n, ask := ask }

/-- What a request gets: the abort code, LAST, NODATA, CRC_TOTAL and the data of service 01h, RESULT and VALUE of
services 02h and 03h. -/
structure Reply where
  abort : Nat := 0
  last : Bool := false
  noData : Bool := false
  total : Nat := 0
  data : List Byte := []
  result : Nat := 0
  value : Nat := 0
  deriving DecidableEq, Repr

/-- A refusal. -/
def Reply.refuse (code : Nat) : Reply := { abort := code }

/-- The service data of a response (R170, R245). -/
def Req.rdata (r : Req) (a : Reply) : List Byte :=
  match r.ask with
  | .od o =>
    leBytes o.op 1 ++ leBytes r.keysel 1 ++ leBytes o.index 2 ++ leBytes o.sub 1 ++
    leBytes (natOfBits [a.last, a.noData]) 1 ++ leBytes a.abort 2 ++ leBytes o.offset 4 ++ leBytes a.total 4 ++
    leBytes a.data.length 2 ++ leBytes 0 2 ++ a.data
  | _ =>
    leBytes r.keysel 1 ++ [0#8] ++ leBytes a.abort 2 ++ leBytes a.result 1 ++ zeros 3 ++ leBytes a.value 4

/-! ### Paths (R244, R248, R255) -/

/-- The state of a path. -/
def OdSt.path (o : OdSt) : Path → PathSt
  | .link => o.link
  | .mailbox => o.mailbox

/-- Change the state of a path. -/
def State.modPath (s : State) (p : Path) (f : PathSt → PathSt) : State :=
  match p with
  | .link => s.modOd fun o => { o with link := f o.link }
  | .mailbox => s.modOd fun o => { o with mailbox := f o.mailbox }

/-- The other path. -/
def otherPath : Path → Path
  | .link => .mailbox
  | .mailbox => .link

/-- Whether the loader serves a path (R287). -/
def State.loaderOn (s : State) (p : Path) : Bool :=
  s.yar.loader && (match p with | .link => s.loaderLink | .mailbox => !s.loaderLink)

/-- Whether requests of a path are served. -/
def State.servesPath (s : State) (p : Path) : Bool := s.yar.serving || s.loaderOn p

/-- Whether the mailbox can be reached: ST_IF runs, and the device is neither held nor asleep (R255, R290). -/
def State.mailboxUp (s : State) : Bool :=
  s.yarUp && s.blockUp 18 && s.pwr.state != .retention && s.pwr.state != .off

/-- A response leaves by its path: to the mailbox, or over the link while UP. -/
def State.reply (s : State) (p : Path) (svc reqseq : Nat) (data mac : List Byte) : State :=
  match p with
  | .mailbox => s.mailboxReply 0 svc reqseq data mac
  | .link => if s.linkUp then s.queueMgmt 0 (svc % 128 + 128) reqseq (data ++ mac) else s

/-! ### Step 1: authentication (R249 to R251) -/

/-- A request of the LINK path has failed step 1: 16 within 1 s lock the path out for 1 s. -/
def State.authFailed (s : State) (reqseq : Nat) : State :=
  let s := s.modOd fun o =>
    { o with authFail := inc32 o.authFail, lastAuthFail := BitVec.ofNat 32 (0x01000000 + reqseq % 65536),
             failTimes := (o.failTimes.filter fun t => decide (s.now < t + ms 1000)) ++ [s.now] }
  let s := s.log 0x8002 0 8 (0x01000000 + reqseq % 65536)
  if 16 ≤ s.od.failTimes.length then
    (s.modOd fun o => { o with lockouts := inc32 o.lockouts, lockoutUntil := some (s.now + ms 1000), failTimes := [] }).log
      0x8003 0 8 16
  else s

/-- Whether the LINK path is locked out (R251). -/
def State.lockedOut (s : State) : Bool := s.od.lockoutUntil.any fun t => decide (s.now < t)

/-- Whether the MAC of a request verifies under the key that KEYSEL names (R249). -/
def State.macOk (s : State) (r : Req) : Bool :=
  match s.keyOf r.keysel with
  | some k => (hmac k (macMessage s.upd.serial s.od.bootNonce r.ask.svc r.reqseq r.sdata)).take 8 == r.mac
  | none => false

/-- The MAC of a response under a key taken before the request acted (R262). -/
def macUnder (key : Option (List Byte)) (serial nonce svc reqseq : Nat) (data : List Byte) : List Byte :=
  match key with
  | some k => (hmac k (macMessage serial nonce (svc % 128 + 128) reqseq data)).take 8
  | none => zeros 8

/-- What an unauthenticated request may read: an entry of 1000h, 1010h.0A, or subindex 00h of either (R250). -/
def OdReq.open (o : OdReq) : Bool :=
  o.op == 1 && ((o.index == 0x1000 && (Obj.identity.row o.sub).isSome) || (o.index == 0x1010 && (o.sub == 0x0A || o.sub == 0)))

/-- The level of a path's request: 0 Observer to 3 Factory; Maintenance in the loader (R244, R249, R287). -/
def State.levelOf (s : State) (p : Path) (keysel : Nat) : Nat :=
  if s.yar.loader then 2
  else match p with
    | .mailbox => if s.upd.factoryLock then 2 else 3
    | .link => if keysel = 1 then 2 else if keysel = 2 then 1 else 0

/-! ### Step 2: request sequence (R252, R253) -/

/-- What REQSEQ decides: a cached response, the recorded abort code, execution, or SEQ. -/
inductive SeqRes where
  | cached (r : Resp)
  | again (abort : Nat)
  | run
  | refuse
  deriving DecidableEq, Repr

/-- The table of R252, with R253 for a response whose cache was lost. -/
def PathSt.judge (p : PathSt) (reqseq : Nat) : SeqRes :=
  match p.cache.find? fun r => r.reqseq == reqseq with
  | some r => .cached r
  | none =>
    match p.last with
    | none => .run
    | some l => if serialAfter 16 reqseq l then .run else if reqseq = l then .again p.lastAbort else .refuse

/-! ### Steps 3 to 9 (R247) -/

/-- Whether an operation writes; SEG_CANCEL needs the level of a write. -/
def OdReq.writes (o : OdReq) : Bool := o.op == 2 || o.op == 4

/-- Step 3: the operation and the reserved fields (R245, R246). -/
def OdReq.fieldsOk (o : OdReq) : Bool :=
  decide (1 ≤ o.op) && decide (o.op ≤ 5) && decide (o.flags ≤ (if o.op = 4 then 1 else 0)) && o.abort == 0 &&
  (o.offset == 0 || o.op == 3 || o.op == 4) && (o.crc == 0 || (o.op == 4 && o.flags == 1)) && o.rsv == 0

/-- Whether an entry is a key. -/
def isKey (o : Obj) (sub : Nat) : Bool := o == .access && decide (1 ≤ sub) && decide (sub ≤ 3)

/-- Step 5: the level that a request needs, ties to the value included (R57, R258). -/
def OdReq.level (o : OdReq) (ob : Obj) (r : Row) : Nat :=
  if o.writes || o.op == 5 then
    match ob with
    | .chCfg _ => if r.sub = 0x0D ∧ o.data = [1#8] then 2 else r.level
    | _ => r.level
  else if r.right = .ro then r.level else 0

/-- Step 7: a WOL or WOF entry already written (R257). -/
def State.written (s : State) (ob : Obj) (sub : Nat) : Bool :=
  match ob with
  | .store => sub == 3 && s.od.storeLock
  | .access => (sub == 5 && s.od.keyLock) || (sub == 0x0D && s.upd.lockFuse.isSome)
  | _ => false

/-- Step 7: the store lock and the key lock (R261, R262). -/
def State.storeLocked (s : State) (ob : Obj) (sub : Nat) : Bool :=
  (ob == .store && (sub == 1 || sub == 2) && s.od.storeLock) || (isKey ob sub && s.od.keyLock)

/-- Step 8: the operation and DLEN against the type (R246, R256). -/
def OdReq.fitsType (o : OdReq) (t : OTy) : Bool :=
  decide (o.dlen ≤ 1024) && o.dlen == o.data.length &&
  match t with
  | .domain => decide (3 ≤ o.op)
  | t => decide (o.op ≤ 2) && (o.op == 1 || t.size.all fun n => n == o.dlen)

/-- Steps 3 to 9 of R247, 0 where all pass. -/
def State.odCheck (s : State) (p : Path) (keysel : Nat) (o : OdReq) : Nat :=
  if !o.fieldsOk then abRange
  else match objOf o.index with
    | none => abNoObject
    | some ob => match ob.row o.sub with
      | none => abNoSub
      | some r =>
        if s.levelOf p keysel < o.level ob r then abLevel
        else if p = .link ∧ keysel ≠ 1 ∧ o.writes = true ∧ isKey ob o.sub = true then abLevel
        else if (r.right = .wo ∧ (o.op = 1 ∨ o.op = 3)) then abWriteOnly
        else if r.right = .ro ∧ o.writes = true then abReadOnly
        else if o.writes && (s.written ob o.sub || s.storeLocked ob o.sub) then abLocked
        else if !o.fitsType r.ty then abType
        else if o.op = 2 ∧ r.rg.holds (r.ty.value o.data) = false then abRange
        else if o.op = 3 ∧ o.offset % 1024 ≠ 0 then abRange
        else 0

/-! ### DOMAIN transfers (R260, R262, R270) -/

/-- A session or a snapshot idle for 10 s has ended. -/
def PathSt.expire (p : PathSt) (now : Nat) : PathSt :=
  { p with session := p.session.filter fun x => decide (now < x.touched + ms 10000),
           snap := p.snap.filter fun x => decide (now < x.touched + ms 10000) }

/-- A read of an entry ends the path's snapshot of any other. -/
def State.dropSnap (s : State) (p : Path) (index sub : Nat) : State :=
  s.modPath p fun q => { q with snap := q.snap.filter fun x => x.index == index && x.sub == sub }

/-- SEG_READ of a value at an offset. -/
def segment (v : List Byte) (offset : Nat) : Reply :=
  { last := decide (v.length ≤ offset + 1024), total := v.length, data := (v.drop offset).take 1024 }

/-- SEG_READ (R260). -/
def State.segRead (s : State) (p : Path) (ob : Obj) (o : OdReq) : Reply × State :=
  let s := s.dropSnap p o.index o.sub
  let keep := (s.od.path p).snap
  if o.offset ≠ 0 ∧ keep.isSome = true then
    let v := (keep.map (·.bytes)).getD []
    (segment v o.offset, s.modPath p fun q => { q with snap := q.snap.map fun x => { x with touched := s.now } })
  else
    let (v, s) := s.readEntry ob o.sub
    let s := if o.offset = 0 ∧ v.length ≤ 16384 then
        s.modPath p fun q => { q with snap := some ⟨o.index, o.sub, v, s.now⟩ }
      else s.modPath p fun q => { q with snap := none }
    (segment v o.offset, s)

/-- The key that a key write carries: over the LINK path its data are XORed with the pad of R262. -/
def State.keyData (s : State) (p : Path) (reqseq sub : Nat) (bs : List Byte) : List Byte :=
  match p with
  | .mailbox => bs
  | .link =>
    let pad := (hmac s.od.wallKey
      (leBytes s.upd.serial 8 ++ leBytes s.od.bootNonce 4 ++ leBytes reqseq 2 ++ leBytes sub 1)).take 16
    (bs.zip pad).map fun b => b.1 ^^^ b.2

/-- A closed key write: the record is written in two phases, and the response waits until it is verified (R262). An image
that runs from SRAM writes no key record (R287). -/
def State.closeKey (s : State) (q : WCtx) (p : Path) (reqseq sub : Nat) (bs : List Byte) : Nat × State :=
  if bs.length ≠ 16 then (abType, s)
  else if s.flashWritable = false then (abState, s)
  else (0, s.startTask q (.key sub (s.keyData p reqseq sub bs)))

/-- A key record that has been verified: the new key counts (R262). -/
def OdSt.setKey (o : OdSt) (sub : Nat) (k : List Byte) : OdSt :=
  if sub = 1 then { o with wallKey := k } else if sub = 2 then { o with operatorKey := k } else { o with observerKey := k }

/-- Whether an IMAGE session may open: in the loader always, otherwise in COMMITTED with a target slot (R270, R287). -/
def State.imageOpens (s : State) : Bool := s.yar.loader || (s.upd.state == .committed && s.upd.target.isSome)

/-- An IMAGE session opens: the target slot loses its binding and holds no image any more, and IMAGE_CHECK reads 08h. A binding that
goes is a write of the control record, still to be verified (R266, R270, R287). -/
def State.openImage (s : State) : State :=
  if s.yar.loader then s.modUpd fun u => { u with ram := [], ramCheck := 8 }
  else match s.upd.target with
    | some k => s.modUpd fun u =>
      let bound := u.bind k ≠ none
      let u := ((u.setBind k none).dissolve k).setCheck k 8
      if bound then u.recordCtl else u
    | none => s

/-- A segment of an IMAGE session is programmed into the target slot; the loader keeps its value until the session closes
(R270, R287). -/
def State.programImage (s : State) (off : Nat) (bs : List Byte) : State :=
  if s.yar.loader then s
  else match s.upd.target with
    | some k => s.modUpd fun u => u.program k off bs
    | none => s

/-- An IMAGE session closes in the loader: the value, of 256 + LENGTH bytes, goes to SRAM, and is checked (R270, R287). -/
def State.closeRam (s : State) (bs : List Byte) : Nat × State :=
  if bs.length < 256 ∨ 196608 < bs.length ∨ bs.length ≠ 256 + imgLength bs then (abType, s)
  else
    let s := s.modYar fun y => { y with sram := storeBytes y.sram 0 bs }
    (0, s.modUpd fun u => { u with ram := bs, ramCheck := imageCheck u.keyHash u.rollbackFuse ramBodyMax bs })

/-- An IMAGE session closes (R270). -/
def State.closeImage (s : State) (bs : List Byte) : Nat × State :=
  if s.yar.loader then s.closeRam bs
  else match s.upd.target with
    | none => (abState, s)
    | some k =>
      if bs.length < 256 ∨ bs.length ≠ 256 + imgLength bs then (abType, s)
      else
        let c := imageCheck s.upd.keyHash s.upd.rollbackFuse bodyMax bs
        if c = 0 then (0, s.modUpd fun u => (u.setImage k bs).setCheck k 0)
        else (abRange, s.modUpd fun u => (u.setImage k []).setCheck k 8)

/-- A DOMAIN write takes effect, whole (R260). -/
def State.closeDomain (s : State) (q : WCtx) (p : Path) (reqseq : Nat) (ob : Obj) (sub : Nat) (bs : List Byte) :
    Nat × State :=
  match ob with
  | .access => s.closeKey q p reqseq sub bs
  | .common => if bs.length = 32 then (0, s.modMem fun m => { m with idlePattern := bs }) else (abType, s)
  | .update => s.closeImage bs
  | _ => (abType, s)

/-- The path's session ends. -/
def State.endSession (s : State) (p : Path) : State := s.modPath p fun q => { q with session := none }

/-- Whether the path's session is on an entry, and takes an offset next. -/
def State.sessionAt (s : State) (p : Path) (index sub : Nat) : Option (List Byte) :=
  match (s.od.path p).session with
  | some x => if x.index = index ∧ x.sub = sub then some x.bytes else none
  | none => none

/-- The bytes before a segment, where it is in order: OFFSET 0 begins anew, a later one continues the path's session; every
segment but the last carries 1,024 bytes (R260). -/
def State.before (s : State) (p : Path) (o : OdReq) : Option (List Byte) :=
  let old := if o.offset = 0 then some [] else s.sessionAt p o.index o.sub
  if o.flags = 0 ∧ o.data.length ≠ 1024 then none else old.filter fun b => b.length == o.offset

/-- SEG_WRITE: STATE before BUSY; a segment out of order ends the session (R247, R260, R270). IMAGE is refused with STATE
where no session may open, or where FLASH_IF is held (R270, R290). Where the session's opening writes the control record, the response
waits until that is verified (R248, R266). -/
def State.segWrite (s : State) (q : WCtx) (p : Path) (reqseq : Nat) (ob : Obj) (o : OdReq) : Nat × State :=
  let image := ob == .update
  if image && ((o.offset == 0 && !s.imageOpens) || (!s.yar.loader && !s.blockUp 17)) then (abState, s)
  else match s.before p o with
    | none => (abState, if o.offset = 0 ∨ (s.sessionAt p o.index o.sub).isSome = true then s.endSession p else s)
    | some old =>
      if (s.sessionAt (otherPath p) o.index o.sub).isSome then (abBusy, s)
      else
        let opens := image && o.offset == 0
        let t := if opens then s.openImage else s
        let t := if image then t.programImage o.offset o.data else t
        let bs := old ++ o.data
        let (code, t) := if o.flags = 0 then
            (0, t.modPath p fun q => { q with session := some ⟨o.index, o.sub, bs, s.now⟩ })
          else if crc32c bs ≠ o.crc then (abType, t.endSession p)
          else (t.endSession p).closeDomain q p reqseq ob o.sub bs
        (code, if opens && (t.upd.ctlA != s.upd.ctlA || t.upd.ctlB != s.upd.ctlB) then t.startTask q (.record code none) else t)

/-! ### Execution of service 01h -/

/-- Event 8001h: a second write of a WOL or WOF entry (R257). -/
def State.noteLocked (s : State) (o : OdReq) (code : Nat) : State :=
  match objOf o.index with
  | some ob => if code = abLocked ∧ s.written ob o.sub = true then s.log 0x8001 0 8 (o.index * 65536 + o.sub) else s
  | none => s

/-- A request of service 01h that has passed steps 1 and 2: steps 3 to 11 and its effect. -/
def State.odRun (s : State) (q : WCtx) (p : Path) (r : Req) (o : OdReq) : Reply × State :=
  let s := s.modOd fun d => { d with link := d.link.expire s.now, mailbox := d.mailbox.expire s.now }
  let code := s.odCheck p r.keysel o
  if code ≠ 0 then (.refuse code, s.noteLocked o code)
  else match objOf o.index with
    | none => (.refuse abNoObject, s)
    | some ob => match ob.row o.sub with
      | none => (.refuse abNoSub, s)
      | some row =>
        if o.op = 1 then
          let (v, s) := (s.dropSnap p o.index o.sub).readEntry ob o.sub
          ({ last := true, total := v.length, data := v }, s)
        else if o.op = 2 then
          let (c, s) := s.writeEntry q ob o.sub (row.ty.value o.data)
          (.refuse c, s)
        else if o.op = 3 then s.segRead p ob o
        else if o.op = 4 then
          let (c, s) := s.segWrite q p r.reqseq ob o
          (.refuse c, s)
        else
          ({}, if (s.sessionAt p o.index o.sub).isSome then s.endSession p else s)

/-! ### Execution of services 02h and 03h (R170, R254) -/

/-- The checks of R254 on services 02h and 03h, 0 where all pass. -/
def State.unitCheck (s : State) (p : Path) (keysel : Nat) (u : UnitReq) : Nat :=
  let opcOk := if u.lock then u.opc == 12 || u.opc == 13 else decide (8 ≤ u.opc) && decide (u.opc ≤ 11)
  if !opcOk || decide ((if u.lock then 64 else 4) ≤ u.place) || u.rsv != 0 then abRange
  else if s.levelOf p keysel < (if u.opc = 8 then 0 else 1) then abLevel
  else if s.shadows ∧ u.opc ≠ 8 then abState
  else 0

/-- A request of services 02h and 03h that has passed steps 1 and 2. -/
def State.unitRun (s : State) (p : Path) (r : Req) (u : UnitReq) : Reply × State :=
  let code := s.unitCheck p r.keysel u
  let own : Owner := match p with | .link => .lr | .mailbox => .yc
  let m : Fin 6 := match p with | .link => 2 | .mailbox => 3
  if code ≠ 0 then (.refuse code, s)
  else if !s.blockUp 0 then ({ result := rsIsolated }, s)
  else if u.lock then
    let (res, s) := s.lockOp own u.opc u.place r.reqseq
    ({ result := res }, s)
  else if !s.memOpen then ({ result := rsNotready }, s)
  else
    let (x, refused, s) := s.scratchAnnounced m own u.opc u.place u.unit u.operand r.reqseq
    if refused then (.refuse abLevel, s) else ({ result := x.stat, value := x.value }, s)

/-! ### Service of a request (R247, R252, R253) -/

/-- Record an executed request and answer it. A reset of Yarrow in its effect keeps LAST and makes no response
(R238, R253). -/
def State.complete (s : State) (p : Path) (r : Req) (a : Reply) (data mac : List Byte) : State :=
  let alive := s.servesPath p
  let s := if a.abort = abBusy then s
    else s.modPath p fun q =>
      { q with last := some r.reqseq, lastAbort := a.abort,
               cache := if alive then
                   let c := q.cache ++ [⟨r.ask.svc, r.reqseq, data, mac⟩]
                   c.drop (c.length - 8)
                 else q.cache }
  if alive then s.reply p r.ask.svc r.reqseq data mac else s

/-- Answer a request that was refused before it was executed. -/
def State.turnAway (s : State) (p : Path) (r : Req) (key : Option (List Byte)) (code : Nat) : State :=
  let data := r.rdata (.refuse code)
  s.reply p r.ask.svc r.reqseq data (macUnder key s.upd.serial s.od.bootNonce r.ask.svc r.reqseq data)

/-- Step 2, then the request itself with what it does. One that begins a flash or fuse step is completed at the end of that
step (R248). -/
def State.sequence (s : State) (p : Path) (r : Req) (key : Option (List Byte)) (run : State → Reply × State) : State :=
  match (s.od.path p).judge r.reqseq with
  | .cached x => (s.modOd fun o => { o with dupReq := inc32 o.dupReq }).reply p x.svc x.reqseq x.data x.mac
  | .again code =>
    let data := r.rdata { abort := code, noData := true }
    s.reply p r.ask.svc r.reqseq data (macUnder key s.upd.serial s.od.bootNonce r.ask.svc r.reqseq data)
  | .refuse => (s.modOd fun o => { o with seqReject := inc32 o.seqReject }).turnAway p r key abSeq
  | .run =>
    let (a, t) := run s
    let data := r.rdata a
    if t.od.task.isSome = true ∧ s.od.task = none then t
    else t.complete p r a data (macUnder key s.upd.serial s.od.bootNonce r.ask.svc r.reqseq data)

/-- The mailbox image of a request. -/
def Req.image (r : Req) : List Byte :=
  leBytes r.addr 1 ++ leBytes r.ask.svc 1 ++ leBytes r.reqseq 2 ++ zeros 4 ++ r.sdata ++ r.mac

/-- What a request does once it executes; `key` is the key of its response's MAC. -/
def State.perform (s : State) (q : WCtx) (p : Path) (r : Req) (key : Option (List Byte)) : Reply × State :=
  let q := { q with path := p, image := r.image, key := key }
  match r.ask with
  | .od o => s.odRun q p r o
  | .unit u => s.unitRun p r u
  | .reserved _ _ => (.refuse abRange, s)

/-- Firmware serves a request of the LINK path: MAC first (R249, R250). -/
def State.serveLink (s : State) (q : WCtx) (r : Req) : State :=
  let key := s.keyOf r.keysel
  if r.unauth then
    match r.ask with
    | .od o =>
      if o.open then
        let (a, s) := s.odRun q .link r o
        s.reply .link 1 r.reqseq (r.rdata a) (zeros 8)
      else (s.authFailed r.reqseq).turnAway .link r none abAuth
    | _ => (s.authFailed r.reqseq).turnAway .link r none abAuth
  else if !s.macOk r then (s.authFailed r.reqseq).turnAway .link r key abAuth
  else s.sequence .link r key fun s => s.perform q .link r key

/-- Whether the loader serves an entry (R287). -/
def OdReq.inLoader (o : OdReq) : Nat :=
  if o.index = 0x1000 then if o.sub ≤ 6 then 0 else abNoSub
  else if o.index = 0x1010 then if o.sub = 0x0A then 0 else abNoSub
  else if o.index = 0xA000 then if o.sub = 6 ∨ o.sub = 7 ∨ o.sub = 0x10 then 0 else abNoSub
  else abNoObject

/-- The loader serves a request: no keys, Maintenance level, its own entries (R287). -/
def State.serveLoader (s : State) (p : Path) (r : Req) : State :=
  match r.ask with
  | .od o =>
    if !r.unauth then (if p = .link then s.authFailed r.reqseq else s).turnAway p r none abAuth
    else s.sequence p r none fun s =>
      if o.fieldsOk ∧ o.inLoader ≠ 0 then (.refuse o.inLoader, s)
      else s.odRun {} p r o
  | _ => s

/-- Serve a request with ADDR 00h. -/
def State.serve (s : State) (q : WCtx) (p : Path) (r : Req) : State :=
  if s.yar.loader then s.serveLoader p r
  else match p with
    | .link => s.serveLink q r
    | .mailbox => s.sequence .mailbox r none fun s => s.perform q .mailbox r none

/-! ### Flash and fuse steps, and the queue of requests (R248, R257, R261, R262, R269) -/

/-- The end of a flash or fuse step: its effect and abort code. A fuse that does not read back as written is event 8004h
(R257). -/
def State.endTask (s : State) (k : TaskKind) : Nat × State :=
  match k with
  | .save slot vals => (0, s.endSave slot vals)
  | .restore => (0, s.eraseStore)
  | .key sub key => (0, s.modOd fun o => o.setKey sub key)
  | .lockFuse v readBack =>
    if readBack then (0, s.modUpd fun u => { u with factoryLock := v, lockFuse := some v })
    else (abState, s.log 0x8004 0 12 0x1010000D)
  | .rollback readBack => (if readBack then 0 else abState, s.blowRollback readBack)
  | .record code _ => (code, s.modUpd UpdSt.verifyCtl)

/-- The fuses that are to be blown after a step, as they will read back: those of a COMMIT whose image raises the counter (R273). -/
def TaskKind.thenFuse : TaskKind → Option Bool
  | .save _ _ => none
  | .restore => none
  | .key _ _ => none
  | .lockFuse _ _ => none
  | .rollback _ => none
  | .record _ raise => raise

/-- The step that holds the service ends, and its request is completed. A COMMIT whose fuses are still to be blown has taken effect with
its control record: LAST names it from here (R253, R273). -/
def State.finishTask (s : State) (t : Task) : State :=
  let r := parseImage t.image
  let (code, s) := (s.modOd fun o => { o with task := none }).endTask t.kind
  match t.kind.thenFuse with
  | some readBack =>
    (s.modPath t.path fun q => { q with last := some r.reqseq, lastAbort := code }).modOd fun o =>
      { o with task := some { t with kind := .rollback readBack } }
  | none =>
  let data := r.rdata (.refuse code)
  s.complete t.path r (.refuse code) data (macUnder t.key s.upd.serial s.od.bootNonce r.ask.svc r.reqseq data)

/-- Whether a request finds what it asks for held by the step that runs, and is refused with BUSY at once: SAVE and
RESTORE_DEFAULTS while the store is written, a WOF write while fuses are blown (R257, R261; notes/assumptions/91.md). -/
def State.heldNow (s : State) (r : Req) : Bool :=
  match r.ask, s.od.task with
  | .od o, some t =>
    o.op == 2 &&
    ((t.kind.ofStore && o.index == 0x1100 && (o.sub == 1 || o.sub == 2)) ||
     (t.kind.ofFuse && o.index == 0x1010 && o.sub == 0x0D))
  | _, _ => false

/-- Whether a request would pass steps 1 to 9 (R247). -/
def State.passes (s : State) (p : Path) (r : Req) : Bool :=
  (p == .mailbox || (!r.unauth && s.macOk r)) && (s.od.path p).judge r.reqseq == .run &&
  (match r.ask with
   | .od o => s.odCheck p r.keysel o == 0
   | _ => false)

/-- A request reaches firmware: it is served, or it waits in its path's queue of 4 while a step holds the service, and gets
BUSY where that queue is full (R248). Where what it asks is held by that step and requests wait before it, it gets BUSY at once too, unless
an earlier step of R247 refuses it in its turn (R257, R261). -/
def State.enterRequest (s : State) (q : WCtx) (p : Path) (r : Req) : State :=
  if s.od.queue.isEmpty && (s.od.task.isNone || s.heldNow r) then s.serve q p r
  else if decide (4 ≤ (s.od.queue.filter fun x => x.path == p).length) || (s.heldNow r && s.passes p r) then
    s.turnAway p r (match p with | .link => s.keyOf r.keysel | .mailbox => none) abBusy
  else s.modOd fun o => { o with queue := o.queue ++ [⟨p, r.image, q.readBack⟩] }

/-! ### Forwarding (R163, R170) -/

/-- A mailbox request with ADDR 01h: over the link with ADDR 00h, or STATE under the own MAC. -/
def State.forward (s : State) (r : Req) : State :=
  let f : FwdReq := { svc := r.ask.svc, reqseq := r.reqseq, keysel := r.keysel, unauth := r.unauth, own := false,
                      head := r.sdata.take 20 }
  if s.linkUp then
    let s := s.modLinkCnt fun c => { c with mgmtFwd := inc32 c.mgmtFwd }
    (s.queueMgmt 0 r.ask.svc r.reqseq (r.sdata ++ r.mac)).modLink fun l => { l with forwarded := l.forwarded ++ [f] }
  else s.forwardAbort f abState

/-- Count a request that no address routes (R170). -/
def State.noRoute (s : State) : State := s.modLinkCnt fun c => { c with mgmtNoroute := inc32 c.mgmtNoroute }

/-! ### Arrival (R170, R238, R251, R255) -/

/-- A mailbox request reaches the service. -/
def State.takeMailbox (s : State) (q : WCtx) (r : Req) : State :=
  if r.addr = 0 then s.enterRequest q .mailbox r
  else if r.addr = 1 then (if s.yar.loader then s else s.forward r)
  else s.noRoute

/-- A request of the link path reaches the service. -/
def State.takeLink (s : State) (q : WCtx) (r : Req) : State :=
  if r.addr ≠ 0 then s.noRoute
  else if !s.servesPath .link then s.modYar fun y => { y with mgmtUnserved := inc32 y.mgmtUnserved }
  else if s.lockedOut then s
  else s.enterRequest q .link r

/-- A mailbox request arrives: taken at once, or kept with REQ_FREE 0 while nothing serves. -/
def State.mailboxArrive (s : State) (readBack : Bool) (r : Req) (img : List Byte) : State :=
  if !s.mailboxUp then s
  else if s.od.mbxReq.isSome then s.modOd fun o => { o with mbxRejected := inc32 o.mbxRejected }
  else
    let q : WCtx := { entering := s.pwr.state == .entering, readBack := readBack }
    let s := s.active
    if s.servesPath .mailbox then s.takeMailbox q r else s.modOd fun o => { o with mbxReq := some img }

/-- A mailbox request kept over a wake, which is no reset, is taken. -/
def State.servePending (s : State) : State :=
  match s.od.mbxReq with
  | some img =>
    if s.mailboxUp && s.servesPath .mailbox then (s.modOd fun o => { o with mbxReq := none }).takeMailbox {} (parseImage img)
    else s
  | none => s

/-- The oldest request that waits is taken up (R248). -/
def State.serveNext (s : State) : State :=
  match s.od.queue with
  | [] => s
  | x :: rest =>
    let s := s.modOd fun o => { o with queue := rest }
    if x.path = .link ∧ s.lockedOut = true then s
    else s.serve { entering := s.pwr.state == .entering, readBack := x.readBack } x.path (parseImage x.image)

/-- What firmware does of itself in a step on an empty queue: the raise of the rollback counter after a start, and the flash
or fuse step of a request, end; otherwise the next request is served (R248, R269). -/
def State.serviceStep (s : State) : State :=
  if !s.yar.serving then s
  else
    let s := match s.upd.raising with
      | some readBack => (s.modUpd fun u => { u with raising := none }).blowRollback readBack
      | none => s
    match s.od.task with
    | some t => s.finishTask t
    | none => s.serveNext

/-- A management request arrives by its source. -/
def State.arrive (s : State) (src : Src) (readBack : Bool) (r : Req) : State :=
  match src with
  | .mailbox => s.mailboxArrive readBack r r.image
  | .link m seq wlow =>
    let q : WCtx := { entering := s.pwr.state == .entering, readBack := readBack }
    s.receivedUp m (r.sdata.length + 8) fun s =>
      s.active.arqReceive seq wlow (fun _ => false) fun s => s.takeLink q r

/-- A request of service 01h from the head of a command. -/
def headReq (h : OdHead) (op index sub : Nat) (data : List Byte) : Req :=
  { addr := h.addr, keysel := h.keysel, reqseq := h.reqseq, mac := h.mac,
    ask := .od { op := op, index := index, sub := sub, flags := h.flags, abort := h.abortField, offset := h.offset,
                 crc := h.crcTotal, dlen := data.length, rsv := h.rsv18, data := data } }

/-- A command that is a request of service 01h. -/
def State.odCommand (s : State) (h : OdHead) (op index sub : Nat) (data : List Byte) : State :=
  s.arrive h.src true (headReq h op index sub data)

/-- A command that is a WRITE of one entry. -/
def State.odWrite (s : State) (h : OdHead) (index sub : Nat) (data : List Byte) : State :=
  s.odCommand h 2 index sub data

/-! ### Meanings: requests of every kind -/

/-- READ (R246). -/
def execObjectRead (h : OdHead) (index sub : Nat) (data : List Byte) (s : State) : Host.Outcome State Fault Refusal :=
  .next (s.odCommand h 1 index sub data)

/-- WRITE (R246). -/
def execObjectWrite (h : OdHead) (index sub : Nat) (data : List Byte) (s : State) : Host.Outcome State Fault Refusal :=
  .next (s.odCommand h 2 index sub data)

/-- SEG_READ (R246, R260). -/
def execSegRead (h : OdHead) (index sub : Nat) (data : List Byte) (s : State) : Host.Outcome State Fault Refusal :=
  .next (s.odCommand h 3 index sub data)

/-- SEG_WRITE (R246, R260). -/
def execSegWrite (h : OdHead) (index sub : Nat) (data : List Byte) (s : State) : Host.Outcome State Fault Refusal :=
  .next (s.odCommand h 4 index sub data)

/-- SEG_CANCEL (R246). -/
def execSegCancel (h : OdHead) (index sub : Nat) (data : List Byte) (s : State) : Host.Outcome State Fault Refusal :=
  .next (s.odCommand h 5 index sub data)

/-- A request of service 02h or 03h from the head of a command. -/
def headUnit (h : OdHead) (lock : Bool) (opc place : Nat) (rsv : Byte) (unit : Nat) (operand : W32) : Req :=
  { addr := h.addr, keysel := h.keysel, reqseq := h.reqseq, mac := h.mac,
    ask := .unit { lock := lock, opc := opc, place := place, rsv := rsv.toNat, unit := unit, operand := operand.toNat } }

/-- MGMT_SCRATCH (R170, R254). -/
def execMgmtScratch (h : OdHead) (opc area : Nat) (rsv : Byte) (unit : Nat) (operand : W32) (s : State) :
    Host.Outcome State Fault Refusal :=
  .next (s.arrive h.src true (headUnit h false opc area rsv unit operand))

/-- MGMT_LOCK (R170, R254). -/
def execMgmtLock (h : OdHead) (opc slot : Nat) (rsv : Byte) (unit : Nat) (operand : W32) (s : State) :
    Host.Outcome State Fault Refusal :=
  .next (s.arrive h.src true (headUnit h true opc slot rsv unit operand))

/-! ### Responses received (R163, R170, R249, R250) -/

/-- Whether a forwarded response may be returned: unverified to an unauthenticated request, otherwise verified under the peer's
SERIAL and BOOT_NONCE (R249, R250). -/
def State.forwardOk (s : State) (f : FwdReq) (data mac : List Byte) : Bool :=
  f.unauth ||
  match s.keyOf f.keysel, s.link.peerBootNonce with
  | some k, some n => (hmac k (macMessage s.link.upSerial n (f.svc % 128 + 128) f.reqseq data)).take 8 == mac
  | _, _ => false

/-- A response that fails its check: discarded and counted, and the mailbox receives AUTH (R249). -/
def State.forwardFailed (s : State) (f : FwdReq) : State :=
  let s := s.modOd fun o =>
    { o with authFail := inc32 o.authFail, lastAuthFail := BitVec.ofNat 32 (0x02000000 + f.reqseq % 65536) }
  (s.log 0x8002 0 8 (0x02000000 + f.reqseq % 65536)).forwardAbort f abAuth

/-- A response that answers a forwarded request, or the own read of the peer's BOOT_NONCE; another is discarded. -/
def State.takeResponse (s : State) (svc reqseq : Nat) (data mac : List Byte) : State :=
  let svc := svc % 128
  match s.link.forwarded.find? fun f => f.svc == svc && f.reqseq == reqseq with
  | none => s
  | some f =>
    let s := s.modLink fun l => { l with forwarded := l.forwarded.erase f }
    if f.own then
      if leField data 6 2 = 0 ∧ 24 ≤ data.length then
        s.modLink fun l => { l with peerBootNonce := some (leField data 20 4) }
      else s
    else if s.forwardOk f data mac then s.mailboxReply 1 svc reqseq data mac
    else s.forwardFailed f

/-- MGMT_RESPONSE: a MGMT frame with SVC bit 7 (R156, R170). -/
def execMgmtResponse (m : RxMeta) (seq wlow svc reqseq : Nat) (data mac : List Byte) (s : State) :
    Host.Outcome State Fault Refusal :=
  .next (s.receivedUp m (data.length + 8) fun s =>
    s.active.arqReceive seq wlow (fun _ => false) fun s =>
      if s.yar.serving then s.takeResponse svc reqseq data mac
      else s.modYar fun y => { y with mgmtUnserved := inc32 y.mgmtUnserved })

/-! ### Timers of the service -/

/-- LOCKOUT_END: 1 s after the lock-out began (R251). -/
def execLockoutEnd (dt : Nat) (s : State) : Host.Outcome State Fault Refusal :=
  let s := s.advance dt
  .next (if s.od.lockoutUntil.any (fun t => decide (t ≤ s.now)) then s.modOd fun o => { o with lockoutUntil := none }
    else s)

/-- DOMAIN_SESSION_TIMEOUT: a session or a snapshot left idle for 10 s ends (R260). -/
def execDomainSessionTimeout (dt : Nat) (p : Path) (s : State) : Host.Outcome State Fault Refusal :=
  let s := s.advance dt
  .next (s.modPath p fun q => q.expire s.now)

/-! ### The SPI target (R255) -/

/-- STATUS: REQ_FREE, RSP_READY, SERVING. -/
def State.mailboxStatus (s : State) : Nat :=
  natOfBits [s.od.mbxReq.isNone, s.od.mbxRsp.isSome, s.servesPath .mailbox]

/-- MAILBOX_STATUS. -/
def execMailboxStatus (s : State) : Host.Outcome State Fault Refusal :=
  .next (if !s.mailboxUp then s
    else
      let s := s.active
      s.modOd fun o => { o with statusSent := o.statusSent ++ leBytes s.mailboxStatus 1 })

/-- WRITE_REQ: discarded and counted where REQ_FREE is 0 or L lies outside 28 to 9,224. -/
def execWriteReq (len : Nat) (image : List Byte) (s : State) : Host.Outcome State Fault Refusal :=
  let img := takePad len (image.take len)
  .next (if !s.mailboxUp then s
    else if len < 28 ∨ 9224 < len then s.active.modOd fun o => { o with mbxRejected := inc32 o.mbxRejected }
    else s.mailboxArrive true (parseImage img) img)

/-- READ_RSP: the response and its length go out, and RSP_READY clears. -/
def execReadRsp (s : State) : Host.Outcome State Fault Refusal :=
  .next (if !s.mailboxUp then s
    else
      let s := s.active
      let img := s.od.mbxRsp.getD []
      s.modOd fun o => { o with mbxRsp := none, mbxSent := o.mbxSent ++ [leBytes img.length 2 ++ img] })

end Sys2Proof.Machine
end

