-- ==== Sys2Proof/Machine/OdRows.lean ====
section
/-! DEFINITION. The object writes that are commands of their own: each is a WRITE, or for a key a SEG_WRITE, of its
entry, served as every request is. -/

namespace Sys2Proof.Machine

open Sys2Proof

/-! ### Ports, link, channels -/

/-- The place of a port among the port objects. -/
def portPlace : Port → Nat
  | .A => 0 | .B => 1

/-- MODE 01h or 02h of 3000h or 3001h (R150). -/
def execPortModeOn (h : OdHead) (x : Port) (v : Byte) (s : State) : Host.Outcome State Fault Refusal :=
  .next (s.odWrite h (0x3000 + portPlace x) 0x01 [v])

/-- MODE 00h of 3000h or 3001h (R150). -/
def execPortModeOff (h : OdHead) (x : Port) (s : State) : Host.Outcome State Fault Refusal :=
  .next (s.odWrite h (0x3000 + portPlace x) 0x01 [0#8])

/-- ENABLE of 4000h (R160, R174). -/
def execLinkEnable (h : OdHead) (v : Byte) (s : State) : Host.Outcome State Fault Refusal :=
  .next (s.odWrite h 0x4000 0x01 [v])

/-- WAKE_PEER of 4000h (R173). -/
def execWakePeer (h : OdHead) (v : Byte) (s : State) : Host.Outcome State Fault Refusal :=
  .next (s.odWrite h 0x4000 0x08 [v])

/-- RETRAIN of 4000h (R162). -/
def execRetrain (h : OdHead) (v : Byte) (s : State) : Host.Outcome State Fault Refusal :=
  .next (s.odWrite h 0x4000 0x09 [v])

/-- LINKRESET_SEND of 4000h (R171). -/
def execLinkresetSend (h : OdHead) (v : Byte) (s : State) : Host.Outcome State Fault Refusal :=
  .next (s.odWrite h 0x4000 0x0A [v])

/-- ENABLE 01h of a channel (R49, R53). -/
def execEnableActive (h : OdHead) (n : Fin 20) (s : State) : Host.Outcome State Fault Refusal :=
  .next (s.odWrite h (0x2000 + n.val) 0x13 [1#8])

/-- ENABLE 02h of a channel (R49). -/
def execEnableHold (h : OdHead) (n : Fin 20) (s : State) : Host.Outcome State Fault Refusal :=
  .next (s.odWrite h (0x2000 + n.val) 0x13 [2#8])

/-- ENABLE 03h of a channel (R49). -/
def execEnableDrain (h : OdHead) (n : Fin 20) (s : State) : Host.Outcome State Fault Refusal :=
  .next (s.odWrite h (0x2000 + n.val) 0x13 [3#8])

/-- ENABLE 00h of a channel (R49). -/
def execEnableDisable (h : OdHead) (n : Fin 20) (s : State) : Host.Outcome State Fault Refusal :=
  .next (s.odWrite h (0x2000 + n.val) 0x13 [0#8])

/-- A region descriptor (R25, R27). -/
def execRegionDescriptorWrite (h : OdHead) (m : Fin 6) (sub : Fin 8) (v : W32) (s : State) :
    Host.Outcome State Fault Refusal :=
  .next (s.odWrite h (0x2400 + m.val) (sub.val + 1) (leBytes v.toNat 4))

/-- A scratch area (R29). -/
def execScratchAreaWrite (h : OdHead) (k : Fin 4) (v : W32) (s : State) : Host.Outcome State Fault Refusal :=
  .next (s.odWrite h 0x2300 (k.val + 1) (leBytes v.toNat 4))

/-- LOCK_FORCE (R37). -/
def execLockForce (h : OdHead) (v : Byte) (s : State) : Host.Outcome State Fault Refusal :=
  .next (s.odWrite h 0x2300 0x13 [v])

/-- COUNT_CLEAR and its kin, of any object (R5). -/
def execCountClear (h : OdHead) (index sub : Nat) (v : Byte) (s : State) : Host.Outcome State Fault Refusal :=
  .next (s.odWrite h index sub [v])

/-! ### Store, access, role -/

/-- SAVE (R261). -/
def execSave (h : OdHead) (v : Byte) (s : State) : Host.Outcome State Fault Refusal :=
  .next (s.odWrite h 0x1100 0x01 [v])

/-- RESTORE_DEFAULTS (R261). -/
def execRestoreDefaults (h : OdHead) (v : Byte) (s : State) : Host.Outcome State Fault Refusal :=
  .next (s.odWrite h 0x1100 0x02 [v])

/-- STORE_LOCK (R261). -/
def execStoreLock (h : OdHead) (v : Byte) (s : State) : Host.Outcome State Fault Refusal :=
  .next (s.odWrite h 0x1100 0x03 [v])

/-- A key, in one segment (R262). -/
def execKeyWrite (h : OdHead) (sub : Nat) (data : List Byte) (s : State) : Host.Outcome State Fault Refusal :=
  .next (s.odCommand h 4 0x1010 sub data)

/-- KEY_LOCK (R262). -/
def execKeyLock (h : OdHead) (v : Byte) (s : State) : Host.Outcome State Fault Refusal :=
  .next (s.odWrite h 0x1010 0x05 [v])

/-- FACTORY_LOCK, with what its fuse reads back (R257, R262). -/
def execFactoryLock (h : OdHead) (v : Byte) (readBack : Bool) (s : State) : Host.Outcome State Fault Refusal :=
  .next (s.arrive h.src readBack (headReq h 2 0x1010 0x0D [v]))

/-- ROLE (R1, R263, R264). -/
def execRole (h : OdHead) (v : Byte) (s : State) : Host.Outcome State Fault Refusal :=
  .next (s.odWrite h 0x1200 0x01 [v])

/-- PAIR_MODE (R222, R264). -/
def execPairMode (h : OdHead) (v : Byte) (s : State) : Host.Outcome State Fault Refusal :=
  .next (s.odWrite h 0x6000 0x01 [v])

/-! ### Reset, power, memory, log, update, twin, time -/

/-- RESET_REQUEST (R284). -/
def execResetRequest (h : OdHead) (v : Byte) (s : State) : Host.Outcome State Fault Refusal :=
  .next (s.odWrite h 0x7000 0x03 [v])

/-- BLOCK_RESET (R289). -/
def execBlockReset (h : OdHead) (v : W32) (s : State) : Host.Outcome State Fault Refusal :=
  .next (s.odWrite h 0x7010 0x01 (leBytes v.toNat 4))

/-- SLEEP_REQUEST 01h (R299). -/
def execSleepRequestRetention (h : OdHead) (s : State) : Host.Outcome State Fault Refusal :=
  .next (s.odWrite h 0x7100 0x07 [1#8])

/-- SLEEP_REQUEST 02h (R299). -/
def execSleepRequestOff (h : OdHead) (s : State) : Host.Outcome State Fault Refusal :=
  .next (s.odWrite h 0x7100 0x07 [2#8])

/-- TANSY_CMD 01h (R311, R324). -/
def execDestructiveMarch (h : OdHead) (s : State) : Host.Outcome State Fault Refusal :=
  .next (s.odWrite h 0x8000 0x11 [1#8])

/-- TANSY_CMD 02h (R312, R324). -/
def execPreservingMarch (h : OdHead) (s : State) : Host.Outcome State Fault Refusal :=
  .next (s.odWrite h 0x8000 0x11 [2#8])

/-- TANSY_CMD 03h (R313, R324). -/
def execScrubNow (h : OdHead) (s : State) : Host.Outcome State Fault Refusal :=
  .next (s.odWrite h 0x8000 0x11 [3#8])

/-- TANSY_CMD 04h (R312, R324). -/
def execStopMarch (h : OdHead) (s : State) : Host.Outcome State Fault Refusal :=
  .next (s.odWrite h 0x8000 0x11 [4#8])

/-- REPAIR_CLEAR (R323, R325). -/
def execRepairClear (h : OdHead) (v : Byte) (s : State) : Host.Outcome State Fault Refusal :=
  .next (s.odWrite h 0x8000 0x1F [v])

/-- LOG_CLEAR 01h (R242). -/
def execLogRamClear (h : OdHead) (s : State) : Host.Outcome State Fault Refusal :=
  .next (s.odWrite h 0x9100 0x07 [1#8])

/-- LOG_CLEAR 02h (R242). -/
def execFlashRingErase (h : OdHead) (s : State) : Host.Outcome State Fault Refusal :=
  .next (s.odWrite h 0x9100 0x07 [2#8])

/-- ACTIVATE (R271). -/
def execActivate (h : OdHead) (v : Byte) (s : State) : Host.Outcome State Fault Refusal :=
  .next (s.odWrite h 0xA000 0x08 [v])

/-- COMMIT, with what the fuses of the rollback counter read back (R269, R271, R273, R275). -/
def execCommit (h : OdHead) (v : Byte) (readBack : Bool) (s : State) : Host.Outcome State Fault Refusal :=
  .next (s.arrive h.src readBack (headReq h 2 0xA000 0x09 [v]))

/-- RAM_START (R276, R287). -/
def execRamStart (h : OdHead) (v : Byte) (s : State) : Host.Outcome State Fault Refusal :=
  .next (s.odWrite h 0xA000 0x10 [v])

/-- SWAP (R214). -/
def execSwap (h : OdHead) (v : Byte) (s : State) : Host.Outcome State Fault Refusal :=
  .next (s.odWrite h 0x6000 0x02 [v])

/-- SOURCE (R192, R201). -/
def execSource (h : OdHead) (v : Byte) (s : State) : Host.Outcome State Fault Refusal :=
  .next (s.odWrite h 0x5000 0x01 [v])

/-- EPOCH_BUMP (R195, R201). -/
def execEpochBump (h : OdHead) (v : Byte) (s : State) : Host.Outcome State Fault Refusal :=
  .next (s.odWrite h 0x5000 0x08 [v])

end Sys2Proof.Machine
end

