-- ==== Sys2Proof/Machine/Startup.lean ====
section
/-! DEFINITION. Start-up (R239, R264, R271, R279, R285 to R288, R291): option loading, the boot ROM, clocks, and what
firmware does at each of its starts. -/

namespace Sys2Proof.Machine

open Sys2Proof

/-! ### Release and option loading (R279, R285, R286) -/

/-- DEVICE_RESET_RELEASE: the last source of Device reach is released, and option loading starts. While the debug module
requests a reset of Device reach, that source stays (R278, R279). -/
def execDeviceResetRelease (s : State) : Host.Outcome State Fault Refusal :=
  .next (if s.rst.phase = .held ∧ s.pwr.state ≠ .off ∧ s.rst.debugHold ≠ 3 then s.startLoad else s)

/-- REFCLK_MODE of the CLKM straps (R286, R309). -/
def refclkOf (c : BitVec 2) : Nat := if c = 2#2 then 1 else if c = 1#2 then 2 else 0

/-- OPTION_STATUS: the groups that took fallback values (R284, R285). -/
def fuseStatus (f : FuseLoad) : Nat :=
  natOfBits [!f.trims, f.repairMap.isNone, f.identity.isNone, f.keyHash.isNone]

/-- The options as they load, with the fallback values of R285. What has been fused in the field stands. -/
def UpdSt.loadOptions (u : UpdSt) (f : FuseLoad) : UpdSt :=
  let u := match f.identity with
    | some (serial, rev) => { u with serial := serial, siliconRev := rev }
    | none => { u with serial := 0 }
  let u := { u with factoryMap := f.repairMap.getD [] }
  match f.keyHash with
  | some (h, rollback, lock) =>
    let fused := u.lockFuse == some true || lock
    { u with keyHash := takePad 32 (h.take 32), rollbackFuse := max u.rollbackFuse rollback, factoryLock := fused,
             lockFuse := if fused then some true else u.lockFuse }
  | none => { u with keyHash := zeros 32, factoryLock := true }

/-- The end of option loading: options and straps are taken, role and pair mode are loaded with the default channels of
the role, Yarrow is released, and the array clear begins (R12, R22, R264, R286, R288). -/
def State.optionsLoaded (s : State) (st : Straps) (f : FuseLoad) : State :=
  let s := s.modUpd fun u => u.loadOptions f
  let s := s.modRst fun r =>
    { r with phase := .starting, straps := st, optionStatus := fuseStatus f, roleInUse := r.roleNext }
  let s := s.modTwin fun t => { t with pairInUse := s.rst.pairNext, twinId := st.twinId }
  let s := s.modPwr fun p => { p with refclkMode := refclkOf st.clkm }
  let s := s.modTansy fun t => s.upd.factoryMap.foldl (fun t m => t.mapRow m.1 m.2.1 m.2.2) t
  let s := s.modMem fun m => { m with clearState := 0, cleared := false }
  { s with ch := Vector.ofFn fun (i : Fin 20) => defaultChan s.sender i.val }

/-- OPTION_LOAD_DONE. -/
def execOptionLoadDone (st : Straps) (f : FuseLoad) (s : State) : Host.Outcome State Fault Refusal :=
  .next (if s.rst.phase = .optionLoad then s.optionsLoaded st f else s)

/-! ### The boot ROM (R271, R287, R288, R322) -/

/-- The boot ROM starts the committed image, otherwise the other one where it passes R268, otherwise the loader. -/
def State.startEither (s : State) (readBack : Bool) : State :=
  let c := s.upd.committedSlot
  if s.upd.checkOf c = 0 then s.startCommitted c readBack
  else if s.upd.checkOf (1 - c) = 0 then s.startCommitted (1 - c) readBack
  else s.startLoader

/-- A reset in TRIAL or EXPIRED has run the boot ROM: back to COMMITTED, with event 9003h once what starts can log
(R271). -/
def UpdSt.fallBack (u : UpdSt) : UpdSt := ({ u with state := .committed, lastResult := 2 } : UpdSt).keepCtl

/-- The boot ROM under a strap that boots from flash: the table of R271. -/
def State.bootFlash (s : State) (readBack : Bool) : State :=
  match s.upd.state with
  | .committed => s.startEither readBack
  | .pending =>
    if s.upd.checkOf s.upd.trialSlot = 0 then
      (s.modUpd fun u => ({ u with state := .trial, trialAt := s.now } : UpdSt).keepCtl).startImage s.upd.trialSlot
    else
      (s.modUpd fun u => ({ u with state := .committed, lastResult := 3 } : UpdSt).keepCtl).startEither readBack
  | .trial | .expired => ((s.modUpd UpdSt.fallBack).startEither readBack).log 0x9003 0 8 0

/-- The boot ROM under strap 01b or 10b: its loader. A trial falls back here too (R271, R287). -/
def State.bootLoader (s : State) : State :=
  if s.upd.inTrial then ((s.modUpd UpdSt.fallBack).startLoader).log 0x9003 0 8 0 else s.startLoader

/-- Whether the Stream Buffer subsystem is still held by a source of its reach (R278, R279). -/
def State.sbSourced (s : State) : Bool := decide (s.now < s.rst.sbUntil)

/-- What the boot ROM reads as it starts: the control record, the images with their checks, and after a Device reset the
field repair log (R266, R268, R322). -/
def State.bootReads (s : State) : State :=
  let s := if s.rst.phase = .starting then s.reapplyLog else s
  s.modUpd fun u =>
    let u := u.loadCtl.findImages
    { u with checkA := u.check 0, checkB := u.check 1 }

/-- BOOT: the boot ROM reads the flash; then it starts an image or its loader, by the straps last sampled. `readBack` is what the fuses of the rollback counter read back,
where the start raises it (R269). -/
def execBoot (readBack : Bool) (s : State) : Host.Outcome State Fault Refusal :=
  .next (if !s.yarUp || s.rst.yarBooted || s.yarrowHeld || s.pwr.state == .retention || s.pwr.state == .off then s
    else
      let s := s.bootReads
      let s := if s.rst.straps.boot = 1#2 ∨ s.rst.straps.boot = 2#2 then s.bootLoader else s.bootFlash readBack
      s.modRst fun r => { r with phase := if r.phase = .starting then .booted else r.phase })

/-! ### Firmware (R239, R264, R288, R291) -/

/-- ROLE_NEXT and PAIR_NEXT take the saved values, or the defaults, unless the settings are unreadable (R264). -/
def State.loadCopies (s : State) : State :=
  if s.unreadable then s
  else s.modRst fun r =>
    { r with roleNext := leNat ((s.od.savedVal 0x1200 1).getD [2#8]),
             pairNext := leNat ((s.od.savedVal 0x6000 1).getD [1#8]) }

/-- Whether a copy differs from the value in use. -/
def State.copiesDiffer (s : State) : Bool :=
  s.rst.roleNext != s.rst.roleInUse || s.rst.pairNext != s.twin.pairInUse

/-- Firmware serves: the permit is renewed, and pending repair records are written (R239, R322). -/
def State.serveAgain (s : State) : State :=
  (s.modYar fun y => { y with permit := true, serving := true }).flushPending

/-- Firmware serves after a reset of Yarrow: a mailbox request of the time before gets no response (R238). -/
def State.startServing (s : State) : State := (s.modOd fun o => { o with mbxReq := none }).serveAgain

/-- PLL_SWITCH: with REFCLK reported present, clocks switch to the root PLL and CLKFAIL is armed (R281, R288, R294); what waits
for the PLL starts: the link, Clover, and after Retention the rest of the wake, with a mailbox request that has waited
(R302). -/
def execPllSwitch (s : State) : Host.Outcome State Fault Refusal :=
  .next (if s.ycoreRuns && s.pwr.clkSource == 0 && s.pwr.state == .run && s.yar.refclk then
      let s := s.modPwr fun p => { p with clkSource := 1, pllLocked := true, clkfailArmed := true }
      if s.pwr.waking then s.endWake.serveAgain.servePending
      else (s.applyLinkEnable s.link.enable).startTraining
    else s)

/-- Every SB block is released in the order of R289. -/
def State.releaseBlocks (s : State) : State := s.applyBlockReset (s.rst.blockReset &&& 0x3F0000#32)

/-- Steps 8 to 10 of R288: settings, blocks, stored ENABLE values, ports. A copy of R264 that differs raises SWREQ
instead. -/
def State.firmwareSetup (s : State) : State :=
  let s := s.loadStore.loadCopies
  if s.unreadable = false ∧ s.copiesDiffer = true then (s.log 0x0003 0 4 0).swReset 3
  else
    let s := (s.applyStore.clampLevel).releaseBlocks
    let s := s.modRst fun r => { r with enablesDue := true, startupPending := true, phase := .running, enableCopy := [] }
    let s := s.modMem fun m => { m with descCopy := none }
    let s := s.applyEnables
    (((s.probePort .A).probePort .B).latchStartup).startServing

/-- The start of firmware in the log: event 0001h with the reset cause, and 0002h where an option group took its fallback
values (R235, R285). -/
def State.logStart (s : State) (options : Bool) : State :=
  let s := s.log 0x0001 0 4 s.rst.cause.toNat
  if options && s.rst.optionStatus != 0 then s.log 0x0002 0 8 s.rst.optionStatus else s

/-- FIRMWARE_START: the first start after a Device reset; the Stream Buffer blocks join at this step, once no source holds
them (R279, R288). -/
def execFirmwareStart (s : State) : Host.Outcome State Fault Refusal :=
  .next (if s.rst.phase = .booted ∧ s.ycoreRuns = true ∧ s.yar.loader = false ∧ s.pwr.clkSource = 1 ∧
      s.sbSourced = false then
      (s.logStart true).firmwareSetup
    else s)

/-- YARROW_RESUME: after a Yarrow reset the running values stand, unless an SB block is held (R239, R291). -/
def execYarrowResume (s : State) : Host.Outcome State Fault Refusal :=
  .next (if s.ycoreRuns && !s.yar.serving && !s.yar.loader && s.rst.phase == .running && s.pwr.state == .run &&
      !s.pwr.waking && !s.sbSourced then
      let s := s.logStart false
      if (s.rst.blockReset &&& 0x3FF#32) ≠ 0 then s.firmwareSetup else s.loadStore.startServing
    else s)

/-- SB_RESET_RECOVERY: the running configuration is written back, unsaved values included, and the blocks are released
(R291). -/
def execSbResetRecovery (s : State) : Host.Outcome State Fault Refusal :=
  .next (if s.yar.serving && !s.rst.enableCopy.isEmpty && !s.sbSourced then
      let old := s.rst.enableCopy
      let s := s.modMem fun m => { m with desc := m.descCopy.getD m.desc, descCopy := none }
      let s := (s.modRst fun r => { r with enableCopy := [] }).releaseBlocks
      let s := s.forChans fun n s => s.applyStoredEnable n (old.getD n.val 0)
      (s.probePort .A).probePort .B
    else s)

/-- TRIAL_WINDOW_EXPIRY: the window has elapsed since the start of the trial image, which keeps running (R271). -/
def execTrialWindowExpiry (dt : Nat) (s : State) : Host.Outcome State Fault Refusal :=
  let s := s.advance dt
  .next (if s.upd.state = .trial ∧ s.ycoreRuns = true ∧ s.upd.trialAt + ms (1000 * s.upd.trialWindow) ≤ s.now then
      (s.modUpd fun u => ({ u with state := .expired } : UpdSt).keepCtl).log 0x9002 0 8 s.upd.runningSlot
    else s)

end Sys2Proof.Machine
end

