-- ==== Sys2Proof/Machine/Dispatch.lean ====
section
/-! DEFINITION. One arm per command: each is one direct call of its meaning. -/

namespace Sys2Proof.Machine

open Sys2Proof

/-- The effect of a command on everything but the queue. -/
def exec (i : Instr) (s : State) : Host.Outcome State Fault Refusal :=
  match i with
  | .idle x c => Sys2Proof.Machine.execIdle x c s
  | .data x c => Sys2Proof.Machine.execData x c s
  | .dataLast x nnn c => Sys2Proof.Machine.execDataLast x nnn c s
  | .select x c => Sys2Proof.Machine.execSelect x c s
  | .openPacket x c => Sys2Proof.Machine.execOpenPacket x c s
  | .abort x c => Sys2Proof.Machine.execAbort x c s
  | .frameMarker x first second => Sys2Proof.Machine.execFrameMarker x first second s
  | .tail x c => Sys2Proof.Machine.execTail x c s
  | .reservedWctl x code c => Sys2Proof.Machine.execReservedWctl x code c s
  | .packetCommit n => Sys2Proof.Machine.execPacketCommit n s
  | .deferredTailCommit n => Sys2Proof.Machine.execDeferredTailCommit n s
  | .bankGrant bank reads writes => Sys2Proof.Machine.execBankGrant bank reads writes s
  | .eccWriteBack bank row col => Sys2Proof.Machine.execEccWriteBack bank row col s
  | .nop x c => Sys2Proof.Machine.execNop x c s
  | .read x c op1 => Sys2Proof.Machine.execRead x c op1 s
  | .readp x c => Sys2Proof.Machine.execReadp x c s
  | .peek x c => Sys2Proof.Machine.execPeek x c s
  | .mark x c => Sys2Proof.Machine.execMark x c s
  | .rewind x c => Sys2Proof.Machine.execRewind x c s
  | .releaseToRp x c => Sys2Proof.Machine.execReleaseToRp x c s
  | .releaseToMp x c => Sys2Proof.Machine.execReleaseToMp x c s
  | .flush x c => Sys2Proof.Machine.execFlush x c s
  | .srd x c op1 => Sys2Proof.Machine.execSrd x c op1 s
  | .swr x c op1 op2 => Sys2Proof.Machine.execSwr x c op1 op2 s
  | .sset x c op1 op2 => Sys2Proof.Machine.execSset x c op1 op2 s
  | .sclr x c op1 op2 => Sys2Proof.Machine.execSclr x c op1 op2 s
  | .lock x c => Sys2Proof.Machine.execLock x c s
  | .unlock x c => Sys2Proof.Machine.execUnlock x c s
  | .status x c op1 op2 => Sys2Proof.Machine.execStatus x c op1 op2 s
  | .statusActClear x c op1 op2 => Sys2Proof.Machine.execStatusActClear x c op1 op2 s
  | .statusActMask x c op1 op2 => Sys2Proof.Machine.execStatusActMask x c op1 op2 s
  | .resync x c op1 => Sys2Proof.Machine.execResync x c op1 s
  | .train x c => Sys2Proof.Machine.execTrain x c s
  | .timeget x c => Sys2Proof.Machine.execTimeget x c s
  | .timegetSet x c op1 op2 => Sys2Proof.Machine.execTimegetSet x c op1 op2 s
  | .reservedOpcode x opc c => Sys2Proof.Machine.execReservedOpcode x opc c s
  | .waitingReadDelivery x => Sys2Proof.Machine.execWaitingReadDelivery x s
  | .stallTimeout dt x => Sys2Proof.Machine.execStallTimeout dt x s
  | .drainComplete n => Sys2Proof.Machine.execDrainComplete n s
  | .readIdleTimeout dt n => Sys2Proof.Machine.execReadIdleTimeout dt n s
  | .gateOpen dt n slot => Sys2Proof.Machine.execGateOpen dt n slot s
  | .standinDeadline dt n => Sys2Proof.Machine.execStandinDeadline dt n s
  | .clockAbsent x wclk rclk => Sys2Proof.Machine.execClockAbsent x wclk rclk s
  | .portModeOn h x v => Sys2Proof.Machine.execPortModeOn h x v s
  | .portModeOff h x => Sys2Proof.Machine.execPortModeOff h x s
  | .probeEnd dt x detected z => Sys2Proof.Machine.execProbeEnd dt x detected z s
  | .portRailRestored x => Sys2Proof.Machine.execPortRailRestored x s
  | .linkEnable h v => Sys2Proof.Machine.execLinkEnable h v s
  | .blockLock => Sys2Proof.Machine.execBlockLock s
  | .capsSend => Sys2Proof.Machine.execCapsSend s
  | .caps m cflags trialRate b => Sys2Proof.Machine.execCaps m cflags trialRate b s
  | .capsTimeout dt => Sys2Proof.Machine.execCapsTimeout dt s
  | .trialSwitch dt => Sys2Proof.Machine.execTrialSwitch dt s
  | .trialResult lockHeld errs => Sys2Proof.Machine.execTrialResult lockHeld errs s
  | .trialFailEnd dt => Sys2Proof.Machine.execTrialFailEnd dt s
  | .trialTimeout dt => Sys2Proof.Machine.execTrialTimeout dt s
  | .blockLockLost => Sys2Proof.Machine.execBlockLockLost s
  | .syncHeaderErrors => Sys2Proof.Machine.execSyncHeaderErrors s
  | .noFrameTimeout dt => Sys2Proof.Machine.execNoFrameTimeout dt s
  | .modulePresence present a0 ddm => Sys2Proof.Machine.execModulePresence present a0 ddm s
  | .moduleLos high => Sys2Proof.Machine.execModuleLos high s
  | .moduleDdmRead a2 => Sys2Proof.Machine.execModuleDdmRead a2 s
  | .retrain h v => Sys2Proof.Machine.execRetrain h v s
  | .linkresetSend h v => Sys2Proof.Machine.execLinkresetSend h v s
  | .wakePeer h v => Sys2Proof.Machine.execWakePeer h v s
  | .bluebellEnd dt => Sys2Proof.Machine.execBluebellEnd dt s
  | .idleFrame m type => Sys2Proof.Machine.execIdleFrame m type s
  | .slice m seq wlow ch segf segoff body => Sys2Proof.Machine.execSlice m seq wlow ch segf segoff body s
  | .fstart m seq wlow ch epoch count frame ptsSec ptsNs => Sys2Proof.Machine.execFstart m seq wlow ch epoch count frame ptsSec ptsNs s
  | .ack m ackseq => Sys2Proof.Machine.execAck m ackseq s
  | .nak m nakseq => Sys2Proof.Machine.execNak m nakseq s
  | .pause m bitmap => Sys2Proof.Machine.execPause m bitmap s
  | .sync m t epoch valid => Sys2Proof.Machine.execSync m t epoch valid s
  | .echoReq m id t1 => Sys2Proof.Machine.execEchoReq m id t1 s
  | .echoRsp m id t1 t2 t3 => Sys2Proof.Machine.execEchoRsp m id t1 t2 t3 s
  | .rxreport m no counts => Sys2Proof.Machine.execRxreport m no counts s
  | .linkreset m hdr mac => Sys2Proof.Machine.execLinkreset m hdr mac s
  | .bye m reason => Sys2Proof.Machine.execBye m reason s
  | .frameTxChoice => Sys2Proof.Machine.execFrameTxChoice s
  | .ackDelay dt => Sys2Proof.Machine.execAckDelay dt s
  | .retransmitTimeout dt => Sys2Proof.Machine.execRetransmitTimeout dt s
  | .giveUp dt => Sys2Proof.Machine.execGiveUp dt s
  | .pauseQueue => Sys2Proof.Machine.execPauseQueue s
  | .pauseRepeat dt => Sys2Proof.Machine.execPauseRepeat dt s
  | .pausedExpiry dt => Sys2Proof.Machine.execPausedExpiry dt s
  | .rxreportSend dt => Sys2Proof.Machine.execRxreportSend dt s
  | .echoSetStart dt => Sys2Proof.Machine.execEchoSetStart dt s
  | .echoTimeout dt => Sys2Proof.Machine.execEchoTimeout dt s
  | .syncSend dt => Sys2Proof.Machine.execSyncSend dt s
  | .tokenRefill dt => Sys2Proof.Machine.execTokenRefill dt s
  | .objectRead h index sub data => Sys2Proof.Machine.execObjectRead h index sub data s
  | .objectWrite h index sub data => Sys2Proof.Machine.execObjectWrite h index sub data s
  | .segRead h index sub data => Sys2Proof.Machine.execSegRead h index sub data s
  | .segWrite h index sub data => Sys2Proof.Machine.execSegWrite h index sub data s
  | .segCancel h index sub data => Sys2Proof.Machine.execSegCancel h index sub data s
  | .mgmtScratch h opc area rsv unit operand => Sys2Proof.Machine.execMgmtScratch h opc area rsv unit operand s
  | .mgmtLock h opc slot rsv unit operand => Sys2Proof.Machine.execMgmtLock h opc slot rsv unit operand s
  | .mgmtResponse m seq wlow svc reqseq data mac => Sys2Proof.Machine.execMgmtResponse m seq wlow svc reqseq data mac s
  | .lockoutEnd dt => Sys2Proof.Machine.execLockoutEnd dt s
  | .domainSessionTimeout dt p => Sys2Proof.Machine.execDomainSessionTimeout dt p s
  | .mailboxStatus => Sys2Proof.Machine.execMailboxStatus s
  | .writeReq len image => Sys2Proof.Machine.execWriteReq len image s
  | .readRsp => Sys2Proof.Machine.execReadRsp s
  | .enableActive h n => Sys2Proof.Machine.execEnableActive h n s
  | .enableHold h n => Sys2Proof.Machine.execEnableHold h n s
  | .enableDrain h n => Sys2Proof.Machine.execEnableDrain h n s
  | .enableDisable h n => Sys2Proof.Machine.execEnableDisable h n s
  | .regionDescriptorWrite h m sub v => Sys2Proof.Machine.execRegionDescriptorWrite h m sub v s
  | .scratchAreaWrite h k v => Sys2Proof.Machine.execScratchAreaWrite h k v s
  | .lockForce h v => Sys2Proof.Machine.execLockForce h v s
  | .countClear h index sub v => Sys2Proof.Machine.execCountClear h index sub v s
  | .save h v => Sys2Proof.Machine.execSave h v s
  | .restoreDefaults h v => Sys2Proof.Machine.execRestoreDefaults h v s
  | .storeLock h v => Sys2Proof.Machine.execStoreLock h v s
  | .keyWrite h sub data => Sys2Proof.Machine.execKeyWrite h sub data s
  | .keyLock h v => Sys2Proof.Machine.execKeyLock h v s
  | .factoryLock h v readBack => Sys2Proof.Machine.execFactoryLock h v readBack s
  | .role h v => Sys2Proof.Machine.execRole h v s
  | .pairMode h v => Sys2Proof.Machine.execPairMode h v s
  | .resetRequest h v => Sys2Proof.Machine.execResetRequest h v s
  | .blockReset h v => Sys2Proof.Machine.execBlockReset h v s
  | .sleepRequestRetention h => Sys2Proof.Machine.execSleepRequestRetention h s
  | .sleepRequestOff h => Sys2Proof.Machine.execSleepRequestOff h s
  | .destructiveMarch h => Sys2Proof.Machine.execDestructiveMarch h s
  | .preservingMarch h => Sys2Proof.Machine.execPreservingMarch h s
  | .scrubNow h => Sys2Proof.Machine.execScrubNow h s
  | .stopMarch h => Sys2Proof.Machine.execStopMarch h s
  | .repairClear h v => Sys2Proof.Machine.execRepairClear h v s
  | .logRamClear h => Sys2Proof.Machine.execLogRamClear h s
  | .flashRingErase h => Sys2Proof.Machine.execFlashRingErase h s
  | .activate h v => Sys2Proof.Machine.execActivate h v s
  | .commit h v readBack => Sys2Proof.Machine.execCommit h v readBack s
  | .ramStart h v => Sys2Proof.Machine.execRamStart h v s
  | .swap h v => Sys2Proof.Machine.execSwap h v s
  | .source h v => Sys2Proof.Machine.execSource h v s
  | .epochBump h v => Sys2Proof.Machine.execEpochBump h v s
  | .lockReq machine v => Sys2Proof.Machine.execLockReq machine v s
  | .bankCopyStart machine v => Sys2Proof.Machine.execBankCopyStart machine v s
  | .memoryWindowAccess machine addr op => Sys2Proof.Machine.execMemoryWindowAccess machine addr op s
  | .watchdogKick machine period => Sys2Proof.Machine.execWatchdogKick machine period s
  | .ydmaDescriptor machine k index => Sys2Proof.Machine.execYdmaDescriptor machine k index s
  | .ydmaResume machine k => Sys2Proof.Machine.execYdmaResume machine k s
  | .ydmaSkip machine k => Sys2Proof.Machine.execYdmaSkip machine k s
  | .ydmaAbort machine k => Sys2Proof.Machine.execYdmaAbort machine k s
  | .arrayClearDone => Sys2Proof.Machine.execArrayClearDone s
  | .marchDone faults => Sys2Proof.Machine.execMarchDone faults s
  | .preservingMarchDone faults reached => Sys2Proof.Machine.execPreservingMarchDone faults reached s
  | .scrubPass dt => Sys2Proof.Machine.execScrubPass dt s
  | .repairStart => Sys2Proof.Machine.execRepairStart s
  | .rowCopyDone bank => Sys2Proof.Machine.execRowCopyDone bank s
  | .bankSwitch => Sys2Proof.Machine.execBankSwitch s
  | .slewEnd dt => Sys2Proof.Machine.execSlewEnd dt s
  | .holdoverStart dt => Sys2Proof.Machine.execHoldoverStart dt s
  | .holdoverExpiry dt => Sys2Proof.Machine.execHoldoverExpiry dt s
  | .cloverUp latency => Sys2Proof.Machine.execCloverUp latency s
  | .cloverDown => Sys2Proof.Machine.execCloverDown s
  | .cloverStatus m role mode id joinBlock digest fwVersion => Sys2Proof.Machine.execCloverStatus m role mode id joinBlock digest fwVersion s
  | .hold m bitmap => Sys2Proof.Machine.execHold m bitmap s
  | .standin m ch history cause slice frame => Sys2Proof.Machine.execStandin m ch history cause slice frame s
  | .atomic m issuer opc area rstat unit prior new cseq => Sys2Proof.Machine.execAtomic m issuer opc area rstat unit prior new cseq s
  | .refusal m ch wseq why => Sys2Proof.Machine.execRefusal m ch wseq why s
  | .portEvent m x event seq => Sys2Proof.Machine.execPortEvent m x event seq s
  | .cloverCopy m ch segf segoff data => Sys2Proof.Machine.execCloverCopy m ch segf segoff data s
  | .cloverTime m t epoch valid => Sys2Proof.Machine.execCloverTime m t epoch valid s
  | .snap m part total d => Sys2Proof.Machine.execSnap m part total d s
  | .handover m counts => Sys2Proof.Machine.execHandover m counts s
  | .joinReq m => Sys2Proof.Machine.execJoinReq m s
  | .chainData m ch segf segoff data => Sys2Proof.Machine.execChainData m ch segf segoff data s
  | .chainCredit m credits mseqAck => Sys2Proof.Machine.execChainCredit m credits mseqAck s
  | .chainPort m ports chans => Sys2Proof.Machine.execChainPort m ports chans s
  | .cloverStatusPeriod dt => Sys2Proof.Machine.execCloverStatusPeriod dt s
  | .holdPeriod dt => Sys2Proof.Machine.execHoldPeriod dt s
  | .cloverTimePeriod dt => Sys2Proof.Machine.execCloverTimePeriod dt s
  | .joinReqPeriod dt => Sys2Proof.Machine.execJoinReqPeriod dt s
  | .chainCreditPeriod dt => Sys2Proof.Machine.execChainCreditPeriod dt s
  | .heartbeatStop => Sys2Proof.Machine.execHeartbeatStop s
  | .heartbeatLoss => Sys2Proof.Machine.execHeartbeatLoss s
  | .partnerAbsent => Sys2Proof.Machine.execPartnerAbsent s
  | .latchAcquire => Sys2Proof.Machine.execLatchAcquire s
  | .cloverLost => Sys2Proof.Machine.execCloverLost s
  | .joinComplete => Sys2Proof.Machine.execJoinComplete s
  | .portEventMismatch dt => Sys2Proof.Machine.execPortEventMismatch dt s
  | .chainPartnerFault => Sys2Proof.Machine.execChainPartnerFault s
  | .performanceGovernor dt => Sys2Proof.Machine.execPerformanceGovernor dt s
  | .thermalCap dt => Sys2Proof.Machine.execThermalCap dt s
  | .vcoreSettled => Sys2Proof.Machine.execVcoreSettled s
  | .aonThermalTrip => Sys2Proof.Machine.execAonThermalTrip s
  | .currentLimit present => Sys2Proof.Machine.execCurrentLimit present s
  | .currentLimitClear dt => Sys2Proof.Machine.execCurrentLimitClear dt s
  | .brownOutMargin vin => Sys2Proof.Machine.execBrownOutMargin vin s
  | .marginRecovery dt => Sys2Proof.Machine.execMarginRecovery dt s
  | .ctleAdapt dt up newEye => Sys2Proof.Machine.execCtleAdapt dt up newEye s
  | .sensorSample dt r => Sys2Proof.Machine.execSensorSample dt r s
  | .serdesRailRetry dt linkOk cloverOk => Sys2Proof.Machine.execSerdesRailRetry dt linkOk cloverOk s
  | .dozeEntry dt => Sys2Proof.Machine.execDozeEntry dt s
  | .dozeExit => Sys2Proof.Machine.execDozeExit s
  | .sleepEntry dt => Sys2Proof.Machine.execSleepEntry dt s
  | .e1Timeout dt => Sys2Proof.Machine.execE1Timeout dt s
  | .retentionWake dt w => Sys2Proof.Machine.execRetentionWake dt w s
  | .offWake w => Sys2Proof.Machine.execOffWake w s
  | .pwrdnFall => Sys2Proof.Machine.execPwrdnFall s
  | .powerDownClamp dt => Sys2Proof.Machine.execPowerDownClamp dt s
  | .pwrdnRise => Sys2Proof.Machine.execPwrdnRise s
  | .por => Sys2Proof.Machine.execPor s
  | .bor => Sys2Proof.Machine.execBor s
  | .pin width => Sys2Proof.Machine.execPin width s
  | .watchdogBite dt => Sys2Proof.Machine.execWatchdogBite dt s
  | .dbgreq request => Sys2Proof.Machine.execDbgreq request s
  | .clkfail => Sys2Proof.Machine.execClkfail s
  | .lockup => Sys2Proof.Machine.execLockup s
  | .deviceResetRelease => Sys2Proof.Machine.execDeviceResetRelease s
  | .optionLoadDone st f => Sys2Proof.Machine.execOptionLoadDone st f s
  | .boot readBack => Sys2Proof.Machine.execBoot readBack s
  | .pllSwitch => Sys2Proof.Machine.execPllSwitch s
  | .firmwareStart => Sys2Proof.Machine.execFirmwareStart s
  | .yarrowResume => Sys2Proof.Machine.execYarrowResume s
  | .sbResetRecovery => Sys2Proof.Machine.execSbResetRecovery s
  | .escalationWindowEnd dt => Sys2Proof.Machine.execEscalationWindowEnd dt s
  | .trialWindowExpiry dt => Sys2Proof.Machine.execTrialWindowExpiry dt s
  | .partnerPresent => Sys2Proof.Machine.execPartnerPresent s
  | .returnBusBeat x b rpar rqs => Sys2Proof.Machine.execReturnBusBeat x b rpar rqs s
  | .busOwnNFall => Sys2Proof.Machine.execBusOwnNFall s
  | .invariantBroken n => Sys2Proof.Machine.execInvariantBroken n s
  | .scrubPassComplete faults => Sys2Proof.Machine.execScrubPassComplete faults s
  | .sramScrub dt corrected => Sys2Proof.Machine.execSramScrub dt corrected s

end Sys2Proof.Machine
end

