-- ==== Sys2Proof/Machine/Idle.lean ====
section
/-! DEFINITION. What the block does of itself while no command waits. -/

namespace Sys2Proof.Machine

open Sys2Proof

/-- A step on an empty queue: one period of 1.25 ns passes, the log's append in progress is finished (R236), a flash or fuse
step of firmware ends or a waiting request is served (R248, R269), the next part of a snapshot leaves (R217), and STATUS
tells the partner what has changed (R204). -/
def State.tick (s : State) : State := (((s.advance 1).commitLog.serviceStep).sendSnap).statusAnew

end Sys2Proof.Machine
end

