-- ==== Sys2Proof/Machine/Pins.lean ====
section
/-! DEFINITION. The states of the pins (R292, R304), as the state of the machine gives them. -/

namespace Sys2Proof.Machine

open Sys2Proof

/-- The groups of R292 whose state changes; a port's pins are named by their port. The port outputs are two groups, since the two devices of
a Chain pair share them: `portOutputs` holds the return bus with RPAE_x, `portHolds` WHOLD_x and WPAF_x (R219). -/
inductive PinGroup where
  | portInputs (x : Port)
  | portOutputs (x : Port)
  | portHolds (x : Port)
  | attn (x : Port)
  | busOwn
  | irq
  | moduleTwi
  | linkTx
  | cloverTx
  | linkRx
  | cloverRx
  | refclk
  | moduleTxdis
  | heartbeat
  | inputs
  | trst
  | flash
  | serialOut
  deriving DecidableEq, Repr

/-- What a pin does. -/
inductive PinState where
  | pullUp
  | pullDown
  | highZ
  | released
  | low
  | driven
  | electricalIdle
  | receiving
  | terminated
  deriving DecidableEq, Repr

/-- The groups whose pads are fed by VDDIO_M: management, JTAG, strap and module pins (R327, R331). -/
def PinGroup.onMgmtRail : PinGroup → Bool
  | .busOwn | .irq | .moduleTwi | .moduleTxdis | .heartbeat | .inputs | .trst | .flash | .serialOut => true
  | .portInputs _ | .portOutputs _ | .portHolds _ | .attn _ | .linkTx | .cloverTx | .linkRx | .cloverRx | .refclk => false

/-- An open-drain pin, which the clamp releases (R304). -/
def openDrain (pulls : Bool) : PinState := if pulls then .low else .released

/-- A group of port outputs: high impedance without the port's rail or where this device does not drive it, weak pull-up under reset, in
OFF and under the clamp (R206, R219, R292, R304, R328). -/
def State.outputPin (s : State) (x : Port) (drives : Bool) : PinState :=
  if (s.port x).rail = false then .highZ
  else if s.pwr.clamp = true ∨ s.portPins x = false then .pullUp
  else if drives then .driven else .highZ

/-- The state of a group of pins (R292, R304, R328). A management interface drives SDO or TDO only inside a transaction, and a
transaction is no longer than a step here. -/
def State.pinState (s : State) (g : PinGroup) : PinState :=
  if !s.pwr.mgmtRail && g.onMgmtRail then .highZ
  else match g with
  | .portInputs x =>
    if (s.port x).rail = false then .highZ else if s.portPins x then .terminated else .pullUp
  | .portOutputs x => s.outputPin x s.drives
  | .portHolds x => s.outputPin x (if s.twin.pairInUse = 2 then s.chainHalf false else s.twin.own)
  | .attn x => if (s.port x).rail = false then .highZ else openDrain (s.attnLow x)
  | .busOwn => openDrain (s.twin.own && !s.pwr.clamp)
  | .irq => openDrain s.irqLow
  | .moduleTwi => .released
  | .linkTx => if s.link.rail = false then .highZ else if s.link.state = .off then .electricalIdle else .driven
  | .cloverTx => if s.twin.rail = false then .highZ else if s.twin.cloverState = 0 then .electricalIdle else .driven
  | .linkRx => if s.link.state = .off then .highZ else .receiving
  | .cloverRx => if s.twin.cloverState = 0 then .highZ else .receiving
  | .refclk => if s.pwr.clkSource = 1 then .receiving else .highZ
  | .moduleTxdis => if s.blockUp 3 = true ∧ s.pwr.clamp = false then .driven else .pullUp
  | .heartbeat => if s.twin.started then .driven else .pullUp
  | .inputs => .pullUp
  | .trst => .pullDown
  | .flash => if s.rst.yarBooted = true ∧ s.blockUp 17 = true ∧ s.pwr.clamp = false then .driven else .pullUp
  | .serialOut => .highZ

end Sys2Proof.Machine
end

