-- ==== Sys2Proof/Safety.lean ====
section
/-! DEFINITION. The terms that statements about the block use: a command that completes with a given effect, the
conditions under which each interface takes a command, and the invariant of the memories. -/

namespace Sys2Proof.Machine

open Sys2Proof

/-- Command `c` in state `s` answers a next state, and `post` holds of that state. -/
def Completes (c : Instr) (s : State) (post : State → Prop) : Prop :=
  ∃ t, exec c s = .next t ∧ post t

/-! ### The write side (R130 to R133) -/

/-- Port `x` takes write-side cycles, and no snapshot that arrives keeps them for its end (R216). -/
abbrev Sampling (x : Port) (s : State) : Prop := s.writeOn x = true ∧ s.joinHolds = false

/-- A write-side cycle of code `wctl` reaches the selected channel `n` of port `x`: the port takes cycles, the parity
is right, write refusal is not in force, no snapshot has left cycles aside, no FRAME cycle waits for its second, and `n` is
selected. -/
abbrev WriteTaken (x : Port) (wctl : BitVec 5) (c : WCyc) (n : Fin 20) (s : State) : Prop :=
  Sampling x s ∧ c.parityOk wctl = true ∧ (s.port x).writeRefusal = false ∧ (s.port x).joinSkip = false ∧
  (s.port x).frameFirst = none ∧ (s.port x).wsel = some n

/-- Nothing stands in the way of the frame of a write-side cycle on the selected channel `n`: Clover is not up, no bank is
being copied, no fence entry of `n` is deferred, and link egress has no header of `n` to pass over. -/
abbrev WriteSettled (x : Port) (n : Fin 20) (s : State) : Prop :=
  s.twin.cloverState ≠ 2 ∧ s.tansy.copy = none ∧ (s.port x).wsel = some n ∧ (s.chan n).deferred = [] ∧
  s.headerCut n = false

/-- What a write-side cycle of port `x` on its selected channel `n` leaves as it was: every other channel, the other port
but for its attention, the link, the ARQ, TIME, the dictionary, the update state, the resets, Yarrow and Tansy. -/
abbrev WriteKeeps (x : Port) (n : Fin 20) (s t : State) : Prop :=
  (∀ m : Fin 20, m ≠ n → t.chan m = s.chan m) ∧
  t.port (otherPort x) = { s.port (otherPort x) with attnCause := (t.port (otherPort x)).attnCause,
                                                     attnChannels := (t.port (otherPort x)).attnChannels } ∧
  t.link = s.link ∧ t.arq = s.arq ∧ t.time = s.time ∧ t.od = s.od ∧ t.upd = s.upd ∧ t.rst = s.rst ∧ t.yar = s.yar ∧
  t.tansy = s.tansy

/-- The physical words that a cycle on channel `n` may store: the place of WP and the one after it, fenced words passed over,
and the header's place of the open packet (R44, R61, R62). -/
def State.writePlaces (s : State) (n : Fin 20) : List Nat :=
  let c := s.chan n
  let fs := s.fenced n
  let next := skipFenced c.s fs fs.length (step1 c.s (s.writeSlot n))
  (s.writeSlot n :: next :: (c.pkt.map (·.slot)).toList).map fun p => s.phys (c.locAt p.off)

/-- Channel `n` is an active channel of class `cls` that port `x` writes. -/
abbrev WritesTo (x : Port) (n : Fin 20) (cls : Cls) (s : State) : Prop :=
  (s.chan n).cfg.cls = cls ∧ (s.chan n).cfg.producer = End.ofPort x ∧ (s.chan n).state = .active

/-- Whatever deferred entry takes effect, CAPACITY stays at 128 or more (R43, R46). -/
abbrev Roomy (n : Fin 20) (s : State) : Prop := 128 ≤ (s.chan n).s - (fenceOffsets s.tansy.fences (s.chan n)).length

/-- No channel can fault with CAPACITY as LP moves: none has a deferred entry, or it is roomy (R43, R46). -/
abbrev AllRoomy (s : State) : Prop := ∀ n : Fin 20, (s.chan n).deferred = [] ∨ Roomy n s

/-- The channel that port `x` has selected for writing, if any, is roomy. -/
abbrev SelectionRoomy (x : Port) (s : State) : Prop := ∀ n : Fin 20, (s.port x).wsel = some n → Roomy n s

/-- The channel engine has nothing left to do for channel `n`: the automatic release leaves it as it is (R99, R118), and
no fence entry is deferred (R43). -/
abbrev Released (n : Fin 20) (s : State) : Prop := (s.autoRelease n).chan n = s.chan n ∧ (s.chan n).deferred = []

/-! ### The read side (R134 to R137) -/

/-- What the read side of a port samples of a command: its port, its opcode, the command cycle and the operand cycles (R134, R135). -/
def asCommand : Instr → Option (Port × BitVec 5 × RCmd × W32 × W32)
  | .nop x c => some (x, 0, c, 0, 0)
  | .read x c op1 => some (x, 1, c, op1, 0)
  | .readp x c => some (x, 2, c, 0, 0)
  | .peek x c => some (x, 3, c, 0, 0)
  | .mark x c => some (x, 4, c, 0, 0)
  | .rewind x c => some (x, 5, c, 0, 0)
  | .releaseToRp x c | .releaseToMp x c => some (x, 6, c, 0, 0)
  | .flush x c => some (x, 7, c, 0, 0)
  | .srd x c op1 => some (x, 8, c, op1, 0)
  | .swr x c op1 op2 => some (x, 9, c, op1, op2)
  | .sset x c op1 op2 => some (x, 10, c, op1, op2)
  | .sclr x c op1 op2 => some (x, 11, c, op1, op2)
  | .lock x c => some (x, 12, c, 0, 0)
  | .unlock x c => some (x, 13, c, 0, 0)
  | .status x c op1 op2 | .statusActClear x c op1 op2 | .statusActMask x c op1 op2 => some (x, 14, c, op1, op2)
  | .resync x c op1 => some (x, 15, c, op1, 0)
  | .train x c => some (x, 16, c, 0, 0)
  | .timeget x c => some (x, 17, c, 0, 0)
  | .timegetSet x c op1 op2 => some (x, 17, c, op1, op2)
  | .reservedOpcode x opc c => some (x, opc, c, 0, 0)
  | _ => none

/-- A read-side command passes the decoder of a READY port that has no other command, and is executed at once: parity
and CSEQ are right, and steps 6 to 8 of R136 refuse nothing. The device drives the return bus. -/
abbrev CmdTaken (x : Port) (opc : BitVec 5) (c : RCmd) (op1 op2 : W32) (s : State) : Prop :=
  (s.port x).state = .ready ∧ s.chainHalf false = false ∧ s.shadows = false ∧ s.drives = true ∧
  (s.port x).q = [] ∧ cmdParityOk opc c op1 op2 = true ∧ c.cseq = (s.port x).expCseq ∧
  s.precheck x opc c op1 op2 = none

/-- The beats that carry words with their VB, all with OK, the last with RLAST (R138). -/
def okBeats (tag : Nat) : List (List Byte × Nat) → List Beat
  | [] => []
  | [w] => [{ tag := tag, last := true, stat := 0, vb := w.2, data := w.1 }]
  | w :: ws => { tag := tag, last := false, stat := 0, vb := w.2, data := w.1 } :: okBeats tag ws

/-- The port's answer to a command is one beat with OK for each of `ws`, and the command is retired. -/
abbrev AnswersWords (x : Port) (c : RCmd) (ws : List (List Byte × Nat)) (s t : State) : Prop :=
  (t.port x).ret = (s.port x).ret ++ okBeats c.tag.toNat ws ∧ (t.port x).q = [] ∧
  (t.port x).lastCompleted = c.cseq ∧ (t.port x).expCseq = c.cseq + 1

/-- The port's answer to a command is the beat `b`, the last of the command, and the command is retired. -/
abbrev Answers (x : Port) (c : RCmd) (b : Beat) (s t : State) : Prop :=
  (t.port x).ret = (s.port x).ret ++ [b] ∧ (t.port x).q = [] ∧ (t.port x).lastCompleted = c.cseq ∧
  (t.port x).expCseq = c.cseq + 1

/-- A command on channel `c.ch` = `n` that port `x` consumes, in a state where the channel's checks pass (R46, R95). -/
abbrev Consumes (x : Port) (c : RCmd) (n : Fin 20) (s : State) : Prop :=
  chanOf c.ch.toNat = some n ∧ (s.chan n).cfg.consumer = End.ofPort x ∧ (s.chan n).state = .active ∧
  s.dirRead n = false ∧ Roomy n s

/-- MARK, REWIND, RELEASE and FLUSH of port `x` act on channel `n`: ring-read and consumed by the port, in a state in which they act as
ever (R50, R95, R101). -/
abbrev Commands (x : Port) (c : RCmd) (n : Fin 20) (s : State) : Prop :=
  chanOf c.ch.toNat = some n ∧ (s.chan n).cfg.consumer = End.ofPort x ∧
  ((s.chan n).state = .active ∨ (s.chan n).state = .held ∨ (s.chan n).state = .draining) ∧
  s.dirRead n = false ∧ Roomy n s

/-- The place of the word that RP of channel `n` reaches, fenced words passed over (R44). -/
def State.atRp (s : State) (n : Fin 20) : Ptr :=
  skipFenced (s.chan n).s (s.fenced n) (s.fenced n).length (s.chan n).rp

/-- The stored word that RP of channel `n` reaches. -/
def State.wordAtRp (s : State) (n : Fin 20) : WordRd :=
  readWordAt s.mem (s.phys ((s.chan n).locAt (s.atRp n).off))

/-- The stored words from `p` on, `k` of them, fenced words passed over (R44). -/
def State.wordsFrom (s : State) (n : Fin 20) : Nat → Ptr → List WordRd
  | 0, _ => []
  | k + 1, p =>
    let p := skipFenced (s.chan n).s (s.fenced n) (s.fenced n).length p
    readWordAt s.mem (s.phys ((s.chan n).locAt p.off)) :: s.wordsFrom n k (step1 (s.chan n).s p)

/-- The words of a packet of payload length `len` as delivered: the first with `head`, each with its VB (R65, R69). -/
def packetWords (ws : List WordRd) (len : Nat) (head : List Byte → List Byte) : List (List Byte × Nat) :=
  match ws.map (·.data) with
  | [] => []
  | d :: ds => (head d :: ds).zip (List.replicate ds.length 0 ++ [(16 + len) % 32])

/-- Channel `n` is an active Slice channel read through its directory by port `x`; the next READP finds entry `k` of record
`i`, which is PRESENT as `e` with a sound directory entry and readable words, and no stand-in is announced for it (R121). -/
abbrev SlicePresent (x : Port) (n : Fin 20) (i : Fin 3) (k : Nat) (e : SliceEntry) (s : State) : Prop :=
  s.dirRead n = true ∧ (s.chan n).cfg.consumer = End.ofPort x ∧ (s.chan n).state = .active ∧ Roomy n s ∧
  s.nextSlice n = some (i, k) ∧ ((s.chan n).record i).state = .reading ∧
  ((s.chan n).record i).entry k = some e ∧ e.present = true ∧ e.flips = 0 ∧
  s.announcedStandin n k ((s.chan n).record i).frame = none ∧
  (s.wordsFrom n (pktWords e.len) e.start).all (fun w => !w.bad) = true

/-- The words of a slice as a directory-read channel delivers it: HF keeps bit 3 and shows LATEFRAME, PSEQ is the next
(R65, R66, R121). -/
def State.sliceDelivered (s : State) (n : Fin 20) (i : Fin 3) (e : SliceEntry) : List (List Byte × Nat) :=
  packetWords (s.wordsFrom n (pktWords e.len) e.start) e.len fun d =>
    withPseq (d.take 3 ++ [BitVec.ofNat 8 ((d.getD 3 0).toNat &&& 8 ||| (if ((s.chan n).record i).late then 4 else 0))] ++
      d.drop 4) (s.chan n).nextPseq

/-- The word of unit `unit` of scratch area `area` (R29, R30). -/
def State.scratchWord (s : State) (area unit : Nat) : Nat :=
  areaBase (s.mem.areas.toList.getD area 0) * 128 + unit / 8

/-- Master `m` may read, or with `write` write, unit `unit` of the enabled scratch area `area`, and the unit's lane is
readable (R18, R26, R30). -/
abbrev ScratchReady (m : Fin 6) (write : Bool) (area unit : Nat) (s : State) : Prop :=
  let p := s.scratchWord area unit
  s.blockUp 0 = true ∧ areaOn (s.mem.areas.toList.getD area 0) = true ∧ unit < areaSize (s.mem.areas.toList.getD area 0) * 1024 ∧
  s.allowed m (p / 128) write = true ∧ s.fencedAt (s.placeOf p) = false ∧
  (readWordAt s.mem (s.phys (s.placeOf p))).lane (unit % 8 / 2) ≠ .uncorr

/-- The value that a unit of a scratch area holds (R31). -/
def State.scratchUnit (s : State) (area unit : Nat) : Nat :=
  leField (readWordAt s.mem (s.phys (s.placeOf (s.scratchWord area unit)))).data (4 * (unit % 8)) 4

/-! ### Requests (R244 to R247) -/

/-- A request of service 01h passes steps 3 to 9 of R247. -/
def State.checksPass (s : State) (p : Path) (r : Req) : Bool :=
  match r.ask with
  | .od o => s.odCheck p r.keysel o == 0
  | _ => false

/-- A request from the mailbox for this device reaches firmware, whose service is free (R248, R255). -/
abbrev Attended (h : OdHead) (s : State) : Prop :=
  h.src = .mailbox ∧ h.addr = 0 ∧ s.mailboxUp = true ∧ s.od.mbxReq = none ∧ s.yar.serving = true ∧
  s.yar.loader = false ∧ s.od.task = none ∧ s.od.queue = []

/-- A request of service 01h from the mailbox reaches firmware and passes every check of R247 up to step 9. -/
abbrev OdServed (h : OdHead) (op index sub : Nat) (data : List Byte) (s : State) : Prop :=
  Attended h s ∧ s.od.mailbox.judge h.reqseq = .run ∧ s.checksPass .mailbox (headReq h op index sub data) = true

/-- The request of the mailbox has begun a flash or fuse step, which holds the service; it has no response yet (R248). -/
abbrev Begun (k : TaskKind) (s t : State) : Prop :=
  (∃ x : Task, t.od.task = some x ∧ x.kind = k ∧ x.path = .mailbox) ∧ t.od.mailbox = s.od.mailbox ∧
  t.od.mbxRsp = s.od.mbxRsp

/-- Firmware serves and nothing is commanded; the flash or fuse step `k` of a mailbox request holds the service. -/
abbrev Ending (k : TaskKind) (image : List Byte) (s : State) : Prop :=
  s.pending = [] ∧ s.yar.serving = true ∧ s.upd.raising = none ∧ s.od.task = some ⟨k, .mailbox, image, none⟩

/-- The step of a mailbox request has ended with abort code `code`, and its request is completed (R248, R253). -/
abbrev Ended (image : List Byte) (code : Nat) (t : State) : Prop :=
  t.od.task = none ∧ t.od.mailbox.last = some (parseImage image).reqseq ∧ t.od.mailbox.lastAbort = code

/-- The request was executed with abort code `code`: LAST and its code are recorded (R253), and a response waits in the
mailbox where the block that holds it runs (R255). -/
abbrev Recorded (h : OdHead) (code : Nat) (t : State) : Prop :=
  t.od.mailbox.last = some h.reqseq ∧ t.od.mailbox.lastAbort = code ∧ t.od.mbxRsp.isSome = true

/-! ### The link (R155, R165) -/

/-- A frame that passes every check of R155 arrives at a running receiver. -/
abbrev FrameTaken (m : RxMeta) (blen : Nat) (s : State) : Prop :=
  s.linkHears = true ∧ m.delimited = true ∧ m.lengthOk = true ∧ m.crcOk = true ∧ blen ≤ 9216

/-- A frame that passes every check of R155 arrives while the link is UP. -/
abbrev RxTaken (m : RxMeta) (blen : Nat) (s : State) : Prop := FrameTaken m blen s ∧ s.linkUp = true

/-- The transmitter is free for reliable frames: the link is UP on a running clock, no BYE is out, no strict frame waits (R172, R177). -/
abbrev TxFree (s : State) : Prop :=
  s.linkUp = true ∧ s.pwr.clkSource = 1 ∧ s.clocked = true ∧ s.link.byeIdle = false ∧ s.link.strict = []

/-- What every new reliable frame does: it leaves as `g` under the next sequence number, without RETX, and is the newest of the window
(R154, R164). -/
abbrev SentReliable (g : TxFrame) (s t : State) : Prop :=
  t.link.sent = s.link.sent ++ [g] ∧ g.flags = 0 ∧ g.seq = s.arq.nextSeq ∧ t.arq.nextSeq = (s.arq.nextSeq + 1) % 65536 ∧
  t.arq.window.map (·.seq) = s.arq.window.map (·.seq) ++ [s.arq.nextSeq]

/-- What every retransmission of the window's entry `e` does: it leaves as `g` under its own sequence number, with RETX and the window's
oldest number, and the window stays (R156, R167). -/
abbrev SentAgain (e : WinEntry) (g : TxFrame) (s t : State) : Prop :=
  t.link.sent = s.link.sent ++ [g] ∧ g.flags = 1 ∧ g.wlow = (s.arq.window.head?.map (·.seq)).getD e.seq ∧
  t.arq.nextSeq = s.arq.nextSeq ∧ t.arq.window.map (·.seq) = s.arq.window.map (·.seq) ∧
  t.arq.retx = s.arq.retx.filter (· ≠ e.seq) ∧ t.arq.retxFrames = inc32 s.arq.retxFrames

/-- The words of a segment in delivered form: the first word of a packet carries its PSEQ (R65, R158). -/
def segmentForm (ws : List WordRd) (first : Bool) (pseq : Nat) : List (List Byte) :=
  match first, ws.map (·.data) with
  | true, d :: ds => withPseq d pseq :: ds
  | _, ds => ds

/-- How far the sequence number `b` lies after `a`, modulo 65,536. -/
abbrev seqDist (a b : Nat) : Nat := (b + 65536 - a % 65536) % 65536

/-- A frame accepted ahead of its turn would keep EXP where it is: within the window after it, and not yet received (R165). -/
abbrev AheadOfTurn (seq wlow : Nat) (s : State) : Prop :=
  serialAfter 16 wlow s.arq.exp = false ∧ serialAfter 16 s.arq.exp seq = false ∧ s.arq.rxGot.contains seq = false ∧
  seq ≠ s.arq.exp ∧ (seq + 65536 - s.arq.exp) % 65536 ≤ 1023

/-- SLICE frames of channel number `ch` go to channel `n`, which takes them as they come: active, fed by the link, not shadowed,
unpoliced, with no refusal going on and no fence entry deferred (R159, R185). -/
abbrev Ingests (ch : Nat) (n : Fin 20) (s : State) : Prop :=
  chanOf ch = some n ∧ s.rowMisrouted n = false ∧ (s.chan n).state = .active ∧ (s.chan n).copyGap = false ∧
  s.shadows = false ∧ (s.chan n).refusing = false ∧ (s.chan n).deferred = []

/-- The same of a packet channel that is not policed. -/
abbrev IngestsPacket (ch : Nat) (n : Fin 20) (s : State) : Prop :=
  Ingests ch n s ∧ (s.chan n).cfg.cls ≠ .raw ∧ s.policed n = false ∧ (s.chan n).pol.segDrop = 0

/-- The same of a raw channel. -/
abbrev IngestsRaw (ch : Nat) (n : Fin 20) (s : State) : Prop := Ingests ch n s ∧ (s.chan n).cfg.cls = .raw

/-- What an entry holds: the fixed names of the identity, and the settings, states and counters that stand in one field of the state (R7,
R21, R37, R89, R151, R174 to R176, R183, R190, R201, R222, R240, R242, R261 to R264, R276, R284, R308, R309). -/
def State.entryValue (s : State) (index sub : Nat) : Option (List Byte) :=
  match index with
  | 0x1000 =>
    match sub with
    | 1 => some ([0x44#8, 0x61#8, 0x6C#8, 0x72#8, 0x65#8, 0x78#8])
    | 2 => some (leBytes 0x2010 2)
    | 4 => some (leBytes s.upd.serial 8)
    | _ => none
  | 0x1010 =>
    match sub with
    | 5 => some (leBytes (bnat s.od.keyLock) 1)
    | 8 => some (leBytes s.od.authFail 4)
    | 9 => some (leBytes s.od.seqReject 4)
    | 0x0A => some (leBytes s.od.bootNonce 4)
    | 0x0B => some (leBytes s.od.dupReq 4)
    | 0x0C => some (leBytes s.od.lockouts 4)
    | 0x0F => some (leBytes s.od.mbxRejected 4)
    | _ => none
  | 0x1100 =>
    match sub with
    | 3 => some (leBytes (bnat s.od.storeLock) 1)
    | 4 => some (leBytes s.od.storeState 1)
    | 5 => some (leBytes s.od.saveCount 4)
    | 6 => some (leBytes s.od.storedSchema 2)
    | _ => none
  | 0x1200 =>
    match sub with
    | 1 => some (leBytes s.rst.roleNext 1)
    | 2 => some (leBytes s.rst.roleInUse 1)
    | _ => none
  | 0x2300 =>
    match sub with
    | 1 => some (leBytes s.mem.areas[0].toNat 4)
    | 4 => some (leBytes s.mem.areas[3].toNat 4)
    | 0x14 => some (leBytes s.mem.lockBroken 4)
    | _ => none
  | 0x3000 =>
    match sub with
    | 1 => some (leBytes s.pA.mode 1)
    | 2 => some (leBytes s.pA.odt 1)
    | 3 => some (leBytes s.pA.wcapDelay 1)
    | 4 => some (leBytes s.pA.rqsDelay 1)
    | 0x20 => some (leBytes s.pA.attnMask.toNat 4)
    | _ => none
  | 0x3010 =>
    match sub with
    | 1 => some (leBytes s.pA.state.code 1)
    | 2 => some (leBytes s.pA.probe 1)
    | 3 => some (leBytes s.pA.odtInUse 1)
    | 7 => some (leBytes s.pA.expCseq.toNat 1)
    | 8 => some (leBytes s.pA.lastAccepted.toNat 1)
    | 9 => some (leBytes s.pA.lastCompleted.toNat 1)
    | 0x0A => some (leBytes s.pA.expWseq.toNat 1)
    | 0x10 => some (leBytes s.pA.cnt.cmdAccepted 4)
    | 0x14 => some (leBytes s.pA.cnt.wprotoErr 4)
    | 0x17 => some (leBytes s.pA.cnt.lostCmds 4)
    | 0x20 => some (leBytes s.pA.attnCause.toNat 4)
    | 0x21 => some (leBytes s.pA.attnChannels.toNat 4)
    | _ => none
  | 0x3011 =>
    match sub with
    | 1 => some (leBytes s.pB.state.code 1)
    | 0x11 => some (leBytes s.pB.cnt.parityErr 4)
    | 0x12 => some (leBytes s.pB.cnt.seqgapRefused 4)
    | 0x20 => some (leBytes s.pB.attnCause.toNat 4)
    | _ => none
  | 0x4000 =>
    match sub with
    | 1 => some (leBytes (bnat s.link.enable) 1)
    | 2 => some (leBytes s.link.maxRate 1)
    | 3 => some (leBytes s.link.trialErrLimit 4)
    | 5 => some (leBytes s.link.echoPeriod 4)
    | 6 => some (leBytes s.link.propFactor 4)
    | 7 => some (leBytes (bnat s.link.wakeAny) 1)
    | _ => none
  | 0x4001 =>
    match sub with
    | 1 => some (leBytes s.link.state.code 1)
    | 2 => some (leBytes s.link.rate 1)
    | 3 => some (leBytes s.link.leaveCause 1)
    | 4 => some (leBytes s.link.cnt.upCount 4)
    | 5 => some (leBytes s.link.cableDelay 4)
    | 0x10 => some (leBytes s.link.cnt.crcErr 4)
    | 0x11 => some (leBytes s.link.cnt.badFrame 4)
    | 0x12 => some (leBytes s.link.cnt.misrouted 4)
    | 0x15 => some (leBytes s.link.cnt.linkresetRejected 4)
    | _ => none
  | 0x4020 =>
    match sub with
    | 1 => some (leBytes s.arq.rto 4)
    | 2 => some (leBytes s.arq.nakHoldoff 4)
    | 3 => some (leBytes s.arq.ackCoalesce 2)
    | 4 => some (leBytes s.arq.ackDelay 4)
    | 5 => some (leBytes s.arq.retryLimit 1)
    | 0x10 => some (leBytes s.arq.window.length 2)
    | 0x11 => some (leBytes s.arq.retxFrames 4)
    | 0x14 => some (leBytes s.arq.giveupFrames 4)
    | 0x16 => some (leBytes s.arq.dupRx 4)
    | 0x18 => some (leBytes s.arq.earlyDiscarded 4)
    | _ => none
  | 0x4114 =>
    match sub with
    | 1 => some (leBytes s.link.mgmtFlow.weight 1)
    | 2 => some (leBytes s.link.mgmtFlow.txFrames 4)
    | 3 => some (leBytes s.link.mgmtFlow.txBytes 8)
    | _ => none
  | 0x4120 =>
    match sub with
    | 1 => some (leBytes s.link.oh 1)
    | 2 => some (leBytes (s.link.vtime % 2 ^ 48) 8)
    | _ => none
  | 0x4300 =>
    match sub with
    | 1 => some (leBytes (bnat s.link.eqAdapt) 1)
    | 2 => some (leBytes s.link.ctleMin 1)
    | 3 => some (leBytes s.link.ctleMax 1)
    | 4 => some (leBytes s.link.ctle 1)
    | 5 => some (leBytes s.link.eyeHeight 2)
    | 7 => some (leBytes s.link.eqChanges 4)
    | _ => none
  | 0x5000 =>
    match sub with
    | 1 => some (leBytes s.time.source 1)
    | 2 => some (leBytes s.time.syncPeriod 4)
    | 3 => some (leBytes s.time.stepThreshold 4)
    | 5 => some (leBytes s.time.slewLimit 2)
    | 6 => some (leBytes s.time.holdover 4)
    | 7 => some (leBytes s.time.lockThreshold 4)
    | 0x11 => some (leBytes s.time.epoch 1)
    | 0x15 => some (leBytes s.time.steps 4)
    | 0x16 => some (leBytes s.time.epochChanges 4)
    | 0x17 => some (leBytes s.time.syncRx 4)
    | 0x1A => some (leBytes s.time.lockLosses 4)
    | _ => none
  | 0x6000 =>
    match sub with
    | 1 => some (leBytes s.rst.pairNext 1)
    | 3 => some (leBytes (bnat s.twin.autoSwap) 1)
    | 0x10 => some (leBytes s.twin.role.code 1)
    | 0x12 => some (leBytes (bnat s.twin.twinId) 1)
    | 0x13 => some (leBytes s.twin.cloverState 1)
    | 0x15 => some (leBytes s.twin.divergeCause 1)
    | 0x20 => some (leBytes s.twin.takeovers 4)
    | 0x23 => some (leBytes s.twin.divergences 4)
    | 0x24 => some (leBytes s.twin.msgErr 4)
    | 0x29 => some (leBytes s.twin.chainBytes 8)
    | _ => none
  | 0x7000 =>
    match sub with
    | 1 => some (leBytes s.rst.cause.toNat 2)
    | 2 => some (leBytes s.rst.lastReach 1)
    | 4 => some (leBytes s.rst.dbgReach 1)
    | 6 => some (leBytes s.rst.wdtEscalations 4)
    | 8 => some (leBytes s.rst.optionStatus 1)
    | _ => none
  | 0x7010 =>
    match sub with
    | 1 => some (leBytes s.rst.blockReset.toNat 4)
    | _ => none
  | 0x7100 =>
    match sub with
    | 1 => some (leBytes s.pwr.plFloor 1)
    | 2 => some (leBytes s.pwr.plCeiling 1)
    | 3 => some (leBytes s.pwr.level 1)
    | 4 => some (leBytes s.pwr.dozeIdle 4)
    | 5 => some (leBytes s.pwr.retIdle 4)
    | 6 => some (leBytes s.pwr.offIdle 4)
    | 8 => some (leBytes s.pwr.wakeMask 1)
    | 0x11 => some (leBytes s.pwr.sleepEntries 4)
    | _ => none
  | 0x7200 =>
    match sub with
    | 1 => some (leBytes s.pwr.refclkMode 1)
    | 2 => some (leBytes s.pwr.clkSource 1)
    | 8 => some (leBytes s.pwr.pllLosses 4)
    | _ => none
  | 0x8000 =>
    match sub with
    | 1 => some (leBytes s.mem.ceTotal 4)
    | 2 => some (leBytes s.mem.ueTotal 4)
    | 5 => some (leBytes s.mem.lastUe.toNat 4)
    | 6 => some (leBytes s.mem.dirCe 4)
    | 7 => some (leBytes s.mem.dirUe 4)
    | 9 => some (leBytes s.mem.clearState 1)
    | 0x13 => some (leBytes s.tansy.scrubPeriod 4)
    | 0x14 => some (leBytes s.tansy.scrubPasses 4)
    | 0x17 => some (leBytes s.tansy.rowRepairs 4)
    | 0x1B => some (leBytes s.tansy.fences.length 1)
    | _ => none
  | 0x9000 =>
    match sub with
    | 5 => some (leBytes s.yar.tjThrottle 1)
    | 0x0B => some (leBytes s.yar.vinMargin 2)
    | 0x0C => some (leBytes s.yar.yarrowResets 4)
    | 0x0E => some (leBytes s.yar.sramCe 4)
    | _ => none
  | 0x9100 =>
    match sub with
    | 3 => some (leBytes s.yar.nextSeq 4)
    | 6 => some (leBytes s.yar.minSeverity 1)
    | _ => none
  | 0xA000 =>
    match sub with
    | 1 => some (leBytes s.upd.runningSlot 1)
    | 2 => some (leBytes s.upd.committedSlot 1)
    | 0x0A => some (leBytes s.upd.trialWindow 4)
    | 0x0C => some (leBytes s.upd.lastResult 1)
    | 0x0D => some (leBytes s.upd.rollbackFuse 4)
    | _ => none
  | _ => none

/-- The same of the entries of channel `n`: its configuration, its status, its flow and its policer (R57, R58, R183, R190). -/
def Chan.entryValue (c : Chan) (group sub : Nat) : Option (List Byte) :=
  match group with
  | 0x2000 =>
    match sub with
    | 1 => some (leBytes c.cfg.cls.code 1)
    | 2 => some (leBytes c.cfg.producer.code 1)
    | 3 => some (leBytes c.cfg.consumer.code 1)
    | 4 => some (leBytes c.cfg.base 2)
    | 5 => some (leBytes c.cfg.size 2)
    | 6 => some (leBytes c.cfg.skew 1)
    | 7 => some (leBytes c.cfg.pafOffset 4)
    | 9 => some (leBytes c.cfg.highWm 4)
    | 0x0A => some (leBytes c.cfg.lowWm 4)
    | 0x0B => some (leBytes c.cfg.ridleTimeout 4)
    | 0x0C => some (leBytes c.cfg.relmode.code 1)
    | 0x0D => some (leBytes c.cfg.emptyMode 1)
    | 0x11 => some (leBytes c.cfg.gateLead 4)
    | 0x12 => some (leBytes (bnat c.cfg.compat) 1)
    | 0x13 => some (leBytes c.cfg.enable 1)
    | _ => none
  | 0x2100 =>
    match sub with
    | 1 => some (leBytes c.state.code 1)
    | 2 => some (leBytes c.enableRefusal 1)
    | 3 => some (leBytes c.faultCause 1)
    | 0x0E => some (leBytes c.lastPseq 2)
    | 0x0F => some (leBytes c.lastFrame 4)
    | 0x10 => some (leBytes c.cnt.pktCommitted 4)
    | 0x11 => some (leBytes c.cnt.pktDelivered 4)
    | 0x12 => some (leBytes c.cnt.overflowRefused 4)
    | 0x13 => some (leBytes c.cnt.stateRefused 4)
    | 0x14 => some (leBytes c.cnt.aborted 4)
    | 0x19 => some (leBytes c.cnt.ueDelivered 4)
    | 0x1A => some (leBytes c.cnt.flushes 4)
    | _ => none
  | 0x4100 =>
    match sub with
    | 1 => some (leBytes c.flow.weight 1)
    | 2 => some (leBytes c.flow.txFrames 4)
    | 3 => some (leBytes c.flow.txBytes 8)
    | _ => none
  | 0x4200 =>
    match sub with
    | 1 => some (leBytes c.pol.mode 1)
    | 2 => some (leBytes c.pol.cir 4)
    | 3 => some (leBytes c.pol.pir 4)
    | 4 => some (leBytes c.pol.cbs 4)
    | 5 => some (leBytes c.pol.pbs 4)
    | 0x10 => some (leBytes c.pol.green 4)
    | 0x13 => some (leBytes c.pol.redDropped 4)
    | _ => none
  | _ => none

/-- What a write of `v` makes of an entry that is one setting with no further effect (R89, R151, R174, R176, R183, R201, R222, R241, R264,
R284, R308). -/
def State.entryWritten (s : State) (index sub v : Nat) : Option State :=
  match index with
  | 0x3000 =>
    match sub with
    | 3 => some { s with pA := { s.pA with wcapDelay := v } }
    | 4 => some { s with pA := { s.pA with rqsDelay := v } }
    | 0x20 => some { s with pA := { s.pA with attnMask := BitVec.ofNat 32 v &&& 0xFFFFF#32 } }
    | _ => none
  | 0x3001 =>
    match sub with
    | 3 => some { s with pB := { s.pB with wcapDelay := v } }
    | 0x20 => some { s with pB := { s.pB with attnMask := BitVec.ofNat 32 v &&& 0xFFFFF#32 } }
    | _ => none
  | 0x4000 =>
    match sub with
    | 2 => some { s with link := { s.link with maxRate := v } }
    | 3 => some { s with link := { s.link with trialErrLimit := v } }
    | 4 => some { s with link := { s.link with moduleRateCheck := v == 1 } }
    | 5 => some { s with link := { s.link with echoPeriod := v } }
    | 6 => some { s with link := { s.link with propFactor := v } }
    | 7 => some { s with link := { s.link with wakeAny := v == 1 } }
    | _ => none
  | 0x4020 =>
    match sub with
    | 1 => some { s with arq := { s.arq with rto := v } }
    | 2 => some { s with arq := { s.arq with nakHoldoff := v } }
    | 3 => some { s with arq := { s.arq with ackCoalesce := v } }
    | 4 => some { s with arq := { s.arq with ackDelay := v } }
    | 5 => some { s with arq := { s.arq with retryLimit := v } }
    | _ => none
  | 0x4114 =>
    match sub with
    | 1 => some { s with link := { s.link with mgmtFlow := { s.link.mgmtFlow with weight := v } } }
    | _ => none
  | 0x4300 =>
    match sub with
    | 1 => some { s with link := { s.link with eqAdapt := v == 1 } }
    | _ => none
  | 0x5000 =>
    match sub with
    | 2 => some { s with time := { s.time with syncPeriod := v } }
    | 3 => some { s with time := { s.time with stepThreshold := v } }
    | 6 => some { s with time := { s.time with holdover := v } }
    | 7 => some { s with time := { s.time with lockThreshold := v } }
    | _ => none
  | 0x6000 =>
    match sub with
    | 1 => some { s with rst := { s.rst with pairNext := v } }
    | 3 => some { s with twin := { s.twin with autoSwap := v == 1 } }
    | _ => none
  | 0x7000 =>
    match sub with
    | 1 => some { s with rst := { s.rst with cause := s.rst.cause &&& ~~~(BitVec.ofNat 16 v) } }
    | 4 => some { s with rst := { s.rst with dbgReach := v } }
    | _ => none
  | 0x7100 =>
    match sub with
    | 4 => some { s with pwr := { s.pwr with dozeIdle := v } }
    | 5 => some { s with pwr := { s.pwr with retIdle := v } }
    | 6 => some { s with pwr := { s.pwr with offIdle := v } }
    | 8 => some { s with pwr := { s.pwr with wakeMask := v % 4 } }
    | _ => none
  | _ => none

/-- The same of a structural entry of channel `n`, which is DISABLED (R54, R57). -/
def ChCfg.entryWritten (g : ChCfg) (sub v : Nat) : Option ChCfg :=
  match sub with
  | 4 => some { g with base := v }
  | 5 => some { g with size := v }
  | 6 => some { g with skew := v }
  | 0x12 => some { g with compat := v == 1 }
  | _ => none

/-- The whole value of a DOMAIN (R21, R37, R65, R169). -/
def State.domainValue (s : State) (index sub : Nat) : Option (List Byte) :=
  match index, sub with
  | 0x2200, 1 => some (takePad 32 (s.mem.idlePattern.take 32))
  | 0x2300, 0x12 => some ((s.mem.locks.toList.map fun l => leBytes l.owner.code 1).flatten)
  | 0x4001, 0x0A => some (takePad 96 (s.link.moduleId.take 96))
  | 0x4001, 0x0B => some (takePad 10 (s.link.moduleDdm.take 10))
  | 0x8000, 3 => some ((s.mem.ceBank.toList.map fun v => leBytes v 4).flatten)
  | 0x8000, 4 => some ((s.mem.ueBank.toList.map fun v => leBytes v 4).flatten)
  | 0x8000, 0x0A => some ((s.mem.accessRefused.toList.map fun v => leBytes v 4).flatten)
  | _, _ => none

/-- The mailbox holds the response to a request of service 01h: its abort code, the length of the whole value and the data (R245). -/
abbrev OdAnswers (h : OdHead) (code total : Nat) (v : List Byte) (t : State) : Prop :=
  t.od.mbxRsp.map (fun img => (leField img 2 2, leField img 14 2, leField img 20 4, leField img 24 2, (img.drop 28).take v.length)) =
    some (h.reqseq % 65536, code, total, v.length, v)

/-- The mailbox holds the response to a request of services 02h and 03h: its abort code, RESULT and VALUE (R170). -/
abbrev UnitAnswers (h : OdHead) (code result value : Nat) (t : State) : Prop :=
  t.od.mbxRsp.map (fun img => (leField img 2 2, leField img 10 2, leField img 12 1, leField img 16 4)) =
    some (h.reqseq % 65536, code, result, value)

/-- A request of services 02h and 03h from the mailbox reaches firmware in sequence, with its reserved byte 0 (R170, R252, R254). -/
abbrev UnitAsked (h : OdHead) (s : State) : Prop :=
  Attended h s ∧ s.od.mailbox.judge h.reqseq = .run

/-- The state once a frame has been taken, before its effect: the time of the last frame (R162). -/
def State.heard (s : State) : State := { s with link := { s.link with lastRx := s.now } }

/-- The address of unit `i` on one side of a descriptor: the base, and the steps of the units and of the passes of loops 0 and 1 that are
behind (R232). -/
def unitAddr (w base lo0 lo1 lo2 i : Nat) : Int :=
  (4 * dField w base 26 : Nat) + i * dStep w lo0 + (i / (dField w 64 16 + 1) : Nat) * dStep w lo1 +
    (i / ((dField w 64 16 + 1) * (dField w 128 16 + 1)) : Nat) * dStep w lo2

/-- The source address of unit `i`. -/
def srcAt (w i : Nat) : Int := unitAddr w 12 104 168 232 i

/-- The destination address of unit `i`. -/
def dstAt (w i : Nat) : Int := unitAddr w 38 80 144 208 i

/-- A YDMA address in SRAM (R231). -/
abbrev InSram (a : Int) : Prop := 0x8000000 ≤ a ∧ a < 0x8040000

/-- Every unit is read from SRAM. -/
abbrev FromSram (w : Nat) : Prop := ∀ i, i < dUnits w → InSram (srcAt w i)

/-- Every unit moves from SRAM to SRAM, to a place of its own that no unit is read from. -/
abbrev SramToSram (w : Nat) : Prop :=
  FromSram w ∧ ∀ i, i < dUnits w → InSram (dstAt w i) ∧
    ∀ j, j < dUnits w → dstAt w i ≠ srcAt w j ∧ (i ≠ j → dstAt w i ≠ dstAt w j)

/-- YDMA channel `k` is idle and takes up descriptor `index`, whose bits are `w` without an error of its fields (R224, R231, R232, R318). -/
abbrev YReady (k : Fin 4) (index w : Nat) (s : State) : Prop :=
  s.ycoreRuns = true ∧ s.blockUp 16 = true ∧ s.memOpen = true ∧ (s.yar.ydma.get k).haltCause = 0 ∧
  (s.yar.ydma.get k).active = false ∧ (s.yar.ydma.get k).started = false ∧ (k.val = 3 → s.yar.bankCopyStart = false) ∧
  s.yar.sramErr = [] ∧ w = s.descriptor index ∧ descriptorError w = false

/-- YDMA channel `k` has halted at a unit, with its address, its direction and the cause (R234). -/
abbrev YHaltedAt (k : Fin 4) (cause addr : Nat) (write : Bool) (s t : State) : Prop :=
  (t.yar.ydma.get k).haltCause = cause ∧ (t.yar.ydma.get k).haltAddr = addr ∧ (t.yar.ydma.get k).haltWrite = write ∧
  (t.yar.ydma.get k).irq = true ∧ (t.yar.ydma.get k).active = true ∧ t.yar.sram = s.yar.sram ∧ t.ch = s.ch ∧
  t.mem.cells = s.mem.cells

/-- YDMA channel `k` has completed descriptor `w` with a status and goes on at NEXT, or has ended its chain (R232, R233). -/
abbrev YDone (k : Fin 4) (w status residual : Nat) (t : State) : Prop :=
  (t.yar.ydma.get k).status = status ∧ (t.yar.ydma.get k).residual = residual ∧ (t.yar.ydma.get k).haltCause = 0 ∧
  (t.yar.ydma.get k).active = (dField w 1 11 != 0) ∧ (t.yar.ydma.get k).index = dField w 1 11

/-- The channel of an aperture number takes YDMA's units as they come: fed by Yarrow, active, not shadowed, with no packet open and
no fence entry deferred (R233). -/
abbrev ApertureFed (i : Nat) (n : Fin 20) (s : State) : Prop :=
  chanOf i = some n ∧ s.blockUp 0 = true ∧ s.blockUp 1 = true ∧ (s.chan n).cfg.producer = .yarrow ∧ (s.chan n).deferred = [] ∧
  s.shadows = false ∧ (s.chan n).pkt = none

/-- The link has left UP for DETECT with a cause: the ARQ starts anew, time is not locked, every PAUSED bit is clear,
and, where no channel faults as its open packet goes, the locks of the link are free and marked, and every channel's state and
the stored array are as before (R36, R46, R85, R162, R163, R199). -/
abbrev LeftUp (s t : State) (cause : Nat) : Prop :=
  t.link.state = .detect ∧ t.link.leaveCause = cause ∧ t.link.rate = 0 ∧ t.arq.window = [] ∧ t.arq.exp = 0 ∧
  t.arq.nextSeq = 0 ∧ t.link.mgmtQ = [] ∧ t.link.strict = [] ∧ t.time.locked = false ∧
  (∀ n : Fin 20, (t.chan n).paused = false) ∧
  (AllRoomy s → (∀ n : Fin 20, (t.chan n).state = (s.chan n).state) ∧
    (∀ k : Fin 64, (s.slot k.val).owner = .lr → t.slot k.val = ⟨.free, true⟩) ∧
    t.mem.cells = s.mem.cells ∧ t.mem.errs = s.mem.errs)

/-- Three copies of a frame have been sent, after what stood before them in rank 4 and the ranks above it (R172, R177). -/
abbrev SentThrice (f : TxFrame) (s t : State) : Prop :=
  ∃ pre, t.link.sent = s.link.sent ++ pre ++ [f, f, f] ∧ (s.link.strict = [] → pre = [])

/-- A reliable frame is the next in sequence, with nothing skipped by its WLOW (R165). -/
abbrev InSequence (seq wlow : Nat) (s : State) : Prop :=
  seq = s.arq.exp ∧ seq < 65536 ∧ serialAfter 16 wlow s.arq.exp = false ∧ s.arq.rxGot = []

/-- A request of the LINK path, whose MAC stands, reaches firmware in sequence (R249, R252). -/
abbrev LinkAsked (h : OdHead) (m : RxMeta) (seq wlow : Nat) (r : Req) (s : State) : Prop :=
  h.src = .link m seq wlow ∧ h.addr = 0 ∧ RxTaken m (r.sdata.length + 8) s ∧ InSequence seq wlow s ∧ s.yar.serving = true ∧
  s.yar.loader = false ∧ s.lockedOut = false ∧ s.od.task = none ∧ s.od.queue = [] ∧ s.od.link.judge h.reqseq = .run ∧
  h.keysel ≠ 0 ∧ s.macOk r = true

/-! ### Clover (R205) -/

/-- A Clover message that passes the checks of R205, in order. -/
abbrev MsgTaken (m : CMeta) (s : State) : Prop :=
  s.twin.cloverState = 2 ∧ s.blockUp 6 = true ∧ m.crcOk = true ∧
  s.twin.rxMseq.all (fun r => m.mseq == (r + 1) % 256) = true

/-- A Clover message of a type with a body has been sent, under the next MSEQ (R204, R205). -/
abbrev Sends (type : Nat) (body : List Byte) (s t : State) : Prop :=
  t.twin.sent = s.twin.sent ++ [{ type := type, mseq := s.twin.txMseq, body := body }] ∧ t.twin.txMseq = (s.twin.txMseq + 1) % 256

/-! ### Resets (R277, R278) -/

/-- Source `src` has reset the device: its bit in RESET_CAUSE, REACH 03h, the escalation window closed, every channel
DISABLED, the ports and the link OFF, no role, time not valid, and the array, the images and the settings kept. -/
abbrev DeviceReset (src : Nat) (s t : State) : Prop :=
  t.rst.phase = .held ∧ t.rst.window = none ∧ t.rst.cause = s.rst.cause ||| (1#16 <<< src) ∧ t.rst.lastReach = 3 ∧
  (∀ n : Fin 20, (t.chan n).state = .disabled) ∧ (∀ x : Port, (t.port x).state = .off) ∧ t.link.state = .off ∧
  t.twin.own = false ∧ t.time.valid = false ∧ t.yar.serving = false ∧ t.mem.cells = s.mem.cells ∧
  t.mem.errs = s.mem.errs ∧ t.upd.imageA = s.upd.imageA ∧ t.upd.imageB = s.upd.imageB ∧
  t.upd.settingsA = s.upd.settingsA ∧ t.upd.settingsB = s.upd.settingsB

/-- Source `src` has reset Yarrow: its bit in RESET_CAUSE, REACH 01h, firmware not serving, the SRAM lost, and the Stream
Buffer's channels, ports and link as they were. -/
abbrev YarrowReset (src : Nat) (s t : State) : Prop :=
  t.rst.cause = s.rst.cause ||| (1#16 <<< src) ∧ t.rst.lastReach = 1 ∧ t.yar.serving = false ∧ t.yar.sram = [] ∧
  t.yar.yarrowResets = inc32 s.yar.yarrowResets ∧ t.rst.yarBooted = false ∧
  (∀ n : Fin 20, (t.chan n).state = (s.chan n).state) ∧ (∀ x : Port, (t.port x).state = (s.port x).state) ∧
  t.link = { s.link with forwarded := s.link.forwarded.filter (·.own) } ∧ t.mem.cells = s.mem.cells

/-! ### The invariant of the memories -/

/-- The array, its error masks, the SRAM and the log RAM are held in the one canonical form: strictly rising addresses
and no entry equal to what an unlisted address reads as. -/
abbrev MemoriesCanonical (s : State) : Prop :=
  Memory.wf s.mem.cells ∧ assocWfFrom (0 : BitVec 72) 0 s.mem.errs = true ∧ Memory.wf s.yar.sram ∧
  Memory.wf s.yar.logRam

/-- The bounds that the spec sets on what the machine queues: 16 faulty rows (R315) and 32 pending repair records
(R322). -/
abbrev QueuesBounded (s : State) : Prop := s.tansy.queue.length ≤ 16 ∧ s.tansy.pending.length ≤ 32

end Sys2Proof.Machine
end

