-- ==== Sys2Proof/Certificates/Slice0/Obligations.lean ====
section
/-! DEFINITION. The statements about the block. Each conjunct of a statement says where a command completes and with
what effect; `Completes` and the conditions of the interfaces stand in Sys2Proof/Safety.lean. -/

open Sys2Proof Sys2Proof.Machine

/-! ### The block -/

/-- Tier 1. A step runs the command at the front of the queue on the state with the queue's rest. -/
def Obligations.StepRunsFrontCommand : Prop :=
  ∀ (c : Instr) (rest : List Instr) (s : State),
    s.pending = c :: rest →
    step s = exec c { s with pending := rest }

/-- Tier 1. On an empty queue one TIMECLK period passes (the model's choice, notes/assumptions/2.md): elapsed time grows
by 1.25 ns, and so does what TIMECLK counts where TIMECLK runs (R293). Nothing but TIME follows it where firmware does
not serve, no snapshot waits, Clover is not up and no append of the log is open; where one is, the newest entry of the
flash ring is committed (R236). -/
def Obligations.IdleStepIsOneTick : Prop :=
  (∀ (s : State),
    s.pending = [] →
    ∃ t, step s = .next t ∧ t.now = s.now + 1250 ∧ t.pending = [] ∧
      (s.yar.serving = false → s.twin.snapOut = [] → s.twin.cloverState ≠ 2 → s.logsToFlash = false →
        t = { s with now := s.now + 1250, time := t.time,
                     pwr := { s.pwr with timeclk := s.pwr.timeclk + (if s.pwr.clkSource = 1 then 1250 else 0) } } ∧
        ((s.pwr.clkSource ≠ 1 ∨ s.blockUp 2 = false) → t.time = s.time))) ∧
  (∀ (s : State) (a : List LogEntry) (e : LogEntry),
    s.pending = [] →
    s.yar.serving = false →
    s.twin.snapOut = [] →
    s.twin.cloverState ≠ 2 →
    s.logsToFlash = true →
    s.yar.flashLog = a ++ [e] →
    e.void = false →
    e.committed = false →
    ∃ t, step s = .next t ∧ t.yar.flashLog = a ++ [{ e with committed := true }] ∧ t.ch = s.ch ∧ t.mem = s.mem ∧
      t.link = s.link ∧ t.od = s.od ∧ t.upd = s.upd ∧ t.rst = s.rst)

/-- Tier 1. What a power-on reset leaves: every channel DISABLED and empty (R49), both ports OFF (R150) with write
refusal off and EXP_CSEQ 0 (R152), the link OFF (R160), every lock slot free (R34), time not valid (R192), no role
taken, REACH and cause of a POR (R278), and an array that lists no byte and no error: before the clear that R22 and R24
give, this is the model's choice (notes/assumptions/5.md, notes/assumptions/1.md). -/
def Obligations.ResetState : Prop :=
  ((∀ n : Fin 20, (State.reset.chan n).state = .disabled ∧ (State.reset.chan n).wp = {} ∧
    (State.reset.chan n).rp = {} ∧ (State.reset.chan n).pkt = none) ∧
  (∀ x : Port, (State.reset.port x).state = .off ∧ (State.reset.port x).q = [] ∧
    (State.reset.port x).writeRefusal = false ∧ (State.reset.port x).expCseq = 0) ∧
  State.reset.link.state = .off ∧ State.reset.time.valid = false ∧
  (∀ k : Fin 64, State.reset.slot k.val = ⟨.free, false⟩) ∧
  State.reset.rst.cause = 1#16 ∧ State.reset.rst.lastReach = 3 ∧ State.reset.rst.phase = .held ∧
  State.reset.twin.started = false ∧
  State.reset.mem.cells = [] ∧ State.reset.mem.errs = [] ∧ State.reset.pending = [])

/-- Tier 1. The memories of the reset state have their canonical form. -/
def Obligations.ResetMemoriesCanonical : Prop :=
  MemoriesCanonical State.reset ∧ QueuesBounded State.reset

/-- Tier 3. Every step keeps the canonical form of the array, of its error masks, of the SRAM and of the log RAM. -/
def Obligations.StepKeepsMemoriesCanonical : Prop :=
  ∀ (s t : State),
    MemoriesCanonical s →
    step s = .next t →
    MemoriesCanonical t

/-- Tier 3. Every step keeps the bounds of the repair queue and of the pending repair records (R315, R322). -/
def Obligations.StepKeepsQueuesBounded : Prop :=
  ∀ (s t : State),
    QueuesBounded s →
    step s = .next t →
    QueuesBounded t

/-! ### The write side -/

/-- Tier 2. Checks of the write side: IDLE has no effect but its place among the sampled cycles; a reserved WCTL code,
and half of a FRAME pair, is ignored but for a write-protocol error of the port, which for 10011b the cycle after it
decides (R112, R130); a cycle that fails parity loses the open packet and begins write refusal (R131); SELECT with the
expected WSEQ selects its channel and ends write refusal, with another begins it and counts a gap, and during write
refusal then changes nothing but the sample (R132, R133); after a snapshot the cycles before the next SELECT or OPEN are
left aside (R216). While the snapshot arrives a joiner keeps what it observes for its end (the model's choice,
notes/assumptions/20.md). -/
def Obligations.WriteSideChecks : Prop :=
  (∀ (x : Port) (c : WCyc) (s : State),
    Sampling x s →
    c.parityOk 0#5 = true →
    (s.port x).frameFirst = none →
    exec (.idle x c) s = .next ((s.noteWclk x).sample x 0#5 c)) ∧
  (∀ (x : Port) (code : BitVec 5) (c : WCyc) (n : Fin 20) (s : State),
    reservedWctlCode code = true →
    WriteTaken x code c n s →
    Completes (.reservedWctl x code c) s fun t =>
      (t.port x).attnCause.getLsbD 2 = true ∧ (t.port x).cnt.wprotoErr = inc32 (s.port x).cnt.wprotoErr ∧
      t.ch = s.ch ∧ t.mem = s.mem) ∧
  (∀ (x : Port) (c : WCyc) (n : Fin 20) (s : State),
    WriteTaken x 19#5 c n s →
    Completes (.frameMarker x (some c) none) s fun t =>
      (t.port x).frameFirst = some c ∧ (t.port x).cnt = (s.port x).cnt ∧ t.ch = s.ch ∧ t.mem = s.mem) ∧
  (∀ (x : Port) (a c : WCyc) (s : State),
    Sampling x s →
    c.parityOk 0#5 = true →
    (s.port x).frameFirst = some a →
    Completes (.idle x c) s fun t =>
      (t.port x).frameFirst = none ∧ (t.port x).cnt.wprotoErr = inc32 (s.port x).cnt.wprotoErr ∧ t.ch = s.ch ∧
      t.mem = s.mem) ∧
  (∀ (x : Port) (a c : WCyc) (s : State),
    Sampling x s →
    SelectionRoomy x s →
    c.parityOk 1#5 = false →
    (s.port x).frameFirst = some a →
    Completes (.data x c) s fun t =>
      (t.port x).frameFirst = none ∧ (t.port x).cnt.wprotoErr = (s.port x).cnt.wprotoErr ∧
      (t.port x).cnt.parityErr = inc32 (s.port x).cnt.parityErr ∧ (t.port x).writeRefusal = true) ∧
  (∀ (x : Port) (b : WCyc) (n : Fin 20) (s : State),
    WriteTaken x 20#5 b n s →
    Completes (.frameMarker x none (some b)) s fun t =>
      (t.port x).cnt.wprotoErr = inc32 (s.port x).cnt.wprotoErr ∧ t.ch = s.ch ∧ t.mem = s.mem) ∧
  (∀ (x : Port) (c : WCyc) (s : State),
    Sampling x s →
    c.parityOk 1#5 = true →
    (s.port x).frameFirst = none →
    (s.port x).joinSkip = true →
    (∀ n, (s.port x).wsel = some n → (s.chan n).cutOpen x 1#5 = false) →
    Completes (.data x c) s fun t => (t.port x).cnt = (s.port x).cnt ∧ t.ch = s.ch ∧ t.mem = s.mem) ∧
  (∀ (x : Port) (k : BitVec 3) (c : WCyc) (n : Fin 20) (s : State),
    Sampling x s →
    c.parityOk (1#2 ++ k) = true →
    (s.port x).writeRefusal = false →
    (s.port x).frameFirst = none →
    (s.port x).joinSkip = true →
    (s.port x).wsel = some n →
    (s.chan n).cutOpen x (1#2 ++ k) = true →
    Completes (.dataLast x k c) s fun t =>
      (t.chan n).cuts = (s.chan n).cuts.map (fun k => { k with closed := true }) ∧ (t.chan n).refusing = false ∧
      (t.chan n).pkt = (s.chan n).pkt ∧ t.mem = s.mem) ∧
  (∀ (x : Port) (c : WCyc) (s : State),
    s.joinHolds = true →
    Completes (.data x c) s fun t =>
      t = { s with twin := { s.twin with joinLog := s.twin.joinLog ++ [.cycle x 1#5 c] } }) ∧
  (∀ (x : Port) (c : WCyc) (n : Fin 20) (s : State),
    Sampling x s →
    c.parityOk 1#5 = false →
    (s.port x).wsel = some n →
    (s.chan n).cfg.producer = End.ofPort x →
    Roomy n s →
    Completes (.data x c) s fun t =>
      (t.chan n).pkt = none ∧ (t.port x).writeRefusal = true ∧ (t.port x).attnCause.getLsbD 5 = true ∧
      (t.port x).cnt.parityErr = inc32 (s.port x).cnt.parityErr ∧ (t.port x).wsel = some n) ∧
  (∀ (x : Port) (c : WCyc) (n : Fin 20) (s : State),
    Sampling x s →
    c.parityOk 16#5 = true →
    BitVec.ofNat 8 (c.field 8 8) = (s.port x).expWseq →
    chanOf (c.field 0 5) = some n →
    Completes (.select x c) s fun t =>
      (t.port x).wsel = some n ∧ (t.port x).expWseq = (s.port x).expWseq + 1 ∧ (t.port x).writeRefusal = false ∧
      t.ch = s.ch) ∧
  (∀ (x : Port) (c : WCyc) (s : State),
    Sampling x s →
    SelectionRoomy x s →
    c.parityOk 16#5 = true →
    BitVec.ofNat 8 (c.field 8 8) ≠ (s.port x).expWseq →
    (s.port x).writeRefusal = false →
    Completes (.select x c) s fun t =>
      (t.port x).writeRefusal = true ∧ (t.port x).attnCause.getLsbD 3 = true ∧
      (t.port x).cnt.wseqGaps = inc32 (s.port x).cnt.wseqGaps ∧ (t.port x).wsel = (s.port x).wsel ∧
      (t.port x).expWseq = (s.port x).expWseq) ∧
  (∀ (x : Port) (c : WCyc) (s : State),
    Sampling x s →
    c.parityOk 16#5 = true →
    BitVec.ofNat 8 (c.field 8 8) ≠ (s.port x).expWseq →
    (s.port x).writeRefusal = true →
    (s.port x).frameFirst = none →
    Completes (.select x c) s fun t =>
      t.port x = ((s.noteWclk x).sample x 16#5 c).port x ∧ t.ch = s.ch ∧ t.mem = s.mem)

/-- Tier 2. OPEN with the expected WSEQ on the selected active channel of the port opens a packet with the operands of
the OPEN and LEN 0 where the region has room; where it is full the packet is refused whole (R61, R86, R87, R133). -/
def Obligations.OpenPacketOpens : Prop :=
  (∀ (x : Port) (c : WCyc) (n : Fin 20) (s : State),
    WriteTaken x 17#5 c n s →
    BitVec.ofNat 8 (c.field 0 8) = (s.port x).expWseq →
    (s.chan n).cfg.cls ≠ .raw →
    (s.chan n).cfg.producer = End.ofPort x →
    (s.chan n).state = .active →
    (s.chan n).pkt = none →
    s.shadows = false →
    Roomy n s →
    s.free n ≠ 0 →
    Completes (.openPacket x c) s fun t =>
      (t.port x).expWseq = (s.port x).expWseq + 1 ∧
      (t.chan n).pkt = some { slot := s.writeSlot n, wseq := c.field 0 8, slice := c.field 8 12, kind := c.field 20 4,
                              frame := c.field 32 32, len := 0, crc := crcInit, first := [], buf := [] } ∧
      (t.chan n).wp = step1 (s.chan n).s (s.writeSlot n) ∧ (t.chan n).cp = (s.chan n).cp) ∧
  (∀ (x : Port) (c : WCyc) (n : Fin 20) (s : State),
    WriteTaken x 17#5 c n s →
    BitVec.ofNat 8 (c.field 0 8) = (s.port x).expWseq →
    (s.chan n).cfg.cls = .packet →
    (s.chan n).cfg.producer = End.ofPort x →
    (s.chan n).state = .active →
    (s.chan n).pkt = none →
    (s.chan n).cfg.relmode ≠ .framehold →
    s.shadows = false →
    Roomy n s →
    s.free n = 0 →
    Completes (.openPacket x c) s fun t =>
      (t.chan n).pkt = none ∧ (t.chan n).refusing = true ∧
      (t.chan n).cnt.overflowRefused = inc32 (s.chan n).cnt.overflowRefused ∧ (t.port x).attnCause.getLsbD 0 = true)

/-- Tier 2. On the open packet of the selected channel: DATA appends eight bytes, DATA-LAST appends its bytes and
closes, TAIL closes, ABORT discards and counts (R59, R62, R63). PACKET_COMMIT moves CP to the end of the oldest closed
packet (R62); DEFERRED_TAIL_COMMIT makes a pending tail commit of a raw channel once space and a table entry are free
(R71). That closed packets wait in a queue until PACKET_COMMIT, and that WP returns to the end of the last closed packet
where R48 says CP, is the model's reading (DEDUCED, notes/assumptions/10.md). -/
def Obligations.PacketCyclesAndCommits : Prop :=
  (∀ (x : Port) (c : WCyc) (n : Fin 20) (s : State) (p : OpenPkt),
    WriteTaken x 1#5 c n s →
    WritesTo x n .packet s →
    (s.chan n).refusing = false →
    (s.chan n).pkt = some p →
    p.buf.length < 32 →
    p.len + 8 ≤ 16777215 →
    Roomy n s →
    s.free n ≠ 0 →
    Completes (.data x c) s fun t =>
      ∃ q, (t.chan n).pkt = some q ∧ q.len = p.len + 8 ∧ q.crc = crcRun p.crc c.bytes ∧ q.slot = p.slot ∧
        q.wseq = p.wseq ∧ (t.chan n).cp = (s.chan n).cp) ∧
  (∀ (x : Port) (nnn : BitVec 3) (c : WCyc) (n : Fin 20) (s : State) (p : OpenPkt),
    WriteTaken x (1#2 ++ nnn) c n s →
    WritesTo x n .packet s →
    (s.chan n).refusing = false →
    (s.chan n).pkt = some p →
    p.buf.length + 8 < 32 →
    p.len + 8 ≤ 16777215 →
    s.free n ≠ 0 →
    Released n s →
    Completes (.dataLast x nnn c) s fun t =>
      (t.chan n).pkt = none ∧
      ∃ k, (t.chan n).closing = (s.chan n).closing ++ [k] ∧ k.len = p.len + nnn.toNat + 1 ∧ k.slot = p.slot ∧
        k.wseq = p.wseq ∧ k.crcFail = false) ∧
  (∀ (x : Port) (c : WCyc) (n : Fin 20) (s : State) (p : OpenPkt),
    WriteTaken x 21#5 c n s →
    WritesTo x n .packet s →
    (s.chan n).refusing = false →
    (s.chan n).pkt = some p →
    Roomy n s →
    s.free n ≠ 0 →
    Completes (.tail x c) s fun t =>
      (t.chan n).pkt = none ∧
      ∃ k, (t.chan n).closing = (s.chan n).closing ++ [k] ∧ k.len = p.len ∧ k.slot = p.slot ∧ k.crcFail = false) ∧
  (∀ (x : Port) (c : WCyc) (n : Fin 20) (s : State) (p : OpenPkt),
    WriteTaken x 18#5 c n s →
    WritesTo x n .packet s →
    (s.chan n).refusing = false →
    (s.chan n).pkt = some p →
    Roomy n s →
    Completes (.abort x c) s fun t =>
      (t.chan n).pkt = none ∧ (t.chan n).wp = (s.chan n).writeBase ∧
      (t.chan n).cnt.aborted = inc32 (s.chan n).cnt.aborted ∧ t.mem.cells = s.mem.cells) ∧
  (∀ (n : Fin 20) (s : State) (k : ClosedPkt) (rest : List ClosedPkt),
    (s.chan n).cfg.cls = .packet →
    (s.chan n).closing = k :: rest →
    Roomy n s →
    Completes (.packetCommit n) s fun t =>
      (t.chan n).cp = k.endp ∧ (t.chan n).closing = rest ∧ (t.chan n).wp = (s.chan n).wp ∧
      (t.chan n).cnt.pktCommitted = inc32 (s.chan n).cnt.pktCommitted) ∧
  (∀ (n : Fin 20) (s : State),
    (s.chan n).tailPending = true →
    (s.chan n).rawBuf ≠ [] →
    Roomy n s →
    s.free n ≠ 0 →
    (s.chan n).tails.length < 1536 →
    Completes (.deferredTailCommit n) s fun t =>
      (t.chan n).tailPending = false ∧ (t.chan n).rawBuf = [] ∧
      (t.chan n).cp = step1 (s.chan n).s (s.writeSlot n) ∧ (t.chan n).wp = step1 (s.chan n).s (s.writeSlot n) ∧
      (t.chan n).cnt.pktCommitted = inc32 (s.chan n).cnt.pktCommitted)

/-- Tier 2. A valid marker pair on the selected active Slice channel without records creates a record in state FILLING
with the marker's fields, every entry cleared (R113); so do its two cycles given one by one (R112). -/
def Obligations.MarkerCreatesRecord : Prop :=
  (∀ (x : Port) (a b : WCyc) (n : Fin 20) (s : State),
    WriteTaken x 19#5 a n s →
    WriteTaken x 20#5 b n s →
    WritesTo x n .slice s →
    s.chainHalf false = false →
    Roomy n s →
    1 ≤ a.field 32 12 →
    a.field 32 12 ≤ 512 →
    b.field 30 2 = 0 →
    b.field 0 30 ≤ 999999999 →
    (∀ i : Fin 3, (s.chan n).record i = {}) →
    (s.sender = true ∨ a.field 44 8 = s.time.epoch) →
    Completes (.frameMarker x (some a) (some b)) s fun t =>
      let r := (t.chan n).record 0
      r.state = .filling ∧ r.frame = a.field 0 32 ∧ r.count = a.field 32 12 ∧ r.epoch = a.field 44 8 ∧
      r.ptsSec = b.field 32 32 ∧ r.ptsNs = b.field 0 30 ∧ r.entries = [] ∧ (t.chan n).newest = some (a.field 0 32)) ∧
  (∀ (x : Port) (a b : WCyc) (n : Fin 20) (s : State),
    Sampling x s →
    b.parityOk 20#5 = true →
    (s.port x).writeRefusal = false →
    (s.port x).joinSkip = false →
    (s.port x).wsel = some n →
    (s.port x).frameFirst = some a →
    WritesTo x n .slice s →
    s.chainHalf false = false →
    Roomy n s →
    1 ≤ a.field 32 12 →
    a.field 32 12 ≤ 512 →
    b.field 30 2 = 0 →
    b.field 0 30 ≤ 999999999 →
    (∀ i : Fin 3, (s.chan n).record i = {}) →
    (s.sender = true ∨ a.field 44 8 = s.time.epoch) →
    Completes (.frameMarker x none (some b)) s fun t =>
      let r := (t.chan n).record 0
      r.state = .filling ∧ r.frame = a.field 0 32 ∧ r.count = a.field 32 12 ∧ r.epoch = a.field 44 8 ∧
      (t.port x).frameFirst = none ∧ r.ptsSec = b.field 32 32 ∧ r.ptsNs = b.field 0 30 ∧ r.entries = [] ∧ (t.chan n).newest = some (a.field 0 32))

/-- Tier 2. Frame of the write side. A cycle on a selected channel leaves every other channel, the other port but for
its attention, the link, the ARQ, TIME, the object dictionary, the update state, the resets, Yarrow and Tansy as they
were, where no event of Clover is sent; DATA stores at most the word at WP's place (R44), DATA-LAST and TAIL at most
that word, the next one and the header's word (R61, R62), and SELECT, OPEN, ABORT, IDLE, a FRAME cycle and a reserved
code none. With no channel selected no channel and no word changes at all (R130, R132); where the port takes no cycles
(R150, R219) nothing but the clock monitor's note does (the model's reading, notes/assumptions/69.md). -/
def Obligations.WriteCycleFrame : Prop :=
  (∀ (x : Port) (c : WCyc) (s t : State),
    s.twin.cloverState ≠ 2 →
    (exec (.data x c) s = .next t ∨ exec (.tail x c) s = .next t ∨ exec (.abort x c) s = .next t) →
    (s.port x).wsel = none →
    t.port (otherPort x) = s.port (otherPort x) ∧ t.ch = s.ch ∧ t.mem = s.mem ∧ t.link = s.link ∧ t.arq = s.arq ∧
    t.time = s.time ∧ t.od = s.od ∧ t.upd = s.upd ∧ t.rst = s.rst ∧ t.yar = s.yar ∧ t.tansy = s.tansy) ∧
  (∀ (x : Port) (c : WCyc) (s t : State),
    s.writeOn x = false →
    s.joinHolds = false →
    (exec (.idle x c) s = .next t ∨ exec (.data x c) s = .next t ∨ exec (.select x c) s = .next t ∨
      exec (.openPacket x c) s = .next t ∨ exec (.abort x c) s = .next t ∨ exec (.tail x c) s = .next t) →
    t = s.noteWclk x) ∧
  (∀ (x : Port) (c : WCyc) (n : Fin 20) (s : State),
    WriteSettled x n s →
    (s.chan n).pkt.all (fun p => decide (p.buf.length < 32)) = true →
    (s.chan n).rawBuf.length ≤ 32 →
    Completes (.data x c) s fun t =>
      WriteKeeps x n s t ∧
      ∀ w, w ≠ s.phys ((s.chan n).locAt (s.writeSlot n).off) → readWordAt t.mem w = readWordAt s.mem w) ∧
  (∀ (x : Port) (nnn : BitVec 3) (c : WCyc) (n : Fin 20) (s : State),
    WriteSettled x n s →
    (s.chan n).pkt.all (fun p => decide (p.buf.length < 32)) = true →
    (s.chan n).rawBuf.length ≤ 32 →
    Completes (.dataLast x nnn c) s fun t =>
      WriteKeeps x n s t ∧ ∀ w, w ∉ s.writePlaces n → readWordAt t.mem w = readWordAt s.mem w) ∧
  (∀ (x : Port) (c : WCyc) (n : Fin 20) (s : State),
    WriteSettled x n s →
    Completes (.tail x c) s fun t =>
      WriteKeeps x n s t ∧ ∀ w, w ∉ s.writePlaces n → readWordAt t.mem w = readWordAt s.mem w) ∧
  (∀ (x : Port) (c : WCyc) (n : Fin 20) (s : State),
    WriteSettled x n s →
    Completes (.idle x c) s fun t => WriteKeeps x n s t ∧ t.mem = s.mem) ∧
  (∀ (x : Port) (c : WCyc) (n : Fin 20) (s : State),
    WriteSettled x n s →
    Completes (.select x c) s fun t => WriteKeeps x n s t ∧ t.mem = s.mem) ∧
  (∀ (x : Port) (c : WCyc) (n : Fin 20) (s : State),
    WriteSettled x n s →
    Completes (.openPacket x c) s fun t => WriteKeeps x n s t ∧ t.mem = s.mem) ∧
  (∀ (x : Port) (c : WCyc) (n : Fin 20) (s : State),
    WriteSettled x n s →
    Completes (.abort x c) s fun t => WriteKeeps x n s t ∧ t.mem = s.mem) ∧
  (∀ (x : Port) (c : WCyc) (n : Fin 20) (s : State),
    WriteSettled x n s →
    Completes (.frameMarker x (some c) none) s fun t => WriteKeeps x n s t ∧ t.mem = s.mem) ∧
  (∀ (x : Port) (c : WCyc) (n : Fin 20) (s : State),
    WriteSettled x n s →
    Completes (.frameMarker x none (some c)) s fun t => WriteKeeps x n s t ∧ t.mem = s.mem) ∧
  (∀ (x : Port) (code : BitVec 5) (c : WCyc) (n : Fin 20) (s : State),
    WriteSettled x n s →
    Completes (.reservedWctl x code c) s fun t => WriteKeeps x n s t ∧ t.mem = s.mem)

/-! ### The banks -/

/-- Tier 1. A bank whose two sides wait for nothing grants a single read of a MEMCLK at once and returns the stored word
with its lane states (R16, R19). -/
def Obligations.BankGrantsRead : Prop :=
  ∀ (bank : Fin 130) (q : BankReq) (s : State),
    s.blockUp 0 = true →
    q.op = .rd →
    s.mem.waiting = [] →
    s.mem.holding = [] →
    Completes (.bankGrant bank [q] []) s fun t =>
      let b := s.physBank bank.val
      (∃ g, t.mem.grants = (s.mem.grants.filter (·.bank != b)) ++ [g] ∧ g.bank = b ∧ g.wr = false ∧
        g.input = q.input.val ∧
        g.data = (readWordAt s.mem (wordNo b (s.physRow b q.row q.col) q.col)).data ∧
        g.uncorr = (readWordAt s.mem (wordNo b (s.physRow b q.row q.col) q.col)).mask) ∧
      t.mem.waiting = [] ∧ t.mem.cells = s.mem.cells ∧ t.mem.errs = s.mem.errs

/-- Tier 2. The write-back of a corrected word gives every lane that was good or correctable valid check bits, leaves
its data as corrected, and is done with; no other word of the array changes (R19, R20). -/
def Obligations.WriteBackRepairsLanes : Prop :=
  ∀ (bank : Fin 130) (row col : Nat) (s : State),
    row < 528 →
    col < 64 →
    s.blockUp 0 = true →
    s.tansy.copy = none →
    s.mem.writeBack.contains (wordNo bank.val row col) = true →
    Memory.wf s.mem.cells →
    assocWfFrom (0 : BitVec 72) 0 s.mem.errs = true →
    Completes (.eccWriteBack bank row col) s fun t =>
      (∀ i < 4, (readWordAt s.mem (wordNo bank.val row col)).lane i ≠ .uncorr →
        readLane t.mem (wordNo bank.val row col) i =
          ((readLane s.mem (wordNo bank.val row col) i).1, LaneSt.good)) ∧
      (∀ w, w ≠ wordNo bank.val row col → readWordAt t.mem w = readWordAt s.mem w) ∧
      t.mem.writeBack.contains (wordNo bank.val row col) = false

/-- Tier 2. A whole word written at a physical place reads back as written with every lane good, and every other word
reads as before (R20). -/
def Obligations.StoredWords : Prop :=
  ∀ (m : MemSt) (w : Nat) (bs : List Byte),
    bs.length = 32 →
    Memory.wf m.cells →
    assocWfFrom (0 : BitVec 72) 0 m.errs = true →
    readWordAt (writeWordAt m w bs) w = { data := bs, lanes := [.good, .good, .good, .good] } ∧
    ∀ v, v ≠ w → readWordAt (writeWordAt m w bs) v = readWordAt m v

/-- Tier 2. The code of a lane (R18): with no wrong bit the lane reads as stored; one wrong bit is corrected and
reported as correctable; two are uncorrectable; three or more are reported as uncorrectable, or corrected in a bit that
is not the error. A lane reads by its own bytes and errors alone. -/
def Obligations.LaneErrors : Prop :=
  (∀ (m : MemSt) (w i : Nat),
    assocGet 0 m.errs (w * 4 + i) = 0 →
    readLane m w i = (loadBytes m.cells (w * 32 + 8 * i) 8, .good)) ∧
  (∀ (m : MemSt) (w i : Nat) (b : Fin 72),
    assocGet 0 m.errs (w * 4 + i) = (1 : BitVec 72) <<< b.val →
    (readLane m w i).2 = .corr ∧
    (readLane m w i).1 = leBytes (leNat (loadBytes m.cells (w * 32 + 8 * i) 8) ^^^ (2 ^ b.val % 2 ^ 64)) 8) ∧
  (∀ (m : MemSt) (w i : Nat) (b c : Fin 72),
    b ≠ c →
    assocGet 0 m.errs (w * 4 + i) = (1 : BitVec 72) <<< b.val ^^^ (1 : BitVec 72) <<< c.val →
    (readLane m w i).2 = .uncorr) ∧
  (∀ (m : MemSt) (w i : Nat),
    3 ≤ popBits (assocGet 0 m.errs (w * 4 + i)).toNat 72 →
    (readLane m w i).2 = .uncorr ∨
    ((readLane m w i).2 = .corr ∧
     ∃ b : Fin 72, (1 : BitVec 72) <<< b.val ≠ assocGet 0 m.errs (w * 4 + i) ∧
       (readLane m w i).1 = leBytes (leNat (loadBytes m.cells (w * 32 + 8 * i) 8) ^^^ (2 ^ b.val % 2 ^ 64)) 8)) ∧
  (∀ (m k : MemSt) (w v i j : Nat),
    loadBytes m.cells (w * 32 + 8 * i) 8 = loadBytes k.cells (v * 32 + 8 * j) 8 →
    assocGet 0 m.errs (w * 4 + i) = assocGet 0 k.errs (v * 4 + j) →
    readLane m w i = readLane k v j)

/-- Tier 2. The place of a word (R14): under the SKEW of the channel whose region holds it, and with no skew in a
scratch area or in no region. That only an enabled area counts is the model's choice (notes/assumptions/77.md). The map
loses no word: a place and its skew give the word address back, below the array's size. Pointers: a step is one word of
distance, k steps are the steps taken one by one, and distance 0 is equality (R41). -/
def Obligations.PlacesAndPointers : Prop :=
  (∀ (p : Nat) (n : Fin 20) (s : State),
    s.inArea p = false →
    (∀ k : Fin 20, (s.chan k).holdsBlock (p / 128) = true ↔ k = n) →
    s.placeOf p = { bank := (p % 128 + (s.chan n).cfg.skew) % 128, row := p / 8192 % 512, col := p / 128 % 64 }) ∧
  (∀ (p : Nat) (s : State),
    (s.inArea p = true ∨ ∀ k : Fin 20, (s.chan k).holdsBlock (p / 128) = false) →
    s.placeOf p = { bank := p % 128, row := p / 8192 % 512, col := p / 128 % 64 }) ∧
  (∀ (skew p : Nat),
    skew < 128 →
    p < 4194304 →
    unplace skew (place skew p) = p ∧ (place skew p).bank < 128 ∧ (place skew p).row < 512 ∧
      (place skew p).col < 64) ∧
  (∀ (sz : Nat) (p : Ptr),
    0 < sz →
    p.off < sz →
    dist sz p p = 0 ∧ (step1 sz p).off < sz ∧ dist sz p (step1 sz p) = 1) ∧
  (∀ (sz : Nat) (p : Ptr) (k : Nat),
    0 < sz →
    p.off < sz →
    stepN sz p (k + 1) = step1 sz (stepN sz p k)) ∧
  (∀ (sz : Nat) (a b : Ptr),
    0 < sz →
    a.off < sz →
    b.off < sz →
    dist sz a b = 0 →
    a = b)

/-! ### Read-side commands -/

/-- Tier 2. NOP, TIMEGET, TRAIN and STATUS of page 05h are answered at once with OK; a reserved opcode, which step 7 of
R136 refuses, with BADOP (R134, R136, R145, R146). STATUS with ACT: page 05h clears the named causes and channels, page
06h sets ATTN_MASK (R143). -/
def Obligations.PlainCommandsAnswered : Prop :=
  (∀ (x : Port) (c : RCmd) (s : State),
    CmdTaken x 0#5 c 0 0 s →
    Completes (.nop x c) s fun t => Answers x c (statusBeat c.tag.toNat 0) s t) ∧
  (∀ (x : Port) (c : RCmd) (s : State),
    CmdTaken x 17#5 c 0 0 s →
    c.mod.getLsbD 0 = false →
    Completes (.timeget x c) s fun t =>
      Answers x c { tag := c.tag.toNat, last := true, stat := 0, vb := 0, data := takePad 32 (leBytes s.timeLatch 12) } s t ∧
      t.time = s.time) ∧
  (∀ (x : Port) (c : RCmd) (op1 op2 : W32) (s : State),
    CmdTaken x 14#5 c op1 op2 s →
    c.mod = 5#7 →
    Completes (.status x c op1 op2) s fun t =>
      Answers x c { tag := c.tag.toNat, last := true, stat := 0, vb := 0, data := takePad 32 (s.page05 x) } s t ∧
      (t.port x).attnCause = (s.port x).attnCause) ∧
  (∀ (x : Port) (c : RCmd) (s : State),
    CmdTaken x 16#5 c 0 0 s →
    c.mod = 1#7 →
    Completes (.train x c) s fun t =>
      ∃ bs, (t.port x).ret = (s.port x).ret ++ bs ∧ bs.length = 16 ∧ (t.port x).q = [] ∧
        bs.map (·.data) = (List.range 16).map (fun w => List.replicate 32 (if w % 2 = 0 then 0x55#8 else 0xAA#8)) ∧
        (bs.map (·.last)) = List.replicate 15 false ++ [true]) ∧
  (∀ (x : Port) (opc : BitVec 5) (c : RCmd) (s : State),
    18 ≤ opc.toNat →
    (s.port x).state = .ready →
    s.chainHalf false = false →
    s.shadows = false →
    s.drives = true →
    (s.port x).q = [] →
    cmdParityOk opc c 0 0 = true →
    c.cseq = (s.port x).expCseq →
    Completes (.reservedOpcode x opc c) s fun t => Answers x c (statusBeat c.tag.toNat 5) s t) ∧
  (∀ (x : Port) (c : RCmd) (op1 op2 : W32) (s : State),
    CmdTaken x 14#5 c op1 op2 s →
    c.mod = 0x45#7 →
    Completes (.statusActClear x c op1 op2) s fun t =>
      (t.port x).attnCause = (s.port x).attnCause &&& ~~~op1 ∧
      (t.port x).attnChannels = (s.port x).attnChannels &&& ~~~op2 ∧
      Answers x c { tag := c.tag.toNat, last := true, stat := 0, vb := 0, data := takePad 32 (s.page05 x) } s t) ∧
  (∀ (x : Port) (c : RCmd) (op1 : W32) (s : State),
    CmdTaken x 14#5 c op1 0 s →
    c.mod = 0x46#7 →
    Completes (.statusActMask x c op1 0) s fun t =>
      (t.port x).attnMask = op1 &&& 0xFFFFF#32 ∧ (t.port x).attnCause = (s.port x).attnCause ∧ (t.port x).q = [])

/-- Tier 2. LOCK of a free slot gives it to the port: OK, or BROKEN where the slot was marked, which clears the mark and
counts; of a slot of another owner it is BUSY. UNLOCK by the owner frees the slot. The last clause is the table of R34
for every requester: the lock unit's operation 0Ch or 0Dh, its result and the slot after. While MEMCTL is held in reset
the port gets ISOLATED (R290; that this is the status is the model's choice, notes/assumptions/96.md). -/
def Obligations.LockAndUnlock : Prop :=
  (∀ (x : Port) (c : RCmd) (s : State),
    CmdTaken x 12#5 c 0 0 s →
    s.blockUp 0 = true →
    s.slot (c.mod.toNat % 64) = ⟨.free, false⟩ →
    Completes (.lock x c) s fun t =>
      t.slot (c.mod.toNat % 64) = ⟨portOwner x, false⟩ ∧ Answers x c (statusBeat c.tag.toNat 0) s t ∧
      t.mem.lockBroken = s.mem.lockBroken) ∧
  (∀ (x : Port) (c : RCmd) (s : State),
    CmdTaken x 12#5 c 0 0 s →
    s.blockUp 0 = true →
    s.slot (c.mod.toNat % 64) = ⟨.free, true⟩ →
    Completes (.lock x c) s fun t =>
      t.slot (c.mod.toNat % 64) = ⟨portOwner x, false⟩ ∧ Answers x c (statusBeat c.tag.toNat 11) s t ∧
      t.mem.lockBroken = inc32 s.mem.lockBroken) ∧
  (∀ (x : Port) (c : RCmd) (s : State),
    CmdTaken x 12#5 c 0 0 s →
    s.blockUp 0 = true →
    (s.slot (c.mod.toNat % 64)).owner ≠ .free →
    (s.slot (c.mod.toNat % 64)).owner ≠ portOwner x →
    Completes (.lock x c) s fun t => t.mem = s.mem ∧ Answers x c (statusBeat c.tag.toNat 10) s t) ∧
  (∀ (x : Port) (c : RCmd) (s : State),
    CmdTaken x 13#5 c 0 0 s →
    s.blockUp 0 = true →
    (s.slot (c.mod.toNat % 64)).owner = portOwner x →
    Completes (.unlock x c) s fun t =>
      t.slot (c.mod.toNat % 64) = ⟨.free, false⟩ ∧ Answers x c (statusBeat c.tag.toNat 0) s t) ∧
  (∀ (x : Port) (c : RCmd) (s : State),
    CmdTaken x 12#5 c 0 0 s →
    s.blockUp 0 = false →
    Completes (.lock x c) s fun t => t.mem = s.mem ∧ Answers x c (statusBeat c.tag.toNat 9) s t) ∧
  (∀ (o : Owner) (k : Fin 64) (cseq : Nat) (s : State),
    o ≠ .free →
    (s.slot k.val = ⟨.free, false⟩ →
      (s.lockOp o 12 k.val cseq).1 = 0 ∧ (s.lockOp o 12 k.val cseq).2.slot k.val = ⟨o, false⟩) ∧
    (s.slot k.val = ⟨.free, true⟩ →
      (s.lockOp o 12 k.val cseq).1 = 11 ∧ (s.lockOp o 12 k.val cseq).2.slot k.val = ⟨o, false⟩) ∧
    ((s.slot k.val).owner = o →
      (s.lockOp o 12 k.val cseq).1 = 0 ∧ (s.lockOp o 12 k.val cseq).2.mem = s.mem ∧
      (s.lockOp o 13 k.val cseq).1 = 0 ∧ (s.lockOp o 13 k.val cseq).2.slot k.val = ⟨.free, false⟩) ∧
    ((s.slot k.val).owner ≠ .free → (s.slot k.val).owner ≠ o →
      (s.lockOp o 12 k.val cseq).1 = 10 ∧ (s.lockOp o 12 k.val cseq).2.mem = s.mem ∧
      (s.lockOp o 13 k.val cseq).1 = 4 ∧ (s.lockOp o 13 k.val cseq).2.mem = s.mem) ∧
    ((s.slot k.val).owner = .free →
      (s.lockOp o 13 k.val cseq).1 = 0 ∧ (s.lockOp o 13 k.val cseq).2.mem = s.mem))

/-- Tier 2. Scratch operations on a unit of an enabled area that the port may reach and whose lane is readable: SRD
returns the unit; SWR, SSET and SCLR leave the written value, the union, and the value with the bits cleared, and SSET
and SCLR return the prior value; every other unit of the word and every other word of the array reads as before, and a
lane stays uncorrectable or readable as it was (R26, R31, R134). No bank is under COPY; in a disabled area, or beyond
the end of an enabled one, the operation is refused with ACCESS and nothing is touched (R30). -/
def Obligations.ScratchOperations : Prop :=
  (∀ (x : Port) (c : RCmd) (op1 : W32) (s : State),
    CmdTaken x 8#5 c op1 0 s →
    ScratchReady (portMaster x) false (c.mod.toNat % 4) op1.toNat s →
    Completes (.srd x c op1) s fun t =>
      Answers x c (valueBeat c.tag.toNat 0 (s.scratchUnit (c.mod.toNat % 4) op1.toNat)) s t ∧
      t.mem.cells = s.mem.cells ∧ t.mem.errs = s.mem.errs) ∧
  (∀ (x : Port) (c : RCmd) (op1 op2 : W32) (s : State),
    CmdTaken x 9#5 c op1 op2 s →
    ScratchReady (portMaster x) true (c.mod.toNat % 4) op1.toNat s →
    s.tansy.copy = none →
    MemoriesCanonical s →
    Completes (.swr x c op1 op2) s fun t =>
      let w := s.phys (s.placeOf (s.scratchWord (c.mod.toNat % 4) op1.toNat))
      Answers x c (statusBeat c.tag.toNat 0) s t ∧
      t.scratchUnit (c.mod.toNat % 4) op1.toNat = op2.toNat ∧
      (∀ v, v ≠ w → readWordAt t.mem v = readWordAt s.mem v) ∧
      (∀ a, a < 8 → a ≠ op1.toNat % 8 →
        leField (readWordAt t.mem w).data (4 * a) 4 = leField (readWordAt s.mem w).data (4 * a) 4) ∧
      (∀ i, i < 4 → ((readWordAt t.mem w).lane i = .uncorr ↔ (readWordAt s.mem w).lane i = .uncorr))) ∧
  (∀ (x : Port) (c : RCmd) (op1 op2 : W32) (s : State),
    CmdTaken x 10#5 c op1 op2 s →
    ScratchReady (portMaster x) true (c.mod.toNat % 4) op1.toNat s →
    s.tansy.copy = none →
    MemoriesCanonical s →
    Completes (.sset x c op1 op2) s fun t =>
      let w := s.phys (s.placeOf (s.scratchWord (c.mod.toNat % 4) op1.toNat))
      Answers x c (valueBeat c.tag.toNat 0 (s.scratchUnit (c.mod.toNat % 4) op1.toNat)) s t ∧
      t.scratchUnit (c.mod.toNat % 4) op1.toNat = s.scratchUnit (c.mod.toNat % 4) op1.toNat ||| op2.toNat ∧
      (∀ v, v ≠ w → readWordAt t.mem v = readWordAt s.mem v) ∧
      (∀ a, a < 8 → a ≠ op1.toNat % 8 →
        leField (readWordAt t.mem w).data (4 * a) 4 = leField (readWordAt s.mem w).data (4 * a) 4) ∧
      (∀ i, i < 4 → ((readWordAt t.mem w).lane i = .uncorr ↔ (readWordAt s.mem w).lane i = .uncorr))) ∧
  (∀ (x : Port) (c : RCmd) (op1 op2 : W32) (s : State),
    CmdTaken x 11#5 c op1 op2 s →
    ScratchReady (portMaster x) true (c.mod.toNat % 4) op1.toNat s →
    s.tansy.copy = none →
    MemoriesCanonical s →
    Completes (.sclr x c op1 op2) s fun t =>
      let w := s.phys (s.placeOf (s.scratchWord (c.mod.toNat % 4) op1.toNat))
      Answers x c (valueBeat c.tag.toNat 0 (s.scratchUnit (c.mod.toNat % 4) op1.toNat)) s t ∧
      t.scratchUnit (c.mod.toNat % 4) op1.toNat =
        s.scratchUnit (c.mod.toNat % 4) op1.toNat &&& (op2.toNat ^^^ 0xFFFFFFFF) ∧
      (∀ v, v ≠ w → readWordAt t.mem v = readWordAt s.mem v) ∧
      (∀ a, a < 8 → a ≠ op1.toNat % 8 →
        leField (readWordAt t.mem w).data (4 * a) 4 = leField (readWordAt s.mem w).data (4 * a) 4) ∧
      (∀ i, i < 4 → ((readWordAt t.mem w).lane i = .uncorr ↔ (readWordAt s.mem w).lane i = .uncorr))) ∧
  (∀ (x : Port) (c : RCmd) (op1 : W32) (s : State),
    CmdTaken x 8#5 c op1 0 s →
    s.blockUp 0 = true →
    (areaOn (s.mem.areas.toList.getD (c.mod.toNat % 4) 0) = false ∨
      areaSize (s.mem.areas.toList.getD (c.mod.toNat % 4) 0) * 1024 ≤ op1.toNat) →
    Completes (.srd x c op1) s fun t =>
      Answers x c (statusBeat c.tag.toNat 4) s t ∧ t.mem.cells = s.mem.cells ∧ t.mem.errs = s.mem.errs) ∧
  (∀ (x : Port) (c : RCmd) (op1 op2 : W32) (s : State),
    CmdTaken x 9#5 c op1 op2 s →
    s.blockUp 0 = true →
    (areaOn (s.mem.areas.toList.getD (c.mod.toNat % 4) 0) = false ∨
      areaSize (s.mem.areas.toList.getD (c.mod.toNat % 4) 0) * 1024 ≤ op1.toNat) →
    Completes (.swr x c op1 op2) s fun t =>
      Answers x c (statusBeat c.tag.toNat 4) s t ∧ t.mem.cells = s.mem.cells ∧ t.mem.errs = s.mem.errs) ∧
  (∀ (x : Port) (c : RCmd) (op1 op2 : W32) (s : State),
    CmdTaken x 10#5 c op1 op2 s →
    s.blockUp 0 = true →
    (areaOn (s.mem.areas.toList.getD (c.mod.toNat % 4) 0) = false ∨
      areaSize (s.mem.areas.toList.getD (c.mod.toNat % 4) 0) * 1024 ≤ op1.toNat) →
    Completes (.sset x c op1 op2) s fun t =>
      Answers x c (statusBeat c.tag.toNat 4) s t ∧ t.mem.cells = s.mem.cells ∧ t.mem.errs = s.mem.errs) ∧
  (∀ (x : Port) (c : RCmd) (op1 op2 : W32) (s : State),
    CmdTaken x 11#5 c op1 op2 s →
    s.blockUp 0 = true →
    (areaOn (s.mem.areas.toList.getD (c.mod.toNat % 4) 0) = false ∨
      areaSize (s.mem.areas.toList.getD (c.mod.toNat % 4) 0) * 1024 ≤ op1.toNat) →
    Completes (.sclr x c op1 op2) s fun t =>
      Answers x c (statusBeat c.tag.toNat 4) s t ∧ t.mem.cells = s.mem.cells ∧ t.mem.errs = s.mem.errs)

/-- Tier 2. MARK, REWIND, RELEASE of either TARGET and FLUSH on a ring-read channel that the port consumes, ACTIVE, HELD
or DRAINING, complete with OK and move the pointers that the spec names (R50, R96 to R98, R109, R110); in AUTO, and in
FRAMEHOLD, which on such a channel takes the column of AUTO, LP then follows MP while a mark is valid and RP otherwise
(R99, R101). A FLUSH inside a packet stays armed and is performed with the packet's last word; on a channel without
COMPAT it fails with BADOP, as each of the commands does on a DISABLED channel, and on one in FAULT they complete with
FAULT (R50, R109). Where CAPACITY is below 128 once LP has moved, the channel enters FAULT CAPACITY (R46). -/
def Obligations.ChannelCommands : Prop :=
  (∀ (x : Port) (c : RCmd) (n : Fin 20) (s : State),
    CmdTaken x 4#5 c 0 0 s →
    Commands x c n s →
    Completes (.mark x c) s fun t =>
      (t.chan n).mp = (s.chan n).rp ∧ (t.chan n).markValid = true ∧ (t.chan n).markPseq = (s.chan n).nextPseq ∧
      (t.chan n).rp = (s.chan n).rp ∧
      (t.chan n).lp = (if (s.chan n).cfg.relmode = .explicit then (s.chan n).lp else (s.chan n).rp) ∧
      (t.chan n).flushArmed = (s.chan n).flushArmed ∧ Answers x c (statusBeat c.tag.toNat 0) s t) ∧
  (∀ (x : Port) (c : RCmd) (n : Fin 20) (s : State),
    CmdTaken x 5#5 c 0 0 s →
    Commands x c n s →
    Completes (.rewind x c) s fun t =>
      (t.chan n).rp = (s.chan n).mp ∧ (t.chan n).nextPseq = (s.chan n).markPseq ∧ (t.chan n).flushArmed = false ∧
      (t.chan n).cnt.flushes = (s.chan n).cnt.flushes ∧
      (t.chan n).lp = (if (s.chan n).cfg.relmode = .explicit then (s.chan n).lp else (s.chan n).mp) ∧
      (t.chan n).markValid = (s.chan n).markValid ∧ Answers x c (statusBeat c.tag.toNat 0) s t) ∧
  (∀ (x : Port) (c : RCmd) (n : Fin 20) (s : State),
    CmdTaken x 6#5 c 0 0 s →
    Commands x c n s →
    c.mod = 0#7 →
    Completes (.releaseToRp x c) s fun t =>
      (t.chan n).lp = (s.chan n).rp ∧ (t.chan n).mp = (s.chan n).rp ∧ (t.chan n).markValid = false ∧
      (t.chan n).rp = (s.chan n).rp ∧ (t.chan n).flushArmed = (s.chan n).flushArmed ∧
      Answers x c (statusBeat c.tag.toNat 0) s t) ∧
  (∀ (x : Port) (c : RCmd) (n : Fin 20) (s : State),
    CmdTaken x 6#5 c 0 0 s →
    Commands x c n s →
    c.mod = 1#7 →
    ((s.chan n).cfg.relmode = .explicit ∨ (s.chan n).markValid = true) →
    Completes (.releaseToMp x c) s fun t =>
      (t.chan n).lp = (s.chan n).mp ∧ (t.chan n).mp = (s.chan n).mp ∧ (t.chan n).rp = (s.chan n).rp ∧
      (t.chan n).markValid = (s.chan n).markValid ∧
      Answers x c (statusBeat c.tag.toNat 0) s t) ∧
  (∀ (x : Port) (c : RCmd) (n : Fin 20) (s : State),
    CmdTaken x 6#5 c 0 0 s →
    Commands x c n s →
    c.mod = 1#7 →
    (s.chan n).cfg.relmode ≠ .explicit →
    (s.chan n).markValid = false →
    Completes (.releaseToMp x c) s fun t =>
      (t.chan n).lp = (s.chan n).rp ∧ (t.chan n).mp = (s.chan n).rp ∧ (t.chan n).rp = (s.chan n).rp ∧
      (t.chan n).markValid = false ∧ Answers x c (statusBeat c.tag.toNat 0) s t) ∧
  (∀ (x : Port) (c : RCmd) (n : Fin 20) (s : State),
    CmdTaken x 7#5 c 0 0 s →
    Commands x c n s →
    (s.chan n).cfg.compat = true →
    (s.chan n).inPkt = none →
    Completes (.flush x c) s fun t =>
      (t.chan n).rp = (s.chan n).cp ∧ (t.chan n).lp = (s.chan n).cp ∧ (t.chan n).mp = (s.chan n).cp ∧
      (t.chan n).markValid = false ∧
      (t.chan n).flushArmed = false ∧ (t.chan n).cnt.flushes = inc32 (s.chan n).cnt.flushes ∧
      (t.chan n).nextPseq = (s.chan n).nextPseq ∧ Answers x c (statusBeat c.tag.toNat 0) s t) ∧
  (∀ (x : Port) (c : RCmd) (n : Fin 20) (s : State),
    CmdTaken x 7#5 c 0 0 s →
    Commands x c n s →
    (s.chan n).cfg.compat = true →
    (s.chan n).inPkt.isSome = true →
    Completes (.flush x c) s fun t =>
      t.chan n = { s.chan n with flushArmed := true } ∧ Answers x c (statusBeat c.tag.toNat 0) s t) ∧
  (∀ (x : Port) (c : RCmd) (n : Fin 20) (s : State) (k : PktPos),
    CmdTaken x 2#5 c 0 0 s →
    Consumes x c n s →
    (s.chan n).cfg.cls = .packet →
    (s.chan n).flushArmed = true →
    (s.chan n).inPkt = some k →
    k.total = k.done + 1 →
    s.ringReadable n ≠ 0 →
    (s.wordAtRp n).bad = false →
    Completes (.readp x c) s fun t =>
      Answers x c { tag := c.tag.toNat, last := true, stat := 0, vb := (16 + k.len) % 32,
                    data := (s.wordAtRp n).data } s t ∧
      (t.chan n).rp = (s.chan n).cp ∧ (t.chan n).lp = (s.chan n).cp ∧ (t.chan n).mp = (s.chan n).cp ∧
      (t.chan n).markValid = false ∧ (t.chan n).inPkt = none ∧ (t.chan n).flushArmed = false ∧
      (t.chan n).cnt.flushes = inc32 (s.chan n).cnt.flushes) ∧
  (∀ (x : Port) (c : RCmd) (n : Fin 20) (s : State),
    CmdTaken x 7#5 c 0 0 s →
    Commands x c n s →
    (s.chan n).cfg.compat = false →
    Completes (.flush x c) s fun t => t.ch = s.ch ∧ Answers x c (statusBeat c.tag.toNat rsBadop) s t) ∧
  (∀ (x : Port) (c : RCmd) (n : Fin 20) (s : State),
    CmdTaken x 4#5 c 0 0 s →
    chanOf c.ch.toNat = some n →
    (s.chan n).cfg.consumer = End.ofPort x →
    ((s.chan n).state = .disabled ∨ (s.chan n).state = .fault) →
    Completes (.mark x c) s fun t =>
      t.ch = s.ch ∧
      Answers x c (statusBeat c.tag.toNat (if (s.chan n).state = .fault then rsFault else rsBadop)) s t) ∧
  (∀ (x : Port) (c : RCmd) (n : Fin 20) (s : State),
    CmdTaken x 5#5 c 0 0 s →
    chanOf c.ch.toNat = some n →
    (s.chan n).cfg.consumer = End.ofPort x →
    ((s.chan n).state = .disabled ∨ (s.chan n).state = .fault) →
    Completes (.rewind x c) s fun t =>
      t.ch = s.ch ∧
      Answers x c (statusBeat c.tag.toNat (if (s.chan n).state = .fault then rsFault else rsBadop)) s t) ∧
  (∀ (x : Port) (c : RCmd) (n : Fin 20) (s : State),
    CmdTaken x 6#5 c 0 0 s →
    chanOf c.ch.toNat = some n →
    (s.chan n).cfg.consumer = End.ofPort x →
    ((s.chan n).state = .disabled ∨ (s.chan n).state = .fault) →
    c.mod = 0#7 →
    Completes (.releaseToRp x c) s fun t =>
      t.ch = s.ch ∧
      Answers x c (statusBeat c.tag.toNat (if (s.chan n).state = .fault then rsFault else rsBadop)) s t) ∧
  (∀ (x : Port) (c : RCmd) (n : Fin 20) (s : State),
    CmdTaken x 6#5 c 0 0 s →
    chanOf c.ch.toNat = some n →
    (s.chan n).cfg.consumer = End.ofPort x →
    ((s.chan n).state = .disabled ∨ (s.chan n).state = .fault) →
    c.mod = 1#7 →
    Completes (.releaseToMp x c) s fun t =>
      t.ch = s.ch ∧
      Answers x c (statusBeat c.tag.toNat (if (s.chan n).state = .fault then rsFault else rsBadop)) s t) ∧
  (∀ (x : Port) (c : RCmd) (n : Fin 20) (s : State),
    CmdTaken x 7#5 c 0 0 s →
    chanOf c.ch.toNat = some n →
    (s.chan n).cfg.consumer = End.ofPort x →
    ((s.chan n).state = .disabled ∨ (s.chan n).state = .fault) →
    Completes (.flush x c) s fun t =>
      t.ch = s.ch ∧
      Answers x c (statusBeat c.tag.toNat (if (s.chan n).state = .fault then rsFault else rsBadop)) s t) ∧
  (∀ (x : Port) (c : RCmd) (n : Fin 20) (s : State),
    CmdTaken x 6#5 c 0 0 s →
    chanOf c.ch.toNat = some n →
    (s.chan n).cfg.consumer = End.ofPort x →
    (s.chan n).state = .active →
    s.dirRead n = false →
    c.mod = 0#7 →
    (s.chan n).cfg.relmode = .explicit →
    (s.chan n).rp = (s.chan n).wp →
    (s.chan n).deferred ≠ [] →
    (s.chan n).s < 128 + (fenceOffsets s.tansy.fences (s.chan n)).length →
    Completes (.releaseToRp x c) s fun t =>
      (t.chan n).state = .fault ∧ (t.chan n).faultCause = 1 ∧ (t.chan n).lp = (s.chan n).rp ∧
      (t.port x).attnCause.getLsbD 12 = true ∧ Answers x c (statusBeat c.tag.toNat 0) s t)

/-- Tier 2. READ of a raw channel delivers the stored words at RP, as many as it asks for, and moves RP past them. READP
of a Stream packet at RP delivers it whole, header word first with the next PSEQ, the last word with its VB; PEEK
delivers the same words and moves no pointer; a READ of fewer words than the packet has leaves RP inside it (R65, R66,
R69, R73). On a directory-read channel READP delivers the slice at the delivery position and moves the position, and
PEEK the same words with no change (R73, R121). Where RP stands inside a packet, READP and PEEK deliver the rest of it
(DEDUCED, notes/assumptions/19.md). -/
def Obligations.ReadsDeliverStoredWords : Prop :=
  (∀ (x : Port) (c : RCmd) (op1 : W32) (n : Fin 20) (s : State),
    CmdTaken x 1#5 c op1 0 s →
    Consumes x c n s →
    (s.chan n).cfg.cls = .raw →
    op1 = 0 →
    s.ringReadable n ≠ 0 →
    (s.chan n).tails = [] →
    (s.wordAtRp n).bad = false →
    (s.chan n).flushArmed = false →
    Completes (.read x c op1) s fun t =>
      Answers x c { tag := c.tag.toNat, last := true, stat := 0, vb := 0, data := (s.wordAtRp n).data } s t ∧
      (t.chan n).rp = step1 (s.chan n).s (s.atRp n) ∧ (t.port x).rsel = some n) ∧
  (∀ (x : Port) (c : RCmd) (n : Fin 20) (s : State) (k : PktPos),
    CmdTaken x 2#5 c 0 0 s →
    Consumes x c n s →
    (s.chan n).cfg.cls = .packet →
    (s.chan n).inPkt = some k →
    k.total = k.done + 1 →
    s.ringReadable n ≠ 0 →
    (s.wordAtRp n).bad = false →
    (s.chan n).flushArmed = false →
    Completes (.readp x c) s fun t =>
      Answers x c { tag := c.tag.toNat, last := true, stat := 0, vb := (16 + k.len) % 32,
                    data := (s.wordAtRp n).data } s t ∧
      (t.chan n).rp = step1 (s.chan n).s (s.atRp n) ∧ (t.chan n).inPkt = none) ∧
  (∀ (x : Port) (c : RCmd) (n : Fin 20) (s : State) (k : PktPos),
    CmdTaken x 3#5 c 0 0 s →
    Consumes x c n s →
    (s.chan n).cfg.cls = .packet →
    (s.chan n).inPkt = some k →
    k.total = k.done + 1 →
    s.ringReadable n ≠ 0 →
    (s.wordAtRp n).bad = false →
    Completes (.peek x c) s fun t =>
      Answers x c { tag := c.tag.toNat, last := true, stat := 0, vb := (16 + k.len) % 32,
                    data := (s.wordAtRp n).data } s t ∧
      (t.chan n).rp = (s.chan n).rp ∧ (t.chan n).cp = (s.chan n).cp ∧ (t.chan n).nextPseq = (s.chan n).nextPseq ∧
      (t.chan n).inPkt = (s.chan n).inPkt) ∧
  (∀ (x : Port) (c : RCmd) (op1 : W32) (n : Fin 20) (s : State),
    CmdTaken x 1#5 c op1 0 s →
    Consumes x c n s →
    (s.chan n).cfg.cls = .raw →
    op1.toNat < 256 →
    op1.toNat < s.ringReadable n →
    (s.chan n).tails = [] →
    (s.chan n).deferred = [] →
    (s.wordsFrom n (op1.toNat + 1) (s.chan n).rp).all (fun w => !w.bad) = true →
    (s.chan n).flushArmed = false →
    Completes (.read x c op1) s fun t =>
      AnswersWords x c ((s.wordsFrom n (op1.toNat + 1) (s.chan n).rp).map fun w => (w.data, 0)) s t ∧
      (t.chan n).rp = ptrAfter (s.chan n).s (s.fenced n) (op1.toNat + 1) (s.chan n).rp ∧
      (t.chan n).cp = (s.chan n).cp) ∧
  (∀ (x : Port) (c : RCmd) (n : Fin 20) (s : State) (len : Nat),
    CmdTaken x 2#5 c 0 0 s →
    Consumes x c n s →
    (s.chan n).cfg.cls = .packet →
    (s.chan n).inPkt = none →
    (s.chan n).deferred = [] →
    leField (s.wordAtRp n).data 0 3 = len →
    pktWords len ≤ s.ringReadable n →
    (s.wordsFrom n (pktWords len) (s.chan n).rp).all (fun w => !w.bad) = true →
    (s.chan n).flushArmed = false →
    Completes (.readp x c) s fun t =>
      AnswersWords x c (packetWords (s.wordsFrom n (pktWords len) (s.chan n).rp) len
        fun d => withPseq d (s.chan n).nextPseq) s t ∧
      (t.chan n).rp = ptrAfter (s.chan n).s (s.fenced n) (pktWords len) (s.chan n).rp ∧ (t.chan n).inPkt = none ∧
      (t.chan n).nextPseq = ((s.chan n).nextPseq + 1) % 65536 ∧
      (t.chan n).cnt.pktDelivered = inc32 (s.chan n).cnt.pktDelivered) ∧
  (∀ (x : Port) (c : RCmd) (n : Fin 20) (s : State) (len : Nat),
    CmdTaken x 3#5 c 0 0 s →
    Consumes x c n s →
    (s.chan n).cfg.cls = .packet →
    (s.chan n).inPkt = none →
    (s.chan n).deferred = [] →
    leField (s.wordAtRp n).data 0 3 = len →
    pktWords len ≤ s.ringReadable n →
    (s.wordsFrom n (pktWords len) (s.chan n).rp).all (fun w => !w.bad) = true →
    Completes (.peek x c) s fun t =>
      AnswersWords x c (packetWords (s.wordsFrom n (pktWords len) (s.chan n).rp) len
        fun d => withPseq d (s.chan n).nextPseq) s t ∧
      (t.chan n).rp = (s.chan n).rp ∧ (t.chan n).lp = (s.chan n).lp ∧ (t.chan n).inPkt = none ∧
      (t.chan n).nextPseq = (s.chan n).nextPseq ∧ (t.chan n).cnt.pktDelivered = (s.chan n).cnt.pktDelivered) ∧
  (∀ (x : Port) (c : RCmd) (op1 : W32) (n : Fin 20) (s : State) (len : Nat),
    CmdTaken x 1#5 c op1 0 s →
    Consumes x c n s →
    (s.chan n).cfg.cls = .packet →
    (s.chan n).inPkt = none →
    (s.chan n).deferred = [] →
    leField (s.wordAtRp n).data 0 3 = len →
    op1.toNat < 256 →
    op1.toNat + 1 < pktWords len →
    op1.toNat < s.ringReadable n →
    (s.wordsFrom n (op1.toNat + 1) (s.chan n).rp).all (fun w => !w.bad) = true →
    (s.chan n).flushArmed = false →
    Completes (.read x c op1) s fun t =>
      ((t.port x).ret.drop (s.port x).ret.length).map (·.data) =
        (match (s.wordsFrom n (op1.toNat + 1) (s.chan n).rp).map (·.data) with
         | [] => []
         | d :: ds => withPseq d (s.chan n).nextPseq :: ds) ∧
      (t.port x).q = [] ∧
      (t.chan n).rp = ptrAfter (s.chan n).s (s.fenced n) (op1.toNat + 1) (s.chan n).rp ∧
      (t.chan n).inPkt = some ⟨len, pktWords len, op1.toNat + 1, leField (s.wordAtRp n).data 8 4⟩) ∧
  (∀ (x : Port) (c : RCmd) (n : Fin 20) (i : Fin 3) (k : Nat) (e : SliceEntry) (s : State),
    CmdTaken x 2#5 c 0 0 s →
    chanOf c.ch.toNat = some n →
    SlicePresent x n i k e s →
    k + 1 < ((s.chan n).record i).count →
    Completes (.readp x c) s fun t =>
      AnswersWords x c (s.sliceDelivered n i e) s t ∧ ((t.chan n).record i).pos = k + 1 ∧
      ((t.chan n).record i).state = .reading ∧ (t.chan n).nextPseq = ((s.chan n).nextPseq + 1) % 65536 ∧
      (t.chan n).cnt.pktDelivered = inc32 (s.chan n).cnt.pktDelivered) ∧
  (∀ (x : Port) (c : RCmd) (n : Fin 20) (i : Fin 3) (k : Nat) (e : SliceEntry) (s : State),
    CmdTaken x 3#5 c 0 0 s →
    chanOf c.ch.toNat = some n →
    SlicePresent x n i k e s →
    Completes (.peek x c) s fun t =>
      AnswersWords x c (s.sliceDelivered n i e) s t ∧ (t.chan n).records = (s.chan n).records ∧
      (t.chan n).nextPseq = (s.chan n).nextPseq ∧ (t.chan n).cnt = (s.chan n).cnt ∧
      (t.chan n).rp = (s.chan n).rp ∧ t.mem.cells = s.mem.cells ∧ t.mem.errs = s.mem.errs)

/-- Tier 2. RESYNC at a port with stable clocks and no accepted command makes the port READY: EXP_CSEQ follows its CSEQ,
the resync record takes the sequence values of before, and MOD[0] sets EXP_WSEQ and ends write refusal (R144, R149). At
the producer half of a Chain pair, which decodes nothing else of the read side, it makes the write side READY in the
same way and answers nothing (R219; DEDUCED, notes/assumptions/95.md). -/
def Obligations.ResyncMakesReady : Prop :=
  (∀ (x : Port) (c : RCmd) (op1 : W32) (s : State),
    (s.port x).state ≠ .off →
    s.chainHalf false = false →
    s.shadows = false →
    s.drives = true →
    (s.port x).q = [] →
    cmdParityOk 15#5 c op1 0 = true →
    malformed 15#5 c op1 0 = false →
    s.clocksStable x = true →
    s.blockUp (7 + portIdx x) = true →
    Completes (.resync x c op1) s fun t =>
      (t.port x).state = .ready ∧ (t.port x).expCseq = c.cseq + 1 ∧ (t.port x).lastAccepted = c.cseq ∧
      (t.port x).lastCompleted = c.cseq ∧ (t.port x).rsel = none ∧
      (t.port x).record.lastAccepted = (s.port x).lastAccepted.toNat ∧
      (t.port x).record.expWseq = (s.port x).expWseq.toNat ∧
      (t.port x).ret = (s.port x).ret ++ [statusBeat c.tag.toNat 0] ∧
      (c.mod.getLsbD 0 = true → (t.port x).expWseq = op1.setWidth 8 ∧ (t.port x).writeRefusal = false ∧
        (t.port x).wsel = none) ∧
      (c.mod.getLsbD 0 = false → (t.port x).expWseq = (s.port x).expWseq ∧ (t.port x).wsel = (s.port x).wsel)) ∧
  (∀ (x : Port) (c : RCmd) (op1 : W32) (s : State),
    (s.port x).state ≠ .off →
    s.chainHalf false = true →
    cmdParityOk 15#5 c op1 0 = true →
    malformed 15#5 c op1 0 = false →
    s.clocksStable x = true →
    s.blockUp (7 + portIdx x) = true →
    Completes (.resync x c op1) s fun t =>
      (t.port x).state = .ready ∧ (t.port x).ret = (s.port x).ret ∧ (t.port x).q = (s.port x).q ∧
      (t.port x).expCseq = (s.port x).expCseq ∧
      (c.mod.getLsbD 0 = true → (t.port x).expWseq = op1.setWidth 8 ∧ (t.port x).writeRefusal = false ∧
        (t.port x).wsel = none) ∧
      (c.mod.getLsbD 0 = false → (t.port x).expWseq = (s.port x).expWseq ∧ (t.port x).wsel = (s.port x).wsel))

/-- Tier 2. The order of the decoder's checks: a parity error answers PARITY and changes no sequence state; a command at
an ISOLATED port answers ISOLATED; a wrong CSEQ answers SEQGAP, takes the port to SEQGAP and counts (R135, R136). -/
def Obligations.DecoderRefusals : Prop :=
  (∀ (i : Instr) (x : Port) (opc : BitVec 5) (c : RCmd) (op1 op2 : W32) (s : State),
    asCommand i = some (x, opc, c, op1, op2) →
    (s.port x).state ≠ .off →
    s.chainHalf false = false →
    s.shadows = false →
    s.drives = true →
    (s.port x).q = [] →
    cmdParityOk opc c op1 op2 = false →
    Completes i s fun t =>
      (t.port x).ret = (s.port x).ret ++ [statusBeat c.tag.toNat 7] ∧ (t.port x).state = (s.port x).state ∧
      (t.port x).expCseq = (s.port x).expCseq ∧ (t.port x).attnCause.getLsbD 5 = true ∧
      (t.port x).cnt.parityErr = inc32 (s.port x).cnt.parityErr ∧ t.ch = s.ch ∧ t.mem = s.mem) ∧
  (∀ (i : Instr) (x : Port) (opc : BitVec 5) (c : RCmd) (op1 op2 : W32) (s : State),
    asCommand i = some (x, opc, c, op1, op2) →
    (s.port x).state = .isolated →
    s.chainHalf false = false →
    s.shadows = false →
    s.drives = true →
    (s.port x).q = [] →
    cmdParityOk opc c op1 op2 = true →
    opc ≠ 15#5 →
    Completes i s fun t =>
      (t.port x).ret = (s.port x).ret ++ [statusBeat c.tag.toNat 9] ∧ (t.port x).state = .isolated ∧
      (t.port x).expCseq = (s.port x).expCseq ∧ t.ch = s.ch ∧ t.mem = s.mem) ∧
  (∀ (i : Instr) (x : Port) (opc : BitVec 5) (c : RCmd) (op1 op2 : W32) (s : State),
    asCommand i = some (x, opc, c, op1, op2) →
    (s.port x).state = .seqgap →
    s.chainHalf false = false →
    s.shadows = false →
    s.drives = true →
    (s.port x).q = [] →
    cmdParityOk opc c op1 op2 = true →
    opc ≠ 15#5 →
    Completes i s fun t =>
      (t.port x).ret = (s.port x).ret ++ [statusBeat c.tag.toNat 6] ∧ (t.port x).state = .seqgap ∧
      (t.port x).expCseq = (s.port x).expCseq ∧ t.ch = s.ch ∧ t.mem = s.mem) ∧
  (∀ (i : Instr) (x : Port) (opc : BitVec 5) (c : RCmd) (op1 op2 : W32) (s : State),
    asCommand i = some (x, opc, c, op1, op2) →
    (s.port x).state = .ready →
    s.chainHalf false = false →
    s.shadows = false →
    s.drives = true →
    (s.port x).q = [] →
    cmdParityOk opc c op1 op2 = true →
    opc ≠ 15#5 →
    c.cseq ≠ (s.port x).expCseq →
    Completes i s fun t =>
      (t.port x).ret = (s.port x).ret ++ [statusBeat c.tag.toNat 6] ∧ (t.port x).state = .seqgap ∧
      (t.port x).attnCause.getLsbD 4 = true ∧ (t.port x).expCseq = (s.port x).expCseq ∧
      (t.port x).cnt.seqgapRefused = inc32 (s.port x).cnt.seqgapRefused ∧ t.ch = s.ch ∧ t.mem = s.mem)

/-- Tier 2. TIMEGET with SET at a free-set sender: with no valid time the counter takes the value and time is valid; a
value more than STEP_THRESHOLD ahead steps; a value behind by more changes the epoch (R146, R194, R195). -/
def Obligations.TimeSetAtSender : Prop :=
  (∀ (x : Port) (c : RCmd) (op1 op2 : W32) (s : State),
    CmdTaken x 17#5 c op1 op2 s →
    c.mod = 1#7 →
    s.time.valid = false →
    Completes (.timegetSet x c op1 op2) s fun t =>
      t.time.wall = stampWall ⟨op1.toNat, op2.toNat, 0⟩ ∧ t.time.valid = true ∧ t.time.epoch = s.time.epoch ∧
      t.time.trim = 0 ∧ (t.port x).q = []) ∧
  (∀ (x : Port) (c : RCmd) (op1 op2 : W32) (s : State),
    CmdTaken x 17#5 c op1 op2 s →
    c.mod = 1#7 →
    s.time.valid = true →
    (s.time.stepThreshold * tk : Nat) < (stampWall ⟨op1.toNat, op2.toNat, 0⟩ : Int) - s.time.wall →
    Completes (.timegetSet x c op1 op2) s fun t =>
      t.time.wall = stampWall ⟨op1.toNat, op2.toNat, 0⟩ ∧ t.time.steps = inc32 s.time.steps ∧
      t.time.epoch = s.time.epoch) ∧
  (∀ (x : Port) (c : RCmd) (op1 op2 : W32) (s : State),
    CmdTaken x 17#5 c op1 op2 s →
    c.mod = 1#7 →
    s.time.valid = true →
    (stampWall ⟨op1.toNat, op2.toNat, 0⟩ : Int) - s.time.wall < -(s.time.stepThreshold * tk : Nat) →
    Completes (.timegetSet x c op1 op2) s fun t =>
      t.time.wall = stampWall ⟨op1.toNat, op2.toNat, 0⟩ ∧ t.time.epoch = (s.time.epoch + 1) % 256 ∧
      t.time.epochChanges = inc32 s.time.epochChanges ∧ t.rst.aonEpoch = (s.time.epoch + 1) % 256)

/-- Tier 2. Frame of the answered commands: NOP, TIMEGET, LOCK, UNLOCK and STATUS change no channel, no byte of the
array, no link, time, object-dictionary or reset state, where Clover is down. -/
def Obligations.AnsweredCommandFrame : Prop :=
  ∀ (x : Port) (c : RCmd) (s t : State),
    s.twin.cloverState ≠ 2 →
    (∃ opc : BitVec 5, CmdTaken x opc c 0 0 s ∧
      ((opc = 0#5 ∧ exec (.nop x c) s = .next t) ∨
       (opc = 17#5 ∧ c.mod.getLsbD 0 = false ∧ exec (.timeget x c) s = .next t) ∨
       (opc = 12#5 ∧ exec (.lock x c) s = .next t) ∨ (opc = 13#5 ∧ exec (.unlock x c) s = .next t) ∨
       (opc = 14#5 ∧ exec (.status x c 0 0) s = .next t))) →
    t.ch = s.ch ∧ t.mem.cells = s.mem.cells ∧ t.mem.errs = s.mem.errs ∧ t.mem.desc = s.mem.desc ∧
    t.mem.areas = s.mem.areas ∧ t.link = s.link ∧ t.arq = s.arq ∧ t.time = s.time ∧ t.od = s.od ∧ t.upd = s.upd ∧
    t.rst = s.rst ∧ t.tansy = s.tansy ∧ t.yar = s.yar ∧ t.port (otherPort x) = s.port (otherPort x)

/-! ### Channels and ports -/

/-- Tier 2. DRAIN_COMPLETE disables a drained channel, and a broken pointer invariant faults one, where no port has an
accepted command (R42, R49). -/
def Obligations.ChannelEndings : Prop :=
  (∀ (n : Fin 20) (s : State),
    s.drained n = true →
    s.pA.q = [] →
    s.pB.q = [] →
    Completes (.drainComplete n) s fun t =>
      (t.chan n).state = .disabled ∧ (t.chan n).cfg.enable = 0 ∧ (t.chan n).pkt = none ∧ t.mem.cells = s.mem.cells) ∧
  (∀ (n : Fin 20) (s : State),
    (s.chan n).state = .active →
    s.pA.q = [] →
    s.pB.q = [] →
    Completes (.invariantBroken n) s fun t =>
      (t.chan n).state = .fault ∧ (t.chan n).faultCause = 3 ∧ (t.chan n).pkt = none ∧ (t.chan n).closing = [] ∧
      (t.chan n).wp = (t.chan n).cp ∧ (t.chan n).flow.head = none ∧
      (∀ i : Fin 3, (t.chan n).record i = {}) ∧ t.mem.cells = s.mem.cells)

/-- Tier 2. A READ that waits on an empty channel takes the word that has become readable, and completes with TIMEOUT
once STALL_TIMEOUT has passed with none (R75, R76). RIDLE_TIMEOUT sets the read-idle cause at the consumer's port, once,
and on a raw channel makes a tail commit of what the packer holds; a tail commit that waits for room goes on waiting
(R71, R79). Both times count while TIMECLK runs (R293), and a channel that has become empty has no read-idle period
(R79). -/
def Obligations.WaitingReadsAndIdle : Prop :=
  (∀ (x : Port) (n : Fin 20) (s : State) (k : PCmd),
    s.shadows = false →
    s.drives = true →
    (s.port x).q = [k] →
    k.stalled = true →
    k.opc = 1#5 →
    chanOf k.c.ch.toNat = some n →
    k.op1.toNat % 256 = k.delivered →
    (s.chan n).cfg.cls = .raw →
    (s.chan n).cfg.consumer = End.ofPort x →
    (s.chan n).state = .active →
    Roomy n s →
    s.ringReadable n ≠ 0 →
    (s.chan n).tails = [] →
    (s.wordAtRp n).bad = false →
    (s.chan n).flushArmed = false →
    Completes (.waitingReadDelivery x) s fun t =>
      (t.port x).ret = (s.port x).ret ++
        [{ tag := k.tag, last := true, stat := 0, vb := 0, data := (s.wordAtRp n).data }] ∧
      (t.port x).q = [] ∧ (t.chan n).rp = step1 (s.chan n).s (s.atRp n)) ∧
  (∀ (dt : Nat) (x : Port) (n : Fin 20) (s : State) (k : PCmd) (a : Nat),
    s.shadows = false →
    s.drives = true →
    (s.port x).q = [k] →
    k.stalled = true →
    k.opc = 1#5 →
    k.c.mod.getLsbD 0 = false →
    chanOf k.c.ch.toNat = some n →
    (s.chan n).cfg.cls = .raw →
    (s.chan n).cfg.stallTimeout ≠ 0 →
    (s.port x).stallStart = some a →
    a + us (s.chan n).cfg.stallTimeout ≤ (s.advance dt).pwr.timeclk →
    s.ringReadable n = 0 →
    Completes (.stallTimeout dt x) s fun t =>
      (t.port x).ret = (s.port x).ret ++ [statusBeat k.tag 2] ∧ (t.port x).q = [] ∧
      (t.port x).stallStart = none ∧ (t.chan n).rp = (s.chan n).rp) ∧
  (∀ (dt : Nat) (n : Fin 20) (x : Port) (s : State) (a : Nat),
    (s.chan n).cfg.cls = .packet →
    (s.chan n).cfg.consumer = End.ofPort x →
    (s.chan n).cfg.ridleTimeout ≠ 0 →
    (s.chan n).ridleStart = some a →
    a + us (s.chan n).cfg.ridleTimeout ≤ (s.advance dt).pwr.timeclk →
    (s.chan n).ridleFired = false →
    s.ridleNonEmpty n = true →
    Completes (.readIdleTimeout dt n) s fun t =>
      (t.port x).attnCause.getLsbD 10 = true ∧ (t.port x).attnChannels.getLsbD n.val = true ∧
      (t.chan n).ridleFired = true ∧ (t.chan n).wp = (s.chan n).wp ∧ (t.chan n).pkt = (s.chan n).pkt) ∧
  (∀ (dt : Nat) (n : Fin 20) (x : Port) (s : State) (a : Nat),
    (s.chan n).cfg.cls = .raw →
    (s.chan n).cfg.consumer = End.ofPort x →
    (s.chan n).state = .active →
    (s.chan n).cfg.ridleTimeout ≠ 0 →
    (s.chan n).ridleStart = some a →
    a + us (s.chan n).cfg.ridleTimeout ≤ (s.advance dt).pwr.timeclk →
    (s.chan n).ridleFired = false →
    (s.chan n).rawBuf ≠ [] →
    Roomy n s →
    s.free n ≠ 0 →
    (s.chan n).tails.length < 1536 →
    Completes (.readIdleTimeout dt n) s fun t =>
      (t.chan n).rawBuf = [] ∧ (t.chan n).cp = step1 (s.chan n).s (s.writeSlot n) ∧
      (t.chan n).cnt.pktCommitted = inc32 (s.chan n).cnt.pktCommitted ∧
      (t.port x).attnCause.getLsbD 10 = true) ∧
  (∀ (dt : Nat) (n : Fin 20) (s : State) (a : Nat),
    (s.chan n).cfg.cls = .raw →
    (s.chan n).cfg.ridleTimeout ≠ 0 →
    (s.chan n).ridleStart = some a →
    a + us (s.chan n).cfg.ridleTimeout ≤ (s.advance dt).pwr.timeclk →
    (s.chan n).ridleFired = false →
    (s.chan n).rawBuf ≠ [] →
    (s.chan n).tailPending = true →
    s.free n = 0 →
    Completes (.readIdleTimeout dt n) s fun t =>
      (t.chan n).rawBuf = (s.chan n).rawBuf ∧ (t.chan n).tailPending = true ∧ (t.chan n).cp = (s.chan n).cp ∧
      (t.chan n).cnt = (s.chan n).cnt) ∧
  (∀ (dt : Nat) (n : Fin 20) (s : State),
    s.ridleNonEmpty n = false →
    Completes (.readIdleTimeout dt n) s fun t => t = s.advance dt)

/-- Tier 2. The gate of a FILLING record of the current epoch opens once local time has reached PTS − GATE_LEAD (R120).
A READP that waits for an absent slice without history gets, at the stand-in deadline, an EMPTY stand-in of one word
with VB 16; both counters grow and the STANDIN cause is set at the consumer (R121 to R124). -/
def Obligations.GatesAndStandins : Prop :=
  (∀ (dt : Nat) (n : Fin 20) (slot : Fin 3) (s : State),
    s.dirRead n = true →
    (s.chan n).state = .active →
    ((s.chan n).record slot).state = .filling →
    ((s.chan n).record slot).gateOpen = false →
    ((s.chan n).record slot).epoch = s.time.epoch →
    s.timeValid = true →
    Roomy n s →
    (s.chan n).gateTime ((s.chan n).record slot) ≤ ((s.advance dt).time.wall : Int) →
    Completes (.gateOpen dt n slot) s fun t =>
      let r := (t.chan n).record slot
      r.gateOpen = true ∧ r.g = (s.chan n).gateTime ((s.chan n).record slot) ∧ r.sw = (s.chan n).sliceWait ∧
      r.d = r.g + (r.sw * tk : Nat) ∧ r.state = .filling ∧ r.entries = ((s.chan n).record slot).entries) ∧
  (∀ (dt : Nat) (n : Fin 20) (i : Fin 3) (j : Nat) (s : State) (k : PCmd),
    s.shadows = false →
    s.drives = true →
    s.pA.q = [k] →
    s.pB.q = [] →
    k.stalled = true →
    k.opc = 2#5 →
    chanOf k.c.ch.toNat = some n →
    s.dirRead n = true →
    (s.chan n).cfg.consumer = .portA →
    (s.chan n).state = .active →
    s.nextSlice n = some (i, j) →
    ((s.chan n).record i).entries = [] →
    (s.chan n).slotOf (fun r => r.state == .held) = none →
    s.announcedStandin n j ((s.chan n).record i).frame = none →
    Roomy n s →
    s.timeValid = true →
    ((s.chan n).record i).d ≤ ((s.advance dt).time.wall : Int) →
    Completes (.standinDeadline dt n) s fun t =>
      (∃ b, t.pA.ret = s.pA.ret ++ [b] ∧ b.tag = k.tag ∧ b.last = true ∧ b.stat = 0 ∧ b.vb = 16) ∧
      t.pA.q = [] ∧ t.pA.attnCause.getLsbD 6 = true ∧
      (t.chan n).cnt.standins = inc32 (s.chan n).cnt.standins ∧
      (t.chan n).cnt.standinEmpty = inc32 (s.chan n).cnt.standinEmpty)

/-- Tier 2. The clock monitor's verdict (R225; which command carries it is the model's choice, notes/assumptions/69.md).
A port found without a clock is isolated: its accepted commands are lost without a beat, selections clear, write refusal
begins, its lock slots go free and marked, and ISOLATIONS and ATTN say so (R36, R147, R149). Clocks found present again
count from that moment, and nothing else changes (R144). -/
def Obligations.ClockAbsentIsolates : Prop :=
  (∀ (x : Port) (wclk rclk : Bool) (s : State),
    (wclk = true ∨ rclk = true) →
    (s.port x).state = .ready →
    (∀ n : Fin 20, Roomy n s) →
    Completes (.clockAbsent x wclk rclk) s fun t =>
      (t.port x).state = .isolated ∧ (t.port x).q = [] ∧ (t.port x).ret = (s.port x).ret ∧
      (t.port x).wsel = none ∧ (t.port x).rsel = none ∧ (t.port x).writeRefusal = true ∧
      (t.port x).attnCause.getLsbD 13 = true ∧
      (t.port x).cnt.isolations = inc32 (s.port x).cnt.isolations ∧
      (∀ k : Fin 64, (s.slot k.val).owner = portOwner x → t.slot k.val = ⟨.free, true⟩) ∧
      (∀ k : Fin 64, (s.slot k.val).owner ≠ portOwner x → t.slot k.val = s.slot k.val)) ∧
  (∀ (x : Port) (s : State),
    (s.port x).wclkSince = none →
    Completes (.clockAbsent x false false) s fun t =>
      t.port x = { s.port x with wclkSince := some s.now, rclkSince := some ((s.port x).rclkSince.getD s.now) } ∧
      t.port (otherPort x) = s.port (otherPort x) ∧ t.ch = s.ch ∧ t.mem = s.mem)

/-- Tier 2. The probe of a port ends after 200 µs: with MODE 01h, or MODE 02h and a client found, the port is ISOLATED
with its termination applied; with MODE 02h and none it stays OFF (R150, R226). The return of a port's rail starts the
probe of a port kept OFF for want of it, and is logged (R328; DEDUCED, notes/assumptions/35.md). -/
def Obligations.ProbeEnds : Prop :=
  (∀ (dt : Nat) (x : Port) (detected : Bool) (z a : Nat) (s : State),
    (s.port x).probing = some a →
    a + us 200 ≤ s.now + 1250 * dt →
    ((s.port x).mode = 1 ∨ ((s.port x).mode = 2 ∧ detected = true)) →
    Completes (.probeEnd dt x detected z) s fun t =>
      (t.port x).state = .isolated ∧ (t.port x).odtInUse = probeOdt (s.port x).odt detected z ∧
      (t.port x).probe = bnat detected ∧ (t.port x).probing = none ∧ (t.port x).attnCause.getLsbD 13 = true) ∧
  (∀ (dt : Nat) (x : Port) (z a : Nat) (s : State),
    (s.port x).probing = some a →
    a + us 200 ≤ s.now + 1250 * dt →
    (s.port x).mode = 2 →
    Completes (.probeEnd dt x false z) s fun t =>
      (t.port x).state = (s.port x).state ∧ (t.port x).probe = 0 ∧ (t.port x).probing = none) ∧
  (∀ (x : Port) (s : State),
    s.yar.serving = true →
    (s.port x).state = .off →
    (s.port x).mode ≠ 0 →
    s.portUp x = true →
    Completes (.portRailRestored x) s fun t =>
      (t.port x).rail = true ∧ (t.port x).probing = some s.now ∧ t.yar.nextSeq = (s.yar.nextSeq + 1) % 2 ^ 24)

/-! ### Object writes: channels, memory, ports -/

/-- Tier 2. The moves of a channel that ENABLE commands (R49, R52, R53): from DISABLED to ACTIVE with every pointer at
(0, 0) where the checks pass, with ENABLE_REFUSAL and STATE where one fails, and with 0Ah where the settings cannot be
read (R275; that 0Ah stands whatever other check of R53 fails is the model's choice between R52 and R53,
notes/assumptions/65.md); to HELD, where raw bytes gathered in DRAINING stay; to DRAINING; and to DISABLED. -/
def Obligations.EnableMoves : Prop :=
  (∀ (h : OdHead) (n : Fin 20) (s : State),
    OdServed h 2 (0x2000 + n.val) 0x13 [1#8] s →
    (s.chan n).state = .disabled →
    s.blockUp 1 = true →
    s.unreadable = false →
    s.enableCheck n 1 = 0 →
    Completes (.enableActive h n) s fun t =>
      (t.chan n).state = .active ∧ (t.chan n).cfg.enable = 1 ∧ (t.chan n).wp = {} ∧ (t.chan n).cp = {} ∧
      (t.chan n).rp = {} ∧ (t.chan n).mp = {} ∧ (t.chan n).lp = {} ∧ (t.chan n).markValid = false ∧
      (∀ i : Fin 3, (t.chan n).record i = {}) ∧ Recorded h 0 t) ∧
  (∀ (h : OdHead) (n : Fin 20) (s : State),
    OdServed h 2 (0x2000 + n.val) 0x13 [1#8] s →
    (s.chan n).state = .disabled →
    s.blockUp 1 = true →
    s.unreadable = false →
    s.enableCheck n 1 ≠ 0 →
    Completes (.enableActive h n) s fun t =>
      (t.chan n).state = .disabled ∧ (t.chan n).enableRefusal = s.enableCheck n 1 ∧ Recorded h 0x0303 t) ∧
  (∀ (h : OdHead) (n : Fin 20) (s : State),
    OdServed h 2 (0x2000 + n.val) 0x13 [1#8] s →
    (s.chan n).state = .disabled →
    s.blockUp 1 = true →
    s.unreadable = true →
    Completes (.enableActive h n) s fun t =>
      (t.chan n).state = .disabled ∧ (t.chan n).enableRefusal = 10 ∧ Recorded h 0x0303 t) ∧
  (∀ (h : OdHead) (n : Fin 20) (s : State),
    OdServed h 2 (0x2000 + n.val) 0x13 [2#8] s →
    s.blockUp 1 = true →
    Roomy n s →
    ((s.chan n).state = .active ∨ (s.chan n).state = .draining) →
    Completes (.enableHold h n) s fun t =>
      (t.chan n).state = .held ∧ (t.chan n).cfg.enable = 2 ∧ (t.chan n).pkt = (s.chan n).pkt ∧ Recorded h 0 t ∧
      ((s.chan n).state = .draining → (t.chan n).rawBuf = (s.chan n).rawBuf)) ∧
  (∀ (h : OdHead) (n : Fin 20) (s : State),
    OdServed h 2 (0x2000 + n.val) 0x13 [3#8] s →
    s.blockUp 1 = true →
    s.unreadable = false →
    Roomy n s →
    ((s.chan n).state = .active ∨ (s.chan n).state = .held) →
    Completes (.enableDrain h n) s fun t =>
      (t.chan n).state = .draining ∧ (t.chan n).cfg.enable = 3 ∧ (t.chan n).pkt = (s.chan n).pkt ∧ Recorded h 0 t) ∧
  (∀ (h : OdHead) (n : Fin 20) (s : State),
    OdServed h 2 (0x2000 + n.val) 0x13 [0#8] s →
    s.blockUp 1 = true →
    (s.chan n).state ≠ .disabled →
    s.pA.q = [] →
    s.pB.q = [] →
    Completes (.enableDisable h n) s fun t =>
      (t.chan n).state = .disabled ∧ (t.chan n).cfg.enable = 0 ∧ (t.chan n).pkt = none ∧ Recorded h 0 t)

/-- Tier 2. Writes of descriptors, scratch areas and LOCK_FORCE (R27, R29, R37). -/
def Obligations.MemoryRightsWrites : Prop :=
  (∀ (h : OdHead) (m : Fin 6) (sub : Fin 8) (v : W32) (s : State),
    OdServed h 2 (0x2400 + m.val) (sub.val + 1) (leBytes v.toNat 4) s →
    (v.extractLsb 16 2).toNat ≤ (v.extractLsb 31 17).toNat →
    (∀ n : Fin 20, (s.chan n).enabled = true → s.rightsOk n = true → (s.putDesc m sub.val v).rightsOk n = true) →
    Completes (.regionDescriptorWrite h m sub v) s fun t =>
      (t.mem.desc.get m).get sub = v ∧ (∀ k : Fin 6, k ≠ m → t.mem.desc.get k = s.mem.desc.get k) ∧ Recorded h 0 t) ∧
  (∀ (h : OdHead) (m : Fin 6) (sub : Fin 8) (v : W32) (s : State),
    OdServed h 2 (0x2400 + m.val) (sub.val + 1) (leBytes v.toNat 4) s →
    (v.extractLsb 31 17).toNat < (v.extractLsb 16 2).toNat →
    Completes (.regionDescriptorWrite h m sub v) s fun t => t.mem = s.mem ∧ Recorded h 0x0302 t) ∧
  (∀ (h : OdHead) (k : Fin 4) (v : W32) (s : State),
    OdServed h 2 0x2300 (k.val + 1) (leBytes v.toNat 4) s →
    v &&& 0x83FFFFFF#32 = v →
    areaOn v = true →
    1 ≤ areaSize v →
    areaSize v ≤ 1024 →
    areaBase v + areaSize v ≤ 32768 →
    s.mem.areas = Vector.replicate 4 0 →
    (∀ n : Fin 20, (s.chan n).state = .disabled) →
    Completes (.scratchAreaWrite h k v) s fun t => t.mem.areas.get k = v ∧ Recorded h 0 t) ∧
  (∀ (h : OdHead) (v : Byte) (s : State),
    OdServed h 2 0x2300 0x13 [v] s →
    v.toNat < 64 →
    (s.slot v.toNat).owner ≠ .free →
    Completes (.lockForce h v) s fun t => t.slot v.toNat = ⟨.free, true⟩ ∧ Recorded h 0 t)

/-- Tier 1. COUNT_CLEAR clears the counters of its object, and nothing else of it: of a channel (R5, R58), of either
port (R152), of the link (R175), of the ARQ (R176), of a flow of a channel and of management (R183), of a policer
(R190), of TIME (R201), of the twin (R222), of the resets (R284), of power (R308), of the sensors (R240) and of access
(R262). -/
def Obligations.CountersClear : Prop :=
  (∀ (h : OdHead) (n : Fin 20) (v : Byte) (s : State),
    OdServed h 2 (0x2100 + n.val) 0x1B [v] s →
    Completes (.countClear h (0x2100 + n.val) 0x1B v) s fun t =>
      t.chan n = { s.chan n with cnt :=
        { (s.chan n).cnt with pktCommitted := 0, pktDelivered := 0, overflowRefused := 0, stateRefused := 0, aborted := 0,
                              standins := 0, late := 0, holdDropped := 0, ce := 0, ueDelivered := 0, flushes := 0 } } ∧
      Recorded h 0 t) ∧
  (∀ (h : OdHead) (x : Port) (v : Byte) (s : State),
    OdServed h 2 (0x3010 + portPlace x) 0x18 [v] s →
    Completes (.countClear h (0x3010 + portPlace x) 0x18 v) s fun t =>
      t.port x = { s.port x with cnt := {} } ∧ t.port (otherPort x) = s.port (otherPort x) ∧ Recorded h 0 t) ∧
  (∀ (h : OdHead) (v : Byte) (s : State),
    OdServed h 2 0x4020 0x1B [v] s →
    Completes (.countClear h 0x4020 0x1B v) s fun t =>
      t.arq = { s.arq with retxFrames := 0, nakRx := 0, rtoEvents := 0, giveupFrames := 0, nakTx := 0, dupRx := 0,
                           earlyRx := 0, earlyDiscarded := 0, skippedRx := 0, outOfWindow := 0 } ∧ Recorded h 0 t) ∧
  (∀ (h : OdHead) (v : Byte) (s : State),
    OdServed h 2 0x4001 0x17 [v] s →
    Completes (.countClear h 0x4001 0x17 v) s fun t => t.link = { s.link with cnt := {} } ∧ Recorded h 0 t) ∧
  (∀ (h : OdHead) (n : Fin 20) (v : Byte) (s : State),
    OdServed h 2 (0x4100 + n.val) 6 [v] s →
    Completes (.countClear h (0x4100 + n.val) 6 v) s fun t =>
      (t.chan n).flow =
        { (s.chan n).flow with txFrames := 0, txBytes := 0, pausedEvents := 0, windowWaits := 0 } ∧ Recorded h 0 t) ∧
  (∀ (h : OdHead) (v : Byte) (s : State),
    OdServed h 2 0x4114 6 [v] s →
    Completes (.countClear h 0x4114 6 v) s fun t =>
      t.link.mgmtFlow =
        { s.link.mgmtFlow with txFrames := 0, txBytes := 0, pausedEvents := 0, windowWaits := 0 } ∧
      t.ch = s.ch ∧ Recorded h 0 t) ∧
  (∀ (h : OdHead) (n : Fin 20) (v : Byte) (s : State),
    OdServed h 2 (0x4200 + n.val) 0x14 [v] s →
    ((s.chan n).pol.mode ≠ 1 ∨ (s.chan n).pol.cir ≤ (s.chan n).pol.pir) →
    Completes (.countClear h (0x4200 + n.val) 0x14 v) s fun t =>
      (t.chan n).pol =
        { (s.chan n).pol with green := 0, yellowAccepted := 0, yellowDropped := 0, redDropped := 0 } ∧ Recorded h 0 t) ∧
  (∀ (h : OdHead) (v : Byte) (s : State),
    OdServed h 2 0x5000 0x1B [v] s →
    Completes (.countClear h 0x5000 0x1B v) s fun t =>
      t.time = { s.time with steps := 0, epochChanges := 0, syncRx := 0, syncIgnored := 0, epochConflict := 0,
                             lockLosses := 0 } ∧ Recorded h 0 t) ∧
  (∀ (h : OdHead) (v : Byte) (s : State),
    OdServed h 2 0x6000 0x2A [v] s →
    Completes (.countClear h 0x6000 0x2A v) s fun t =>
      t.twin.takeovers = 0 ∧ t.twin.hbLosses = 0 ∧ t.twin.divergences = 0 ∧ t.twin.msgErr = 0 ∧
      t.twin.standinAnnounced = 0 ∧ t.twin.unsourced = 0 ∧ t.twin.discarded = 0 ∧ t.twin.streamGap = 0 ∧
      t.twin.chainBytes = 0 ∧ t.twin.lastStall = s.twin.lastStall ∧ t.twin.role = s.twin.role ∧ Recorded h 0 t) ∧
  (∀ (h : OdHead) (v : Byte) (s : State),
    OdServed h 2 0x7000 0x0B [v] s →
    Completes (.countClear h 0x7000 0x0B v) s fun t =>
      t.rst = { s.rst with counts := Vector.replicate 9 0, wdtEscalations := 0, optionRestarts := 0 } ∧ Recorded h 0 t) ∧
  (∀ (h : OdHead) (v : Byte) (s : State),
    OdServed h 2 0x7100 0x15 [v] s →
    Completes (.countClear h 0x7100 0x15 v) s fun t =>
      t.pwr.dozeEntries = 0 ∧ t.pwr.sleepEntries = 0 ∧ t.pwr.sleepAborts = 0 ∧ t.pwr.levelChanges = 0 ∧
      t.pwr.regLimits = 0 ∧ t.pwr.level = s.pwr.level ∧ Recorded h 0 t) ∧
  (∀ (h : OdHead) (v : Byte) (s : State),
    OdServed h 2 0x9000 0x0F [v] s →
    Completes (.countClear h 0x9000 0x0F v) s fun t =>
      t.yar = { s.yar with tjPeak := none, overrideCount := 0, yarrowResets := 0, mgmtUnserved := 0, sramCe := 0 } ∧
      Recorded h 0 t) ∧
  (∀ (h : OdHead) (v : Byte) (s : State),
    OdServed h 2 0x1010 0x10 [v] s →
    Completes (.countClear h 0x1010 0x10 v) s fun t =>
      t.od.authFail = 0 ∧ t.od.seqReject = 0 ∧ t.od.dupReq = 0 ∧ t.od.lockouts = 0 ∧ t.od.mbxRejected = 0 ∧
      Recorded h 0 t)

/-- Tier 2. MODE of a port that is OFF starts its probe where its block runs and its rail is in range; MODE 00h isolates
the port and takes it OFF (R147, R150). -/
def Obligations.PortModeWrites : Prop :=
  (∀ (h : OdHead) (x : Port) (v : Byte) (s : State),
    OdServed h 2 (0x3000 + portPlace x) 1 [v] s →
    v ≠ 0#8 →
    (s.port x).state = .off →
    s.portUp x = true →
    (s.port x).rail = true →
    Completes (.portModeOn h x v) s fun t =>
      (t.port x).mode = v.toNat ∧ (t.port x).probing = some s.now ∧ (t.port x).state = .off ∧ Recorded h 0 t) ∧
  (∀ (h : OdHead) (x : Port) (s : State),
    OdServed h 2 (0x3000 + portPlace x) 1 [0#8] s →
    (s.port x).state ≠ .off →
    Completes (.portModeOff h x) s fun t =>
      (t.port x).mode = 0 ∧ (t.port x).state = .off ∧ (t.port x).q = [] ∧ (t.port x).writeRefusal = true ∧
      (t.port x).wsel = none ∧ Recorded h 0 t)

/-- Tier 2. TANSY_CMD: a destructive march with every channel DISABLED and no area closes the memory; a preserving march
and a scrub pass start; 04h asks a preserving march to stop. REPAIR_CLEAR erases the field repair log (R311 to R313,
R323, R324). -/
def Obligations.TansyCommands : Prop :=
  (∀ (h : OdHead) (s : State),
    OdServed h 2 0x8000 0x11 [1#8] s →
    s.tansyUp = true →
    s.allDisabled = true →
    s.anyArea = false →
    s.memOpen = true →
    s.marching = false →
    Completes (.destructiveMarch h) s fun t =>
      t.tansy.destructive = true ∧ t.mem.clearState = 1 ∧ t.memOpen = false ∧ Recorded h 0 t) ∧
  (∀ (h : OdHead) (s : State),
    OdServed h 2 0x8000 0x11 [2#8] s →
    s.tansyUp = true →
    s.memOpen = true →
    s.tansy.preserving = false →
    Completes (.preservingMarch h) s fun t => t.tansy.preserving = true ∧ t.mem = s.mem ∧ Recorded h 0 t) ∧
  (∀ (h : OdHead) (s : State),
    OdServed h 2 0x8000 0x11 [3#8] s →
    s.tansyUp = true →
    s.memOpen = true →
    s.tansy.scrubbing = false →
    Completes (.scrubNow h) s fun t =>
      t.tansy.scrubbing = true ∧ t.tansy.scrubStart = some s.now ∧ t.mem.cells = s.mem.cells ∧ Recorded h 0 t) ∧
  (∀ (h : OdHead) (s : State),
    OdServed h 2 0x8000 0x11 [4#8] s →
    s.tansyUp = true →
    s.tansy.preserving = true →
    Completes (.stopMarch h) s fun t => t.tansy.stopRequested = true ∧ t.mem = s.mem ∧ Recorded h 0 t) ∧
  (∀ (h : OdHead) (v : Byte) (s : State),
    OdServed h 2 0x8000 0x1F [v] s →
    s.allDisabled = true →
    s.flashWritable = true →
    Completes (.repairClear h v) s fun t => t.tansy.fieldLog = [] ∧ t.tansy.rowMaps = s.tansy.rowMaps ∧ Recorded h 0 t)

/-! ### Object writes: store, access, roles, log, update, time, twin, resets, power -/

/-- Tier 2. SAVE takes the running values and begins a step that holds the service with STORE_STATE 01h, and its end
stores them; RESTORE_DEFAULTS erases them in the same way; STORE_LOCK locks the store (R261). LOG_CLEAR 01h clears the
log RAM; 02h erases the flash ring, each page once more (R236, R242). That the flash step ends in one step on an empty
queue is the model's choice (notes/assumptions/2.md; DEDUCED, notes/assumptions/91.md): R248 and R261 give only that the
service is held. -/
def Obligations.StoreAndLogClear : Prop :=
  (∀ (h : OdHead) (v : Byte) (s : State),
    OdServed h 2 0x1100 1 [v] s →
    s.storeWritable = true →
    Completes (.save h v) s fun t =>
      Begun (.save s.upd.saveSlot s.running) s t ∧ t.od.storeState = 1 ∧ t.od.saved = s.od.saved ∧
      t.od.saveCount = s.od.saveCount ∧ t.ch = s.ch) ∧
  (∀ (image : List Byte) (slot : Nat) (vals : List Saved) (s : State),
    Ending (.save slot vals) image s →
    ∃ t, step s = .next t ∧ Ended image 0 t ∧ t.od.storeState = 0 ∧ t.od.saved = vals ∧
      t.od.saveCount = inc32 s.od.saveCount ∧ t.od.storedSchema = s.schema ∧ t.ch = s.ch) ∧
  (∀ (h : OdHead) (v : Byte) (s : State),
    OdServed h 2 0x1100 2 [v] s →
    s.storeWritable = true →
    Completes (.restoreDefaults h v) s fun t =>
      Begun .restore s t ∧ t.od.storeState = 2 ∧ t.od.saved = s.od.saved ∧ t.ch = s.ch) ∧
  (∀ (image : List Byte) (s : State),
    Ending .restore image s →
    ∃ t, step s = .next t ∧ Ended image 0 t ∧ t.od.storeState = 4 ∧ t.od.saved = [] ∧ t.ch = s.ch) ∧
  (∀ (h : OdHead) (v : Byte) (s : State),
    OdServed h 2 0x1100 3 [v] s →
    Completes (.storeLock h v) s fun t => t.od.storeLock = true ∧ Recorded h 0 t) ∧
  (∀ (h : OdHead) (v : Byte) (s : State) (o : OdReq),
    Attended h s →
    s.od.mailbox.judge h.reqseq = .run →
    (headReq h 2 0x1100 1 [v]).ask = .od o →
    o.fieldsOk = true →
    s.od.storeLock = true →
    Completes (.save h v) s fun t =>
      t.od.saved = s.od.saved ∧ t.od.saveCount = s.od.saveCount ∧ Recorded h 0x0203 t) ∧
  (∀ (v : SettingsSlot) (schema : Nat) (vals : List Saved), (v.begin schema vals).best = v.best) ∧
  (∀ (h : OdHead) (s : State),
    OdServed h 2 0x9100 7 [1#8] s →
    Completes (.logRamClear h) s fun t => t.yar.logRam = [] ∧ t.yar.flashLog = s.yar.flashLog ∧ Recorded h 0 t) ∧
  (∀ (h : OdHead) (s : State),
    OdServed h 2 0x9100 7 [2#8] s →
    s.flashWritable = true →
    Completes (.flashRingErase h) s fun t =>
      t.yar.flashLog = [] ∧ t.yar.eraseMax = s.yar.eraseMax + 1 ∧ t.yar.logRam = s.yar.logRam ∧ Recorded h 0 t)

/-- Tier 2. A key written in one segment with its CRC takes effect whole at the end of its step; KEY_LOCK locks the
keys; FACTORY_LOCK begins its fuse sequence, and takes effect where the fuse reads back as written, and is STATE
otherwise; while a fuse sequence runs it is BUSY (R257, R260, R262). That the step of a key or a fuse ends in a step on
an empty queue is the model's choice (notes/assumptions/2.md, notes/assumptions/91.md); the values of KEY_LOCK and
FACTORY_LOCK are those of notes/assumptions/51.md. -/
def Obligations.KeysAndLocks : Prop :=
  (∀ (h : OdHead) (data : List Byte) (s : State),
    OdServed h 4 0x1010 1 data s →
    h.flags = 1 →
    h.offset = 0 →
    h.crcTotal = crc32c data →
    data.length = 16 →
    s.od.link.session = none →
    s.flashWritable = true →
    Completes (.keyWrite h 1 data) s fun t =>
      (∃ x : Task, t.od.task = some x ∧ x.kind = .key 1 data ∧ x.path = .mailbox) ∧
      t.od.wallKey = s.od.wallKey ∧ t.od.mailbox.session = none ∧ t.od.mailbox.last = s.od.mailbox.last) ∧
  (∀ (image key : List Byte) (s : State),
    Ending (.key 1 key) image s →
    ∃ t, step s = .next t ∧ Ended image 0 t ∧ t.od.wallKey = key ∧ t.od.operatorKey = s.od.operatorKey ∧
      t.od.observerKey = s.od.observerKey ∧ t.upd = s.upd) ∧
  (∀ (h : OdHead) (v : Byte) (s : State),
    OdServed h 2 0x1010 5 [v] s →
    Completes (.keyLock h v) s fun t => t.od.keyLock = true ∧ t.od.wallKey = s.od.wallKey ∧ Recorded h 0 t) ∧
  (∀ (h : OdHead) (v : Byte) (readBack : Bool) (s : State),
    OdServed h 2 0x1010 0x0D [v] s →
    s.upd.raising = none →
    Completes (.factoryLock h v readBack) s fun t =>
      Begun (.lockFuse (v == 1#8) readBack) s t ∧ t.upd = s.upd) ∧
  (∀ (h : OdHead) (v : Byte) (readBack b : Bool) (s : State),
    OdServed h 2 0x1010 0x0D [v] s →
    s.upd.raising = some b →
    Completes (.factoryLock h v readBack) s fun t =>
      t.upd = s.upd ∧ t.od.task = none ∧ t.od.mailbox = s.od.mailbox ∧
      ∃ img, t.od.mbxRsp = some img ∧ leField img 14 2 = abBusy) ∧
  (∀ (image : List Byte) (v : Bool) (s : State),
    Ending (.lockFuse v true) image s →
    ∃ t, step s = .next t ∧ Ended image 0 t ∧ t.upd.factoryLock = v ∧ t.upd.lockFuse = some v) ∧
  (∀ (image : List Byte) (v : Bool) (s : State),
    Ending (.lockFuse v false) image s →
    ∃ t, step s = .next t ∧ Ended image 0x0303 t ∧ t.upd = s.upd)

/-- Tier 2. ROLE and PAIR_MODE wait for the next Device reset; SWAP of an ACTIVE device with a STANDBY partner releases
the latch (R214, R264). -/
def Obligations.RolesAndSwap : Prop :=
  (∀ (h : OdHead) (v : Byte) (s : State),
    OdServed h 2 0x1200 1 [v] s →
    Completes (.role h v) s fun t =>
      t.rst.roleNext = v.toNat ∧ t.rst.roleInUse = s.rst.roleInUse ∧ t.ch = s.ch ∧ Recorded h 0 t) ∧
  (∀ (h : OdHead) (v : Byte) (s : State),
    OdServed h 2 0x6000 1 [v] s →
    Completes (.pairMode h v) s fun t =>
      t.rst.pairNext = v.toNat ∧ t.twin.pairInUse = s.twin.pairInUse ∧ t.twin.role = s.twin.role ∧ Recorded h 0 t) ∧
  (∀ (h : OdHead) (v : Byte) (s : State),
    OdServed h 2 0x6000 2 [v] s →
    s.swapAllowed = true →
    Completes (.swap h v) s fun t => t.twin.role = .standby ∧ t.twin.own = false ∧ Recorded h 0 t)

/-- Tier 2. ACTIVATE of a checked image makes it PENDING and resets Yarrow; COMMIT in TRIAL makes the running image the
committed one and begins the step that verifies the control record; where the image's rollback value is above the
counter, the fuses follow, which raise the counter where they read back as written and are STATE otherwise (R269, R271,
R273). A verified control record replaces the older copy and is the one read next; one not yet verified leaves the one
before it in force (R266). RAM_START in the loader starts the checked image in SRAM (R276, R287). That a flash or fuse
step ends in a step on an empty queue is the model's choice (notes/assumptions/2.md, notes/assumptions/91.md), and what
the loader serves that of notes/assumptions/50.md. -/
def Obligations.FirmwareUpdate : Prop :=
  (∀ (h : OdHead) (s : State),
    OdServed h 2 0xA000 8 [1#8] s →
    s.upd.state = .committed →
    s.upd.imageCheckReg = 0 →
    s.blockUp 17 = true →
    Completes (.activate h 1#8) s fun t =>
      t.upd.state = .pending ∧ t.upd.trialSlot = s.upd.otherSlot ∧ t.yar.serving = false ∧
      t.od.mailbox.last = some h.reqseq) ∧
  (∀ (h : OdHead) (v : Byte) (readBack : Bool) (s : State),
    OdServed h 2 0xA000 9 [v] s →
    s.flashWritable = true →
    s.unreadable = false →
    s.upd.state = .trial →
    s.upd.raising = none →
    Completes (.commit h v readBack) s fun t =>
      t.upd.state = .committed ∧ t.upd.committedSlot = s.upd.runningSlot ∧ t.upd.lastResult = 1 ∧
      t.upd.rollbackFuse = s.upd.rollbackFuse ∧ t.od.mailbox = s.od.mailbox ∧
      (∃ x : Task, t.od.task = some x ∧ x.path = .mailbox ∧
        x.kind = .record 0 (if t.upd.mustRaise = true then some readBack else none))) ∧
  (∀ (image : List Byte) (code : Nat) (s : State),
    Ending (.record code none) image s →
    ∃ t, step s = .next t ∧ Ended image code t ∧ t.upd = s.upd.verifyCtl) ∧
  (∀ (image : List Byte) (code : Nat) (readBack : Bool) (s : State),
    Ending (.record code (some readBack)) image s →
    ∃ t, step s = .next t ∧ t.upd = s.upd.verifyCtl ∧ t.od.task = some ⟨.rollback readBack, .mailbox, image, none⟩ ∧
      t.od.mailbox.last = some (parseImage image).reqseq ∧ t.od.mailbox.lastAbort = code) ∧
  (∀ (image : List Byte) (s : State),
    Ending (.rollback true) image s →
    s.upd.mustRaise = true →
    ∃ t, step s = .next t ∧ Ended image 0 t ∧ t.upd.mustRaise = false ∧ s.upd.rollbackFuse < t.upd.rollbackFuse) ∧
  (∀ (image : List Byte) (s : State),
    Ending (.rollback false) image s →
    ∃ t, step s = .next t ∧ Ended image 0x0303 t ∧ t.upd = s.upd) ∧
  (∀ u : UpdSt, u.keepCtl.loadCtl = u.keepCtl ∧ (u.keepCtl.ctlA = u.ctlA ∨ u.keepCtl.ctlB = u.ctlB)) ∧
  (∀ (u : UpdSt) (a b : CtlRec),
    u.ctlA = some a →
    u.ctlB = some b →
    a.good = true →
    b.good = true →
    a.seq ≠ b.seq →
    u.recordCtl.loadCtl.committedSlot = u.loadCtl.committedSlot ∧ u.recordCtl.loadCtl.state = u.loadCtl.state ∧
    u.recordCtl.loadCtl.trialSlot = u.loadCtl.trialSlot) ∧
  (∀ (h : OdHead) (v : Byte) (s : State) (o : OdReq),
    h.src = .mailbox →
    h.addr = 0 →
    h.keysel = 0 →
    h.mac = zeros 8 →
    s.mailboxUp = true →
    s.od.mbxReq = none →
    s.od.task = none →
    s.od.queue = [] →
    s.yar.loader = true →
    s.loaderLink = false →
    s.od.mailbox.judge h.reqseq = .run →
    (headReq h 2 0xA000 0x10 [v]).ask = .od o →
    s.odCheck .mailbox 0 o = 0 →
    s.upd.ramCheck = 0 →
    Completes (.ramStart h v) s fun t =>
      t.upd.runningSlot = 2 ∧ t.yar.loader = false ∧ t.yar.wdtAt = some s.yclkNow ∧ t.rst.yarBooted = true)

/-- Tier 2. SOURCE takes effect at once and makes a free-running sender's time valid; EPOCH_BUMP at a sender is an epoch
change, and is answered STATE at a receiver (R194, R195, R201). That it is answered STATE while TIME is held is the
model's choice (DESIGN CHOICE, notes/assumptions/96.md). What elapsed time alone does to TIME: the end of a slew, the
start of holdover, and its end (R194, R196, R198, R199). -/
def Obligations.TimeWritesAndEvents : Prop :=
  (∀ (h : OdHead) (v : Byte) (s : State),
    OdServed h 2 0x5000 1 [v] s →
    Completes (.source h v) s fun t =>
      t.time.source = v.toNat ∧ t.time.wall = s.time.wall ∧ (s.sender = true → v = 0#8 → s.blockUp 2 = true → t.time.valid = true) ∧
      Recorded h 0 t) ∧
  (∀ (h : OdHead) (v : Byte) (s : State),
    OdServed h 2 0x5000 8 [v] s →
    s.sender = true →
    s.blockUp 2 = true →
    Completes (.epochBump h v) s fun t =>
      t.time.epoch = (s.time.epoch + 1) % 256 ∧ t.rst.aonEpoch = (s.time.epoch + 1) % 256 ∧
      t.time.wall = s.time.wall ∧ Recorded h 0 t) ∧
  (∀ (h : OdHead) (v : Byte) (s : State),
    OdServed h 2 0x5000 8 [v] s →
    (s.sender = false ∨ s.blockUp 2 = false) →
    Completes (.epochBump h v) s fun t => t.time = s.time ∧ Recorded h 0x0303 t) ∧
  (∀ (dt : Nat) (s : State),
    s.pwr.clkSource = 1 →
    s.blockUp 2 = true →
    s.time.slew ≠ 0 →
    slewTicks s.time ≤ dt →
    Completes (.slewEnd dt) s fun t =>
      t.time.slew = 0 ∧ t.time.trim = 0 ∧ t = { s.advance dt with time := t.time }) ∧
  (∀ (dt a : Nat) (s : State),
    s.sender = false →
    s.time.lastUsed = some a →
    s.time.period ≠ 0 →
    2 * s.time.period ≤ ((s.now + 1250 * dt - a : Nat) : Rat) →
    Completes (.holdoverStart dt) s fun t =>
      t.time.inHoldover = true ∧ t.time.trim = s.time.freq ∧ t = { s.advance dt with time := t.time }) ∧
  (∀ (dt a : Nat) (s : State),
    s.sender = false →
    s.time.lastUsed = some a →
    a + ms s.time.holdover ≤ s.now + 1250 * dt →
    s.time.locked = true →
    Completes (.holdoverExpiry dt) s fun t =>
      t.time.locked = false ∧ t.time.lockLosses = inc32 s.time.lockLosses ∧
      (∀ x : Port, (t.port x).attnCause.getLsbD 15 = true) ∧ t.ch = s.ch ∧ t.mem = s.mem)

/-- Tier 2. RESET_REQUEST 01h resets Yarrow, 02h the Stream Buffer subsystem and 03h the device, each as source SWREQ;
BLOCK_RESET takes the value written where R289 does not refuse it; SLEEP_REQUEST begins an entry at E1, and is refused
with BUSY while an entry is in progress (R277, R278, R289, R291, R299). That a reach is held at once, its three BYE
copies sent in the same step, and not 3 µs later, is the model's choice (notes/assumptions/83.md); that a request while
an entry is in progress abandons that entry is the reading of notes/assumptions/45.md. -/
def Obligations.ResetAndSleepWrites : Prop :=
  (∀ (h : OdHead) (s : State),
    OdServed h 2 0x7000 3 [1#8] s →
    Completes (.resetRequest h 1#8) s fun t =>
      t.rst.cause.getLsbD 4 = true ∧ t.rst.lastReach = 1 ∧ t.yar.serving = false ∧
      t.yar.yarrowResets = inc32 s.yar.yarrowResets ∧ t.od.mailbox.last = some h.reqseq) ∧
  (∀ (h : OdHead) (s : State),
    OdServed h 2 0x7000 3 [3#8] s →
    Completes (.resetRequest h 3#8) s fun t =>
      t.rst.cause.getLsbD 4 = true ∧ t.rst.lastReach = 3 ∧ t.rst.phase = .held ∧
      (∀ n : Fin 20, (t.chan n).state = .disabled) ∧ t.link.state = .off ∧ t.mem.cells = s.mem.cells) ∧
  (∀ (h : OdHead) (s : State),
    OdServed h 2 0x7000 3 [2#8] s →
    Completes (.resetRequest h 2#8) s fun t =>
      t.rst.cause.getLsbD 4 = true ∧ t.rst.lastReach = 2 ∧ t.rst.sbHeld = true ∧
      t.rst.blockReset &&& 0x3FF#32 = 0x3FF#32 ∧ (∀ n : Fin 20, (t.chan n).state = .disabled) ∧ t.link.state = .off ∧
      t.time.valid = false ∧ t.twin.own = false ∧ t.yar.serving = s.yar.serving ∧
      t.od.mailbox.last = some h.reqseq) ∧
  (∀ (h : OdHead) (v : W32) (s : State),
    OdServed h 2 0x7010 1 (leBytes v.toNat 4) s →
    s.blockResetRefused v = false →
    Completes (.blockReset h v) s fun t =>
      t.rst.blockReset = if s.sbSourced = true then (v &&& 0x3F0000#32) ||| 0x3FF#32 else v &&& 0x3F03FF#32) ∧
  (∀ (h : OdHead) (s : State),
    OdServed h 2 0x7100 7 [1#8] s →
    s.pwr.state = .run →
    s.coolEnough = true →
    Completes (.sleepRequestRetention h) s fun t =>
      t.pwr.state = .entering ∧ t.pwr.entry = 1 ∧ t.pwr.step = 1 ∧ Recorded h 0 t) ∧
  (∀ (h : OdHead) (s : State),
    OdServed h 2 0x7100 7 [1#8] s →
    s.coolEnough = false →
    Completes (.sleepRequestRetention h) s fun t => t.pwr.entry = s.active.pwr.entry ∧ Recorded h 0x0303 t) ∧
  (∀ (h : OdHead) (s : State),
    OdServed h 2 0x7100 7 [2#8] s →
    s.pwr.state = .run →
    Completes (.sleepRequestOff h) s fun t =>
      t.pwr.state = .entering ∧ t.pwr.entry = 2 ∧ t.pwr.step = 1 ∧ Recorded h 0 t) ∧
  (∀ (h : OdHead) (s : State),
    OdServed h 2 0x7100 7 [2#8] s →
    s.pwr.state = .entering →
    Completes (.sleepRequestOff h) s fun t =>
      t.od.mailbox = s.od.mailbox ∧ ∃ img, t.od.mbxRsp = some img ∧ leField img 14 2 = abBusy) ∧
  (∀ (h : OdHead) (s : State),
    OdServed h 2 0x7100 7 [1#8] s →
    s.pwr.state = .entering →
    s.coolEnough = true →
    Completes (.sleepRequestRetention h) s fun t =>
      t.od.mailbox = s.od.mailbox ∧ ∃ img, t.od.mbxRsp = some img ∧ leField img 14 2 = abBusy)

/-- Tier 2. The actions of the link's entries: ENABLE 1 takes an OFF link to DETECT; ENABLE 0 while UP sends three BYE
and goes OFF with LEAVE_CAUSE 0Ah; RETRAIN leaves UP with 09h; LINKRESET_SEND sends three LINKRESET and leaves with 05h;
WAKE_PEER starts Bluebell (R160, R162, R171 to R173). The three copies stand with nothing between them, sent within the
commanding step (the model's choice, notes/assumptions/83.md), and WAKE_PEER from UP goes to DETECT at once (DEDUCED,
notes/assumptions/23.md). -/
def Obligations.LinkActions : Prop :=
  (∀ (h : OdHead) (s : State),
    OdServed h 2 0x4000 1 [1#8] s →
    s.link.state = .off →
    s.blockUp 3 = true →
    s.link.rail = true →
    s.pwr.clkSource = 1 →
    Completes (.linkEnable h 1#8) s fun t => t.link.state = .detect ∧ t.link.enable = true ∧ Recorded h 0 t) ∧
  (∀ (h : OdHead) (s : State),
    OdServed h 2 0x4000 1 [0#8] s →
    s.linkUp = true →
    s.link.byeIdle = false →
    Completes (.linkEnable h 0#8) s fun t =>
      t.link.state = .off ∧ t.link.leaveCause = 10 ∧ SentThrice (plainFrame 13 [4#8] []) s t ∧ t.arq.window = [] ∧
      Recorded h 0 t) ∧
  (∀ (h : OdHead) (v : Byte) (s : State),
    OdServed h 2 0x4000 9 [v] s →
    s.linkUp = true →
    Completes (.retrain h v) s fun t =>
      t.link.state = .detect ∧ t.link.leaveCause = 9 ∧ t.arq.window = [] ∧ t.arq.exp = 0 ∧ Recorded h 0 t) ∧
  (∀ (h : OdHead) (v : Byte) (s : State),
    OdServed h 2 0x4000 0x0A [v] s →
    s.linkUp = true →
    Completes (.linkresetSend h v) s fun t =>
      (∃ f : TxFrame, f.type = 12 ∧ SentThrice f s t) ∧ t.link.state = .detect ∧
      t.link.leaveCause = 5 ∧ Recorded h 0 t) ∧
  (∀ (h : OdHead) (v : Byte) (s : State),
    OdServed h 2 0x4000 0x0A [v] s →
    s.linkUp = false →
    Completes (.linkresetSend h v) s fun t => t.link = s.link ∧ Recorded h 0x0303 t) ∧
  (∀ (h : OdHead) (v : Byte) (s : State),
    OdServed h 2 0x4000 8 [v] s →
    s.link.state ≠ .off →
    Completes (.wakePeer h v) s fun t =>
      t.link.bluebell = some s.now ∧ t.link.state = .detect ∧ Recorded h 0 t)

/-! ### Requests -/

/-- Tier 2. READ answers with the value of the listed entries and of every channel's; WRITE changes the listed entries
and a channel's SIZE; a DOMAIN is read whole and from its snapshot, written in one segment or in several, its CRC
checked and its session cancelled; the wrong type is refused (R246, R260). While a step holds the service a request
waits in its path's queue of 4, gets BUSY where that is full or where what it asks is held by that step behind others
(R257, R261), and is served in its turn (R248). That a waiting request is served in a step on an empty queue is the
model's choice (notes/assumptions/2.md, notes/assumptions/91.md). MGMT_LOCK and MGMT_SCRATCH from the mailbox act at the
lock unit and the array as YC, and on the LINK path as LR or LK, by the key that signs (R34, R170, R254). -/
def Obligations.RequestsServed : Prop :=
  (∀ (h : OdHead) (index sub : Nat) (v : List Byte) (s : State),
    OdServed h 1 index sub [] s →
    s.active.entryValue index sub = some v →
    Completes (.objectRead h index sub []) s fun t =>
      OdAnswers h 0 v.length v t ∧ Recorded h 0 t ∧ t = { s.active with od := t.od }) ∧
  (∀ (h : OdHead) (group sub : Nat) (n : Fin 20) (v : List Byte) (s : State),
    OdServed h 1 (group + n.val) sub [] s →
    (s.chan n).entryValue group sub = some v →
    Completes (.objectRead h (group + n.val) sub []) s fun t =>
      OdAnswers h 0 v.length v t ∧ Recorded h 0 t ∧ t = { s.active with od := t.od }) ∧
  (∀ (h : OdHead) (index sub : Nat) (data : List Byte) (s u : State),
    OdServed h 2 index sub data s →
    s.active.entryWritten index sub (leNat data) = some u →
    Completes (.objectWrite h index sub data) s fun t =>
      t = { u with od := t.od } ∧ OdAnswers h 0 0 [] t ∧ Recorded h 0 t) ∧
  (∀ (h : OdHead) (sub : Nat) (n : Fin 20) (data : List Byte) (s : State) (g : ChCfg),
    OdServed h 2 (0x2000 + n.val) sub data s →
    (s.chan n).cfg.entryWritten sub (leNat data) = some g →
    Completes (.objectWrite h (0x2000 + n.val) sub data) s fun t =>
      ((s.chan n).state = .disabled → t.chan n = { s.chan n with cfg := g } ∧ OdAnswers h 0 0 [] t) ∧
      ((s.chan n).state ≠ .disabled → t.ch = s.ch ∧ OdAnswers h abState 0 [] t) ∧
      (∀ k : Fin 20, k ≠ n → t.chan k = s.chan k) ∧ t.mem = s.mem ∧ t.od.mailbox.last = some h.reqseq) ∧
  (∀ (h : OdHead) (index sub : Nat) (v : List Byte) (s : State),
    OdServed h 3 index sub [] s →
    s.domainValue index sub = some v →
    h.offset = 0 →
    Completes (.segRead h index sub []) s fun t =>
      OdAnswers h 0 v.length (v.take 1024) t ∧ Recorded h 0 t ∧ t = { s.active with od := t.od }) ∧
  (∀ (h : OdHead) (x : ReadSnap) (index sub : Nat) (s : State),
    OdServed h 3 index sub [] s →
    s.od.mailbox.snap = some x →
    x.index = index →
    x.sub = sub →
    s.now < x.touched + ms 10000 →
    h.offset ≠ 0 →
    Completes (.segRead h index sub []) s fun t =>
      OdAnswers h 0 x.bytes.length ((x.bytes.drop h.offset).take 1024) t ∧ Recorded h 0 t ∧
      t = { s.active with od := t.od }) ∧
  (∀ (h : OdHead) (data : List Byte) (s : State),
    OdServed h 4 0x2200 1 data s →
    h.flags = 1 →
    h.offset = 0 →
    h.crcTotal = crc32c data →
    data.length = 32 →
    s.od.link.session = none →
    Completes (.segWrite h 0x2200 1 data) s fun t =>
      t.mem = { s.mem with idlePattern := data } ∧ t.od.mailbox.session = none ∧ OdAnswers h 0 0 [] t ∧ Recorded h 0 t) ∧
  (∀ (h : OdHead) (data : List Byte) (s : State),
    OdServed h 4 0x2200 1 data s →
    h.flags = 0 →
    h.offset = 0 →
    data.length = 1024 →
    s.od.link.session = none →
    Completes (.segWrite h 0x2200 1 data) s fun t =>
      t.od.mailbox.session = some ⟨0x2200, 1, data, s.now⟩ ∧ t.mem = s.mem ∧ Recorded h 0 t) ∧
  (∀ (h : OdHead) (data bs : List Byte) (a : Nat) (s : State),
    OdServed h 4 0x2200 1 data s →
    s.od.mailbox.session = some ⟨0x2200, 1, bs, a⟩ →
    s.now < a + ms 10000 →
    s.od.link.session = none →
    h.flags = 0 →
    h.offset ≠ 0 →
    data.length = 1024 →
    Completes (.segWrite h 0x2200 1 data) s fun t =>
      (h.offset = bs.length →
        t.od.mailbox.session = some ⟨0x2200, 1, bs ++ data, s.now⟩ ∧ Recorded h 0 t) ∧
      (h.offset ≠ bs.length → t.od.mailbox.session = none ∧ Recorded h abState t) ∧ t.mem = s.mem) ∧
  (∀ (h : OdHead) (data : List Byte) (s : State),
    OdServed h 4 0x2200 1 data s →
    h.flags = 1 →
    h.offset = 0 →
    h.crcTotal ≠ crc32c data →
    s.od.link.session = none →
    Completes (.segWrite h 0x2200 1 data) s fun t =>
      t.od.mailbox.session = none ∧ t.mem = s.mem ∧ Recorded h abType t) ∧
  (∀ (h : OdHead) (data : List Byte) (x : Session) (s : State),
    OdServed h 4 0x2200 1 data s →
    h.flags = 1 →
    h.offset = 0 →
    s.od.link.session = some x →
    x.index = 0x2200 →
    x.sub = 1 →
    s.now < x.touched + ms 10000 →
    Completes (.segWrite h 0x2200 1 data) s fun t =>
      t.od.link.session = some x ∧ t.mem = s.mem ∧ OdAnswers h abBusy 0 [] t ∧ t.od.mailbox.last = s.od.mailbox.last) ∧
  (∀ (h : OdHead) (index sub : Nat) (s : State),
    OdServed h 5 index sub [] s →
    (∀ x ∈ s.od.mailbox.session, x.index = index ∧ x.sub = sub) →
    Completes (.segCancel h index sub []) s fun t =>
      t.od.mailbox.session = none ∧ t = { s.active with od := t.od } ∧ OdAnswers h 0 0 [] t ∧ Recorded h 0 t) ∧
  (∀ (h : OdHead) (index sub : Nat) (v : List Byte) (s : State),
    Attended h s →
    s.od.mailbox.judge h.reqseq = .run →
    (h.flags = 0 ∧ h.abortField = 0 ∧ h.offset = 0 ∧ h.crcTotal = 0 ∧ h.rsv18 = 0) →
    s.domainValue index sub = some v →
    Completes (.objectRead h index sub []) s fun t => OdAnswers h abType 0 [] t ∧ Recorded h abType t ∧ t.mem = s.mem) ∧
  (∀ (h : OdHead) (index sub : Nat) (v : List Byte) (s : State),
    Attended h s →
    s.od.mailbox.judge h.reqseq = .run →
    (h.flags = 0 ∧ h.abortField = 0 ∧ h.offset = 0 ∧ h.crcTotal = 0 ∧ h.rsv18 = 0) →
    s.entryValue index sub = some v →
    Completes (.segRead h index sub []) s fun t => OdAnswers h abType 0 [] t ∧ Recorded h abType t ∧ t.mem = s.mem) ∧
  (∀ (h : OdHead) (index sub : Nat) (data : List Byte) (s : State),
    h.src = .mailbox →
    h.addr = 0 →
    s.mailboxUp = true →
    s.od.mbxReq = none →
    s.yar.serving = true →
    s.od.task.isSome = true →
    s.heldNow (headReq h 2 index sub data) = false →
    (s.od.queue.filter fun x => x.path == .mailbox).length < 4 →
    Completes (.objectWrite h index sub data) s fun t =>
      t.od = { s.od with queue := s.od.queue ++ [⟨.mailbox, (headReq h 2 index sub data).image, true⟩] } ∧
      t.ch = s.ch ∧ t.mem = s.mem ∧ t.time = s.time ∧ t.upd = s.upd ∧ t.link = s.link) ∧
  (∀ (h : OdHead) (index sub : Nat) (data : List Byte) (s : State),
    h.src = .mailbox →
    h.addr = 0 →
    s.mailboxUp = true →
    s.od.mbxReq = none →
    s.yar.serving = true →
    s.od.task.isSome = true →
    s.heldNow (headReq h 2 index sub data) = false →
    4 ≤ (s.od.queue.filter fun x => x.path == .mailbox).length →
    Completes (.objectWrite h index sub data) s fun t =>
      t.od = { s.od with mbxRsp := t.od.mbxRsp } ∧
      (∃ img, t.od.mbxRsp = some img ∧ leField img 14 2 = abBusy) ∧ t.ch = s.ch ∧ t.mem = s.mem ∧ t.time = s.time) ∧
  (∀ (h : OdHead) (index sub : Nat) (data : List Byte) (s : State),
    h.src = .mailbox →
    h.addr = 0 →
    s.mailboxUp = true →
    s.od.mbxReq = none →
    s.yar.serving = true →
    s.od.queue ≠ [] →
    s.heldNow (headReq h 2 index sub data) = true →
    s.passes .mailbox (headReq h 2 index sub data) = true →
    Completes (.objectWrite h index sub data) s fun t =>
      t.od = { s.od with mbxRsp := t.od.mbxRsp } ∧
      (∃ img, t.od.mbxRsp = some img ∧ leField img 14 2 = abBusy) ∧ t.ch = s.ch ∧ t.mem = s.mem ∧ t.upd = s.upd) ∧
  (∀ (s : State) (x : Queued) (rest : List Queued) (o : OdReq),
    s.pending = [] →
    s.yar.serving = true →
    s.yar.loader = false →
    s.upd.raising = none →
    s.od.task = none →
    s.od.queue = x :: rest →
    x.path = .mailbox →
    (parseImage x.image).ask = .od o →
    o.op = 2 →
    o.index = 0x5000 →
    o.sub = 2 →
    s.od.mailbox.judge (parseImage x.image).reqseq = .run →
    (((s.advance 1).commitLog).modOd fun d => { d with queue := rest }).odCheck .mailbox (parseImage x.image).keysel o = 0 →
    ∃ t, step s = .next t ∧ t.od.queue = rest ∧ t.time.syncPeriod = leNat o.data ∧
      t.od.mailbox.last = some (parseImage x.image).reqseq ∧ t.od.mailbox.lastAbort = 0) ∧
  (∀ (h : OdHead) (slot unit : Nat) (operand : W32) (s : State),
    UnitAsked h s →
    s.shadows = false →
    s.blockUp 0 = true →
    slot < 64 →
    Completes (.mgmtLock h 12 slot 0#8 unit operand) s fun t =>
      Recorded h 0 t ∧
      (s.slot slot = ⟨.free, false⟩ → t.slot slot = ⟨.yc, false⟩ ∧ UnitAnswers h 0 0 0 t) ∧
      (s.slot slot = ⟨.free, true⟩ →
        t.slot slot = ⟨.yc, false⟩ ∧ t.mem.lockBroken = inc32 s.mem.lockBroken ∧ UnitAnswers h 0 11 0 t) ∧
      ((s.slot slot).owner = .yc → t.mem = s.mem ∧ UnitAnswers h 0 0 0 t) ∧
      ((s.slot slot).owner ≠ .free → (s.slot slot).owner ≠ .yc → t.mem = s.mem ∧ UnitAnswers h 0 10 0 t) ∧
      (∀ k : Fin 64, k.val ≠ slot → t.slot k.val = s.slot k.val) ∧ t.mem.cells = s.mem.cells) ∧
  (∀ (h : OdHead) (slot unit : Nat) (operand : W32) (s : State),
    UnitAsked h s →
    s.shadows = false →
    s.blockUp 0 = true →
    slot < 64 →
    Completes (.mgmtLock h 13 slot 0#8 unit operand) s fun t =>
      Recorded h 0 t ∧
      ((s.slot slot).owner = .yc → t.slot slot = ⟨.free, false⟩ ∧ UnitAnswers h 0 0 0 t) ∧
      ((s.slot slot).owner = .free → t.mem = s.mem ∧ UnitAnswers h 0 0 0 t) ∧
      ((s.slot slot).owner ≠ .free → (s.slot slot).owner ≠ .yc → t.mem = s.mem ∧ UnitAnswers h 0 4 0 t) ∧
      (∀ k : Fin 64, k.val ≠ slot → t.slot k.val = s.slot k.val) ∧ t.mem.cells = s.mem.cells) ∧
  (∀ (h : OdHead) (opc slot unit : Nat) (rsv : Byte) (operand : W32) (s : State),
    UnitAsked h s →
    ((opc ≠ 12 ∧ opc ≠ 13) ∨ 64 ≤ slot ∨ rsv ≠ 0#8) →
    Completes (.mgmtLock h opc slot rsv unit operand) s fun t =>
      UnitAnswers h abRange 0 0 t ∧ Recorded h abRange t ∧ t.mem = s.mem) ∧
  (∀ (h : OdHead) (slot unit : Nat) (operand : W32) (s : State),
    UnitAsked h s →
    slot < 64 →
    s.shadows = true →
    Completes (.mgmtLock h 12 slot 0#8 unit operand) s fun t =>
      UnitAnswers h abState 0 0 t ∧ Recorded h abState t ∧ t.mem = s.mem) ∧
  (∀ (h : OdHead) (area unit : Nat) (operand : W32) (s : State),
    UnitAsked h s →
    s.blockUp 0 = true →
    s.memOpen = true →
    area < 4 →
    ScratchReady 3 false area unit s →
    Completes (.mgmtScratch h 8 area 0#8 unit operand) s fun t =>
      UnitAnswers h 0 0 (s.scratchUnit area unit) t ∧ Recorded h 0 t ∧ t.mem.cells = s.mem.cells ∧
      t.mem.errs = s.mem.errs) ∧
  (∀ (h : OdHead) (opc area unit : Nat) (operand : W32) (s : State),
    UnitAsked h s →
    s.shadows = false →
    s.blockUp 0 = true →
    s.memOpen = true →
    (opc = 9 ∨ opc = 10 ∨ opc = 11) →
    area < 4 →
    ScratchReady 3 true area unit s →
    s.tansy.copy = none →
    MemoriesCanonical s →
    Completes (.mgmtScratch h opc area 0#8 unit operand) s fun t =>
      let w := s.phys (s.placeOf (s.scratchWord area unit))
      UnitAnswers h 0 0 (if opc = 9 then 0 else s.scratchUnit area unit) t ∧ Recorded h 0 t ∧
      t.scratchUnit area unit =
        (if opc = 9 then operand.toNat else if opc = 10 then s.scratchUnit area unit ||| operand.toNat
         else s.scratchUnit area unit &&& (operand.toNat ^^^ 0xFFFFFFFF)) ∧
      (∀ v, v ≠ w → readWordAt t.mem v = readWordAt s.mem v) ∧
      (∀ a, a < 8 → a ≠ unit % 8 →
        leField (readWordAt t.mem w).data (4 * a) 4 = leField (readWordAt s.mem w).data (4 * a) 4)) ∧
  (∀ (h : OdHead) (opc area unit : Nat) (operand : W32) (s : State),
    UnitAsked h s →
    s.shadows = false →
    s.blockUp 0 = true →
    s.memOpen = false →
    (opc = 8 ∨ opc = 9 ∨ opc = 10 ∨ opc = 11) →
    area < 4 →
    Completes (.mgmtScratch h opc area 0#8 unit operand) s fun t =>
      UnitAnswers h 0 rsNotready 0 t ∧ Recorded h 0 t ∧ t.mem = s.mem) ∧
  (∀ (h : OdHead) (opc area unit : Nat) (operand : W32) (s : State),
    UnitAsked h s →
    s.shadows = false →
    s.blockUp 0 = true →
    s.memOpen = true →
    (opc = 8 ∨ opc = 9 ∨ opc = 10 ∨ opc = 11) →
    area < 4 →
    (areaOn (s.mem.areas.toList.getD area 0) = false ∨ areaSize (s.mem.areas.toList.getD area 0) * 1024 ≤ unit) →
    Completes (.mgmtScratch h opc area 0#8 unit operand) s fun t =>
      UnitAnswers h 0 4 0 t ∧ Recorded h 0 t ∧ t.mem.cells = s.mem.cells) ∧
  (∀ (h : OdHead) (opc area unit : Nat) (operand : W32) (s : State),
    UnitAsked h s →
    s.shadows = false →
    s.blockUp 0 = true →
    s.memOpen = true →
    (opc = 8 ∨ opc = 9 ∨ opc = 10 ∨ opc = 11) →
    area < 4 →
    areaOn (s.mem.areas.toList.getD area 0) = true →
    unit < areaSize (s.mem.areas.toList.getD area 0) * 1024 →
    s.allowed 3 (s.scratchWord area unit / 128) (opc != 8) = false →
    Completes (.mgmtScratch h opc area 0#8 unit operand) s fun t =>
      UnitAnswers h abLevel 0 0 t ∧ Recorded h abLevel t ∧ t.mem.cells = s.mem.cells ∧
      t.mem.accessRefused.get 3 = inc32 (s.mem.accessRefused.get 3)) ∧
  (∀ (h : OdHead) (opc area unit : Nat) (rsv : Byte) (operand : W32) (s : State),
    UnitAsked h s →
    (opc < 8 ∨ 11 < opc ∨ 4 ≤ area ∨ rsv ≠ 0#8) →
    Completes (.mgmtScratch h opc area rsv unit operand) s fun t =>
      UnitAnswers h abRange 0 0 t ∧ Recorded h abRange t ∧ t.mem = s.mem) ∧
  (∀ (h : OdHead) (m : RxMeta) (seq wlow slot unit : Nat) (operand : W32) (s : State),
    LinkAsked h m seq wlow (headUnit h true 12 slot 0#8 unit operand) s →
    (h.keysel = 1 ∨ h.keysel = 2) →
    s.shadows = false →
    s.blockUp 0 = true →
    slot < 64 →
    s.slot slot = ⟨.free, false⟩ →
    Completes (.mgmtLock h 12 slot 0#8 unit operand) s fun t =>
      t.slot slot = ⟨.lr, false⟩ ∧ t.od.link.last = some h.reqseq ∧ t.od.link.lastAbort = 0) ∧
  (∀ (h : OdHead) (m : RxMeta) (seq wlow area unit : Nat) (operand : W32) (s : State),
    LinkAsked h m seq wlow (headUnit h false 9 area 0#8 unit operand) s →
    (h.keysel = 1 ∨ h.keysel = 2) →
    s.shadows = false →
    s.blockUp 0 = true →
    s.memOpen = true →
    area < 4 →
    ScratchReady 2 true area unit s →
    s.tansy.copy = none →
    MemoriesCanonical s →
    Completes (.mgmtScratch h 9 area 0#8 unit operand) s fun t =>
      t.scratchUnit area unit = operand.toNat ∧ t.od.link.last = some h.reqseq ∧ t.od.link.lastAbort = 0) ∧
  (∀ (h : OdHead) (m : RxMeta) (seq wlow slot unit : Nat) (operand : W32) (s : State),
    LinkAsked h m seq wlow (headUnit h true 12 slot 0#8 unit operand) s →
    h.keysel = 3 →
    slot < 64 →
    Completes (.mgmtLock h 12 slot 0#8 unit operand) s fun t =>
      t.mem = s.mem ∧ t.od.link.last = some h.reqseq ∧ t.od.link.lastAbort = abLevel)

/-- Tier 2. A request whose REQSEQ has been answered is not executed again: the cached response is sent again as it
stands, LAST without a cached response gets the recorded abort code, an older one is refused with SEQ (0502h) and
counted (R252, R253). A request of the LINK path whose MAC verifies is executed like one of the mailbox; one whose MAC
does not is refused, counted, and changes no entry (R249, R250). -/
def Obligations.RequestsOnce : Prop :=
  (∀ (h : OdHead) (index sub : Nat) (data : List Byte) (s : State) (r : Resp),
    Attended h s →
    s.od.mailbox.judge h.reqseq = .cached r →
    Completes (.objectWrite h index sub data) s fun t =>
      t.od = { s.od with dupReq := inc32 s.od.dupReq, mbxRsp := some (leBytes 0 1 ++ leBytes (r.svc % 128 + 128) 1 ++ leBytes r.reqseq 2 ++ zeros 4 ++ r.data ++ r.mac) } ∧
      t.ch = s.ch ∧ t.mem = s.mem ∧ t.time = s.time ∧ t.link = s.link ∧ t.upd = s.upd ∧ t.rst = s.rst) ∧
  (∀ (h : OdHead) (index sub : Nat) (data : List Byte) (s : State),
    Attended h s →
    s.od.mailbox.judge h.reqseq = .refuse →
    Completes (.objectWrite h index sub data) s fun t =>
      t.od = { s.od with seqReject := inc32 s.od.seqReject, mbxRsp := t.od.mbxRsp } ∧
      (∃ img, t.od.mbxRsp = some img ∧ leField img 14 2 = 0x0502 ∧ leField img 2 2 = h.reqseq % 65536) ∧
      t.ch = s.ch ∧ t.mem = s.mem ∧ t.time = s.time ∧ t.link = s.link ∧ t.upd = s.upd ∧ t.rst = s.rst) ∧
  (∀ (h : OdHead) (index sub : Nat) (data : List Byte) (s : State) (code : Nat),
    Attended h s →
    s.od.mailbox.judge h.reqseq = .again code →
    Completes (.objectWrite h index sub data) s fun t =>
      t.od = { s.od with mbxRsp := t.od.mbxRsp } ∧
      (∃ img, t.od.mbxRsp = some img ∧ leField img 14 2 = code % 65536 ∧ leField img 2 2 = h.reqseq % 65536) ∧
      t.ch = s.ch ∧ t.mem = s.mem ∧ t.time = s.time ∧ t.link = s.link ∧ t.upd = s.upd ∧ t.rst = s.rst) ∧
  (∀ (h : OdHead) (m : RxMeta) (seq wlow : Nat) (data : List Byte) (s : State) (o : OdReq),
    h.src = .link m seq wlow →
    h.addr = 0 →
    RxTaken m (28 + data.length) s →
    InSequence seq wlow s →
    s.yar.serving = true →
    s.yar.loader = false →
    s.lockedOut = false →
    s.od.task = none →
    s.od.queue = [] →
    s.od.link.judge h.reqseq = .run →
    (headReq h 2 0x5000 2 data).ask = .od o →
    h.keysel ≠ 0 →
    s.macOk (headReq h 2 0x5000 2 data) = true →
    s.odCheck .link h.keysel o = 0 →
    Completes (.objectWrite h 0x5000 2 data) s fun t =>
      t.time.syncPeriod = leNat data ∧ t.od.link.last = some h.reqseq ∧ t.od.link.lastAbort = 0) ∧
  (∀ (h : OdHead) (m : RxMeta) (seq wlow : Nat) (data : List Byte) (s : State),
    h.src = .link m seq wlow →
    h.addr = 0 →
    RxTaken m (28 + data.length) s →
    InSequence seq wlow s →
    s.yar.serving = true →
    s.yar.loader = false →
    s.lockedOut = false →
    s.od.task = none →
    s.od.queue = [] →
    h.keysel ≠ 0 →
    s.macOk (headReq h 2 0x5000 2 data) = false →
    Completes (.objectWrite h 0x5000 2 data) s fun t =>
      t.time = s.time ∧ t.od.authFail = inc32 s.od.authFail ∧ t.od.link.last = s.od.link.last ∧ t.ch = s.ch ∧
      t.mem = s.mem)

/-- Tier 2. The SPI target: WRITE_REQ keeps a request while firmware does not serve, and rejects one outside the length
bounds or onto a kept one; READ_RSP sends and clears the response; STATUS sends its byte (R255). A lock-out of the LINK
path ends 1 s after it began, and a DOMAIN session after 10 s without a segment (R251, R260). That the request is kept
with REQ_FREE 0 while firmware does not serve is DEDUCED (notes/assumptions/48.md): R238 and R255 say only that no
response is made. -/
def Obligations.MailboxAndTimers : Prop :=
  (∀ (len : Nat) (image : List Byte) (s : State),
    s.mailboxUp = true →
    28 ≤ len →
    len ≤ 9224 →
    s.od.mbxReq = none →
    s.servesPath .mailbox = false →
    Completes (.writeReq len image) s fun t =>
      t.od = { s.od with mbxReq := some (takePad len (image.take len)) } ∧ t.ch = s.ch ∧ t.mem = s.mem) ∧
  (∀ (len : Nat) (image : List Byte) (s : State),
    s.mailboxUp = true →
    (len < 28 ∨ 9224 < len ∨ s.od.mbxReq.isSome = true) →
    Completes (.writeReq len image) s fun t => t.od = { s.od with mbxRejected := inc32 s.od.mbxRejected }) ∧
  (∀ (s : State) (img : List Byte),
    s.mailboxUp = true →
    s.od.mbxRsp = some img →
    Completes (.readRsp) s fun t =>
      t.od = { s.od with mbxRsp := none, mbxSent := s.od.mbxSent ++ [leBytes img.length 2 ++ img] }) ∧
  (∀ (s : State),
    s.mailboxUp = true →
    Completes (.mailboxStatus) s fun t =>
      t.od = { s.od with statusSent := s.od.statusSent ++ leBytes s.mailboxStatus 1 }) ∧
  (∀ (dt a : Nat) (s : State),
    s.od.lockoutUntil = some a →
    a ≤ s.now + 1250 * dt →
    Completes (.lockoutEnd dt) s fun t => t.od = { s.od with lockoutUntil := none }) ∧
  (∀ (dt : Nat) (s : State) (x : Session),
    s.od.mailbox.session = some x →
    x.touched + ms 10000 ≤ s.now + 1250 * dt →
    Completes (.domainSessionTimeout dt .mailbox) s fun t =>
      t.od.mailbox.session = none ∧ t.od.link = s.od.link ∧ t.od.mailbox.last = s.od.mailbox.last)

/-! ### The link -/

/-- Tier 2. Bring-up (R160, R161): block lock starts CAPS with MAX_RATE and TRIAL_ERR_LIMIT as they then stand — at
block lock is the model's reading of R174's next bring-up (DEDUCED, notes/assumptions/23.md) —, or rate 00h under the
loader (R287); a CAPS is taken; 10 ms without one returns to DETECT; the candidate rate is switched to 10 µs after the
exchange; a trial passes, and with the peer's pass leads UP, or fails and marks the rate; 2 ms without a result, and the
end of Bluebell, lead to DETECT. -/
def Obligations.LinkBringUp : Prop :=
  (∀ (s : State),
    s.linkHears = true →
    s.link.state = .detect →
    s.link.modPresent = true →
    s.link.bluebell = none →
    Completes .blockLock s fun t =>
      t = { s with link := t.link } ∧ t.link.state = .caps ∧ t.link.capsAt = s.now ∧
      t.link.rateLimit = (if s.yar.loader then 0 else s.link.maxRate) ∧ t.link.errLimit = s.link.trialErrLimit ∧
      ∃ f : TxFrame, f.type = 1 ∧ t.link.strict = s.link.strict ++ [⟨4, f⟩]) ∧
  (∀ (s : State),
    s.link.state = .caps →
    s.link.rxSeen = false →
    Completes .capsSend s fun t =>
      t = { s with link := t.link } ∧ t.link.state = .caps ∧ t.link.sentSeen = (s.link.sentSeen || s.link.capsIn) ∧
      ∃ f : TxFrame, f.type = 1 ∧ t.link.strict = s.link.strict ++ [⟨4, f⟩]) ∧
  (∀ (s : State),
    s.link.state = .caps →
    s.link.rxSeen = true →
    s.link.capsIn = true →
    s.link.trialAt = none →
    s.candidateRate = 0 →
    Completes .capsSend s fun t =>
      t.link.state = .up ∧ t.link.rate = 0 ∧ t.link.cnt.upCount = inc32 s.link.cnt.upCount ∧
      t.mem.cells = s.mem.cells) ∧
  (∀ (m : RxMeta) (cflags trialRate : Nat) (b : Caps) (s : State),
    FrameTaken m 32 s →
    s.link.state = .caps →
    s.link.sentSeen = false →
    Completes (.caps m cflags trialRate b) s fun t =>
      t = { s with link := t.link } ∧ t.link.state = .caps ∧ t.link.peer = some b ∧ t.link.capsIn = true ∧
      t.link.rxSeen = (s.link.rxSeen || cflags.testBit 0) ∧ t.link.lastRx = s.now) ∧
  (∀ (m : RxMeta) (cflags trialRate : Nat) (b : Caps) (s : State),
    FrameTaken m 32 s →
    s.link.state = .caps →
    s.link.sentSeen = true →
    cflags.testBit 0 = true →
    s.link.trialAt = none →
    (s.modLink fun l => { l with peer := some b }).candidateRate ≠ 0 →
    Completes (.caps m cflags trialRate b) s fun t =>
      t = { s with link := t.link } ∧ t.link.state = .caps ∧ t.link.trialAt = some s.now ∧
      t.link.candidate = (s.modLink fun l => { l with peer := some b }).candidateRate) ∧
  (∀ (m : RxMeta) (cflags trialRate : Nat) (b : Caps) (s : State),
    FrameTaken m 32 s →
    s.link.state = .up →
    (b.serial ≠ s.link.upSerial ∨ b.linkNonce ≠ s.link.upNonce) →
    Completes (.caps m cflags trialRate b) s fun t => LeftUp s t 6) ∧
  (∀ (dt : Nat) (s : State),
    s.link.state = .caps →
    s.link.capsAt + ms 10 ≤ s.now + 1250 * dt →
    Completes (.capsTimeout dt) s fun t =>
      t = { s.advance dt with link := t.link, freeCtr := s.freeCtr + 1 } ∧ t.link.state = .detect ∧
      t.link.capsIn = false ∧ t.link.nonce = (Config.random s.freeCtr).toNat) ∧
  (∀ (dt a : Nat) (s : State),
    s.link.state = .caps →
    s.link.trialAt = some a →
    a + us 10 ≤ s.now + 1250 * dt →
    Completes (.trialSwitch dt) s fun t =>
      t = { s.advance dt with link := t.link } ∧ t.link.state = .trial ∧ t.link.rate = s.link.candidate ∧
      t.link.own = 0 ∧ t.link.peerPass = false ∧ t.link.trialAt = some (s.now + 1250 * dt)) ∧
  (∀ (errs : Nat) (s : State),
    s.link.state = .trial →
    s.link.own = 0 →
    s.link.peerPass = false →
    errs ≤ s.link.errLimit →
    Completes (.trialResult true errs) s fun t =>
      t = { s with link := t.link } ∧ t.link.state = .trial ∧ t.link.own = 1 ∧ t.link.resultAt = some s.now) ∧
  (∀ (errs : Nat) (s : State),
    s.link.state = .trial →
    s.link.own = 0 →
    s.link.peerPass = true →
    errs ≤ s.link.errLimit →
    Completes (.trialResult true errs) s fun t =>
      t.link.state = .up ∧ t.link.rate = s.link.candidate ∧ t.link.cnt.upCount = inc32 s.link.cnt.upCount) ∧
  (∀ (lockHeld : Bool) (errs : Nat) (s : State),
    s.link.state = .trial →
    s.link.own = 0 →
    (lockHeld = false ∨ s.link.errLimit < errs) →
    Completes (.trialResult lockHeld errs) s fun t =>
      t = { s with link := t.link } ∧ t.link.state = .trial ∧ t.link.own = 2 ∧ t.link.resultAt = some s.now) ∧
  (∀ (dt a : Nat) (s : State),
    s.link.state = .trial →
    s.link.own = 2 →
    s.link.resultAt = some a →
    a + us 100 ≤ s.now + 1250 * dt →
    Completes (.trialFailEnd dt) s fun t =>
      t.link.state = .detect ∧ t.link.ratesFailed = s.link.ratesFailed ||| 2 ^ s.link.candidate ∧ t.ch = s.ch ∧
      t.mem = s.mem) ∧
  (∀ (dt a : Nat) (s : State),
    s.link.state = .trial →
    s.link.trialAt = some a →
    a + ms 2 ≤ s.now + 1250 * dt →
    Completes (.trialTimeout dt) s fun t =>
      t.link.state = .detect ∧ t.link.ratesFailed = s.link.ratesFailed ||| 2 ^ s.link.candidate ∧ t.ch = s.ch ∧
      t.mem = s.mem) ∧
  (∀ (dt a : Nat) (s : State),
    s.link.bluebell = some a →
    a + us 200 ≤ s.now + 1250 * dt →
    Completes (.bluebellEnd dt) s fun t =>
      t = { s.advance dt with link := t.link, freeCtr := s.freeCtr + 1 } ∧ t.link.state = .detect ∧
      t.link.bluebell = none)

/-- Tier 2. What takes the link out of UP, with its LEAVE_CAUSE, and what leaving does (R162, R163, R172); a LINKRESET
that verifies, in whatever state it is heard, resets as far as its REACH says (R171, R277, R278, R289), and one that
does not (a wrong MAC, no key, another nonce or REACH) is counted; the module's events (R169). MODULE_DDM is read once a
second (R225), and not while TWI is held, where the readings hold their last values (R290; DEDUCED for the whole event,
notes/assumptions/38.md), nor while YCLK is gated (R297). A later read without an answer sets the bit of a module that
answers nothing on TWI too, which is the model's choice (notes/assumptions/100.md). -/
def Obligations.LinkLeavesUp : Prop :=
  (∀ (s : State),
    s.linkUp = true →
    Completes .blockLockLost s fun t => LeftUp s t 1) ∧
  (∀ (s : State),
    s.linkUp = true →
    Completes .syncHeaderErrors s fun t => LeftUp s t 2) ∧
  (∀ (dt : Nat) (s : State),
    s.linkUp = true →
    s.link.lastRx + ms 1 ≤ s.now + 1250 * dt →
    Completes (.noFrameTimeout dt) s fun t => LeftUp s t 3) ∧
  (∀ (m : RxMeta) (reason : Nat) (s : State),
    RxTaken m 0 s →
    Completes (.bye m reason) s fun t => LeftUp s t 4 ∧ t.link.cnt.byeRx = inc32 s.link.cnt.byeRx) ∧
  (∀ (m : RxMeta) (hdr mac k : List Byte) (s : State),
    FrameTaken m 8 s →
    AllRoomy s →
    s.keyOf 1 = some k →
    mac = (hmac k hdr).take 8 →
    leField hdr 10 4 = s.link.nonce →
    leField hdr 8 1 = 2 →
    Completes (.linkreset m hdr mac) s fun t => DeviceReset 8 s t) ∧
  (∀ (m : RxMeta) (hdr mac k : List Byte) (s : State),
    FrameTaken m 8 s →
    AllRoomy s →
    s.keyOf 1 = some k →
    mac = (hmac k hdr).take 8 →
    leField hdr 10 4 = s.link.nonce →
    leField hdr 8 1 = 1 →
    s.yarUp = true →
    Completes (.linkreset m hdr mac) s fun t =>
      t.rst.cause = s.rst.cause ||| (1#16 <<< 8) ∧ t.rst.lastReach = 2 ∧ t.link.state = .off ∧
      t.rst.blockReset = s.rst.blockReset ||| 0x3FF#32 ∧ (∀ n : Fin 20, (t.chan n).state = .disabled) ∧
      t.mem.cells = s.mem.cells) ∧
  (∀ (m : RxMeta) (hdr mac : List Byte) (s : State),
    FrameTaken m 8 s →
    ((s.keyOf 1).map (fun k => (hmac k hdr).take 8) ≠ some mac ∨ leField hdr 10 4 ≠ s.link.nonce ∨
      (leField hdr 8 1 ≠ 1 ∧ leField hdr 8 1 ≠ 2)) →
    Completes (.linkreset m hdr mac) s fun t =>
      t = { s.heard with link := t.link, yar := t.yar } ∧ t.link.state = s.link.state ∧
      t.link.cnt.linkresetRejected = inc32 s.link.cnt.linkresetRejected ∧ t.yar.serving = s.yar.serving) ∧
  (∀ (s : State),
    s.linkUp = true →
    Completes (.moduleLos true) s fun t => LeftUp s t 7 ∧ t.link.modLos = true) ∧
  (∀ (s : State),
    Completes (.moduleLos false) s fun t => t = { s with link := { s.link with modLos := false } }) ∧
  (∀ (a0 ddm : Option (List Byte)) (s : State),
    s.linkUp = true →
    Completes (.modulePresence false a0 ddm) s fun t => LeftUp s t 7 ∧ t.link.modPresent = false) ∧
  (∀ (id : List Byte) (ddm : Option (List Byte)) (s : State),
    s.yar.serving = true →
    s.clocked = true →
    s.blockUp 19 = true →
    Completes (.modulePresence true (some id) ddm) s fun t =>
      t = { s with link := t.link } ∧ t.link.modPresent = true ∧ t.link.moduleId = takePad 96 (id.take 96) ∧
      t.link.modDiag = (byteAt id 92).getLsbD 6 ∧ t.link.state = s.link.state ∧
      (((byteAt id 92).getLsbD 6 = false ∨ ddm.isSome = true) → t.link.modNoTwi = false) ∧
      (((byteAt id 92).getLsbD 6 = true ∧ ddm = none) →
        t.link.modNoTwi = true ∧ t.link.moduleDdm = s.link.moduleDdm)) ∧
  (∀ (ddm : Option (List Byte)) (s : State),
    s.yar.serving = true →
    s.clocked = true →
    s.blockUp 19 = true →
    Completes (.modulePresence true none ddm) s fun t =>
      t = { s with link := { s.link with modPresent := true, modNoTwi := true, modDiag := false } }) ∧
  (∀ (b : List Byte) (s : State),
    s.link.modPresent = true →
    s.link.modDiag = true →
    s.yar.serving = true →
    s.clocked = true →
    s.blockUp 19 = true →
    s.link.ddmAt + ms 1000 ≤ s.now →
    Completes (.moduleDdmRead (some b)) s fun t =>
      t = { s with link := { s.link with moduleDdm := t.link.moduleDdm, modNoTwi := false, ddmAt := s.now } } ∧
      ((byteAt s.link.moduleId 92).getLsbD 4 = false → t.link.moduleDdm = takePad 10 (b.take 10))) ∧
  (∀ (s : State),
    s.link.modPresent = true →
    s.link.modDiag = true →
    s.yar.serving = true →
    s.clocked = true →
    s.blockUp 19 = true →
    s.link.ddmAt + ms 1000 ≤ s.now →
    Completes (.moduleDdmRead none) s fun t => t = { s with link := { s.link with modNoTwi := true, ddmAt := s.now } }) ∧
  (∀ (b : Option (List Byte)) (s : State),
    (s.blockUp 19 = false ∨ s.clocked = false ∨ s.link.modPresent = false ∨ s.now < s.link.ddmAt + ms 1000) →
    Completes (.moduleDdmRead b) s fun t => t = s)

/-- Tier 2. Control frames received (R85, R155, R166 to R168, R170, R189, R196, R249): a frame without an effect only
counts as heard; one that fails a check is counted; ACK shortens the window, NAK retransmits from its number, PAUSE sets
the PAUSED bits of link-consumer channels at a sender, SYNC without time is counted at a receiver, ECHO is answered and
summed, RXREPORT gives the PEER values, the peer's BOOT_NONCE is learned, and the response to a forwarded request
reaches the mailbox where its MAC verifies, with AUTH in its place where it does not (R249); while firmware does not
serve, a response is only counted (R238). CABLE_DELAY through a rounding that is left open, and the peer's nonce through
a forwarded request of the device's own, are the model's choices (notes/assumptions/55.md, notes/assumptions/28.md). -/
def Obligations.ControlFrames : Prop :=
  (∀ (m : RxMeta) (type : Byte) (s : State),
    FrameTaken m 0 s →
    type.toNat ≤ 13 →
    Completes (.idleFrame m type) s fun t => t = s.heard) ∧
  (∀ (m : RxMeta) (type : Byte) (s : State),
    s.linkHears = true →
    (13 < type.toNat ∨ m.delimited = false ∨ m.lengthOk = false) →
    Completes (.idleFrame m type) s fun t =>
      t = { s with link := { s.link with cnt := { s.link.cnt with badFrame := inc32 s.link.cnt.badFrame } } }) ∧
  (∀ (m : RxMeta) (ackseq : Nat) (s : State),
    s.linkHears = true →
    m.delimited = true →
    m.lengthOk = true →
    m.crcOk = false →
    Completes (.ack m ackseq) s fun t =>
      t = { s with link := { s.link with cnt := { s.link.cnt with crcErr := inc32 s.link.cnt.crcErr } } }) ∧
  (∀ (m : RxMeta) (ackseq : Nat) (f : WinEntry) (a b : List WinEntry) (s : State),
    RxTaken m 0 s →
    s.arq.window = (f :: a) ++ b →
    seqDist f.seq ackseq < seqDist f.seq s.arq.nextSeq →
    (∀ e ∈ a, seqDist f.seq e.seq ≤ seqDist f.seq ackseq) →
    b.head?.all (fun e => decide (seqDist f.seq ackseq < seqDist f.seq e.seq)) = true →
    Completes (.ack m ackseq) s fun t =>
      t.arq.window.map (·.seq) = b.map (·.seq) ∧ t.arq.timeouts = 0 ∧
      t.arq.nextSeq = s.arq.nextSeq ∧ (AllRoomy s → t.mem.cells = s.mem.cells) ∧
      (b = [] → t.pwr.idleSince = s.now)) ∧
  (∀ (m : RxMeta) (ackseq : Nat) (s : State),
    RxTaken m 0 s →
    s.arq.window.head?.all (fun f => decide (seqDist f.seq s.arq.nextSeq ≤ seqDist f.seq ackseq)) = true →
    Completes (.ack m ackseq) s fun t => t = s.heard) ∧
  (∀ (m : RxMeta) (nakseq : Nat) (e : WinEntry) (b : List WinEntry) (s : State),
    RxTaken m 0 s →
    s.arq.window = e :: b →
    seqDist e.seq s.arq.nextSeq ≤ seqDist e.seq (seqPred nakseq) →
    (e.seq = nakseq ∨ serialAfter 16 e.seq nakseq = true) →
    s.arq.retx.contains e.seq = false →
    e.retxAt = none →
    Completes (.nak m nakseq) s fun t =>
      t.arq.retx = (e :: b).map (·.seq) ∧ t.arq.window.map (·.seq) = s.arq.window.map (·.seq) ∧
      t.arq.nakRx = inc32 s.arq.nakRx ∧ t.mem.cells = s.mem.cells) ∧
  (∀ (m : RxMeta) (nakseq : Nat) (f e : WinEntry) (a b : List WinEntry) (s : State),
    RxTaken m 0 s →
    s.arq.window = (f :: a) ++ e :: b →
    seqDist f.seq (seqPred nakseq) < seqDist f.seq s.arq.nextSeq →
    (∀ x ∈ a, seqDist f.seq x.seq ≤ seqDist f.seq (seqPred nakseq)) →
    seqDist f.seq (seqPred nakseq) < seqDist f.seq e.seq →
    (e.seq = nakseq ∨ serialAfter 16 e.seq nakseq = true) →
    s.arq.retx.contains e.seq = false →
    e.retxAt = none →
    Completes (.nak m nakseq) s fun t =>
      t.arq.retx = (e :: b).map (·.seq) ∧ t.arq.window.map (·.seq) = (e :: b).map (·.seq) ∧
      t.arq.nakRx = inc32 s.arq.nakRx ∧ (AllRoomy s → t.mem.cells = s.mem.cells)) ∧
  (∀ (m : RxMeta) (bitmap : W32) (s : State),
    RxTaken m 0 s →
    s.sender = true →
    Completes (.pause m bitmap) s fun t =>
      (∀ n : Fin 20, (t.chan n).paused =
        if (s.chan n).cfg.consumer = .link then bitmap.getLsbD n.val else (s.chan n).paused) ∧
      t.link.pauseRxAt = s.now ∧ t.mem.cells = s.mem.cells) ∧
  (∀ (m : RxMeta) (bitmap : W32) (s : State),
    RxTaken m 0 s →
    s.sender = false →
    Completes (.pause m bitmap) s fun t => t = s.heard) ∧
  (∀ (m : RxMeta) (x : Stamp) (epoch : Nat) (s : State),
    RxTaken m 4 s →
    s.sender = false →
    s.blockUp 2 = true →
    Completes (.sync m x epoch false) s fun t =>
      t = { s.heard with time := { s.time with syncIgnored := inc32 s.time.syncIgnored } }) ∧
  (∀ (m : RxMeta) (x : Stamp) (s : State),
    RxTaken m 4 s →
    s.sender = false →
    s.blockUp 2 = true →
    s.time.valid = false →
    Completes (.sync m x s.time.epoch true) s fun t =>
      t.time.valid = true ∧ t.time.epoch = s.time.epoch ∧ t.time.syncRx = inc32 s.time.syncRx ∧
      t.time.wall =
        wallAdd s.time.wall (thetaUnits (theta s.linkStamp x ((s.link.cableDelay : Int) + s.time.asymmetry)))) ∧
  (∀ (m : RxMeta) (x : Stamp) (epoch : Nat) (s : State),
    RxTaken m 4 s →
    s.sender = false →
    s.blockUp 2 = true →
    epoch < 256 →
    epoch ≠ s.time.epoch →
    Completes (.sync m x epoch true) s fun t =>
      t.time.valid = true ∧ t.time.epoch = epoch ∧ t.time.epochChanges = inc32 s.time.epochChanges ∧
      t.rst.aonEpoch = epoch) ∧
  (∀ (m : RxMeta) (id : Nat) (t1 : Stamp) (s : State),
    RxTaken m 10 s →
    s.sender = true →
    Completes (.echoReq m id t1) s fun t =>
      t = { s.heard with link := { s.heard.link with strict := s.link.strict ++
        [⟨4, plainFrame 9 (leBytes id 2) (stampBytes t1 ++ stampBytes s.linkStamp ++ zeros 10)⟩] } }) ∧
  (∀ (m : RxMeta) (t1 t2 t3 : Stamp) (s : State) (e : EchoSet),
    RxTaken m 30 s →
    s.link.echo = some e →
    e.done + 1 ≠ 256 →
    Completes (.echoRsp m e.id t1 t2 t3) s fun t =>
      t = { s with link := t.link } ∧
      ∃ d, t.link.echo = some d ∧ d.done = e.done + 1 ∧
        d.sum = e.sum + (stampPs s.linkStamp - stampPs t1) - (stampPs t3 - stampPs t2)) ∧
  (∀ (m : RxMeta) (t1 t2 t3 : Stamp) (s : State) (e : EchoSet),
    RxTaken m 30 s →
    s.link.echo = some e →
    e.done + 1 = 256 →
    s.link.echoPeriod = 0 →
    Completes (.echoRsp m e.id t1 t2 t3) s fun t =>
      t.link.echo = none ∧ t.link.cnt.echoSets = inc32 s.link.cnt.echoSets ∧
      t.link.cableDelay = (Config.round
        ((e.sum + (stampPs s.linkStamp - stampPs t1) - (stampPs t3 - stampPs t2)) / 512)).toNat) ∧
  (∀ (m : RxMeta) (no : Nat) (counts : List (Nat × Nat × Nat)) (s : State),
    RxTaken m 240 s →
    s.sender = true →
    (s.link.firstReport = true ∨ serialAfter 32 no s.link.lastReportNo = true) →
    Completes (.rxreport m no counts) s fun t =>
      (∀ n : Fin 20, (t.chan n).pol.peerYellow = (counts.getD n.val (0, 0, 0)).1 ∧
        (t.chan n).pol.peerRed = (counts.getD n.val (0, 0, 0)).2.1 ∧
        (t.chan n).pol.peerOverflow = (counts.getD n.val (0, 0, 0)).2.2) ∧
      t.link.lastReportNo = no ∧ t.link.rxreportRx = inc32 s.link.rxreportRx ∧ t.mem = s.mem ∧ t.arq = s.arq) ∧
  (∀ (m : RxMeta) (seq wlow reqseq : Nat) (data mac : List Byte) (f : FwdReq) (s : State),
    RxTaken m (data.length + 8) s →
    InSequence seq wlow s →
    s.yar.serving = true →
    s.link.forwarded = [f] →
    f.svc = 1 →
    f.reqseq = reqseq →
    f.own = true →
    leField data 6 2 = 0 →
    24 ≤ data.length →
    Completes (.mgmtResponse m seq wlow 0x81 reqseq data mac) s fun t =>
      t.link.peerBootNonce = some (leField data 20 4) ∧ t.link.forwarded = [] ∧
      t.arq.exp = (s.arq.exp + 1) % 65536 ∧ t.ch = s.ch ∧ t.mem = s.mem) ∧
  (∀ (m : RxMeta) (seq wlow reqseq : Nat) (data mac k : List Byte) (nonce : Nat) (f : FwdReq) (s : State),
    RxTaken m (data.length + 8) s →
    InSequence seq wlow s →
    s.yar.serving = true →
    s.blockUp 18 = true →
    s.link.forwarded = [f] →
    f.svc = 1 →
    f.reqseq = reqseq →
    f.own = false →
    f.unauth = false →
    s.keyOf f.keysel = some k →
    s.link.peerBootNonce = some nonce →
    Completes (.mgmtResponse m seq wlow 0x81 reqseq data mac) s fun t =>
      t.link.forwarded = [] ∧
      ((hmac k (macMessage s.link.upSerial nonce 0x81 reqseq data)).take 8 = mac →
        t.od.mbxRsp = some (leBytes 1 1 ++ leBytes 0x81 1 ++ leBytes reqseq 2 ++ zeros 4 ++ data ++ mac)) ∧
      ((hmac k (macMessage s.link.upSerial nonce 0x81 reqseq data)).take 8 ≠ mac →
        ∃ img, t.od.mbxRsp = some img ∧ leField img 0 1 = 1 ∧ leField img 14 2 = abAuth)) ∧
  (∀ (m : RxMeta) (seq wlow svc reqseq : Nat) (data mac : List Byte) (s : State),
    RxTaken m (data.length + 8) s →
    InSequence seq wlow s →
    s.yar.serving = false →
    Completes (.mgmtResponse m seq wlow svc reqseq data mac) s fun t =>
      t.yar = { s.yar with mgmtUnserved := inc32 s.yar.mgmtUnserved } ∧ t.arq.exp = (s.arq.exp + 1) % 65536 ∧
      t.od = s.od)

/-- Tier 2. Channel frames received (R113, R128, R158, R159, R165): a frame in sequence is accepted and EXP advances;
one of a channel that does not exist, or that the table of R159 turns away, is counted as misrouted; a duplicate is
counted and acknowledged; raw bytes reach the buffer of the channel; an FSTART creates the record of its marker. An
FSTART with COUNT 0 or above 512 or with nanoseconds above 999,999,999, and one of a Stream channel, counts as misrouted
too (DESIGN CHOICE, notes/assumptions/24.md). A FIRST segment opens its packet, a later one with SEGOFF in place goes on
with it, and LAST closes it with the CRC its header carries; one with SEGOFF out of place discards it and counts (R158).
Ahead of its turn only a whole packet of a Slice channel whose frame has a record is accepted, and anything else is
discarded and counted (R165). On a channel that refuses for its state a FIRST segment is refused and later ones change
nothing, and neither is coloured (R159, R185; for DRAINING the model's choice, notes/assumptions/96.md). A policed frame
is coloured: green takes from both buckets, yellow from the peak bucket, and is dropped under HOLD_REQ, and red is
dropped and takes nothing; after a drop the rest of its packet drops with it (R185 to R188). -/
def Obligations.ChannelFrames : Prop :=
  (∀ (m : RxMeta) (seq wlow ch : Nat) (segf : BitVec 8) (segoff : Nat) (body : List Byte) (s : State),
    RxTaken m body.length s →
    InSequence seq wlow s →
    (∀ n : Fin 20, chanOf ch = some n → s.rowMisrouted n = true) →
    Completes (.slice m seq wlow ch segf segoff body) s fun t =>
      t.arq.exp = (s.arq.exp + 1) % 65536 ∧ t.link.cnt.misrouted = inc32 s.link.cnt.misrouted ∧ t.ch = s.ch ∧
      t.mem = s.mem) ∧
  (∀ (m : RxMeta) (seq wlow ch : Nat) (segf : BitVec 8) (segoff : Nat) (body : List Byte) (s : State),
    RxTaken m body.length s →
    serialAfter 16 wlow s.arq.exp = false →
    serialAfter 16 s.arq.exp seq = true →
    Completes (.slice m seq wlow ch segf segoff body) s fun t =>
      t.arq.exp = s.arq.exp ∧ t.arq.dupRx = inc32 s.arq.dupRx ∧ t.ch = s.ch ∧ t.mem = s.mem ∧
      t.link.strict = s.link.strict ++ [⟨2, plainFrame 4 (leBytes (seqPred s.arq.exp) 2) []⟩]) ∧
  (∀ (m : RxMeta) (seq wlow ch segoff : Nat) (body : List Byte) (s : State) (n : Fin 20),
    RxTaken m body.length s →
    InSequence seq wlow s →
    chanOf ch = some n →
    s.rowMisrouted n = false →
    (s.chan n).cfg.cls = .raw →
    (s.chan n).state = .active →
    (s.chan n).copyGap = false →
    s.shadows = false →
    s.policed n = false →
    (s.chan n).rawBuf.length + body.length < 32 →
    Completes (.slice m seq wlow ch 4#8 segoff body) s fun t =>
      (t.chan n).rawBuf = (s.chan n).rawBuf ++ body ∧ t.arq.exp = (s.arq.exp + 1) % 65536 ∧
      t.mem.cells = s.mem.cells) ∧
  (∀ (m : RxMeta) (seq wlow ch segoff : Nat) (body : List Byte) (s : State) (n : Fin 20),
    RxTaken m body.length s →
    InSequence seq wlow s →
    IngestsPacket ch n s →
    (s.chan n).pkt = none →
    16 ≤ body.length →
    body.length / 32 + 1 ≤ s.free n →
    Completes (.slice m seq wlow ch 1#8 segoff body) s fun t =>
      t.arq.exp = (s.arq.exp + 1) % 65536 ∧ (t.chan n).ingNext = body.length ∧ (t.chan n).cp = (s.chan n).cp ∧
      (t.chan n).closing = (s.chan n).closing ∧
      ∃ q, (t.chan n).pkt = some q ∧ q.slot = s.writeSlot n ∧ q.len = body.length - 16 ∧
        q.slice = leField body 6 2 % 4096 ∧ q.kind = leField body 6 2 / 4096 ∧ q.frame = leField body 8 4 ∧
        q.crc = crcRun crcInit (body.drop 16)) ∧
  (∀ (m : RxMeta) (seq wlow ch segoff : Nat) (body : List Byte) (s : State) (n : Fin 20),
    RxTaken m body.length s →
    InSequence seq wlow s →
    IngestsPacket ch n s →
    (s.chan n).pkt = none →
    16 ≤ body.length →
    body.length / 32 + 1 ≤ s.free n →
    Completes (.slice m seq wlow ch 3#8 segoff body) s fun t =>
      t.arq.exp = (s.arq.exp + 1) % 65536 ∧ (t.chan n).pkt = none ∧ (t.chan n).cp = (s.chan n).cp ∧
      ∃ k, (t.chan n).closing = (s.chan n).closing ++ [k] ∧ k.slot = s.writeSlot n ∧ k.len = body.length - 16 ∧
        k.frame = leField body 8 4 ∧ k.crcFail = (leField body 12 4 != crcFinal (crcRun crcInit (body.drop 16)))) ∧
  (∀ (m : RxMeta) (seq wlow ch : Nat) (body : List Byte) (s : State) (n : Fin 20) (p : OpenPkt),
    RxTaken m body.length s →
    InSequence seq wlow s →
    IngestsPacket ch n s →
    (s.chan n).pkt = some p →
    p.buf.length < 32 →
    p.len + body.length ≤ 16777215 →
    body.length / 32 + 2 ≤ s.free n →
    Completes (.slice m seq wlow ch 0#8 (s.chan n).ingNext body) s fun t =>
      t.arq.exp = (s.arq.exp + 1) % 65536 ∧ (t.chan n).ingNext = (s.chan n).ingNext + body.length ∧
      ∃ q, (t.chan n).pkt = some q ∧ q.len = p.len + body.length ∧ q.crc = crcRun p.crc body ∧ q.slot = p.slot) ∧
  (∀ (m : RxMeta) (seq wlow ch : Nat) (body : List Byte) (s : State) (n : Fin 20) (p : OpenPkt),
    RxTaken m body.length s →
    InSequence seq wlow s →
    IngestsPacket ch n s →
    (s.chan n).pkt = some p →
    p.buf.length < 32 →
    p.len + body.length ≤ 16777215 →
    body.length / 32 + 2 ≤ s.free n →
    Completes (.slice m seq wlow ch 2#8 (s.chan n).ingNext body) s fun t =>
      t.arq.exp = (s.arq.exp + 1) % 65536 ∧ (t.chan n).pkt = none ∧
      ∃ k, (t.chan n).closing = (s.chan n).closing ++ [k] ∧ k.len = p.len + body.length ∧ k.slot = p.slot ∧
        k.crcFail = ((s.chan n).ingCrc != crcFinal (crcRun p.crc body))) ∧
  (∀ (m : RxMeta) (seq wlow ch segoff : Nat) (body : List Byte) (s : State) (n : Fin 20) (p : OpenPkt),
    RxTaken m body.length s →
    InSequence seq wlow s →
    IngestsPacket ch n s →
    (s.chan n).pkt = some p →
    segoff ≠ (s.chan n).ingNext →
    Completes (.slice m seq wlow ch 0#8 segoff body) s fun t =>
      t.arq.exp = (s.arq.exp + 1) % 65536 ∧ t.link.cnt.misrouted = inc32 s.link.cnt.misrouted ∧ (t.chan n).pkt = none ∧
      (t.chan n).cnt.aborted = inc32 (s.chan n).cnt.aborted ∧ (t.chan n).wp = (s.chan n).writeBase ∧
      t.mem.cells = s.mem.cells) ∧
  (∀ (m : RxMeta) (seq wlow ch segoff : Nat) (body : List Byte) (s : State) (n : Fin 20),
    RxTaken m body.length s →
    AheadOfTurn seq wlow s →
    IngestsPacket ch n s →
    (s.chan n).pkt = none →
    s.earlySlice ch 3#8 body = true →
    16 ≤ body.length →
    body.length / 32 + 1 ≤ s.free n →
    Completes (.slice m seq wlow ch 3#8 segoff body) s fun t =>
      t.arq.exp = s.arq.exp ∧ t.arq.rxGot = s.arq.rxGot ++ [seq] ∧ t.arq.earlyRx = inc32 s.arq.earlyRx ∧
      ∃ k, (t.chan n).closing = (s.chan n).closing ++ [k] ∧ k.slot = s.writeSlot n ∧ k.len = body.length - 16 ∧
        k.frame = leField body 8 4 ∧ k.slice = leField body 6 2 % 4096) ∧
  (∀ (m : RxMeta) (seq wlow ch : Nat) (segf : BitVec 8) (segoff : Nat) (body : List Byte) (s : State),
    RxTaken m body.length s →
    AheadOfTurn seq wlow s →
    s.earlySlice ch segf body = false →
    Completes (.slice m seq wlow ch segf segoff body) s fun t =>
      t.arq.exp = s.arq.exp ∧ t.arq.rxGot = s.arq.rxGot ∧ t.arq.earlyDiscarded = inc32 s.arq.earlyDiscarded ∧
      t.ch = s.ch ∧ t.mem = s.mem) ∧
  (∀ (m : RxMeta) (seq wlow ch : Nat) (segf : BitVec 8) (segoff : Nat) (body : List Byte) (s : State) (n : Fin 20),
    RxTaken m body.length s →
    InSequence seq wlow s →
    chanOf ch = some n →
    s.rowMisrouted n = false →
    (s.chan n).cfg.cls ≠ .raw →
    (s.chan n).copyGap = false →
    s.shadows = false →
    (s.chan n).state ≠ .active →
    segf.getLsbD 0 = true →
    segf.getLsbD 2 = false →
    Roomy n s →
    Completes (.slice m seq wlow ch segf segoff body) s fun t =>
      t.arq.exp = (s.arq.exp + 1) % 65536 ∧ (t.chan n).pkt = none ∧
      (t.chan n).cnt.stateRefused = inc32 (s.chan n).cnt.stateRefused ∧ (t.chan n).state = (s.chan n).state ∧
      (t.chan n).pol = (if segf.getLsbD 1 then (s.chan n).pol else { (s.chan n).pol with segDrop := 0 }) ∧
      t.mem.cells = s.mem.cells) ∧
  (∀ (m : RxMeta) (seq wlow ch : Nat) (segf : BitVec 8) (segoff : Nat) (body : List Byte) (s : State) (n : Fin 20),
    RxTaken m body.length s →
    InSequence seq wlow s →
    chanOf ch = some n →
    s.rowMisrouted n = false →
    (s.chan n).cfg.cls ≠ .raw →
    (s.chan n).copyGap = false →
    s.shadows = false →
    (s.chan n).pkt = none →
    ((s.chan n).state = .held ∨ (s.chan n).state = .fault) →
    segf.getLsbD 0 = false →
    segf.getLsbD 2 = false →
    Completes (.slice m seq wlow ch segf segoff body) s fun t =>
      t.arq.exp = (s.arq.exp + 1) % 65536 ∧ t.link.cnt = s.link.cnt ∧ t.mem = s.mem ∧
      (∀ k : Fin 20, k ≠ n → t.chan k = s.chan k) ∧
      t.chan n = { s.chan n with ingNext := (t.chan n).ingNext, refusing := (t.chan n).refusing,
                                 pol := { (s.chan n).pol with segDrop := (t.chan n).pol.segDrop } }) ∧
  (∀ (m : RxMeta) (seq wlow ch segoff : Nat) (body : List Byte) (s : State) (n : Fin 20),
    RxTaken m body.length s →
    InSequence seq wlow s →
    IngestsRaw ch n s →
    s.policed n = true →
    (s.chan n).rawBuf.length + body.length < 32 →
    (20 + body.length + s.link.oh) * 1024 ≤ (s.chan n).pol.tp →
    (20 + body.length + s.link.oh) * 1024 ≤ (s.chan n).pol.tc →
    Completes (.slice m seq wlow ch 4#8 segoff body) s fun t =>
      (t.chan n).rawBuf = (s.chan n).rawBuf ++ body ∧
      (t.chan n).pol = { (s.chan n).pol with
        tp := (s.chan n).pol.tp - (20 + body.length + s.link.oh) * 1024,
        tc := (s.chan n).pol.tc - (20 + body.length + s.link.oh) * 1024,
        green := inc32 (s.chan n).pol.green } ∧ t.mem.cells = s.mem.cells) ∧
  (∀ (m : RxMeta) (seq wlow ch segoff : Nat) (body : List Byte) (s : State) (n : Fin 20),
    RxTaken m body.length s →
    InSequence seq wlow s →
    IngestsRaw ch n s →
    s.policed n = true →
    (s.chan n).rawBuf.length + body.length < 32 →
    (20 + body.length + s.link.oh) * 1024 ≤ (s.chan n).pol.tp →
    (s.chan n).pol.tc < (20 + body.length + s.link.oh) * 1024 →
    (s.chan n).holdReq = false →
    Completes (.slice m seq wlow ch 4#8 segoff body) s fun t =>
      (t.chan n).rawBuf = (s.chan n).rawBuf ++ body ∧
      (t.chan n).pol = { (s.chan n).pol with
        tp := (s.chan n).pol.tp - (20 + body.length + s.link.oh) * 1024,
        yellowAccepted := inc32 (s.chan n).pol.yellowAccepted } ∧ t.mem.cells = s.mem.cells) ∧
  (∀ (m : RxMeta) (seq wlow ch segoff : Nat) (body : List Byte) (s : State) (n : Fin 20),
    RxTaken m body.length s →
    InSequence seq wlow s →
    IngestsRaw ch n s →
    s.policed n = true →
    Roomy n s →
    (20 + body.length + s.link.oh) * 1024 ≤ (s.chan n).pol.tp →
    (s.chan n).pol.tc < (20 + body.length + s.link.oh) * 1024 →
    (s.chan n).holdReq = true →
    Completes (.slice m seq wlow ch 4#8 segoff body) s fun t =>
      t.arq.exp = (s.arq.exp + 1) % 65536 ∧ (t.chan n).rawBuf = (s.chan n).rawBuf ∧
      (t.chan n).pol = { (s.chan n).pol with
        tp := (s.chan n).pol.tp - (20 + body.length + s.link.oh) * 1024,
        yellowDropped := inc32 (s.chan n).pol.yellowDropped, segDrop := 0 } ∧
      (∀ x : Port, (s.chan n).cfg.consumer = End.ofPort x → (t.port x).attnCause.getLsbD 9 = true) ∧
      t.mem.cells = s.mem.cells) ∧
  (∀ (m : RxMeta) (seq wlow ch segoff : Nat) (last : Bool) (body : List Byte) (s : State) (n : Fin 20),
    RxTaken m body.length s →
    InSequence seq wlow s →
    chanOf ch = some n →
    s.rowMisrouted n = false →
    (s.chan n).cfg.cls ≠ .raw →
    (s.chan n).state = .active →
    (s.chan n).copyGap = false →
    s.shadows = false →
    Roomy n s →
    16 ≤ body.length →
    s.policed n = true →
    (20 + body.length + s.link.oh) * 1024 ≤ (s.chan n).pol.tp →
    (s.chan n).pol.tc < (20 + body.length + s.link.oh) * 1024 →
    (s.chan n).holdReq = true →
    Completes (.slice m seq wlow ch (if last then 3#8 else 1#8) segoff body) s fun t =>
      t.arq.exp = (s.arq.exp + 1) % 65536 ∧ (t.chan n).pkt = none ∧
      (t.chan n).pol = { (s.chan n).pol with
        tp := (s.chan n).pol.tp - (20 + body.length + s.link.oh) * 1024,
        yellowDropped := inc32 (s.chan n).pol.yellowDropped,
        segDrop := if last && (s.chan n).pkt.isNone then (s.chan n).pol.segDrop else 1 } ∧
      (∀ x : Port, (s.chan n).cfg.consumer = End.ofPort x → (t.port x).attnCause.getLsbD 9 = true) ∧
      t.mem.cells = s.mem.cells) ∧
  (∀ (m : RxMeta) (seq wlow ch segoff : Nat) (last : Bool) (body : List Byte) (s : State) (n : Fin 20),
    RxTaken m body.length s →
    InSequence seq wlow s →
    chanOf ch = some n →
    s.rowMisrouted n = false →
    (s.chan n).cfg.cls ≠ .raw →
    (s.chan n).state = .active →
    (s.chan n).copyGap = false →
    s.shadows = false →
    Roomy n s →
    16 ≤ body.length →
    s.policed n = true →
    (s.chan n).pol.tp < (20 + body.length + s.link.oh) * 1024 →
    Completes (.slice m seq wlow ch (if last then 3#8 else 1#8) segoff body) s fun t =>
      t.arq.exp = (s.arq.exp + 1) % 65536 ∧ (t.chan n).pkt = none ∧
      (t.chan n).pol = { (s.chan n).pol with
          redDropped := inc32 (s.chan n).pol.redDropped,
          segDrop := if last && (s.chan n).pkt.isNone then (s.chan n).pol.segDrop else 2 } ∧
      (∀ x : Port, (s.chan n).cfg.consumer = End.ofPort x → (t.port x).attnCause.getLsbD 9 = true) ∧
      t.mem.cells = s.mem.cells) ∧
  (∀ (m : RxMeta) (seq wlow ch segoff : Nat) (last : Bool) (body : List Byte) (s : State) (n : Fin 20),
    RxTaken m body.length s →
    InSequence seq wlow s →
    chanOf ch = some n →
    s.rowMisrouted n = false →
    (s.chan n).cfg.cls ≠ .raw →
    (s.chan n).state = .active →
    (s.chan n).copyGap = false →
    s.shadows = false →
    (s.chan n).refusing = false →
    ((s.chan n).pol.segDrop = 1 ∨ (s.chan n).pol.segDrop = 2) →
    Completes (.slice m seq wlow ch (if last then 2#8 else 0#8) segoff body) s fun t =>
      t.arq.exp = (s.arq.exp + 1) % 65536 ∧ t.mem = s.mem ∧ t.link.cnt = s.link.cnt ∧
      t.chan n = { s.chan n with pol := { (s.chan n).pol with
        redDropped := if (s.chan n).pol.segDrop = 2 then inc32 (s.chan n).pol.redDropped else (s.chan n).pol.redDropped,
        yellowDropped :=
          if (s.chan n).pol.segDrop = 1 then inc32 (s.chan n).pol.yellowDropped else (s.chan n).pol.yellowDropped,
        segDrop := if last then 0 else (s.chan n).pol.segDrop } }) ∧
  (∀ (m : RxMeta) (seq wlow ch epoch count frame sec ns : Nat) (s : State),
    RxTaken m 8 s →
    InSequence seq wlow s →
    (∀ n : Fin 20, chanOf ch = some n → s.rowMisrouted n = true ∨ (s.chan n).cfg.cls ≠ .slice ∨ count = 0 ∨
      512 < count ∨ 999999999 < ns) →
    Completes (.fstart m seq wlow ch epoch count frame sec ns) s fun t =>
      t.arq.exp = (s.arq.exp + 1) % 65536 ∧ t.link.cnt.misrouted = inc32 s.link.cnt.misrouted ∧ t.ch = s.ch ∧
      t.mem = s.mem) ∧
  (∀ (m : RxMeta) (seq wlow ch count frame sec ns : Nat) (s : State) (n : Fin 20),
    RxTaken m 8 s →
    InSequence seq wlow s →
    chanOf ch = some n →
    s.rowMisrouted n = false →
    (s.chan n).cfg.cls = .slice →
    (s.chan n).state = .active →
    s.sender = false →
    s.chainHalf false = false →
    1 ≤ count →
    count ≤ 512 →
    ns ≤ 999999999 →
    Roomy n s →
    (∀ i : Fin 3, (s.chan n).record i = {}) →
    Completes (.fstart m seq wlow ch s.time.epoch count frame sec ns) s fun t =>
      let r := (t.chan n).record 0
      r.state = .filling ∧ r.frame = frame ∧ r.count = count ∧ r.epoch = s.time.epoch ∧ r.ptsSec = sec ∧
      r.ptsNs = ns ∧ r.entries = [] ∧ t.arq.exp = (s.arq.exp + 1) % 65536)

/-- Tier 2. The transmitter chooses the next frame: the strict frame of lowest class, else a frame that is to be sent
again, which keeps its number and carries RETX, else the head of the flow with the lowest tag: a management frame, an
FSTART or a segment of a packet, which enters the window with the next number; with nothing to send an IDLE after 50 µs,
in TRIAL at once, and nothing while BYE is out (R156, R158, R161, R164, R166, R167, R172, R177, R178). While CORECLK is
gated only strict frames and IDLE leave (R297, R300). Its timers: an ACK after ACK_DELAY, retransmission of the window
and, at the retry limit, the end of UP (R166 to R168); a sender gives up slices whose time has passed (R103); a receiver
sends PAUSE on a change and every 100 µs, counted in the model from the last PAUSE of either kind (DESIGN CHOICE,
notes/assumptions/22.md), and a sender forgets it after 1 ms (R85); RXREPORT, echo sets and their timeout, and SYNC go
out at their periods (R189, R195, R196); the buckets fill once a microsecond while REFCLK runs (R186, R297). -/
def Obligations.Transmitter : Prop :=
  (∀ (s : State) (i : StrictItem),
    s.link.state ≠ .off →
    s.pwr.clkSource = 1 →
    s.link.byeIdle = false →
    nextStrict s.link.strict = some i →
    Completes .frameTxChoice s fun t =>
      t = { s with link := t.link } ∧ t.link.sent = s.link.sent ++ [s.stampFrame i.frame] ∧
      t.link.strict = s.link.strict.erase i) ∧
  (∀ (s : State) (h : Head) (f : TxFrame) (rest : List TxFrame),
    TxFree s →
    s.arq.retx = [] →
    s.blockUp 5 = true →
    s.nextFlow = some (20, h) →
    s.link.mgmtQ = f :: rest →
    Completes .frameTxChoice s fun t =>
      t.link.mgmtQ = rest ∧ t.link.vtime = h.tag ∧
      (∃ g : TxFrame, SentReliable g s t ∧ g.type = 10 ∧ g.body = f.body) ∧ t.mem.cells = s.mem.cells) ∧
  (∀ (s : State) (n : Fin 20) (h : Head) (f : FstartItem) (rest : List FstartItem),
    TxFree s →
    s.arq.retx = [] →
    s.blockUp 5 = true →
    s.nextFlow = some (n.val, h) →
    h.kind = .fstart →
    (s.chan n).fstarts = f :: rest →
    Roomy n s →
    Completes .frameTxChoice s fun t =>
      (t.chan n).fstarts = rest ∧ t.link.vtime = h.tag ∧
      (∃ g : TxFrame, SentReliable g s t ∧ g.type = 3 ∧
        g.fields = leBytes n.val 1 ++ leBytes f.epoch 1 ++ leBytes f.count 2 ++ leBytes f.frame 4 ∧
        g.body = leBytes f.ptsSec 4 ++ leBytes f.ptsNs 4) ∧ t.mem.cells = s.mem.cells) ∧
  (∀ (s : State) (n : Fin 20) (h : Head) (start : Ptr) (segoff bytes len : Nat) (first last : Bool),
    TxFree s →
    s.arq.retx = [] →
    s.blockUp 5 = true →
    s.nextFlow = some (n.val, h) →
    h.kind = .segment start segoff bytes len first last →
    ((s.chan n).entryAt start).all (fun e => decide (e.flips = 0)) = true →
    (s.wordsFrom n ((bytes + 31) / 32) start).all (fun w => !w.bad) = true →
    Roomy n s →
    Completes .frameTxChoice s fun t =>
      t.link.vtime = h.tag ∧ (t.chan n).rp = ptrAfter (s.chan n).s (s.fenced n) ((bytes + 31) / 32) start ∧
      ((t.chan n).inPkt.isNone = last) ∧
      (first = true → (t.chan n).nextPseq = ((s.chan n).nextPseq + 1) % 65536 ∧
        (t.chan n).cnt.pktDelivered = inc32 (s.chan n).cnt.pktDelivered) ∧
      ∃ g : TxFrame, SentReliable g s t ∧ g.type = 2 ∧
        g.fields = leBytes n.val 1 ++ [BitVec.ofNat 8 (natOfBits [first, last])] ++ leBytes segoff 4 ++ zeros 2 ∧
        g.body = ((segmentForm (s.wordsFrom n ((bytes + 31) / 32) start) first (s.chan n).nextPseq).flatten.take bytes)) ∧
  (∀ (s : State) (n : Fin 20) (h : Head) (start : Ptr) (words bytes : Nat) (tail : Bool),
    TxFree s →
    s.arq.retx = [] →
    s.blockUp 5 = true →
    s.nextFlow = some (n.val, h) →
    h.kind = .raw start words bytes tail →
    ((s.chan n).tailOf (s.fenced n) words start).all (fun e => decide (e.flips = 0)) = true →
    (s.wordsFrom n words start).all (fun w => !w.bad) = true →
    Roomy n s →
    Completes .frameTxChoice s fun t =>
      t.link.vtime = h.tag ∧ (t.chan n).rp = ptrAfter (s.chan n).s (s.fenced n) words start ∧
      (t.chan n).rawDelivered = ((s.chan n).rawDelivered + bytes) % 2 ^ 48 ∧
      ∃ g : TxFrame, SentReliable g s t ∧ g.type = 2 ∧
        g.fields = leBytes n.val 1 ++ [BitVec.ofNat 8 (natOfBits [false, false, true, tail])] ++ zeros 6 ∧
        g.body = ((s.wordsFrom n words start).map (·.data)).flatten.take bytes) ∧
  (∀ (s : State) (e : WinEntry) (f : TxFrame),
    TxFree s →
    s.arq.window.find? (fun e => s.arq.retx.contains e.seq) = some e →
    e.body = .copy f →
    Completes .frameTxChoice s fun t =>
      ∃ g : TxFrame, SentAgain e g s t ∧ g.type = f.type ∧ g.seq = f.seq ∧ g.fields = f.fields ∧ g.body = f.body ∧
        t.mem.cells = s.mem.cells ∧ t.link.vtime = s.link.vtime) ∧
  (∀ (s : State) (e : WinEntry) (n : Fin 20) (start : Ptr) (segoff bytes len frame pseq : Nat) (first last : Bool),
    TxFree s →
    s.arq.window.find? (fun e => s.arq.retx.contains e.seq) = some e →
    e.body = .segment start segoff bytes len frame pseq first last →
    chanOf e.ch = some n →
    e.stale = false →
    (s.chan n).skip = none →
    (s.wordsFrom n ((bytes + 31) / 32) start).all (fun w => !w.bad) = true →
    Roomy n s →
    Completes .frameTxChoice s fun t =>
      (t.chan n).rp = e.endp ∧ ((t.chan n).inPkt.isNone = last) ∧ t.link.vtime = s.link.vtime ∧
      ∃ g : TxFrame, SentAgain e g s t ∧ g.type = e.type ∧ g.seq = e.seq ∧
        g.fields = leBytes n.val 1 ++ [BitVec.ofNat 8 (natOfBits [first, last])] ++ leBytes segoff 4 ++ zeros 2 ∧
        g.body = ((segmentForm (s.wordsFrom n ((bytes + 31) / 32) start) first pseq).flatten.take bytes)) ∧
  (∀ (s : State),
    s.linkUp = true →
    s.pwr.clkSource = 1 →
    s.link.byeIdle = false →
    s.link.strict = [] →
    ((s.arq.retx = [] ∧ (s.blockUp 5 = false ∨ s.nextFlow = none)) ∨ s.clocked = false) →
    Completes .frameTxChoice s fun t =>
      (s.link.lastTx + us 50 ≤ s.now →
        t = { s with link := { s.link with sent := s.link.sent ++ [plainFrame 0 [] []], lastTx := s.now } }) ∧
      (s.now < s.link.lastTx + us 50 → t = s)) ∧
  (∀ (s : State),
    s.link.state = .trial →
    s.pwr.clkSource = 1 →
    s.link.byeIdle = false →
    s.link.strict = [] →
    Completes .frameTxChoice s fun t =>
      t = { s with link := { s.link with sent := s.link.sent ++ [plainFrame 0 [] []], lastTx := s.now } }) ∧
  (∀ (s : State),
    s.link.byeIdle = true →
    Completes .frameTxChoice s fun t => t = s) ∧
  (∀ (dt a : Nat) (s : State),
    s.linkUp = true →
    s.arq.firstAcc = some a →
    a + ns s.arq.ackDelay ≤ s.now + 1250 * dt →
    Completes (.ackDelay dt) s fun t =>
      t = { s.advance dt with
            link := { s.link with
                      strict := s.link.strict ++ [⟨2, plainFrame 4 (leBytes (seqPred s.arq.exp) 2) []⟩] }
            arq := { s.arq with accSince := 0, firstAcc := none } }) ∧
  (∀ (dt : Nat) (s : State) (e : WinEntry) (rest : List WinEntry),
    s.linkUp = true →
    s.arq.window = e :: rest →
    e.retxAt.getD e.sentAt + us s.arq.rto ≤ s.now + 1250 * dt →
    s.arq.timeouts + 1 < s.arq.retryLimit →
    Completes (.retransmitTimeout dt) s fun t =>
      t.arq.retx = s.arq.window.map (·.seq) ∧ t.arq.timeouts = s.arq.timeouts + 1 ∧
      t.arq.rtoEvents = inc32 s.arq.rtoEvents ∧ t.link.state = .up ∧ t.mem.cells = s.mem.cells) ∧
  (∀ (dt : Nat) (s : State) (e : WinEntry) (rest : List WinEntry),
    s.linkUp = true →
    s.arq.window = e :: rest →
    e.retxAt.getD e.sentAt + us s.arq.rto ≤ s.now + 1250 * dt →
    s.arq.retryLimit ≤ s.arq.timeouts + 1 →
    Completes (.retransmitTimeout dt) s fun t => LeftUp s t 8) ∧
  (∀ (dt : Nat) (s : State),
    s.sender = false →
    Completes (.giveUp dt) s fun t => t = s.advance dt) ∧
  (∀ (dt : Nat) (s : State) (e : WinEntry) (p : Nat × Nat),
    s.sender = true →
    s.arq.window = [e] →
    s.isSliceEntry e = true →
    e.pts = some p →
    (s.advance dt).ptsPassed p = true →
    Completes (.giveUp dt) s fun t =>
      t.arq.window = [] ∧ t.arq.giveupFrames = satAdd s.arq.giveupFrames 1 ∧
      (AllRoomy s → t.mem.cells = s.mem.cells)) ∧
  (∀ (s : State),
    s.sender = false →
    s.linkFlows = true →
    s.pauseMap ≠ s.link.lastPause →
    Completes .pauseQueue s fun t =>
      t = { s with link := { s.link with
              strict := s.link.strict ++ [⟨3, plainFrame 6 (leBytes s.pauseMap 4) []⟩]
              lastPause := s.pauseMap
              pauseAt := s.now } }) ∧
  (∀ (dt : Nat) (s : State),
    s.sender = false →
    s.linkFlows = true →
    s.pauseMap ≠ 0 →
    Completes (.pauseRepeat dt) s fun t =>
      (s.link.pauseAt + us 100 ≤ s.now + 1250 * dt →
        t = { s.advance dt with link := { s.link with
                strict := s.link.strict ++ [⟨3, plainFrame 6 (leBytes s.pauseMap 4) []⟩]
                lastPause := s.pauseMap
                pauseAt := s.now + 1250 * dt } }) ∧
      (s.now + 1250 * dt < s.link.pauseAt + us 100 → t = s.advance dt)) ∧
  (∀ (dt : Nat) (s : State),
    s.sender = true →
    s.link.pauseRxAt + ms 1 ≤ s.now + 1250 * dt →
    Completes (.pausedExpiry dt) s fun t =>
      (∀ n : Fin 20, (t.chan n).paused = false) ∧ t.mem.cells = s.mem.cells) ∧
  (∀ (dt : Nat) (s : State),
    s.sender = false →
    s.linkFlows = true →
    s.link.reportAt + ms 100 ≤ s.now + 1250 * dt →
    Completes (.rxreportSend dt) s fun t =>
      t = { s.advance dt with link := t.link } ∧ t.link.reportAt = s.now + 1250 * dt ∧ t.link.lastReportNo = (s.link.lastReportNo + 1) % 4294967296 ∧
      ∃ f : TxFrame, f.type = 11 ∧ t.link.strict = s.link.strict ++ [⟨4, f⟩]) ∧
  (∀ (dt : Nat) (s : State),
    s.sender = false →
    s.linkUp = true →
    s.link.echo = none →
    s.link.echoPeriod ≠ 0 →
    s.link.echoStart + ms s.link.echoPeriod ≤ s.now + 1250 * dt →
    Completes (.echoSetStart dt) s fun t =>
      t = { s.advance dt with link := t.link } ∧ (∃ e, t.link.echo = some e ∧ e.done = 0 ∧ e.sum = 0) ∧
      ∃ f : TxFrame, f.type = 8 ∧ t.link.strict = s.link.strict ++ [⟨4, f⟩]) ∧
  (∀ (dt : Nat) (s : State) (e : EchoSet),
    s.linkUp = true →
    s.link.echo = some e →
    e.sentAt + us 100 ≤ s.now + 1250 * dt →
    Completes (.echoTimeout dt) s fun t =>
      t = { s.advance dt with link := t.link } ∧
      (∃ d, t.link.echo = some d ∧ d.done = e.done ∧ d.sum = e.sum ∧ d.id = s.link.echoNextId) ∧
      ∃ f : TxFrame, f.type = 8 ∧ t.link.strict = s.link.strict ++ [⟨4, f⟩]) ∧
  (∀ (dt : Nat) (s : State),
    s.sender = true →
    s.linkUp = true →
    s.link.syncAt + us s.link.syncEvery ≤ s.now + 1250 * dt →
    Completes (.syncSend dt) s fun t =>
      t = { s.advance dt with
            link := { s.link with strict := s.link.strict ++ [⟨1, plainFrame 7 [] (zeros 4)⟩]
                                  syncAt := s.now + 1250 * dt
                                  syncEvery := s.time.syncPeriod } }) ∧
  (∀ (dt : Nat) (s : State),
    s.pwr.clkSource = 1 →
    s.now + 1250 * dt < s.link.refillAt + us 1 →
    Completes (.tokenRefill dt) s fun t => t = s.advance dt) ∧
  (∀ (dt : Nat) (s : State),
    s.pwr.clkSource = 1 →
    s.link.refillAt + us 1 ≤ s.now + 1250 * dt →
    Completes (.tokenRefill dt) s fun t =>
      t.link.refillAt = s.link.refillAt + us 1 ∧ ∀ n : Fin 20, t.chan n =
        if s.policed n = true then
          { s.chan n with pol := { (s.chan n).pol with
              tc := min ((s.chan n).pol.cbs * 1024) ((s.chan n).pol.tc + (s.chan n).pol.cir * 128)
              tp := min ((s.chan n).pol.pbs * 1024) ((s.chan n).pol.tp + (s.chan n).pol.pir * 128) } }
        else s.chan n)

/-! ### Yarrow and YDMA -/

/-- Tier 2. YCORE's accesses (R38, R223, R224, R237, R318): LOCK_REQ locks a free slot as YC; user mode takes an access
fault, also at the watchdog, BANK_COPY and YDMA; BANK_COPY, the watchdog and the SRAM scrubber change what they name; a
load of the memory window or of SRAM returns the stored bytes, a store replaces them, an uncorrectable SRAM word faults,
and a block outside the descriptors of YC is refused and counted. In Doze the scrubber stands, as its clock does (R297).
-/
def Obligations.YarrowAccesses : Prop :=
  (∀ (v : W32) (s : State),
    s.ycoreRuns = true →
    s.blockUp 0 = true →
    s.shadows = false →
    v.getLsbD 7 = false →
    s.slot (v.toNat % 64) = ⟨.free, false⟩ →
    Completes (.lockReq true v) s fun t =>
      t.slot (v.toNat % 64) = ⟨.yc, false⟩ ∧ t.yar.lockReq = BitVec.ofNat 32 (v.toNat % 64) ∧
      t.yar.winFault = false ∧ t.ch = s.ch ∧ t.mem.cells = s.mem.cells) ∧
  (∀ (v : W32) (s : State),
    s.ycoreRuns = true →
    s.blockUp 0 = true →
    s.shadows = false →
    v.getLsbD 7 = true →
    (s.slot (v.toNat % 64)).owner = .yc →
    Completes (.lockReq true v) s fun t =>
      t.slot (v.toNat % 64) = ⟨.free, false⟩ ∧ t.yar.lockReq = BitVec.ofNat 32 (128 + v.toNat % 64)) ∧
  (∀ (v : W32) (s : State),
    s.ycoreRuns = true →
    Completes (.lockReq false v) s fun t =>
      t = { s with yar := { s.yar with winFault := true, winResult := [] } }) ∧
  (∀ (v : W32) (s : State),
    s.ycoreRuns = true →
    s.blockUp 16 = true →
    Completes (.bankCopyStart true v) s fun t =>
      t = { s with yar := t.yar } ∧ t.yar.winFault = false ∧ t.yar.bankCopyStart = (v.getLsbD 31 && s.tansy.copy.isSome) ∧
      t.yar.bankCopySwitched = (s.yar.bankCopySwitched && !v.getLsbD 30)) ∧
  (∀ (addr n : Nat) (s : State),
    s.ycoreRuns = true →
    s.memOpen = true →
    s.blockUp 0 = true →
    0x40000000 ≤ addr →
    addr < 0x48000000 →
    addr % 32 + n ≤ 32 →
    s.allowed 3 ((addr - 0x40000000) / 32 / 128) false = true →
    s.fencedAt (s.placeOf ((addr - 0x40000000) / 32)) = false →
    (readWordAt s.mem (s.phys (s.placeOf ((addr - 0x40000000) / 32)))).lanesOk (addr % 32) n = true →
    Completes (.memoryWindowAccess true addr (.load n)) s fun t =>
      t.yar.winFault = false ∧
      t.yar.winResult =
        ((readWordAt s.mem (s.phys (s.placeOf ((addr - 0x40000000) / 32)))).data.drop (addr % 32)).take n ∧
      t.mem.cells = s.mem.cells ∧ t.mem.errs = s.mem.errs) ∧
  (∀ (addr : Nat) (d : List Byte) (s : State),
    s.ycoreRuns = true →
    s.memOpen = true →
    s.blockUp 0 = true →
    0x40000000 ≤ addr →
    addr < 0x48000000 →
    addr % 32 + d.length ≤ 32 →
    s.allowed 3 ((addr - 0x40000000) / 32 / 128) true = true →
    s.fencedAt (s.placeOf ((addr - 0x40000000) / 32)) = false →
    (readWordAt s.mem (s.phys (s.placeOf ((addr - 0x40000000) / 32)))).bad = false →
    s.tansy.copy = none →
    MemoriesCanonical s →
    Completes (.memoryWindowAccess true addr (.store d)) s fun t =>
      let w := s.phys (s.placeOf ((addr - 0x40000000) / 32))
      t.yar.winFault = false ∧
      (readWordAt t.mem w).data = (readWordAt s.mem w).data.take (addr % 32) ++ d ++
        (readWordAt s.mem w).data.drop (addr % 32 + d.length) ∧
      (∀ v, v ≠ w → readWordAt t.mem v = readWordAt s.mem v)) ∧
  (∀ (addr n : Nat) (s : State),
    s.ycoreRuns = true →
    s.memOpen = true →
    s.blockUp 0 = true →
    0x40000000 ≤ addr →
    addr < 0x48000000 →
    addr % 32 + n ≤ 32 →
    s.allowed 3 ((addr - 0x40000000) / 32 / 128) false = false →
    Completes (.memoryWindowAccess true addr (.load n)) s fun t =>
      t.yar = { s.yar with winFault := true, winResult := [] } ∧
      t.mem.accessRefused.get 3 = inc32 (s.mem.accessRefused.get 3) ∧ t.mem.cells = s.mem.cells) ∧
  (∀ (s : State),
    s.ycoreRuns = true →
    Completes (.watchdogKick true none) s fun t => t = { s with yar := { s.yar with wdtAt := some s.yclkNow } }) ∧
  (∀ (period : Nat) (s : State),
    s.ycoreRuns = true →
    1000 ≤ period →
    period ≤ 10000000 →
    Completes (.watchdogKick true (some period)) s fun t =>
      t = { s with yar := { s.yar with wdtAt := some s.yclkNow, wdtPeriod := period } }) ∧
  (∀ (period : Option Nat) (v : W32) (k : Fin 4) (index : Nat) (s : State),
    s.ycoreRuns = true →
    exec (.watchdogKick false period) s = .next { s with yar := { s.yar with winFault := true, winResult := [] } } ∧
    exec (.bankCopyStart false v) s = .next { s with yar := { s.yar with winFault := true, winResult := [] } } ∧
    (s.yHalted k = true →
      exec (.ydmaResume false k) s = .next { s with yar := { s.yar with winFault := true, winResult := [] } } ∧
      exec (.ydmaSkip false k) s = .next { s with yar := { s.yar with winFault := true, winResult := [] } } ∧
      exec (.ydmaAbort false k) s = .next { s with yar := { s.yar with winFault := true, winResult := [] } }) ∧
    (s.blockUp 16 = true → (s.yar.ydma.get k).haltCause = 0 → (s.yar.ydma.get k).active = false →
      exec (.ydmaDescriptor false k index) s =
        .next { s with yar := { s.yar with winFault := true, winResult := [] } })) ∧
  (∀ (machine : Bool) (addr n : Nat) (s : State),
    s.ycoreRuns = true →
    0x10000000 ≤ addr →
    addr + n ≤ 0x10040000 →
    s.yar.sramErr = [] →
    Completes (.memoryWindowAccess machine addr (.load n)) s fun t =>
      t.yar.winFault = false ∧ t.yar.winResult = loadBytes s.yar.sram (addr - 0x10000000) n ∧
      t.yar.sram = s.yar.sram ∧ t.mem = s.mem) ∧
  (∀ (machine : Bool) (addr w : Nat) (s : State),
    s.ycoreRuns = true →
    0x10000000 ≤ addr →
    addr + 4 ≤ 0x10040000 →
    addr - 0x10000000 = 4 * w →
    s.yar.sramErr = [(w, true)] →
    Completes (.memoryWindowAccess machine addr (.load 4)) s fun t =>
      t.yar.winFault = true ∧ t.yar.winResult = [] ∧ t.yar.sram = s.yar.sram ∧ t.mem = s.mem) ∧
  (∀ (machine : Bool) (addr : Nat) (d : List Byte) (s : State),
    s.ycoreRuns = true →
    0x10000000 ≤ addr →
    addr + d.length ≤ 0x10040000 →
    MemoriesCanonical s →
    Completes (.memoryWindowAccess machine addr (.store d)) s fun t =>
      t.yar.winFault = false ∧ loadBytes t.yar.sram (addr - 0x10000000) d.length = d ∧
      (∀ a, a < addr - 0x10000000 ∨ addr - 0x10000000 + d.length ≤ a →
        loadBytes t.yar.sram a 1 = loadBytes s.yar.sram a 1) ∧ t.mem = s.mem) ∧
  (∀ (dt : Nat) (corrected : List Nat) (s : State),
    s.yarUp = true →
    s.yarrowHeld = false →
    s.clocked = true →
    s.yar.scrubAt + ms 1000 ≤ s.now + 1250 * dt →
    s.yar.sramErr.all (fun e => e.2) = true →
    Completes (.sramScrub dt corrected) s fun t =>
      t = { s.advance dt with
            yar := { s.yar with sramCe := satAdd s.yar.sramCe corrected.length, sramErr := s.yar.sramErr,
                                scrubAt := s.now + 1250 * dt } }) ∧
  (∀ (dt w : Nat) (s : State),
    s.yarUp = true →
    s.yarrowHeld = false →
    s.clocked = true →
    s.yar.scrubAt + ms 1000 ≤ s.now + 1250 * dt →
    s.yar.sramErr = [(w, false)] →
    Completes (.sramScrub dt [w]) s fun t =>
      t = { s.advance dt with
            yar := { s.yar with sramCe := satAdd s.yar.sramCe 1, sramErr := [], scrubAt := s.now + 1250 * dt } }) ∧
  (∀ (dt : Nat) (corrected : List Nat) (s : State),
    (s.clocked = false ∨ s.yarrowHeld = true ∨ s.now + 1250 * dt < s.yar.scrubAt + ms 1000) →
    Completes (.sramScrub dt corrected) s fun t => t = s.advance dt)

/-- Tier 2. YDMA (R231 to R234). A descriptor moves its units in the order of its loops, from and to SRAM, the array and
the aperture of a channel that Yarrow reads or writes, and completes with OK; an aperture that runs empty or is HELD
completes it with SHORT, and one whose channel refuses the packet with REFUSED; before the memory opens it waits. It
halts with 01h where the YD descriptors refuse, 02h on an uncorrectable unit, 03h on an aperture of another endpoint,
04h outside the map and on a write to flash, and 05h on an error of its fields; after a halt RESUME tries the unit
again, SKIP leaves the destination, ABORT ends the chain with its status. -/
def Obligations.YdmaMoves : Prop :=
  (∀ (k : Fin 4) (index w a b : Nat) (s : State),
    YReady k index w s →
    dUnits w = 1 →
    yTarget (4 * dField w 12 26 : Nat) = .sram a →
    yTarget (4 * dField w 38 26 : Nat) = .sram b →
    MemoriesCanonical s →
    Completes (.ydmaDescriptor true k index) s fun t =>
      loadBytes t.yar.sram b 4 = loadBytes s.yar.sram a 4 ∧ YDone k w 1 0 t ∧ t.mem = s.mem ∧ t.ch = s.ch) ∧
  (∀ (k : Fin 4) (index w : Nat) (s : State),
    YReady k index w s →
    SramToSram w →
    MemoriesCanonical s →
    Completes (.ydmaDescriptor true k index) s fun t =>
      (∀ i, i < dUnits w → loadBytes t.yar.sram (dstAt w i - 0x8000000).toNat 4 =
        loadBytes s.yar.sram (srcAt w i - 0x8000000).toNat 4) ∧
      YDone k w 1 0 t ∧ (t.yar.ydma.get k).irq = ((s.yar.ydma.get k).irq || dField w 0 1 == 1) ∧ t.mem = s.mem ∧
      t.ch = s.ch) ∧
  (∀ (k : Fin 4) (index w a b : Nat) (s : State),
    YReady k index w s →
    dUnits w = 1 →
    yTarget (4 * dField w 12 26 : Nat) = .array a →
    yTarget (4 * dField w 38 26 : Nat) = .sram b →
    s.blockUp 0 = true →
    s.allowed 4 (a / 4096) false = true →
    s.fencedAt (s.placeOf (a / 32)) = false →
    (readWordAt s.mem (s.phys (s.placeOf (a / 32)))).lanesOk (a % 32) 4 = true →
    MemoriesCanonical s →
    Completes (.ydmaDescriptor true k index) s fun t =>
      loadBytes t.yar.sram b 4 = ((readWordAt s.mem (s.phys (s.placeOf (a / 32)))).data.drop (a % 32)).take 4 ∧
      YDone k w 1 0 t ∧ t.mem.cells = s.mem.cells ∧ t.mem.errs = s.mem.errs) ∧
  (∀ (k : Fin 4) (index w a b : Nat) (s : State),
    YReady k index w s →
    dUnits w = 1 →
    yTarget (4 * dField w 12 26 : Nat) = .sram a →
    yTarget (4 * dField w 38 26 : Nat) = .array b →
    s.blockUp 0 = true →
    s.allowed 4 (b / 4096) true = true →
    s.fencedAt (s.placeOf (b / 32)) = false →
    (readWordAt s.mem (s.phys (s.placeOf (b / 32)))).bad = false →
    s.tansy.copy = none →
    MemoriesCanonical s →
    Completes (.ydmaDescriptor true k index) s fun t =>
      let p := s.phys (s.placeOf (b / 32))
      (readWordAt t.mem p).data = (readWordAt s.mem p).data.take (b % 32) ++ loadBytes s.yar.sram a 4 ++
        (readWordAt s.mem p).data.drop (b % 32 + 4) ∧
      (∀ v, v ≠ p → readWordAt t.mem v = readWordAt s.mem v) ∧ YDone k w 1 0 t ∧ t.yar.sram = s.yar.sram) ∧
  (∀ (k : Fin 4) (index w i b : Nat) (s : State) (n : Fin 20),
    YReady k index w s →
    dUnits w = 8 →
    yTarget (4 * dField w 12 26 : Nat) = .aperture i →
    chanOf i = some n →
    s.blockUp 0 = true →
    s.blockUp 1 = true →
    (s.chan n).cfg.consumer = .yarrow →
    (s.chan n).cfg.cls = .raw →
    (s.chan n).state = .active →
    (s.chan n).deferred = [] →
    (s.chan n).tails = [] →
    s.ringReadable n ≠ 0 →
    (s.wordAtRp n).bad = false →
    (dstAt w 0 = (0x8000000 + b : Nat) ∧ dstAt w 1 = (0x8000004 + b : Nat) ∧ dstAt w 2 = (0x8000008 + b : Nat) ∧
      dstAt w 3 = (0x800000C + b : Nat) ∧ dstAt w 4 = (0x8000010 + b : Nat) ∧ dstAt w 5 = (0x8000014 + b : Nat) ∧
      dstAt w 6 = (0x8000018 + b : Nat) ∧ dstAt w 7 = (0x800001C + b : Nat)) →
    b + 32 ≤ 0x40000 →
    MemoriesCanonical s →
    Completes (.ydmaDescriptor true k index) s fun t =>
      loadBytes t.yar.sram b 32 = (s.wordAtRp n).data ∧ YDone k w 1 0 t ∧
      (t.chan n).rp = step1 (s.chan n).s (s.atRp n) ∧ t.mem.cells = s.mem.cells) ∧
  (∀ (k : Fin 4) (index w i : Nat) (s : State) (n : Fin 20),
    YReady k index w s →
    FromSram w →
    yTarget (4 * dField w 38 26 : Nat) = .aperture i →
    ApertureFed i n s →
    (s.chan n).state = .active →
    (s.chan n).cfg.cls ≠ .raw →
    4 * dUnits w ≤ 16777215 →
    dUnits w / 8 + 2 ≤ s.free n →
    Completes (.ydmaDescriptor true k index) s fun t =>
      YDone k w 1 0 t ∧ (t.chan n).pkt = none ∧
      ∃ c, (t.chan n).closing = (s.chan n).closing ++ [c] ∧ c.slot = s.writeSlot n ∧ c.len = 4 * dUnits w ∧ c.slice = 0 ∧
        c.kind = 0 ∧ c.frame = 0 ∧ c.crcFail = false) ∧
  (∀ (k : Fin 4) (index w i : Nat) (s : State) (n : Fin 20),
    YReady k index w s →
    FromSram w →
    dUnits w = 1 →
    yTarget (4 * dField w 38 26 : Nat) = .aperture i →
    ApertureFed i n s →
    (s.chan n).state = .active →
    (s.chan n).cfg.cls = .raw →
    (s.chan n).rawBuf.length + 4 ≤ 32 →
    (s.chan n).tails.length < tailTable →
    s.free n ≠ 0 →
    Completes (.ydmaDescriptor true k index) s fun t =>
      YDone k w 1 0 t ∧ (t.chan n).rawBuf = [] ∧ (t.chan n).cp = step1 (s.chan n).s (s.writeSlot n) ∧
      (t.chan n).cnt.pktCommitted = inc32 (s.chan n).cnt.pktCommitted) ∧
  (∀ (k : Fin 4) (index w i b : Nat) (s : State) (n : Fin 20),
    YReady k index w s →
    yTarget (4 * dField w 12 26 : Nat) = .aperture i →
    yTarget (4 * dField w 38 26 : Nat) = .sram b →
    chanOf i = some n →
    s.blockUp 0 = true →
    s.blockUp 1 = true →
    (s.chan n).cfg.consumer = .yarrow →
    ((s.chan n).state = .held ∨ (((s.chan n).state = .active ∨ (s.chan n).state = .draining) ∧ s.ringReadable n = 0)) →
    Completes (.ydmaDescriptor true k index) s fun t =>
      YDone k w 2 (dUnits w) t ∧ t.yar.sram = s.yar.sram ∧ t.ch = s.ch ∧ t.mem = s.mem) ∧
  (∀ (k : Fin 4) (index w i : Nat) (s : State) (n : Fin 20),
    YReady k index w s →
    FromSram w →
    yTarget (4 * dField w 38 26 : Nat) = .aperture i →
    ApertureFed i n s →
    ((s.chan n).state = .held ∨ (s.chan n).state = .draining) →
    Completes (.ydmaDescriptor true k index) s fun t =>
      YDone k w 3 (dUnits w) t ∧ (t.chan n).cnt.stateRefused = inc32 (s.chan n).cnt.stateRefused ∧
      t.yar.sram = s.yar.sram ∧ t.mem.cells = s.mem.cells) ∧
  (∀ (k : Fin 4) (index w a : Nat) (s : State),
    YReady k index w s →
    yTarget (4 * dField w 12 26 : Nat) = .array a →
    s.blockUp 0 = true →
    s.allowed 4 (a / 4096) false = false →
    Completes (.ydmaDescriptor true k index) s fun t =>
      YHaltedAt k 1 (4 * dField w 12 26) false s t ∧
      t.mem.accessRefused.get 4 = inc32 (s.mem.accessRefused.get 4)) ∧
  (∀ (k : Fin 4) (index w a b : Nat) (s : State),
    YReady k index w s →
    yTarget (4 * dField w 12 26 : Nat) = .sram a →
    yTarget (4 * dField w 38 26 : Nat) = .array b →
    s.blockUp 0 = true →
    s.allowed 4 (b / 4096) true = false →
    Completes (.ydmaDescriptor true k index) s fun t =>
      YHaltedAt k 1 (4 * dField w 38 26) true s t ∧
      t.mem.accessRefused.get 4 = inc32 (s.mem.accessRefused.get 4)) ∧
  (∀ (k : Fin 4) (index w a : Nat) (s : State),
    YReady k index w s →
    yTarget (4 * dField w 12 26 : Nat) = .array a →
    s.blockUp 0 = true →
    s.allowed 4 (a / 4096) false = true →
    (s.fencedAt (s.placeOf (a / 32)) = true ∨
      (readWordAt s.mem (s.phys (s.placeOf (a / 32)))).lanesOk (a % 32) 4 = false) →
    Completes (.ydmaDescriptor true k index) s fun t => YHaltedAt k 2 (4 * dField w 12 26) false s t) ∧
  (∀ (k : Fin 4) (index w i : Nat) (s : State) (n : Fin 20),
    YReady k index w s →
    yTarget (4 * dField w 12 26 : Nat) = .aperture i →
    chanOf i = some n →
    (s.blockUp 0 = false ∨ s.blockUp 1 = false ∨ (s.chan n).state = .disabled ∨ (s.chan n).state = .fault ∨
      (s.chan n).cfg.consumer ≠ .yarrow) →
    Completes (.ydmaDescriptor true k index) s fun t => YHaltedAt k 3 (4 * dField w 12 26) false s t) ∧
  (∀ (k : Fin 4) (index w a i : Nat) (s : State) (n : Fin 20),
    YReady k index w s →
    yTarget (4 * dField w 12 26 : Nat) = .sram a →
    yTarget (4 * dField w 38 26 : Nat) = .aperture i →
    chanOf i = some n →
    (s.blockUp 0 = false ∨ s.blockUp 1 = false ∨ (s.chan n).state = .disabled ∨ (s.chan n).state = .fault ∨
      (s.chan n).cfg.producer ≠ .yarrow) →
    Completes (.ydmaDescriptor true k index) s fun t => YHaltedAt k 3 (4 * dField w 38 26) true s t) ∧
  (∀ (k : Fin 4) (index w : Nat) (s : State),
    YReady k index w s →
    yTarget (4 * dField w 12 26 : Nat) = .unmapped →
    Completes (.ydmaDescriptor true k index) s fun t => YHaltedAt k 4 (4 * dField w 12 26) false s t) ∧
  (∀ (k : Fin 4) (index w a b : Nat) (s : State),
    YReady k index w s →
    yTarget (4 * dField w 12 26 : Nat) = .sram a →
    (yTarget (4 * dField w 38 26 : Nat) = .unmapped ∨ yTarget (4 * dField w 38 26 : Nat) = .flash b) →
    Completes (.ydmaDescriptor true k index) s fun t => YHaltedAt k 4 (4 * dField w 38 26) true s t) ∧
  (∀ (k : Fin 4) (index : Nat) (s : State),
    s.ycoreRuns = true →
    s.blockUp 16 = true →
    (s.yar.ydma.get k).haltCause = 0 →
    (s.yar.ydma.get k).active = false →
    s.memOpen = false →
    Completes (.ydmaDescriptor true k index) s fun t =>
      (t.yar.ydma.get k).active = true ∧ (t.yar.ydma.get k).index = index ∧ t.mem = s.mem ∧
      t.yar.sram = s.yar.sram) ∧
  (∀ (k : Fin 4) (index : Nat) (s : State),
    s.ycoreRuns = true →
    s.blockUp 16 = true →
    (s.yar.ydma.get k).haltCause = 0 →
    (s.yar.ydma.get k).active = false →
    s.memOpen = true →
    s.yar.bankCopyStart = false →
    s.yar.sramErr = [] →
    descriptorError (s.descriptor index) = true →
    Completes (.ydmaDescriptor true k index) s fun t =>
      (t.yar.ydma.get k).haltCause = 5 ∧ (t.yar.ydma.get k).irq = true ∧ t.mem = s.mem ∧
      t.yar.sram = s.yar.sram) ∧
  (∀ (k : Fin 4) (s : State),
    s.yHalted k = true →
    s.memOpen = false →
    Completes (.ydmaResume true k) s fun t =>
      (t.yar.ydma.get k).haltCause = 0 ∧ (t.yar.ydma.get k).active = (s.yar.ydma.get k).active ∧ t.yar.sram = s.yar.sram ∧
      t.mem = s.mem ∧ t.ch = s.ch) ∧
  (∀ (k : Fin 4) (a b : Nat) (s : State),
    s.yHalted k = true →
    s.memOpen = true →
    (s.yar.ydma.get k).started = true →
    (k.val = 3 → s.yar.bankCopyStart = false) →
    descriptorError (s.descriptor (s.yar.ydma.get k).index) = false →
    (s.yar.ydma.get k).moved (s.descriptor (s.yar.ydma.get k).index) + 1 =
      dUnits (s.descriptor (s.yar.ydma.get k).index) →
    yTarget (s.yar.ydma.get k).s = .sram a →
    yTarget (s.yar.ydma.get k).d = .sram b →
    s.yar.sramErr = [] →
    MemoriesCanonical s →
    Completes (.ydmaResume true k) s fun t =>
      loadBytes t.yar.sram b 4 = loadBytes s.yar.sram a 4 ∧ (t.yar.ydma.get k).haltCause = 0 ∧
      (t.yar.ydma.get k).status = 1 ∧ t.mem = s.mem) ∧
  (∀ (k : Fin 4) (s : State),
    s.yHalted k = true →
    (s.yar.ydma.get k).started = true →
    (s.yar.ydma.get k).moved (s.descriptor (s.yar.ydma.get k).index) + 1 =
      dUnits (s.descriptor (s.yar.ydma.get k).index) →
    (yTarget (s.yar.ydma.get k).s).isAperture = false →
    (yTarget (s.yar.ydma.get k).d).isAperture = false →
    s.yar.sramErr.all (fun e => e.1 < (0x30000 + 32 * (s.yar.ydma.get k).index) / 4) = true →
    Completes (.ydmaSkip true k) s fun t =>
      t.yar.sram = s.yar.sram ∧ t.mem = s.mem ∧ (t.yar.ydma.get k).haltCause = 0 ∧
      (t.yar.ydma.get k).status = 1) ∧
  (∀ (k : Fin 4) (s : State),
    s.yHalted k = true →
    Completes (.ydmaAbort true k) s fun t =>
      (t.yar.ydma.get k).active = false ∧ (t.yar.ydma.get k).haltCause = 0 ∧ (t.yar.ydma.get k).status = 4 ∧
      t.yar.sram = s.yar.sram ∧ t.mem.cells = s.mem.cells)

/-! ### Tansy -/

/-- Tier 2. The clear and the marches leave a zero array and open the memory; passes start when due and end counted; the
first repair is a spare row, whose copy makes it serve the row; a finished bank copy puts the spare bank into service,
with the requests that wait at the old one (R22, R23, R310 to R318). That the march of a start waits for the stored
repairs, and that a failing spare row which is not in use is retired, are the model's readings (DEDUCED,
notes/assumptions/42.md, notes/assumptions/41.md). -/
def Obligations.TansyRepairs : Prop :=
  (∀ (s : State),
    s.mem.clearState = 0 →
    s.mem.cleared = false →
    s.rst.phase ≠ .held →
    s.rst.phase ≠ .optionLoad →
    Completes .arrayClearDone s fun t =>
      t.mem.cells = [] ∧ t.mem.errs = [] ∧ t.mem.cleared = true ∧
      t.mem.clearState =
        (if s.tansy.marchAtStart = false then 2 else if s.tansy.mapApplied = true then 1 else 0)) ∧
  (∀ (faults : List RowLoc) (s : State),
    s.mem.clearState = 1 →
    s.tansyUp = true →
    Completes (.marchDone faults) s fun t =>
      t.mem.cells = [] ∧ t.mem.errs = [] ∧ t.memOpen = true ∧ t.tansy.destructive = false ∧
      t.tansy.marchResult = (if faults.isEmpty = true then 1 else 2)) ∧
  (∀ (faults : List RowLoc) (reached : Nat) (s : State),
    s.tansy.preserving = true →
    s.tansyUp = true →
    s.memOpen = true →
    s.tansy.stopRequested = true →
    (reached = 0 ∨ s.mem.errs = []) →
    Completes (.preservingMarchDone faults reached) s fun t =>
      t.tansy.preserving = false ∧ t.tansy.stopRequested = false ∧ t.tansy.marchResult = 3 ∧
      t.mem.cells = s.mem.cells ∧ t.mem.errs = s.mem.errs) ∧
  (∀ (s : State),
    s.tansy.preserving = true →
    s.tansyUp = true →
    s.memOpen = true →
    s.tansy.stopRequested = false →
    s.mem.errs = [] →
    Completes (.preservingMarchDone [] 32768) s fun t =>
      t.tansy.preserving = false ∧ t.tansy.marchResult = 1 ∧ t.mem.cells = s.mem.cells ∧ t.mem.errs = s.mem.errs) ∧
  (∀ (dt a : Nat) (s : State),
    s.tansy.scrubPeriod ≠ 0 →
    s.tansy.scrubStart = some a →
    a + ms (s.tansy.scrubPeriod * 1000) ≤ s.now + 1250 * dt →
    s.tansyUp = true →
    s.memOpen = true →
    s.tansy.scrubbing = true →
    Completes (.scrubPass dt) s fun t =>
      t = { s.advance dt with pwr := t.pwr, tansy := { s.tansy with scrubDue := true } } ∧
      (s.pwr.state ≠ .doze → t.pwr = (s.advance dt).pwr) ∧ (s.pwr.state = .doze → t.pwr.state = .run)) ∧
  (∀ (dt a : Nat) (s : State),
    s.tansy.scrubPeriod ≠ 0 →
    s.tansy.scrubStart = some a →
    a + ms (s.tansy.scrubPeriod * 1000) ≤ s.now + 1250 * dt →
    s.tansyUp = true →
    s.memOpen = true →
    s.tansy.scrubbing = false →
    Completes (.scrubPass dt) s fun t =>
      t.tansy.scrubbing = true ∧ t.tansy.scrubDue = false ∧ t.tansy.scrubStart = some (s.now + 1250 * dt) ∧
      t.mem.cells = s.mem.cells ∧ t.mem.errs = s.mem.errs) ∧
  (∀ (faults : List RowLoc) (s : State),
    s.tansy.scrubbing = true →
    s.tansyUp = true →
    s.memOpen = true →
    Completes (.scrubPassComplete faults) s fun t =>
      t.tansy.scrubbing = s.tansy.scrubDue ∧ t.tansy.scrubDue = false ∧
      t.tansy.scrubPasses = inc32 s.tansy.scrubPasses ∧ t.mem.cells = s.mem.cells ∧ t.mem.errs = s.mem.errs ∧
      (s.tansy.scrubDue = false → t = { s with tansy := t.tansy })) ∧
  (∀ (f : RowLoc) (s : State),
    s.tansy.scrubbing = true →
    s.tansyUp = true →
    s.memOpen = true →
    s.tansy.scrubDue = false →
    512 ≤ f.row →
    s.logicalRow f.bank f.row f.col = none →
    s.tansy.spareUsed.contains (f.bank, f.row - 512) = false →
    Completes (.scrubPassComplete [f]) s fun t =>
      t = { s with tansy := { s.tansy with scrubbing := false, scrubPasses := inc32 s.tansy.scrubPasses,
                                           spareUsed := s.tansy.spareUsed ++ [(f.bank, f.row - 512)] } }) ∧
  (∀ (s : State) (q : RepairItem) (rest : List RepairItem) (k : Nat),
    s.tansyUp = true →
    s.memOpen = true →
    s.tansy.queue = q :: rest →
    s.canStart q = true →
    s.tansy.freeRow q.bank = some k →
    Completes .repairStart s fun t =>
      t.tansy.queue = rest ∧ t.tansy.spareUsed = s.tansy.spareUsed ++ [(q.bank, k)] ∧
      t.tansy.rowMaps = ⟨q.bank, q.row, k, 0⟩ :: s.tansy.rowMaps ∧
      t.tansy.rowRepairs = inc32 s.tansy.rowRepairs ∧ t.mem = s.mem) ∧
  (∀ (bank : Fin 130) (r : RowMap) (rest : List RowMap) (s : State),
    s.tansyUp = true →
    s.tansy.rowMaps = r :: rest →
    r.bank = bank.val →
    r.row < 512 →
    r.spare < 16 →
    r.progress < 64 →
    rest.all (fun m => !(m.bank == bank.val && m.row == r.row)) = true →
    MemoriesCanonical s →
    Completes (.rowCopyDone bank) s fun t =>
      ∀ col, col < 64 →
        t.physRow bank.val r.row col = 512 + r.spare ∧
        readWordAt t.mem (wordNo bank.val (512 + r.spare) col) = readWordAt s.mem (wordNo bank.val r.row col) ∧
        readWordAt t.mem (wordNo bank.val r.row col) = readWordAt s.mem (wordNo bank.val r.row col)) ∧
  (∀ (b spare : Nat) (s : State),
    s.tansy.copy = some (b, spare) →
    s.blockUp 0 = true →
    s.tansy.copied = allCopied →
    Completes .bankSwitch s fun t =>
      t.tansy.copy = none ∧ t.tansy.s0 = (if spare = 128 then some b else s.tansy.s0) ∧
      t.tansy.s1 = (if spare = 129 then some b else s.tansy.s1) ∧ t.yar.bankCopySwitched = true ∧
      t.yar.bankCopyStart = false ∧
      t.mem = { s.mem with
        waiting := s.mem.waiting.map fun w => if w.bank = b then { w with bank := spare } else w
        holding := s.mem.holding.map fun h => if h = b then spare else h })

/-! ### Twins -/

/-- Tier 2. Clover messages received. A STATUS of a device with the same TWIN_ID is FAULT 01h, one that reads JOINING or
STANDBY makes a SOLO twin ACTIVE (R209, R218); HOLD gives the standby's hold (R84); at the device that applies, STANDIN,
ATOMIC, REFUSAL and COPY give what the active did, and a refusal of its own is matched against REFUSAL (R211, R222);
port events are matched both ways (R212); a TIME of the epoch makes a Sender's time valid, counted from Clover's latency
(R196, R213); a SNAP part in its place is loaded and the last ends the snapshot, and JOIN_REQ is answered with the first
part (R216, R218); HANDOVER with equal counts is taken and with others a divergence (R214); a message lost is a
divergence at a STANDBY, and at device 1 of a Chain pair the transfer after it is left aside (R205); CHAIN_DATA,
CHAIN_CREDIT and CHAIN_PORT (R219, R220). CHAIN_BYTES counts the body of CHAIN_DATA, its six bytes before the data among
them (the model's choice, notes/assumptions/100.md). The layout of SNAP and its one part in a step on an empty queue, a
STANDBY's refusals of its own, and which transfers are taken and what credit is are the model's choices
(notes/assumptions/16.md, notes/assumptions/2.md, notes/assumptions/72.md, notes/assumptions/27.md). What a joiner keeps
of what it observes is the model's reading (DEDUCED, notes/assumptions/20.md), and so is that a HOLD with a wrong CRC or
MSEQ is a lost message like any other (DEDUCED, notes/assumptions/25.md). -/
def Obligations.CloverMessages : Prop :=
  (∀ (m : CMeta) (role mode joinBlock digest fwVersion : Nat) (id : Bool) (s : State),
    MsgTaken m s →
    s.twin.pairInUse = 1 →
    id = s.twin.twinId →
    Completes (.cloverStatus m role mode id joinBlock digest fwVersion) s fun t =>
      t.twin.role = .fault ∧ t.twin.twinFault = 1 ∧ t.twin.own = false ∧ t.twin.partnerRole = role ∧
      t.mem = s.mem) ∧
  (∀ (m : CMeta) (role joinBlock digest fwVersion : Nat) (id : Bool) (s : State),
    MsgTaken m s →
    id ≠ s.twin.twinId →
    s.twin.pairInUse = 1 →
    s.twin.role = .solo →
    s.twin.own = true →
    (role = 2 ∨ role = 3) →
    Completes (.cloverStatus m role 1 id joinBlock digest fwVersion) s fun t =>
      t.twin.role = .active ∧ t.twin.own = true ∧ t.twin.partnerRole = role ∧ t.twin.partnerMode = 1 ∧
      t.twin.partnerId = some id ∧ t.twin.partnerDigest = digest ∧ t.mem = s.mem) ∧
  (∀ (m : CMeta) (bitmap : W32) (s : State),
    MsgTaken m s →
    s.announces = true →
    Completes (.hold m bitmap) s fun t =>
      t = { s with twin := t.twin } ∧ t.twin.standbyHold = bitmap &&& 0xFFFFF#32) ∧
  (∀ (m : CMeta) (ch cause slice frame : Nat) (history : Bool) (n : Fin 20) (s : State),
    MsgTaken m s →
    s.applies = true →
    chanOf ch = some n →
    Completes (.standin m ch history cause slice frame) s fun t =>
      (t.chan n).cnt.standins = inc32 (s.chan n).cnt.standins ∧
      (t.chan n).cnt.standinEmpty =
        (if history = true then (s.chan n).cnt.standinEmpty else inc32 (s.chan n).cnt.standinEmpty) ∧
      t.twin.standinAnnounced = inc32 s.twin.standinAnnounced ∧
      (∀ x : Port, (s.chan n).cfg.consumer = End.ofPort x → (t.port x).attnCause.getLsbD 6 = true) ∧
      t.mem = s.mem) ∧
  (∀ (m : CMeta) (issuer opc slot rstat unit cseq : Nat) (prior new : W32) (s : State),
    MsgTaken m s →
    s.applies = true →
    (opc = 12 ∨ opc = 13) →
    slot < 64 →
    Completes (.atomic m issuer opc slot rstat unit prior new cseq) s fun t =>
      t.slot slot = LockSlot.ofCode new.toNat ∧ t.mem.cells = s.mem.cells ∧ t.ch = s.ch) ∧
  (∀ (m : CMeta) (issuer opc area unit cseq : Nat) (prior new : W32) (s : State),
    MsgTaken m s →
    s.applies = true →
    opc ≠ 12 →
    opc ≠ 13 →
    s.fencedAt (s.placeOf (s.scratchWord area unit)) = false →
    (readWordAt s.mem (s.phys (s.placeOf (s.scratchWord area unit)))).lane (unit % 8 / 2) ≠ .uncorr →
    s.tansy.copy = none →
    MemoriesCanonical s →
    Completes (.atomic m issuer opc area 0 unit prior new cseq) s fun t =>
      t.scratchUnit area unit = new.toNat ∧ (∀ n, t.chan n = { s.chan n with cnt := (t.chan n).cnt })) ∧
  (∀ (m : CMeta) (ch why : Nat) (n : Fin 20) (p : OpenPkt) (s : State),
    MsgTaken m s →
    s.applies = true →
    chanOf ch = some n →
    (s.chan n).pkt = some p →
    s.twin.ownRefusals.any (fun r => r.1 == n.val && r.2.1 == p.wseq) = false →
    Completes (.refusal m ch p.wseq why) s fun t =>
      (t.chan n).pkt = none ∧ (t.chan n).wp = (s.chan n).writeBase ∧ (t.chan n).refusing = true ∧
      (t.chan n).cnt.overflowRefused = inc32 (s.chan n).cnt.overflowRefused ∧ t.mem.cells = s.mem.cells) ∧
  (∀ (m : CMeta) (ch wseq why : Nat) (n : Fin 20) (s : State),
    MsgTaken m s →
    s.applies = true →
    chanOf ch = some n →
    (s.chan n).cuts = [] →
    s.twin.ownRefusals.any (fun r => r.1 == n.val && r.2.1 == wseq) = true →
    Completes (.refusal m ch wseq why) s fun t =>
      t.twin.ownRefusals = s.twin.ownRefusals.filter (fun r => !(r.1 == n.val && r.2.1 == wseq)) ∧
      t.twin.role = s.twin.role ∧ t.ch = s.ch ∧ t.mem = s.mem) ∧
  (∀ (m : CMeta) (x : Port) (event seq : Nat) (s : State),
    MsgTaken m s →
    s.twin.role = .standby →
    s.twin.ownEvents.find? (fun e => e.x == x && e.event == event && e.seq == seq) = none →
    Completes (.portEvent m x event seq) s fun t =>
      t.twin.partnerEvents = s.twin.partnerEvents ++ [⟨x, event, seq, s.now⟩] ∧ t.twin.ownEvents = s.twin.ownEvents ∧
      t.ch = s.ch ∧ t.mem = s.mem) ∧
  (∀ (m : CMeta) (x : Port) (event seq : Nat) (e : OwnEvent) (s : State),
    MsgTaken m s →
    s.twin.role = .standby →
    s.twin.ownEvents.find? (fun e => e.x == x && e.event == event && e.seq == seq) = some e →
    Completes (.portEvent m x event seq) s fun t =>
      t.twin.ownEvents = s.twin.ownEvents.erase e ∧ t.twin.partnerEvents = s.twin.partnerEvents ∧ t.ch = s.ch ∧
      t.mem = s.mem) ∧
  (∀ (m : CMeta) (ch segoff : Nat) (data : List Byte) (n : Fin 20) (s : State),
    MsgTaken m s →
    s.applies = true →
    chanOf ch = some n →
    (s.chan n).copied = true →
    (s.chan n).cfg.cls = .raw →
    (s.chan n).rawBuf.length + data.length < 32 →
    Completes (.cloverCopy m ch 4#8 segoff data) s fun t =>
      (t.chan n).rawBuf = (s.chan n).rawBuf ++ data ∧ t.mem.cells = s.mem.cells) ∧
  (∀ (m : CMeta) (x : Stamp) (s : State),
    MsgTaken m s →
    s.sender = true →
    s.shadows = true →
    s.blockUp 2 = true →
    s.time.valid = false →
    Completes (.cloverTime m x s.time.epoch true) s fun t =>
      t.time.valid = true ∧ t.time.epoch = s.time.epoch ∧
      t.time.wall = wallAdd s.time.wall (thetaUnits (theta (stampOf s.time.wall) x (s.twin.latency : Int)))) ∧
  (∀ (m : CMeta) (part total : Nat) (d : Snap) (s : State),
    MsgTaken m s →
    s.twin.role = .joining →
    s.twin.snapDone = false →
    part = s.twin.snapParts →
    Completes (.snap m part total d) s fun t =>
      t.twin.snapParts = part + 1 ∧ t.twin.snapTotal = total ∧ t.twin.snapDone = decide (total ≤ part + 1) ∧
      t.time.valid = true ∧ t.time.epoch = d.epoch ∧ t.twin.role = .joining) ∧
  (∀ (m : CMeta) (counts : List Nat) (s : State),
    MsgTaken m s →
    s.twin.role = .standby →
    s.twin.busLow = true →
    counts = s.launchedCounts .A ++ s.launchedCounts .B →
    Completes (.handover m counts) s fun t =>
      t.twin.handed = true ∧ t.twin.role = .standby ∧ t.ch = s.ch ∧ t.mem = s.mem) ∧
  (∀ (m : CMeta) (counts : List Nat) (s : State),
    MsgTaken m s →
    s.twin.role = .standby →
    s.twin.pairInUse = 1 →
    counts ≠ s.launchedCounts .A ++ s.launchedCounts .B →
    Completes (.handover m counts) s fun t =>
      t.twin.role = .joining ∧ t.twin.divergeCause = 6 ∧ t.twin.divergences = inc32 s.twin.divergences ∧
      t.mem = s.mem) ∧
  (∀ (m : CMeta) (s : State),
    MsgTaken m s →
    s.twin.pairInUse = 1 →
    s.twin.own = true →
    (s.twin.role = .active ∨ s.twin.role = .solo) →
    Completes (.joinReq m) s fun t =>
      (∃ b rest, snapBodies s.snapshot = b :: rest ∧ Sends 9 b s t ∧ t.twin.snapOut = rest) ∧ t.ch = s.ch ∧
      t.mem = s.mem) ∧
  (∀ (b : List Byte) (rest : List (List Byte)) (s : State),
    s.pending = [] →
    s.yar.serving = false →
    s.twin.cloverState = 2 →
    s.blockUp 6 = true →
    s.twin.snapOut = b :: rest →
    ∃ t, step s = .next t ∧ t.twin.snapOut = rest ∧ t.ch = s.ch ∧ t.mem = s.mem ∧
      ∃ post, t.twin.sent = s.twin.sent ++ [{ type := 9, mseq := s.twin.txMseq, body := b }] ++ post ∧
        (s.twin.statusLast = s.statusBody → post = [])) ∧
  (∀ (m : CMeta) (ch segoff : Nat) (data : List Byte) (n : Fin 20) (s : State),
    MsgTaken m s →
    s.chainHalf true = true →
    s.twin.chainKnown < 256 →
    m.mseq = (s.twin.chainKnown + 1) % 256 →
    s.twin.chainSkipped = [] →
    chanOf ch = some n →
    (s.chan n).cfg.cls = .raw →
    (s.chan n).rawBuf.length + data.length < 32 →
    Completes (.chainData m ch 4#8 segoff data) s fun t =>
      (t.chan n).rawBuf = (s.chan n).rawBuf ++ data ∧ t.twin.chainGood = m.mseq ∧
      t.twin.chainBytes = satAdd64 s.twin.chainBytes (data.length + 6) ∧ t.mem.cells = s.mem.cells) ∧
  (∀ (m : CMeta) (ch segoff : Nat) (segf : BitVec 8) (data : List Byte) (s : State),
    MsgTaken m s →
    s.chainHalf true = true →
    s.chainNext m.mseq false = false →
    serialAfter 8 m.mseq s.twin.chainKnown = true →
    s.twin.rxMseq ≠ none →
    s.twin.chainSkipped.contains m.mseq = false →
    Completes (.chainData m ch segf segoff data) s fun t =>
      t.ch = s.ch ∧ t.mem = s.mem ∧ t.twin.chainGood = s.twin.chainGood ∧ t.twin.chainKnown = s.twin.chainKnown ∧
      t.twin.chainSkipped = s.twin.chainSkipped ++ [m.mseq]) ∧
  (∀ (m : CMeta) (bitmap : W32) (r : Nat) (s : State),
    s.twin.cloverState = 2 →
    s.blockUp 6 = true →
    (m.crcOk = false ∨ m.mseq ≠ (r + 1) % 256) →
    s.twin.rxMseq = some r →
    s.twin.pairInUse = 1 →
    s.twin.role = .standby →
    Completes (.hold m bitmap) s fun t =>
      t.twin.role = .joining ∧ t.twin.divergeCause = 1 ∧ t.twin.divergences = inc32 s.twin.divergences ∧
      t.mem = s.mem) ∧
  (∀ (m : CMeta) (ch cause slice frame : Nat) (history : Bool) (s : State),
    MsgTaken m s →
    s.joinHolds = true →
    0 < s.twin.snapParts →
    Completes (.standin m ch history cause slice frame) s fun t =>
      t.twin.joinLog = s.twin.joinLog ++ [.standin ch history cause slice frame] ∧ t.ch = s.ch ∧ t.mem = s.mem) ∧
  (∀ (m : CMeta) (credits : List Nat) (mseqAck : Nat) (s : State),
    MsgTaken m s →
    s.chainHalf false = true →
    s.twin.retained = [] →
    s.twin.chainWait = [] →
    (∀ n : Fin 20, s.ringReadable n = 0 ∧ (s.chan n).fstarts = []) →
    Completes (.chainCredit m credits mseqAck) s fun t =>
      (∀ n : Fin 20, (t.chan n).chainCredit = credits.getD n.val 0) ∧ t.twin.chainAck = some mseqAck ∧
      t.mem = s.mem) ∧
  (∀ (m : CMeta) (ports : List ChainPortRec) (chans : List ChainChRec) (s : State),
    MsgTaken m s →
    s.chainHalf true = true →
    Completes (.chainPort m ports chans) s fun t =>
      t.twin.chainPorts = ports ∧ t.twin.chainChans = chans ∧ t.ch = s.ch ∧ t.mem = s.mem)

/-- Tier 2. What changes a twin's role: Clover up and down, the heartbeat and the partner's presence, BUS_OWN_N taken or
found held, a lost Clover with a lost heartbeat, and the end of joining (R203, R206 to R209, R218, R221); a releasing
twin that loses Clover keeps the latch. An event of a port, or a refusal, that the partner does not match within 2 µs is
a divergence (R212). STATUS, HOLD, TIME, JOIN_REQ and CHAIN_CREDIT go out at their periods (R204). A beat on the return
bus moves the standby, and a damaged one is a divergence (R210, R212). A releasing twin that loses Clover and goes SOLO
with the latch is the model's reading of R214 (DEDUCED, notes/assumptions/74.md). The 2 µs for a refusal, which R212
gives for port events, and the latch on LATCH_ACQUIRE alone are the model's readings (DEDUCED, notes/assumptions/72.md;
notes/assumptions/26.md). -/
def Obligations.TwinEvents : Prop :=
  (∀ (latency : Nat) (s : State),
    s.twin.cloverState = 1 →
    s.blockUp 6 = true →
    s.pwr.clkSource = 1 →
    s.twin.pairInUse = 1 →
    s.twin.role ≠ .joining →
    Completes (.cloverUp latency) s fun t =>
      t.twin.cloverState = 2 ∧ t.twin.latency = latency ∧ t.twin.role = s.twin.role ∧
      (∃ b, Sends 1 b s t) ∧ t.mem = s.mem ∧ t.ch = s.ch) ∧
  (∀ (s : State),
    s.twin.pairInUse = 1 →
    s.twin.role = .active →
    Completes .cloverDown s fun t => t.twin.role = .solo ∧ t.twin.own = s.twin.own ∧ t.mem = s.mem ∧ t.ch = s.ch) ∧
  (∀ (s : State),
    s.twin.pairInUse = 1 →
    s.twin.role = .standby →
    (s.twin.releasing = false ∨ s.twin.busLow = true) →
    Completes .cloverDown s fun t =>
      t.twin.role = .joining ∧ t.twin.divergeCause = 5 ∧ t.twin.divergences = inc32 s.twin.divergences ∧
      t.mem = s.mem ∧ t.ch = s.ch) ∧
  (∀ (s : State),
    s.twin.pairInUse = 1 →
    s.twin.role = .standby →
    s.twin.releasing = true →
    s.twin.busLow = false →
    s.pA.q = [] →
    s.pB.q = [] →
    Completes .cloverDown s fun t =>
      t.twin.role = .solo ∧ t.twin.own = true ∧ t.twin.releasing = false ∧
      t.twin.divergences = s.twin.divergences ∧ t.mem = s.mem ∧ t.ch = s.ch) ∧
  (∀ (s : State),
    Completes .heartbeatStop s fun t =>
      t = { s with twin := { s.twin with heartbeat := false, own := false, waiting := false } }) ∧
  (∀ (s : State),
    s.twin.pairInUse = 1 →
    s.twin.role = .active →
    Completes .heartbeatLoss s fun t =>
      t.twin.role = .solo ∧ t.twin.hbLosses = inc32 s.twin.hbLosses ∧ t.twin.own = s.twin.own ∧ t.mem = s.mem) ∧
  (∀ (s : State),
    s.twin.pairInUse = 1 →
    s.twin.role = .standby →
    s.twin.busLow = true →
    Completes .heartbeatLoss s fun t =>
      t = { s with twin := { s.twin with hbInLost := true, hbLosses := inc32 s.twin.hbLosses, waiting := true } }) ∧
  (∀ (s : State),
    s.twin.pairInUse = 1 →
    s.twin.role = .standby →
    s.twin.busLow = false →
    s.pA.q = [] →
    s.pB.q = [] →
    Completes .heartbeatLoss s fun t =>
      t.twin.role = .solo ∧ t.twin.own = true ∧ t.twin.takeovers = inc32 s.twin.takeovers ∧
      t.mem.cells = s.mem.cells) ∧
  (∀ (s : State),
    s.twin.pairInUse = 1 →
    s.twin.role = .active →
    Completes .partnerAbsent s fun t =>
      t.twin.role = .solo ∧ t.twin.partnerPresent = false ∧ t.twin.cloverState = 0 ∧ t.mem = s.mem) ∧
  (∀ (s : State),
    s.twin.pairInUse = 2 →
    s.twin.role = .active →
    Completes .partnerAbsent s fun t =>
      t.twin.role = .solo ∧ t.twin.partnerPresent = false ∧ t.twin.cloverState = 0 ∧ t.mem = s.mem) ∧
  (∀ (s : State),
    s.twin.cloverState = 0 →
    s.blockUp 6 = true →
    s.pwr.clkSource = 1 →
    s.twin.rail = true →
    s.twin.pairInUse ≠ 0 →
    s.twin.started = true →
    Completes .partnerPresent s fun t =>
      t = { s with twin := { s.twin with partnerPresent := true, hbInLost := false, cloverState := 1 } }) ∧
  (∀ (s : State),
    s.twin.waiting = true →
    s.twin.role = .solo →
    Completes .latchAcquire s fun t =>
      t = { s with twin := { s.twin with busLow := false, own := true, waiting := false } }) ∧
  (∀ (s : State),
    s.twin.waiting = true →
    s.twin.role = .solo →
    s.twin.own = false →
    s.twin.pairInUse = 0 →
    Completes .busOwnNFall s fun t =>
      t.twin.role = .fault ∧ t.twin.twinFault = 2 ∧ t.twin.own = false ∧ t.twin.waiting = false ∧ t.mem = s.mem) ∧
  (∀ (s : State),
    s.twin.waiting = true →
    s.twin.role = .solo →
    s.twin.own = false →
    s.twin.pairInUse = 1 →
    Completes .busOwnNFall s fun t =>
      t.twin.role = .joining ∧ t.twin.busLow = true ∧ t.twin.snapDone = false ∧ t.twin.waiting = false ∧
      t.mem = s.mem) ∧
  (∀ (s : State),
    s.twin.pairInUse = 1 →
    s.twin.hbInLost = true →
    (s.twin.role = .standby ∨ s.twin.role = .joining) →
    Completes .cloverLost s fun t =>
      t.twin.role = .fault ∧ t.twin.twinFault = 3 ∧ t.twin.waiting = true ∧ t.mem = s.mem ∧ t.ch = s.ch) ∧
  (∀ (s : State),
    s.twin.role = .joining →
    s.twin.pairInUse = 1 →
    s.joinBlock = 0 →
    Completes .joinComplete s fun t => t.twin.role = .standby ∧ t.mem = s.mem ∧ t.ch = s.ch) ∧
  (∀ (dt : Nat) (e : OwnEvent) (rest : List OwnEvent) (s : State),
    s.twin.pairInUse = 1 →
    s.twin.role = .standby →
    s.twin.ownEvents = e :: rest →
    e.at_ + us 2 ≤ s.now + 1250 * dt →
    Completes (.portEventMismatch dt) s fun t =>
      t.twin.role = .joining ∧ t.twin.divergeCause = 2 ∧ t.twin.ownEvents = [] ∧ t.mem = s.mem) ∧
  (∀ (dt : Nat) (r : Nat × Nat × Nat) (rest : List (Nat × Nat × Nat)) (s : State),
    s.twin.pairInUse = 1 →
    s.twin.role = .standby →
    s.twin.ownEvents = [] →
    s.twin.partnerEvents = [] →
    s.twin.ownRefusals = r :: rest →
    r.2.2 + us 2 ≤ s.now + 1250 * dt →
    Completes (.portEventMismatch dt) s fun t =>
      t.twin.role = .joining ∧ t.twin.divergeCause = 4 ∧ t.twin.ownRefusals = [] ∧ t.mem = s.mem) ∧
  (∀ (s : State),
    s.twin.pairInUse = 2 →
    Completes .chainPartnerFault s fun t =>
      t.twin.role = .fault ∧ t.twin.twinFault = 4 ∧
      (∀ n : Fin 20, (s.chan n).state = .active →
        (t.chan n).state = if s.twin.twinId = true then .draining else .held)) ∧
  (∀ (dt : Nat) (s : State),
    s.twin.cloverState = 2 →
    s.blockUp 6 = true →
    s.twin.statusAt + us 100 ≤ s.now + 1250 * dt →
    Completes (.cloverStatusPeriod dt) s fun t =>
      Sends 1 (s.advance dt).statusBody s t ∧ t = { s.advance dt with twin := t.twin }) ∧
  (∀ (dt : Nat) (s : State),
    s.now + 1250 * dt < s.twin.statusAt + us 100 →
    Completes (.cloverStatusPeriod dt) s fun t => t = s.advance dt) ∧
  (∀ (dt : Nat) (s : State),
    s.twin.cloverState = 2 →
    s.blockUp 6 = true →
    s.twin.pairInUse = 1 →
    s.twin.role = .standby →
    s.twin.holdAt + us 10 ≤ s.now + 1250 * dt →
    Completes (.holdPeriod dt) s fun t =>
      Sends 2 (leBytes s.holdMap 4) s t ∧ t = { s.advance dt with twin := t.twin }) ∧
  (∀ (dt : Nat) (s : State),
    s.twin.cloverState = 2 →
    s.blockUp 6 = true →
    s.announces = true →
    s.twin.timeAt + us 125 ≤ s.now + 1250 * dt →
    Completes (.cloverTimePeriod dt) s fun t =>
      Sends 8 (stampBytes (stampOf (s.advance dt).time.wall) ++ leBytes s.time.epoch 1 ++
        leBytes (bnat (s.advance dt).timeValid) 1) s t ∧
      t = { s.advance dt with twin := t.twin }) ∧
  (∀ (dt : Nat) (s : State),
    s.twin.cloverState = 2 →
    s.blockUp 6 = true →
    s.twin.pairInUse = 1 →
    s.twin.role = .joining →
    s.twin.snapDone = false →
    s.twin.snapParts = 0 →
    s.twin.joinAt + ms 1 ≤ s.now + 1250 * dt →
    Completes (.joinReqPeriod dt) s fun t => Sends 11 [] s t ∧ t.ch = s.ch ∧ t.mem = s.mem) ∧
  (∀ (dt : Nat) (s : State),
    s.twin.cloverState = 2 →
    s.blockUp 6 = true →
    s.chainHalf true = true →
    s.twin.creditAt + us 10 ≤ s.now + 1250 * dt →
    Completes (.chainCreditPeriod dt) s fun t =>
      Sends 13 (((List.finRange 20).map fun n =>
        leBytes (if (s.chan n).enabled then s.free n + s.heldw n else 0) 4).flatten ++ leBytes s.twin.chainGood 1) s t ∧
      t.ch = s.ch ∧ t.mem = s.mem) ∧
  (∀ (x : Port) (b : Beat) (rpar : BitVec 8) (k : PCmd) (s : State),
    s.applies = true →
    s.twin.own = false →
    rpar.toNat = beatParity b.data →
    (s.port x).q = [k] →
    k.tag = b.tag →
    k.opc = 0#5 →
    b.last = true →
    Completes (.returnBusBeat x b rpar true) s fun t =>
      (t.port x).q = [] ∧ (t.port x).lastCompleted = k.c.cseq ∧ t.ch = s.ch ∧ t.mem = s.mem) ∧
  (∀ (x : Port) (b : Beat) (rpar : BitVec 8) (rqs : Bool) (s : State),
    s.twin.pairInUse = 1 →
    s.twin.role = .standby →
    s.twin.own = false →
    (rpar.toNat ≠ beatParity b.data ∨ rqs = false) →
    Completes (.returnBusBeat x b rpar rqs) s fun t =>
      t.twin.role = .joining ∧ t.twin.divergeCause = 3 ∧ t.ch = s.ch ∧ t.mem = s.mem)

/-! ### Loops, power and resets -/

/-- Tier 2. Levels and protections (R225, R228, R229, R295, R328): the governor asks for the wanted level, a fall at
once and a rise once VCORE has settled; each protection bounds the level and its end lifts it; CTLE steps are kept only
for a higher eye; samples are recorded and a port without its rail is OFF. The cap that rises after ten evaluations in a
row and falls once an evaluation, and a rail's verdict taken from a sample, are the model's readings (DEDUCED,
notes/assumptions/31.md, notes/assumptions/35.md). That EQ_CHANGES counts only the steps kept is the model's reading
too, where R241 says steps applied while UP (DEDUCED, notes/assumptions/34.md). No loop acts before the first sample of
a start (R239). -/
def Obligations.LoopsAndLevels : Prop :=
  (∀ (dt : Nat) (s : State),
    s.loopsRun = true →
    s.pwr.clkSource = 1 →
    s.pwr.target = none →
    (s.yar.governAt + ms 10 ≤ s.now + 1250 * dt ∨ s.portStates ≠ s.yar.governPorts) →
    Completes (.performanceGovernor dt) s fun t =>
      (s.wanted < s.pwr.level → t.pwr.level = s.wanted ∧ t.pwr.target = some s.wanted) ∧
      (s.pwr.level < s.wanted → t.pwr.level = s.pwr.level ∧ t.pwr.target = some s.wanted) ∧
      (s.wanted = s.pwr.level → t.pwr.level = s.pwr.level ∧ t.pwr.target = none) ∧ t.mem = s.mem ∧ t.ch = s.ch) ∧
  (∀ (dt : Nat) (s : State),
    s.now + 1250 * dt < s.yar.governAt + ms 10 →
    s.portStates = s.yar.governPorts →
    Completes (.performanceGovernor dt) s fun t => t = s.advance dt) ∧
  (∀ (dt : Nat) (s : State),
    (s.now + 1250 * dt < s.yar.capAt + ms 1000 ∨ s.yar.sensed = false) →
    Completes (.thermalCap dt) s fun t => t = s.advance dt) ∧
  (∀ (dt : Nat) (s : State),
    s.loopsRun = true →
    s.yar.capAt + ms 1000 ≤ s.now + 1250 * dt →
    (4 * s.yar.tjThrottle : Int) ≤ s.tj →
    Completes (.thermalCap dt) s fun t =>
      t.pwr.thermalCap = s.pwr.thermalCap - 1 ∧ t.pwr.capRise = 0 ∧ t.pwr.level ≤ t.pwr.cap ∧ t.ch = s.ch) ∧
  (∀ (dt : Nat) (s : State),
    s.loopsRun = true →
    s.yar.capAt + ms 1000 ≤ s.now + 1250 * dt →
    s.tj ≤ (4 * s.yar.tjThrottle : Int) - 20 →
    9 ≤ s.pwr.capRise →
    Completes (.thermalCap dt) s fun t =>
      t.pwr.thermalCap = min 3 (s.pwr.thermalCap + 1) ∧ t.pwr.capRise = 0 ∧ t.pwr.level ≤ t.pwr.cap) ∧
  (∀ (l : Nat) (s : State),
    s.pwr.target = some l →
    s.pwr.nextLevel = none →
    Completes .vcoreSettled s fun t =>
      t = { s with pwr := t.pwr } ∧ t.pwr.level = l ∧ t.pwr.target = none ∧ t.pwr.vcoreSettled = true) ∧
  (∀ (s : State),
    Completes .aonThermalTrip s fun t =>
      t = { s with pwr := t.pwr, yar := t.yar } ∧ t.pwr.aonTrip = true ∧ t.pwr.level = 0) ∧
  (∀ (s : State),
    Completes (.currentLimit true) s fun t =>
      t = { s with pwr := t.pwr, yar := t.yar } ∧ t.pwr.limitNow = true ∧ t.pwr.regLimits = inc32 s.pwr.regLimits ∧
      t.pwr.level ≤ s.pwr.level - 1) ∧
  (∀ (s : State),
    s.pwr.limitNow = true →
    Completes (.currentLimit false) s fun t =>
      t = { s with pwr := { s.pwr with limitNow := false, limitAt := some s.now } }) ∧
  (∀ (dt a : Nat) (s : State),
    s.pwr.limitAt = some a →
    a + ms 1000 ≤ s.now + 1250 * dt →
    Completes (.currentLimitClear dt) s fun t =>
      t.pwr.limitNow = s.pwr.limitNow ∧ t.pwr.limitCap = 3 ∧ t.pwr.limitAt = none ∧ t.ch = s.ch ∧ t.mem = s.mem) ∧
  (∀ (vin : Nat) (s : State),
    s.yar.vinMargin ≤ vin →
    Completes (.brownOutMargin vin) s fun t => t = s) ∧
  (∀ (vin : Nat) (s : State),
    vin < s.yar.vinMargin →
    Completes (.brownOutMargin vin) s fun t =>
      t = { s with pwr := t.pwr, yar := t.yar } ∧ t.pwr.marginLow = true ∧ t.pwr.level = 0) ∧
  (∀ (dt a : Nat) (s : State),
    s.pwr.marginAt = some a →
    a + ms 100 ≤ s.now + 1250 * dt →
    Completes (.marginRecovery dt) s fun t =>
      t.pwr.marginLow = false ∧ t.pwr.marginAt = none ∧ t.ch = s.ch ∧ t.mem = s.mem) ∧
  (∀ (dt newEye : Nat) (s : State),
    s.loopsRun = true →
    s.linkUp = true →
    s.link.eqAdapt = true →
    s.link.adaptAt + ms 100 ≤ s.now + 1250 * dt →
    s.link.ctleMin ≤ s.link.ctle + 1 →
    s.link.ctle + 1 ≤ s.link.ctleMax →
    Completes (.ctleAdapt dt true newEye) s fun t =>
      t = if s.link.eyeHeight < newEye then
        { s.advance dt with link := { s.link with ctle := s.link.ctle + 1, eyeHeight := newEye,
                                                  eqChanges := inc32 s.link.eqChanges
                                                  adaptAt := s.now + 1250 * dt } }
      else { s.advance dt with link := { s.link with adaptAt := s.now + 1250 * dt } }) ∧
  (∀ (dt newEye : Nat) (up : Bool) (s : State),
    s.now + 1250 * dt < s.link.adaptAt + ms 100 →
    Completes (.ctleAdapt dt up newEye) s fun t => t = s.advance dt) ∧
  (∀ (dt : Nat) (r : Sensors) (s : State),
    s.yarUp = true →
    s.yarrowHeld = false →
    s.blockUp 20 = true →
    s.pwr.state = .run →
    s.yar.sampleAt + ms 1 ≤ s.now + 1250 * dt →
    Completes (.sensorSample dt r) s fun t =>
      t.pwr.mgmtRail = r.mgmtRail ∧ t.yar.supply = r.supply ∧ t.yar.temp = r.temp ∧ t.yar.refclk = r.refclk ∧ t.mem.cells = s.mem.cells ∧
      (r.supply.getD 4 0 < 1080 → s.pA.rail = true → t.pA.state = .off ∧ t.pA.rail = false)) ∧
  (∀ (dt : Nat) (r : Sensors) (s : State),
    (s.yarrowHeld = true ∨ s.clocked = false ∨ s.now + 1250 * dt < s.yar.sampleAt + ms 1) →
    Completes (.sensorSample dt r) s fun t =>
      t = { s.advance dt with pwr := { (s.advance dt).pwr with mgmtRail := r.mgmtRail } }) ∧
  (∀ (dt : Nat) (s : State),
    s.yar.serving = true →
    s.yar.railAt + ms 1000 ≤ s.now + 1250 * dt →
    s.pwr.clkSource = 1 →
    s.link.rail = false →
    s.link.state = .off →
    s.link.enable = true →
    s.blockUp 3 = true →
    s.pwr.state = .run →
    Completes (.serdesRailRetry dt true false) s fun t =>
      t.link.rail = true ∧ t.link.state = .detect ∧ t.ch = s.ch ∧ t.mem = s.mem)

/-- Tier 2. Doze, Retention, Off and the orderly power-down (R297 to R305). That the steps of an entry take the typical
times of R300, and that three copies of BYE leave with nothing between them inside the step, are the model's choices
(notes/assumptions/45.md, notes/assumptions/83.md). A rise of PWRDN_N, and the clamp, while a source still holds the
device leave the start to that source's release (R279, R305). -/
def Obligations.SleepStates : Prop :=
  (∀ (dt : Nat) (s : State),
    s.pwr.state = .run →
    s.rst.phase = .running →
    (s.advance dt).idleFor (us s.pwr.dozeIdle) = true →
    Completes (.dozeEntry dt) s fun t =>
      t = { s.advance dt with
            pwr := { (s.advance dt).pwr with state := .doze, dozeEntries := inc32 s.pwr.dozeEntries
                                             gatedAt := some (s.pwr.gatedAt.getD (s.now + 1250 * dt)) } }) ∧
  (∀ (s : State),
    s.pwr.state = .doze →
    Completes .dozeExit s fun t => t = { s with pwr := { s.pwr.ungate s.now with state := .run } }) ∧
  (∀ (s : State),
    s.pwr.state = .entering →
    Completes .dozeExit s fun t =>
      t = { s with pwr := t.pwr } ∧ t.pwr.state = .run ∧ t.pwr.lastAbort = s.pwr.step ∧
      t.pwr.sleepAborts = inc32 s.pwr.sleepAborts ∧ t.pwr.idleSince = s.now) ∧
  (∀ (dt : Nat) (s : State),
    s.pwr.state = .run →
    s.rst.phase = .running →
    (s.advance dt).idleFor (ms s.pwr.offIdle) = true →
    s.now + 1250 * dt < s.pwr.idleSince + ms s.pwr.offIdle + us 5 →
    (s.pwr.retIdle = 0 ∨ s.pwr.offIdle ≤ s.pwr.retIdle) →
    s.quiesced = true →
    Completes (.sleepEntry dt) s fun t =>
      t = { s.advance dt with
            pwr := { (s.advance dt).pwr.ungate (s.now + 1250 * dt) with
                                             state := .entering, entry := 2, step := 1, lowPower := false,
                                             entryAt := s.pwr.idleSince + ms s.pwr.offIdle } }) ∧
  (∀ (dt : Nat) (s : State),
    s.pwr.state = .run →
    s.rst.phase = .running →
    (s.advance dt).idleFor (ms s.pwr.retIdle) = true →
    s.coolEnough = true →
    s.now + 1250 * dt < max (s.pwr.idleSince + ms s.pwr.retIdle) s.pwr.coolAt + us 5 →
    (s.pwr.offIdle = 0 ∨ max (s.pwr.idleSince + ms s.pwr.retIdle) s.pwr.coolAt < s.pwr.idleSince + ms s.pwr.offIdle) →
    s.quiesced = true →
    Completes (.sleepEntry dt) s fun t =>
      t = { s.advance dt with
            pwr := { (s.advance dt).pwr.ungate (s.now + 1250 * dt) with
                                             state := .entering, entry := 1, step := 1, lowPower := false,
                                             entryAt := max (s.pwr.idleSince + ms s.pwr.retIdle) s.pwr.coolAt } }) ∧
  (∀ (dt : Nat) (s : State),
    s.pwr.state = .entering →
    s.pwr.step = 1 →
    s.quiesced = true →
    s.pwr.entryAt + us 5 ≤ s.now + 1250 * dt →
    s.now + 1250 * dt < s.pwr.entryAt + us 55 →
    Completes (.sleepEntry dt) s fun t =>
      t = { s.advance dt with pwr := { (s.advance dt).pwr with step := 2, lowPower := false } }) ∧
  (∀ (dt : Nat) (s : State),
    s.pwr.state = .entering →
    s.pwr.entry = 1 →
    s.quiesced = true →
    s.pwr.entryAt + us 75 ≤ s.now + 1250 * dt →
    s.twin.pairInUse ≠ 1 →
    Completes (.sleepEntry dt) s fun t =>
      t.pwr.state = .retention ∧ t.pwr.sleepEntries = inc32 s.pwr.sleepEntries ∧ t.pwr.clkSource = 0 ∧
      t.rst.blockReset = 0x3F03FF#32 ∧ t.pwr.savedBlocks = s.rst.blockReset ∧ t.yar.serving = false ∧
      (∀ x : Port, (t.port x).state = .off) ∧ t.link.state = .off ∧ t.mem.cells = s.mem.cells ∧
      t.mem.errs = s.mem.errs ∧ t.twin.takeovers = s.twin.takeovers ∧ t.twin.hbLosses = s.twin.hbLosses ∧
      t.twin.chainBytes = s.twin.chainBytes) ∧
  (∀ (dt : Nat) (s : State),
    s.pwr.state = .entering →
    s.pwr.entry = 2 →
    s.quiesced = true →
    s.pwr.entryAt + us 75 ≤ s.now + 1250 * dt →
    s.twin.pairInUse ≠ 1 →
    Completes (.sleepEntry dt) s fun t =>
      t.pwr.state = .off ∧ t.pwr.sleepEntries = inc32 s.pwr.sleepEntries ∧ t.rst.phase = .held ∧
      t.pwr.wakeMask = s.pwr.wakeMask ∧ t.link.wakeAny = s.link.wakeAny ∧
      (∀ x : Port, (t.port x).state = .off) ∧ t.link.state = .off ∧
      (∀ n : Fin 20, (t.chan n).state = .disabled)) ∧
  (∀ (dt : Nat) (s : State),
    s.pwr.state = .entering →
    s.pwr.step = 1 →
    s.quiesced = false →
    s.pwr.entryAt + ms 10 ≤ s.now + 1250 * dt →
    Completes (.e1Timeout dt) s fun t =>
      t = { s.advance dt with pwr := t.pwr } ∧ t.pwr.state = .run ∧ t.pwr.lastAbort = 4 ∧
      t.pwr.sleepAborts = inc32 s.pwr.sleepAborts) ∧
  (∀ (dt : Nat) (w : WakeSrc) (s : State),
    s.pwr.state = .retention →
    s.wakes w = true →
    w ≠ .rstN →
    Completes (.retentionWake dt w) s fun t =>
      t.pwr.state = .run ∧ t.pwr.lastWake = wakeCode w ∧ t.pwr.clkSource = 0 ∧ t.pwr.waking = true ∧
      t.pwr.clamp = false ∧ t.rst.blockReset = s.pwr.savedBlocks ||| 0x3FF#32 ∧ t.yar.serving = s.yar.serving ∧
      t.mem = s.mem ∧ t.ch = s.ch ∧ (∀ x : Port, t.port x = s.port x)) ∧
  (∀ (s : State),
    s.ycoreRuns = true →
    s.pwr.clkSource = 0 →
    s.pwr.state = .run →
    s.yar.refclk = true →
    s.pwr.waking = true →
    s.yar.loader = false →
    s.od.mbxReq = none →
    Completes .pllSwitch s fun t =>
      t.pwr.clkSource = 1 ∧ t.pwr.waking = false ∧ t.rst.blockReset = s.pwr.savedBlocks ∧ t.yar.serving = true ∧
      t.mem.cells = s.mem.cells ∧
      (∀ x : Port, (s.port x).mode ≠ 0 → (s.port x).state = .off → (s.port x).rail = true →
        s.pwr.savedBlocks.getLsbD (7 + portIdx x) = false → (t.port x).probing = some s.now)) ∧
  (∀ (dt : Nat) (bluebell : Bool) (s : State),
    s.pwr.state = .retention →
    (s.pwr.wakeMask.testBit 0 = false ∨ (bluebell = false ∧ s.link.wakeAny = false)) →
    Completes (.retentionWake dt (.link bluebell)) s fun t => t = s.advance dt) ∧
  (∀ (dt : Nat) (s : State),
    s.pwr.state = .retention →
    Completes (.retentionWake dt .rstN) s fun t => DeviceReset 2 s t ∧ t.pwr.lastWake = 3) ∧
  (∀ (w : WakeSrc) (s : State),
    s.pwr.state = .off →
    s.wakes w = true →
    w ≠ .rstN →
    Completes (.offWake w) s fun t =>
      t.pwr.state = .run ∧ t.pwr.lastWake = wakeCode w ∧ t.pwr.pwrdn = none ∧ t.rst.phase = .optionLoad ∧
      t.od.bootNonce = (Config.random s.freeCtr).toNat ∧ t.mem = s.mem) ∧
  (∀ (s : State),
    s.pwr.state = .run →
    s.linkUp = true →
    s.link.byeIdle = false →
    Completes .pwrdnFall s fun t =>
      t.pwr.pwrdn = some (s.pwr.pwrdn.getD s.now) ∧ t.pwr.state = .run ∧ SentThrice (plainFrame 13 [1#8] []) s t ∧
      t.link.byeIdle = true ∧ t.mem = s.mem) ∧
  (∀ (s : State),
    s.pwr.state = .retention →
    Completes .pwrdnFall s fun t =>
      t.pwr.state = .off ∧ t.pwr.pwrdn = some (s.pwr.pwrdn.getD s.now) ∧ t.rst.phase = .held) ∧
  (∀ (dt a : Nat) (s : State),
    s.pwr.pwrdn = some a →
    a + ms 2 ≤ s.now + 1250 * dt →
    s.pwr.state ≠ .off →
    s.heldByReset = false →
    Completes (.powerDownClamp dt) s fun t =>
      t.pwr.state = .off ∧ t.rst.phase = .held ∧ (∀ x : Port, (t.port x).state = .off) ∧ t.link.state = .off ∧
      t.pwr.pwrdn = some a) ∧
  (∀ (dt a : Nat) (s : State),
    s.pwr.pwrdn = some a →
    a + ms 2 ≤ s.now + 1250 * dt →
    s.heldByReset = true →
    exec (.powerDownClamp dt) s = .next { s.advance dt with pwr := { (s.advance dt).pwr with clamp := true } } ∧
      exec .pwrdnRise s = .next { s with pwr := { s.pwr with pwrdn := none } }) ∧
  (∀ (s : State) (a : Nat),
    s.pwr.pwrdn = some a →
    s.heldByReset = false →
    Completes .pwrdnRise s fun t =>
      t.pwr.state = .run ∧ t.pwr.lastWake = 5 ∧ t.pwr.pwrdn = none ∧ t.rst.phase = .optionLoad)

/-- Tier 2. The reset sources and their reach, and how long they hold (R277 to R282). A source asserted for an instant
holds for 1 µs (R278); that the reach of DBGREQ is the one it had when it rose is the model's choice
(notes/assumptions/36.md). A pulse of RST_N from 100 ns to 1 µs is left out here, since the spec leaves its effect open
(notes/assumptions/44.md). -/
def Obligations.ResetSources : Prop :=
  (∀ (s : State),
    Completes .por s fun t =>
      t.rst.cause = 1#16 ∧ t.rst.phase = .held ∧ t.rst.window = none ∧ t.rst.uptimeBase = s.now ∧
      (∀ n : Fin 20, (t.chan n).state = .disabled) ∧ (∀ x : Port, (t.port x).state = .off) ∧ t.link.state = .off ∧
      t.od.authFail = 0 ∧ t.yar.yarrowResets = 0 ∧ t.upd.imageA = s.upd.imageA) ∧
  (∀ (s : State),
    Completes .bor s fun t => DeviceReset 1 s t ∧ t.rst.uptimeBase = s.now ∧ t.pwr.clamp = true) ∧
  (∀ (width : Nat) (s : State),
    1000 ≤ width →
    Completes (.pin width) s fun t => DeviceReset 2 s t) ∧
  (∀ (width : Nat) (s : State),
    width < 100 →
    Completes (.pin width) s fun t => t = s) ∧
  (∀ (dt : Nat) (s : State),
    s.clocked = false →
    Completes (.watchdogBite dt) s fun t => t = s.advance dt) ∧
  (∀ (dt a : Nat) (s : State),
    s.yar.wdtAt = some a →
    s.clocked = true →
    a + us s.yar.wdtPeriod + s.pwr.gated ≤ s.now + 1250 * dt →
    s.yar.loader = false →
    (s.advance dt).windowOpen = false →
    s.yarUp = true →
    Completes (.watchdogBite dt) s fun t =>
      YarrowReset 3 s t ∧ t.rst.window = some (s.now + 1250 * dt)) ∧
  (∀ (dt a b : Nat) (s : State),
    s.yar.wdtAt = some a →
    s.clocked = true →
    a + us s.yar.wdtPeriod + s.pwr.gated ≤ s.now + 1250 * dt →
    s.yar.loader = false →
    s.rst.window = some b →
    s.now + 1250 * dt < b + ms 60000 →
    Completes (.watchdogBite dt) s fun t =>
      DeviceReset 3 s t ∧ t.rst.wdtEscalations = inc32 s.rst.wdtEscalations) ∧
  (∀ (dt a : Nat) (s : State),
    s.rst.window = some a →
    a + ms 60000 ≤ s.now + 1250 * dt →
    Completes (.escalationWindowEnd dt) s fun t =>
      t = { s.advance dt with rst := { s.rst with window := none } }) ∧
  (∀ (s : State),
    s.rst.dbgReach = 3 →
    s.rst.debugHold = 0 →
    Completes (.dbgreq true) s fun t => DeviceReset 5 s t ∧ t.rst.debugHold = 3) ∧
  (∀ (s : State),
    s.rst.dbgReach = 1 →
    s.rst.debugHold = 0 →
    s.yarUp = true →
    Completes (.dbgreq true) s fun t => YarrowReset 5 s t ∧ t.rst.debugHold = 1) ∧
  (∀ (s : State),
    s.rst.debugHold ≠ 0 →
    Completes (.dbgreq true) s fun t => t = s) ∧
  (∀ (s : State),
    Completes (.dbgreq false) s fun t => t = { s with rst := { s.rst with debugHold := 0 } }) ∧
  (∀ (readBack : Bool) (s : State),
    (s.rst.debugHold ≠ 0 ∨ s.now < s.rst.yarUntil) →
    Completes (.boot readBack) s fun t => t = s) ∧
  (∀ (s : State),
    s.rst.debugHold = 3 →
    Completes .deviceResetRelease s fun t => t = s) ∧
  (∀ (s : State),
    s.pwr.clkfailArmed = true →
    s.pwr.clkSource = 1 →
    Completes .clkfail s fun t => DeviceReset 6 s t ∧ t.pwr.pllLosses = inc32 s.pwr.pllLosses) ∧
  (∀ (s : State),
    s.ycoreRuns = true →
    s.yarUp = true →
    Completes .lockup s fun t => YarrowReset 7 s t ∧ t.rst.window = s.rst.window)

/-- Tier 2. The release sequence and firmware's starts (R264, R266, R269, R271, R279, R285 to R288, R291): the last
source is released and options load; they are taken with the role and pair mode; the boot ROM reads the control record,
under straps 00b and 11b stays in its loader where no slot passes, and under 01b and 10b in every case; else it starts
the committed or the pending image, and falls back from one in trial; the PLL takes over where REFCLK is present;
firmware without saved settings runs and serves; a Yarrow reset resumes; the blocks of a Stream Buffer reset are
released again; a trial window that passes leaves the image EXPIRED. That the control record is written and verified in
the one step in which the window passes is the model's choice (DESIGN CHOICE, notes/assumptions/98.md), and that a
resume drops the mailbox's request its reading (DEDUCED, notes/assumptions/48.md). -/
def Obligations.StartUp : Prop :=
  (∀ (s : State),
    s.rst.phase = .held →
    s.pwr.state ≠ .off →
    s.rst.debugHold ≠ 3 →
    Completes .deviceResetRelease s fun t =>
      t.rst.phase = .optionLoad ∧ t.rst.asserted = [] ∧ t.rst.releasedAt = s.now ∧
      t.od.bootNonce = (Config.random s.freeCtr).toNat ∧ t.od.mailbox.last = none ∧ t.mem = s.mem) ∧
  (∀ (st : Straps) (f : FuseLoad) (s : State),
    s.rst.phase = .optionLoad →
    Completes (.optionLoadDone st f) s fun t =>
      t.rst.phase = .starting ∧ t.rst.straps = st ∧ t.rst.roleInUse = s.rst.roleNext ∧
      t.twin.pairInUse = s.rst.pairNext ∧ t.twin.twinId = st.twinId ∧ t.memOpen = false ∧
      (∀ n : Fin 20, (t.chan n).state = .disabled)) ∧
  (∀ (readBack : Bool) (u : UpdSt) (s : State),
    s.yarUp = true →
    s.rst.yarBooted = false →
    s.yarrowHeld = false →
    s.pwr.state = .run →
    (s.rst.straps.boot = 0#2 ∨ s.rst.straps.boot = 3#2) →
    u = s.upd.loadCtl.findImages →
    s.rst.phase = .starting →
    u.state = .committed →
    u.check 0 ≠ 0 →
    u.check 1 ≠ 0 →
    Completes (.boot readBack) s fun t =>
      t.yar.loader = true ∧ t.rst.yarBooted = true ∧ t.rst.phase = .booted ∧ t.upd.checkA = u.check 0 ∧
      t.upd.checkB = u.check 1 ∧ t.yar.wdtAt = some s.yclkNow) ∧
  (∀ (readBack : Bool) (u : UpdSt) (s : State),
    s.yarUp = true →
    s.rst.yarBooted = false →
    s.yarrowHeld = false →
    s.pwr.state = .run →
    (s.rst.straps.boot = 0#2 ∨ s.rst.straps.boot = 3#2) →
    u = s.upd.loadCtl.findImages →
    u.state = .committed →
    u.committedSlot < 2 →
    u.check u.committedSlot = 0 →
    Completes (.boot readBack) s fun t =>
      t.upd.runningSlot = u.committedSlot ∧ t.rst.yarBooted = true ∧ t.yar.loader = false ∧
      t.yar.wdtAt = some s.yclkNow ∧ t.yar.wdtPeriod = 5000000 ∧
      t.upd.raising = (if t.upd.mustRaise = true then some readBack else u.raising)) ∧
  (∀ (readBack : Bool) (u : UpdSt) (s : State),
    s.yarUp = true →
    s.rst.yarBooted = false →
    s.yarrowHeld = false →
    s.pwr.state = .run →
    (s.rst.straps.boot = 0#2 ∨ s.rst.straps.boot = 3#2) →
    u = s.upd.loadCtl.findImages →
    u.state = .pending →
    u.trialSlot < 2 →
    u.check u.trialSlot = 0 →
    Completes (.boot readBack) s fun t =>
      t.upd.state = .trial ∧ t.upd.trialAt = s.now ∧ t.upd.runningSlot = u.trialSlot ∧ t.rst.yarBooted = true) ∧
  (∀ (readBack : Bool) (u : UpdSt) (s : State),
    s.yarUp = true →
    s.rst.yarBooted = false →
    s.yarrowHeld = false →
    s.pwr.state = .run →
    (s.rst.straps.boot = 0#2 ∨ s.rst.straps.boot = 3#2) →
    u = s.upd.loadCtl.findImages →
    (u.state = .trial ∨ u.state = .expired) →
    u.committedSlot < 2 →
    u.check u.committedSlot = 0 →
    Completes (.boot readBack) s fun t =>
      t.upd.state = .committed ∧ t.upd.lastResult = 2 ∧ t.upd.runningSlot = u.committedSlot ∧
      t.rst.yarBooted = true) ∧
  (∀ (readBack : Bool) (u : UpdSt) (s : State),
    s.yarUp = true →
    s.rst.yarBooted = false →
    s.yarrowHeld = false →
    s.pwr.state = .run →
    (s.rst.straps.boot = 1#2 ∨ s.rst.straps.boot = 2#2) →
    u = s.upd.loadCtl.findImages →
    Completes (.boot readBack) s fun t =>
      t.yar.loader = true ∧ t.rst.yarBooted = true ∧ t.yar.wdtAt = some s.yclkNow ∧ t.upd.runningSlot = u.runningSlot ∧
      t.upd.state = (if u.inTrial = true then .committed else u.state) ∧ t.upd.ram = [] ∧
      (s.rst.straps.boot = 1#2 → t.link = s.link ∧ t.rst.blockReset = s.rst.blockReset) ∧
      (s.rst.straps.boot = 2#2 → s.rst.sbUntil ≤ s.now →
        t.link.enable = true ∧ t.rst.blockReset &&& 0x23F#32 = 0)) ∧
  (∀ (s : State),
    s.ycoreRuns = true →
    s.pwr.clkSource = 0 →
    s.pwr.state = .run →
    s.yar.refclk = true →
    s.pwr.waking = false →
    Completes .pllSwitch s fun t =>
      t.pwr = { s.pwr with clkSource := 1, pllLocked := true, clkfailArmed := true } ∧ t.yar = s.yar ∧ t.mem = s.mem ∧
      (s.link.state = .off → s.link.enable = true → s.blockUp 3 = true → s.link.rail = true →
        t.link.state = .detect)) ∧
  (∀ (s : State),
    s.yar.refclk = false →
    Completes .pllSwitch s fun t => t = s) ∧
  (∀ (s : State),
    s.rst.phase = .booted →
    s.ycoreRuns = true →
    s.yar.loader = false →
    s.pwr.clkSource = 1 →
    s.sbSourced = false →
    s.upd.settings s.upd.settingsSlot = {} →
    s.rst.roleInUse = 2 →
    s.twin.pairInUse = 1 →
    Completes .firmwareStart s fun t =>
      t.rst.phase = .running ∧ t.yar.serving = true ∧ t.yar.permit = true ∧
      t.rst.blockReset = s.rst.blockReset &&& 0x3F0000#32 ∧ t.od.storeState = 4) ∧
  (∀ (s : State),
    s.ycoreRuns = true →
    s.yar.serving = false →
    s.yar.loader = false →
    s.rst.phase = .running →
    s.pwr.state = .run →
    s.pwr.waking = false →
    s.sbSourced = false →
    s.rst.blockReset &&& 0x3FF#32 = 0 →
    s.upd.settings s.upd.settingsSlot = {} →
    Completes .yarrowResume s fun t =>
      t.yar.serving = true ∧ t.yar.permit = true ∧ t.od.mbxReq = none ∧ t.ch = s.ch ∧ t.mem = s.mem ∧ t.link = s.link ∧
      t.rst = s.rst) ∧
  (∀ (s : State),
    s.yar.serving = true →
    s.rst.enableCopy ≠ [] →
    s.sbSourced = false →
    Completes .sbResetRecovery s fun t =>
      t.rst.blockReset = s.rst.blockReset &&& 0x3F0000#32 ∧ t.rst.enableCopy = [] ∧ t.yar.serving = true ∧
      (∀ x : Port, (s.port x).state = .off → (s.port x).mode ≠ 0 → (s.port x).rail = true →
        (t.port x).probing = some s.now)) ∧
  (∀ (dt : Nat) (s : State),
    s.upd.state = .trial →
    s.ycoreRuns = true →
    s.upd.trialAt + ms (1000 * s.upd.trialWindow) ≤ s.now + 1250 * dt →
    Completes (.trialWindowExpiry dt) s fun t =>
      t.upd = ({ s.upd with state := .expired } : UpdSt).keepCtl ∧ t.ch = s.ch ∧ t.mem = s.mem ∧ t.yar.serving = s.yar.serving)

/-! ### Pins -/

/-- Tier 2. The pins (R82, R91, R144, R219, R292, R304, R328): without its rail every pin of a port is high impedance; a
port that is OFF or held keeps pull-ups; of the outputs of a port that runs only the owner of the return bus drives, and
of a Chain pair device 0 WHOLD_x and WPAF_x and device 1 the rest; the clamp releases every open-drain pin and takes
every port's outputs to their pull-ups; ATTN_x_N is low while an unmasked cause stands; an interface that is not enabled
is electrically idle; a Device reset leaves the flash interface undriven and releases ATTN_x_N. -/
def Obligations.PinStates : Prop :=
  (∀ (x : Port) (g : PinGroup) (s : State),
    (s.port x).rail = false →
    (g = .portInputs x ∨ g = .portOutputs x ∨ g = .portHolds x ∨ g = .attn x) →
    s.pinState g = .highZ) ∧
  (∀ (g : PinGroup) (s : State),
    s.pwr.mgmtRail = false →
    (g = .busOwn ∨ g = .irq ∨ g = .moduleTwi ∨ g = .moduleTxdis ∨ g = .heartbeat ∨ g = .inputs ∨ g = .trst ∨ g = .flash ∨
      g = .serialOut) →
    s.pinState g = .highZ) ∧
  (∀ (x : Port) (s : State),
    (s.port x).rail = true →
    s.portPins x = false →
    s.pinState (.portInputs x) = .pullUp ∧ s.pinState (.portOutputs x) = .pullUp ∧
      s.pinState (.portHolds x) = .pullUp ∧ s.pinState (.attn x) = .released) ∧
  (∀ (x : Port) (s : State),
    (s.port x).rail = true →
    (s.port x).state ≠ .off →
    s.blockUp (7 + portIdx x) = true →
    s.pwr.clamp = false →
    s.twin.pairInUse ≠ 2 →
    s.pinState (.portInputs x) = .terminated ∧
      s.pinState (.portOutputs x) = (if s.twin.own = true then .driven else .highZ) ∧
      s.pinState (.portHolds x) = (if s.twin.own = true then .driven else .highZ)) ∧
  (∀ (x : Port) (s : State),
    (s.port x).rail = true →
    (s.port x).state ≠ .off →
    s.blockUp (7 + portIdx x) = true →
    s.pwr.clamp = false →
    s.twin.pairInUse = 2 →
    s.twin.own = false →
    s.pinState (.portInputs x) = .terminated ∧
      s.pinState (.portOutputs x) = (if s.twin.twinId = true then .driven else .highZ) ∧
      s.pinState (.portHolds x) = (if s.twin.twinId = true then .highZ else .driven)) ∧
  (∀ (s : State),
    s.pwr.clamp = true →
    s.pwr.mgmtRail = true →
    (∀ x : Port, (s.port x).rail = true → s.pinState (.attn x) = .released ∧ s.pinState (.portOutputs x) = .pullUp ∧
        s.pinState (.portHolds x) = .pullUp) ∧
      s.pinState .irq = .released ∧ s.pinState .busOwn = .released ∧ s.pinState .moduleTxdis = .pullUp ∧
      s.pinState .flash = .pullUp) ∧
  (∀ (x : Port) (s : State),
    s.portPins x = true →
    s.pwr.clamp = false →
    (s.twin.own = true ∨ s.twin.pairInUse = 2) →
    (s.pinState (.attn x) = .low ↔ (s.port x).attnCause &&& (s.port x).attnMask ≠ 0)) ∧
  (∀ (s : State),
    (s.link.rail = true → s.link.state = .off → s.pinState .linkTx = .electricalIdle) ∧
      (s.link.state = .off → s.pinState .linkRx = .highZ) ∧
      (s.twin.rail = true → s.twin.cloverState = 0 → s.pinState .cloverTx = .electricalIdle) ∧
      (s.twin.cloverState = 0 → s.pinState .cloverRx = .highZ)) ∧
  (∀ (width : Nat) (s : State),
    1000 ≤ width →
    Completes (.pin width) s fun t =>
      (t.pwr.mgmtRail = true → t.pinState .flash = .pullUp ∧ t.pinState .heartbeat = .pullUp) ∧
      (t.link.rail = true → t.pinState .linkTx = .electricalIdle) ∧
      ∀ x : Port, (t.port x).rail = true →
        t.pinState (.portOutputs x) = .pullUp ∧ t.pinState (.attn x) = .released)
end

