-- ==== Sys2Proof/Laws/Crc.lean ====
section
/-! SUPPORT. CRC-32C (R67) loses nothing: the register's steps can be undone, so strings that differ in one byte have
different CRCs. -/

namespace Sys2Proof.Laws

open Sys2Proof Sys2Proof.Machine

/-- The register before the step of one bit that led to `r`. -/
def crcUnbit (r : W32) : W32 := if r.msb then ((r ^^^ 0x82F63B78#32) <<< 1) ||| 1#32 else r <<< 1

theorem crcUnbit_crcBits (c : W32) : crcUnbit (crcBits 1 c) = c := by
  simp only [crcBits]
  by_cases h : c.getLsbD 0 = true
  · have hm : ((c >>> 1) ^^^ 0x82F63B78#32).msb = true := by
      simp [BitVec.msb_eq_getLsbD_last]
    simp only [h, if_true, crcUnbit, hm]
    apply BitVec.eq_of_getLsbD_eq
    intro i hi
    have : ((c >>> 1 ^^^ 0x82F63B78#32) ^^^ 0x82F63B78#32) = c >>> 1 := by rw [BitVec.xor_assoc]; simp
    rw [this]
    rcases i with _ | i
    · simp [h]
    · simp [hi, Nat.add_comm 1]
  · have hm : (c >>> 1).msb = false := by simp [BitVec.msb_eq_getLsbD_last]
    have h' : c.getLsbD 0 = false := by simpa using h
    simp only [h', Bool.false_eq_true, if_false, crcUnbit, hm]
    apply BitVec.eq_of_getLsbD_eq
    intro i hi
    rcases i with _ | i
    · simpa using h'.symm
    · simp [hi, Nat.add_comm 1]

theorem crcBits_inj (k : Nat) {c d : W32} (h : crcBits k c = crcBits k d) : c = d := by
  induction k generalizing c d with
  | zero => exact h
  | succ k ih =>
    have h1 : crcBits 1 c = crcBits 1 d := ih h
    rw [← crcUnbit_crcBits c, h1, crcUnbit_crcBits]

/-- Two byte strings that differ in their first byte alone have different CRCs. -/
theorem crc32c_head {a b : Byte} {bs : List Byte} (h : crc32c (a :: bs) = crc32c (b :: bs)) : a = b := by
  have xorR : ∀ {x y z : W32}, x ^^^ z = y ^^^ z → x = y := by
    intro x y z h
    have := congrArg (· ^^^ z) h
    simpa [BitVec.xor_assoc] using this
  have run : ∀ (bs : List Byte) {c d : W32}, crcRun c bs = crcRun d bs → c = d := by
    intro bs
    induction bs with
    | nil => exact fun h => h
    | cons x xs ih =>
      intro c d h
      have := crcBits_inj 8 (ih (c := crcByte c x) (d := crcByte d x) h)
      exact xorR this
  have h1 : crcRun (crcByte crcInit a) bs = crcRun (crcByte crcInit b) bs := by
    have := BitVec.eq_of_toNat_eq h
    exact xorR this
  have h2 := crcBits_inj 8 (run bs h1)
  rw [BitVec.xor_comm, BitVec.xor_comm crcInit] at h2
  replace h2 := xorR h2
  have := congrArg (BitVec.setWidth 8) h2
  simpa using this

end Sys2Proof.Laws
end

