-- ==== Sys2Proof/Laws/State.lean ====
section
/-! SUPPORT. What each update of State leaves: one lemma for each update and field. -/

namespace Sys2Proof.Machine

open Sys2Proof

/-! ### `State.modMem` -/

@[simp] theorem State.modMem_pending (s : State) (f : MemSt → MemSt) : (s.modMem f).pending = s.pending := rfl
@[simp] theorem State.modMem_now (s : State) (f : MemSt → MemSt) : (s.modMem f).now = s.now := rfl
@[simp] theorem State.modMem_freeCtr (s : State) (f : MemSt → MemSt) : (s.modMem f).freeCtr = s.freeCtr := rfl
@[simp] theorem State.modMem_ch (s : State) (f : MemSt → MemSt) : (s.modMem f).ch = s.ch := rfl
@[simp] theorem State.modMem_pA (s : State) (f : MemSt → MemSt) : (s.modMem f).pA = s.pA := rfl
@[simp] theorem State.modMem_pB (s : State) (f : MemSt → MemSt) : (s.modMem f).pB = s.pB := rfl
@[simp] theorem State.modMem_mem (s : State) (f : MemSt → MemSt) : (s.modMem f).mem = f s.mem := rfl
@[simp] theorem State.modMem_tansy (s : State) (f : MemSt → MemSt) : (s.modMem f).tansy = s.tansy := rfl
@[simp] theorem State.modMem_link (s : State) (f : MemSt → MemSt) : (s.modMem f).link = s.link := rfl
@[simp] theorem State.modMem_arq (s : State) (f : MemSt → MemSt) : (s.modMem f).arq = s.arq := rfl
@[simp] theorem State.modMem_time (s : State) (f : MemSt → MemSt) : (s.modMem f).time = s.time := rfl
@[simp] theorem State.modMem_twin (s : State) (f : MemSt → MemSt) : (s.modMem f).twin = s.twin := rfl
@[simp] theorem State.modMem_od (s : State) (f : MemSt → MemSt) : (s.modMem f).od = s.od := rfl
@[simp] theorem State.modMem_yar (s : State) (f : MemSt → MemSt) : (s.modMem f).yar = s.yar := rfl
@[simp] theorem State.modMem_upd (s : State) (f : MemSt → MemSt) : (s.modMem f).upd = s.upd := rfl
@[simp] theorem State.modMem_rst (s : State) (f : MemSt → MemSt) : (s.modMem f).rst = s.rst := rfl
@[simp] theorem State.modMem_pwr (s : State) (f : MemSt → MemSt) : (s.modMem f).pwr = s.pwr := rfl
@[simp] theorem State.modMem_port (s : State) (f : MemSt → MemSt) (x : Port) : (s.modMem f).port x = s.port x := by
  cases x <;> rfl
@[simp] theorem State.modMem_chan (s : State) (f : MemSt → MemSt) (n : Fin 20) : (s.modMem f).chan n = s.chan n := rfl

/-! ### `State.modTansy` -/

@[simp] theorem State.modTansy_pending (s : State) (f : TansySt → TansySt) : (s.modTansy f).pending = s.pending := rfl
@[simp] theorem State.modTansy_now (s : State) (f : TansySt → TansySt) : (s.modTansy f).now = s.now := rfl
@[simp] theorem State.modTansy_freeCtr (s : State) (f : TansySt → TansySt) : (s.modTansy f).freeCtr = s.freeCtr := rfl
@[simp] theorem State.modTansy_ch (s : State) (f : TansySt → TansySt) : (s.modTansy f).ch = s.ch := rfl
@[simp] theorem State.modTansy_pA (s : State) (f : TansySt → TansySt) : (s.modTansy f).pA = s.pA := rfl
@[simp] theorem State.modTansy_pB (s : State) (f : TansySt → TansySt) : (s.modTansy f).pB = s.pB := rfl
@[simp] theorem State.modTansy_mem (s : State) (f : TansySt → TansySt) : (s.modTansy f).mem = s.mem := rfl
@[simp] theorem State.modTansy_tansy (s : State) (f : TansySt → TansySt) : (s.modTansy f).tansy = f s.tansy := rfl
@[simp] theorem State.modTansy_link (s : State) (f : TansySt → TansySt) : (s.modTansy f).link = s.link := rfl
@[simp] theorem State.modTansy_arq (s : State) (f : TansySt → TansySt) : (s.modTansy f).arq = s.arq := rfl
@[simp] theorem State.modTansy_time (s : State) (f : TansySt → TansySt) : (s.modTansy f).time = s.time := rfl
@[simp] theorem State.modTansy_twin (s : State) (f : TansySt → TansySt) : (s.modTansy f).twin = s.twin := rfl
@[simp] theorem State.modTansy_od (s : State) (f : TansySt → TansySt) : (s.modTansy f).od = s.od := rfl
@[simp] theorem State.modTansy_yar (s : State) (f : TansySt → TansySt) : (s.modTansy f).yar = s.yar := rfl
@[simp] theorem State.modTansy_upd (s : State) (f : TansySt → TansySt) : (s.modTansy f).upd = s.upd := rfl
@[simp] theorem State.modTansy_rst (s : State) (f : TansySt → TansySt) : (s.modTansy f).rst = s.rst := rfl
@[simp] theorem State.modTansy_pwr (s : State) (f : TansySt → TansySt) : (s.modTansy f).pwr = s.pwr := rfl
@[simp] theorem State.modTansy_port (s : State) (f : TansySt → TansySt) (x : Port) : (s.modTansy f).port x = s.port x := by
  cases x <;> rfl
@[simp] theorem State.modTansy_chan (s : State) (f : TansySt → TansySt) (n : Fin 20) : (s.modTansy f).chan n = s.chan n := rfl

/-! ### `State.modLink` -/

@[simp] theorem State.modLink_pending (s : State) (f : LinkSt → LinkSt) : (s.modLink f).pending = s.pending := rfl
@[simp] theorem State.modLink_now (s : State) (f : LinkSt → LinkSt) : (s.modLink f).now = s.now := rfl
@[simp] theorem State.modLink_freeCtr (s : State) (f : LinkSt → LinkSt) : (s.modLink f).freeCtr = s.freeCtr := rfl
@[simp] theorem State.modLink_ch (s : State) (f : LinkSt → LinkSt) : (s.modLink f).ch = s.ch := rfl
@[simp] theorem State.modLink_pA (s : State) (f : LinkSt → LinkSt) : (s.modLink f).pA = s.pA := rfl
@[simp] theorem State.modLink_pB (s : State) (f : LinkSt → LinkSt) : (s.modLink f).pB = s.pB := rfl
@[simp] theorem State.modLink_mem (s : State) (f : LinkSt → LinkSt) : (s.modLink f).mem = s.mem := rfl
@[simp] theorem State.modLink_tansy (s : State) (f : LinkSt → LinkSt) : (s.modLink f).tansy = s.tansy := rfl
@[simp] theorem State.modLink_link (s : State) (f : LinkSt → LinkSt) : (s.modLink f).link = f s.link := rfl
@[simp] theorem State.modLink_arq (s : State) (f : LinkSt → LinkSt) : (s.modLink f).arq = s.arq := rfl
@[simp] theorem State.modLink_time (s : State) (f : LinkSt → LinkSt) : (s.modLink f).time = s.time := rfl
@[simp] theorem State.modLink_twin (s : State) (f : LinkSt → LinkSt) : (s.modLink f).twin = s.twin := rfl
@[simp] theorem State.modLink_od (s : State) (f : LinkSt → LinkSt) : (s.modLink f).od = s.od := rfl
@[simp] theorem State.modLink_yar (s : State) (f : LinkSt → LinkSt) : (s.modLink f).yar = s.yar := rfl
@[simp] theorem State.modLink_upd (s : State) (f : LinkSt → LinkSt) : (s.modLink f).upd = s.upd := rfl
@[simp] theorem State.modLink_rst (s : State) (f : LinkSt → LinkSt) : (s.modLink f).rst = s.rst := rfl
@[simp] theorem State.modLink_pwr (s : State) (f : LinkSt → LinkSt) : (s.modLink f).pwr = s.pwr := rfl
@[simp] theorem State.modLink_port (s : State) (f : LinkSt → LinkSt) (x : Port) : (s.modLink f).port x = s.port x := by
  cases x <;> rfl
@[simp] theorem State.modLink_chan (s : State) (f : LinkSt → LinkSt) (n : Fin 20) : (s.modLink f).chan n = s.chan n := rfl

/-! ### `State.modLinkCnt` -/

@[simp] theorem State.modLinkCnt_pending (s : State) (f : LinkCounters → LinkCounters) : (s.modLinkCnt f).pending = s.pending := rfl
@[simp] theorem State.modLinkCnt_now (s : State) (f : LinkCounters → LinkCounters) : (s.modLinkCnt f).now = s.now := rfl
@[simp] theorem State.modLinkCnt_freeCtr (s : State) (f : LinkCounters → LinkCounters) : (s.modLinkCnt f).freeCtr = s.freeCtr := rfl
@[simp] theorem State.modLinkCnt_ch (s : State) (f : LinkCounters → LinkCounters) : (s.modLinkCnt f).ch = s.ch := rfl
@[simp] theorem State.modLinkCnt_pA (s : State) (f : LinkCounters → LinkCounters) : (s.modLinkCnt f).pA = s.pA := rfl
@[simp] theorem State.modLinkCnt_pB (s : State) (f : LinkCounters → LinkCounters) : (s.modLinkCnt f).pB = s.pB := rfl
@[simp] theorem State.modLinkCnt_mem (s : State) (f : LinkCounters → LinkCounters) : (s.modLinkCnt f).mem = s.mem := rfl
@[simp] theorem State.modLinkCnt_tansy (s : State) (f : LinkCounters → LinkCounters) : (s.modLinkCnt f).tansy = s.tansy := rfl
@[simp] theorem State.modLinkCnt_link (s : State) (f : LinkCounters → LinkCounters) : (s.modLinkCnt f).link = { s.link with cnt := f s.link.cnt } := rfl
@[simp] theorem State.modLinkCnt_arq (s : State) (f : LinkCounters → LinkCounters) : (s.modLinkCnt f).arq = s.arq := rfl
@[simp] theorem State.modLinkCnt_time (s : State) (f : LinkCounters → LinkCounters) : (s.modLinkCnt f).time = s.time := rfl
@[simp] theorem State.modLinkCnt_twin (s : State) (f : LinkCounters → LinkCounters) : (s.modLinkCnt f).twin = s.twin := rfl
@[simp] theorem State.modLinkCnt_od (s : State) (f : LinkCounters → LinkCounters) : (s.modLinkCnt f).od = s.od := rfl
@[simp] theorem State.modLinkCnt_yar (s : State) (f : LinkCounters → LinkCounters) : (s.modLinkCnt f).yar = s.yar := rfl
@[simp] theorem State.modLinkCnt_upd (s : State) (f : LinkCounters → LinkCounters) : (s.modLinkCnt f).upd = s.upd := rfl
@[simp] theorem State.modLinkCnt_rst (s : State) (f : LinkCounters → LinkCounters) : (s.modLinkCnt f).rst = s.rst := rfl
@[simp] theorem State.modLinkCnt_pwr (s : State) (f : LinkCounters → LinkCounters) : (s.modLinkCnt f).pwr = s.pwr := rfl
@[simp] theorem State.modLinkCnt_port (s : State) (f : LinkCounters → LinkCounters) (x : Port) : (s.modLinkCnt f).port x = s.port x := by
  cases x <;> rfl
@[simp] theorem State.modLinkCnt_chan (s : State) (f : LinkCounters → LinkCounters) (n : Fin 20) : (s.modLinkCnt f).chan n = s.chan n := rfl

/-! ### `State.modArq` -/

@[simp] theorem State.modArq_pending (s : State) (f : ArqSt → ArqSt) : (s.modArq f).pending = s.pending := rfl
@[simp] theorem State.modArq_now (s : State) (f : ArqSt → ArqSt) : (s.modArq f).now = s.now := rfl
@[simp] theorem State.modArq_freeCtr (s : State) (f : ArqSt → ArqSt) : (s.modArq f).freeCtr = s.freeCtr := rfl
@[simp] theorem State.modArq_ch (s : State) (f : ArqSt → ArqSt) : (s.modArq f).ch = s.ch := rfl
@[simp] theorem State.modArq_pA (s : State) (f : ArqSt → ArqSt) : (s.modArq f).pA = s.pA := rfl
@[simp] theorem State.modArq_pB (s : State) (f : ArqSt → ArqSt) : (s.modArq f).pB = s.pB := rfl
@[simp] theorem State.modArq_mem (s : State) (f : ArqSt → ArqSt) : (s.modArq f).mem = s.mem := rfl
@[simp] theorem State.modArq_tansy (s : State) (f : ArqSt → ArqSt) : (s.modArq f).tansy = s.tansy := rfl
@[simp] theorem State.modArq_link (s : State) (f : ArqSt → ArqSt) : (s.modArq f).link = s.link := rfl
@[simp] theorem State.modArq_arq (s : State) (f : ArqSt → ArqSt) : (s.modArq f).arq = f s.arq := rfl
@[simp] theorem State.modArq_time (s : State) (f : ArqSt → ArqSt) : (s.modArq f).time = s.time := rfl
@[simp] theorem State.modArq_twin (s : State) (f : ArqSt → ArqSt) : (s.modArq f).twin = s.twin := rfl
@[simp] theorem State.modArq_od (s : State) (f : ArqSt → ArqSt) : (s.modArq f).od = s.od := rfl
@[simp] theorem State.modArq_yar (s : State) (f : ArqSt → ArqSt) : (s.modArq f).yar = s.yar := rfl
@[simp] theorem State.modArq_upd (s : State) (f : ArqSt → ArqSt) : (s.modArq f).upd = s.upd := rfl
@[simp] theorem State.modArq_rst (s : State) (f : ArqSt → ArqSt) : (s.modArq f).rst = s.rst := rfl
@[simp] theorem State.modArq_pwr (s : State) (f : ArqSt → ArqSt) : (s.modArq f).pwr = s.pwr := rfl
@[simp] theorem State.modArq_port (s : State) (f : ArqSt → ArqSt) (x : Port) : (s.modArq f).port x = s.port x := by
  cases x <;> rfl
@[simp] theorem State.modArq_chan (s : State) (f : ArqSt → ArqSt) (n : Fin 20) : (s.modArq f).chan n = s.chan n := rfl

/-! ### `State.modTime` -/

@[simp] theorem State.modTime_pending (s : State) (f : TimeSt → TimeSt) : (s.modTime f).pending = s.pending := rfl
@[simp] theorem State.modTime_now (s : State) (f : TimeSt → TimeSt) : (s.modTime f).now = s.now := rfl
@[simp] theorem State.modTime_freeCtr (s : State) (f : TimeSt → TimeSt) : (s.modTime f).freeCtr = s.freeCtr := rfl
@[simp] theorem State.modTime_ch (s : State) (f : TimeSt → TimeSt) : (s.modTime f).ch = s.ch := rfl
@[simp] theorem State.modTime_pA (s : State) (f : TimeSt → TimeSt) : (s.modTime f).pA = s.pA := rfl
@[simp] theorem State.modTime_pB (s : State) (f : TimeSt → TimeSt) : (s.modTime f).pB = s.pB := rfl
@[simp] theorem State.modTime_mem (s : State) (f : TimeSt → TimeSt) : (s.modTime f).mem = s.mem := rfl
@[simp] theorem State.modTime_tansy (s : State) (f : TimeSt → TimeSt) : (s.modTime f).tansy = s.tansy := rfl
@[simp] theorem State.modTime_link (s : State) (f : TimeSt → TimeSt) : (s.modTime f).link = s.link := rfl
@[simp] theorem State.modTime_arq (s : State) (f : TimeSt → TimeSt) : (s.modTime f).arq = s.arq := rfl
@[simp] theorem State.modTime_time (s : State) (f : TimeSt → TimeSt) : (s.modTime f).time = f s.time := rfl
@[simp] theorem State.modTime_twin (s : State) (f : TimeSt → TimeSt) : (s.modTime f).twin = s.twin := rfl
@[simp] theorem State.modTime_od (s : State) (f : TimeSt → TimeSt) : (s.modTime f).od = s.od := rfl
@[simp] theorem State.modTime_yar (s : State) (f : TimeSt → TimeSt) : (s.modTime f).yar = s.yar := rfl
@[simp] theorem State.modTime_upd (s : State) (f : TimeSt → TimeSt) : (s.modTime f).upd = s.upd := rfl
@[simp] theorem State.modTime_rst (s : State) (f : TimeSt → TimeSt) : (s.modTime f).rst = s.rst := rfl
@[simp] theorem State.modTime_pwr (s : State) (f : TimeSt → TimeSt) : (s.modTime f).pwr = s.pwr := rfl
@[simp] theorem State.modTime_port (s : State) (f : TimeSt → TimeSt) (x : Port) : (s.modTime f).port x = s.port x := by
  cases x <;> rfl
@[simp] theorem State.modTime_chan (s : State) (f : TimeSt → TimeSt) (n : Fin 20) : (s.modTime f).chan n = s.chan n := rfl

/-! ### `State.modTwin` -/

@[simp] theorem State.modTwin_pending (s : State) (f : TwinSt → TwinSt) : (s.modTwin f).pending = s.pending := rfl
@[simp] theorem State.modTwin_now (s : State) (f : TwinSt → TwinSt) : (s.modTwin f).now = s.now := rfl
@[simp] theorem State.modTwin_freeCtr (s : State) (f : TwinSt → TwinSt) : (s.modTwin f).freeCtr = s.freeCtr := rfl
@[simp] theorem State.modTwin_ch (s : State) (f : TwinSt → TwinSt) : (s.modTwin f).ch = s.ch := rfl
@[simp] theorem State.modTwin_pA (s : State) (f : TwinSt → TwinSt) : (s.modTwin f).pA = s.pA := rfl
@[simp] theorem State.modTwin_pB (s : State) (f : TwinSt → TwinSt) : (s.modTwin f).pB = s.pB := rfl
@[simp] theorem State.modTwin_mem (s : State) (f : TwinSt → TwinSt) : (s.modTwin f).mem = s.mem := rfl
@[simp] theorem State.modTwin_tansy (s : State) (f : TwinSt → TwinSt) : (s.modTwin f).tansy = s.tansy := rfl
@[simp] theorem State.modTwin_link (s : State) (f : TwinSt → TwinSt) : (s.modTwin f).link = s.link := rfl
@[simp] theorem State.modTwin_arq (s : State) (f : TwinSt → TwinSt) : (s.modTwin f).arq = s.arq := rfl
@[simp] theorem State.modTwin_time (s : State) (f : TwinSt → TwinSt) : (s.modTwin f).time = s.time := rfl
@[simp] theorem State.modTwin_twin (s : State) (f : TwinSt → TwinSt) : (s.modTwin f).twin = f s.twin := rfl
@[simp] theorem State.modTwin_od (s : State) (f : TwinSt → TwinSt) : (s.modTwin f).od = s.od := rfl
@[simp] theorem State.modTwin_yar (s : State) (f : TwinSt → TwinSt) : (s.modTwin f).yar = s.yar := rfl
@[simp] theorem State.modTwin_upd (s : State) (f : TwinSt → TwinSt) : (s.modTwin f).upd = s.upd := rfl
@[simp] theorem State.modTwin_rst (s : State) (f : TwinSt → TwinSt) : (s.modTwin f).rst = s.rst := rfl
@[simp] theorem State.modTwin_pwr (s : State) (f : TwinSt → TwinSt) : (s.modTwin f).pwr = s.pwr := rfl
@[simp] theorem State.modTwin_port (s : State) (f : TwinSt → TwinSt) (x : Port) : (s.modTwin f).port x = s.port x := by
  cases x <;> rfl
@[simp] theorem State.modTwin_chan (s : State) (f : TwinSt → TwinSt) (n : Fin 20) : (s.modTwin f).chan n = s.chan n := rfl

/-! ### `State.modOd` -/

@[simp] theorem State.modOd_pending (s : State) (f : OdSt → OdSt) : (s.modOd f).pending = s.pending := rfl
@[simp] theorem State.modOd_now (s : State) (f : OdSt → OdSt) : (s.modOd f).now = s.now := rfl
@[simp] theorem State.modOd_freeCtr (s : State) (f : OdSt → OdSt) : (s.modOd f).freeCtr = s.freeCtr := rfl
@[simp] theorem State.modOd_ch (s : State) (f : OdSt → OdSt) : (s.modOd f).ch = s.ch := rfl
@[simp] theorem State.modOd_pA (s : State) (f : OdSt → OdSt) : (s.modOd f).pA = s.pA := rfl
@[simp] theorem State.modOd_pB (s : State) (f : OdSt → OdSt) : (s.modOd f).pB = s.pB := rfl
@[simp] theorem State.modOd_mem (s : State) (f : OdSt → OdSt) : (s.modOd f).mem = s.mem := rfl
@[simp] theorem State.modOd_tansy (s : State) (f : OdSt → OdSt) : (s.modOd f).tansy = s.tansy := rfl
@[simp] theorem State.modOd_link (s : State) (f : OdSt → OdSt) : (s.modOd f).link = s.link := rfl
@[simp] theorem State.modOd_arq (s : State) (f : OdSt → OdSt) : (s.modOd f).arq = s.arq := rfl
@[simp] theorem State.modOd_time (s : State) (f : OdSt → OdSt) : (s.modOd f).time = s.time := rfl
@[simp] theorem State.modOd_twin (s : State) (f : OdSt → OdSt) : (s.modOd f).twin = s.twin := rfl
@[simp] theorem State.modOd_od (s : State) (f : OdSt → OdSt) : (s.modOd f).od = f s.od := rfl
@[simp] theorem State.modOd_yar (s : State) (f : OdSt → OdSt) : (s.modOd f).yar = s.yar := rfl
@[simp] theorem State.modOd_upd (s : State) (f : OdSt → OdSt) : (s.modOd f).upd = s.upd := rfl
@[simp] theorem State.modOd_rst (s : State) (f : OdSt → OdSt) : (s.modOd f).rst = s.rst := rfl
@[simp] theorem State.modOd_pwr (s : State) (f : OdSt → OdSt) : (s.modOd f).pwr = s.pwr := rfl
@[simp] theorem State.modOd_port (s : State) (f : OdSt → OdSt) (x : Port) : (s.modOd f).port x = s.port x := by
  cases x <;> rfl
@[simp] theorem State.modOd_chan (s : State) (f : OdSt → OdSt) (n : Fin 20) : (s.modOd f).chan n = s.chan n := rfl

/-! ### `State.modYar` -/

@[simp] theorem State.modYar_pending (s : State) (f : YarSt → YarSt) : (s.modYar f).pending = s.pending := rfl
@[simp] theorem State.modYar_now (s : State) (f : YarSt → YarSt) : (s.modYar f).now = s.now := rfl
@[simp] theorem State.modYar_freeCtr (s : State) (f : YarSt → YarSt) : (s.modYar f).freeCtr = s.freeCtr := rfl
@[simp] theorem State.modYar_ch (s : State) (f : YarSt → YarSt) : (s.modYar f).ch = s.ch := rfl
@[simp] theorem State.modYar_pA (s : State) (f : YarSt → YarSt) : (s.modYar f).pA = s.pA := rfl
@[simp] theorem State.modYar_pB (s : State) (f : YarSt → YarSt) : (s.modYar f).pB = s.pB := rfl
@[simp] theorem State.modYar_mem (s : State) (f : YarSt → YarSt) : (s.modYar f).mem = s.mem := rfl
@[simp] theorem State.modYar_tansy (s : State) (f : YarSt → YarSt) : (s.modYar f).tansy = s.tansy := rfl
@[simp] theorem State.modYar_link (s : State) (f : YarSt → YarSt) : (s.modYar f).link = s.link := rfl
@[simp] theorem State.modYar_arq (s : State) (f : YarSt → YarSt) : (s.modYar f).arq = s.arq := rfl
@[simp] theorem State.modYar_time (s : State) (f : YarSt → YarSt) : (s.modYar f).time = s.time := rfl
@[simp] theorem State.modYar_twin (s : State) (f : YarSt → YarSt) : (s.modYar f).twin = s.twin := rfl
@[simp] theorem State.modYar_od (s : State) (f : YarSt → YarSt) : (s.modYar f).od = s.od := rfl
@[simp] theorem State.modYar_yar (s : State) (f : YarSt → YarSt) : (s.modYar f).yar = f s.yar := rfl
@[simp] theorem State.modYar_upd (s : State) (f : YarSt → YarSt) : (s.modYar f).upd = s.upd := rfl
@[simp] theorem State.modYar_rst (s : State) (f : YarSt → YarSt) : (s.modYar f).rst = s.rst := rfl
@[simp] theorem State.modYar_pwr (s : State) (f : YarSt → YarSt) : (s.modYar f).pwr = s.pwr := rfl
@[simp] theorem State.modYar_port (s : State) (f : YarSt → YarSt) (x : Port) : (s.modYar f).port x = s.port x := by
  cases x <;> rfl
@[simp] theorem State.modYar_chan (s : State) (f : YarSt → YarSt) (n : Fin 20) : (s.modYar f).chan n = s.chan n := rfl

/-! ### `State.modUpd` -/

@[simp] theorem State.modUpd_pending (s : State) (f : UpdSt → UpdSt) : (s.modUpd f).pending = s.pending := rfl
@[simp] theorem State.modUpd_now (s : State) (f : UpdSt → UpdSt) : (s.modUpd f).now = s.now := rfl
@[simp] theorem State.modUpd_freeCtr (s : State) (f : UpdSt → UpdSt) : (s.modUpd f).freeCtr = s.freeCtr := rfl
@[simp] theorem State.modUpd_ch (s : State) (f : UpdSt → UpdSt) : (s.modUpd f).ch = s.ch := rfl
@[simp] theorem State.modUpd_pA (s : State) (f : UpdSt → UpdSt) : (s.modUpd f).pA = s.pA := rfl
@[simp] theorem State.modUpd_pB (s : State) (f : UpdSt → UpdSt) : (s.modUpd f).pB = s.pB := rfl
@[simp] theorem State.modUpd_mem (s : State) (f : UpdSt → UpdSt) : (s.modUpd f).mem = s.mem := rfl
@[simp] theorem State.modUpd_tansy (s : State) (f : UpdSt → UpdSt) : (s.modUpd f).tansy = s.tansy := rfl
@[simp] theorem State.modUpd_link (s : State) (f : UpdSt → UpdSt) : (s.modUpd f).link = s.link := rfl
@[simp] theorem State.modUpd_arq (s : State) (f : UpdSt → UpdSt) : (s.modUpd f).arq = s.arq := rfl
@[simp] theorem State.modUpd_time (s : State) (f : UpdSt → UpdSt) : (s.modUpd f).time = s.time := rfl
@[simp] theorem State.modUpd_twin (s : State) (f : UpdSt → UpdSt) : (s.modUpd f).twin = s.twin := rfl
@[simp] theorem State.modUpd_od (s : State) (f : UpdSt → UpdSt) : (s.modUpd f).od = s.od := rfl
@[simp] theorem State.modUpd_yar (s : State) (f : UpdSt → UpdSt) : (s.modUpd f).yar = s.yar := rfl
@[simp] theorem State.modUpd_upd (s : State) (f : UpdSt → UpdSt) : (s.modUpd f).upd = f s.upd := rfl
@[simp] theorem State.modUpd_rst (s : State) (f : UpdSt → UpdSt) : (s.modUpd f).rst = s.rst := rfl
@[simp] theorem State.modUpd_pwr (s : State) (f : UpdSt → UpdSt) : (s.modUpd f).pwr = s.pwr := rfl
@[simp] theorem State.modUpd_port (s : State) (f : UpdSt → UpdSt) (x : Port) : (s.modUpd f).port x = s.port x := by
  cases x <;> rfl
@[simp] theorem State.modUpd_chan (s : State) (f : UpdSt → UpdSt) (n : Fin 20) : (s.modUpd f).chan n = s.chan n := rfl

/-! ### `State.modRst` -/

@[simp] theorem State.modRst_pending (s : State) (f : RstSt → RstSt) : (s.modRst f).pending = s.pending := rfl
@[simp] theorem State.modRst_now (s : State) (f : RstSt → RstSt) : (s.modRst f).now = s.now := rfl
@[simp] theorem State.modRst_freeCtr (s : State) (f : RstSt → RstSt) : (s.modRst f).freeCtr = s.freeCtr := rfl
@[simp] theorem State.modRst_ch (s : State) (f : RstSt → RstSt) : (s.modRst f).ch = s.ch := rfl
@[simp] theorem State.modRst_pA (s : State) (f : RstSt → RstSt) : (s.modRst f).pA = s.pA := rfl
@[simp] theorem State.modRst_pB (s : State) (f : RstSt → RstSt) : (s.modRst f).pB = s.pB := rfl
@[simp] theorem State.modRst_mem (s : State) (f : RstSt → RstSt) : (s.modRst f).mem = s.mem := rfl
@[simp] theorem State.modRst_tansy (s : State) (f : RstSt → RstSt) : (s.modRst f).tansy = s.tansy := rfl
@[simp] theorem State.modRst_link (s : State) (f : RstSt → RstSt) : (s.modRst f).link = s.link := rfl
@[simp] theorem State.modRst_arq (s : State) (f : RstSt → RstSt) : (s.modRst f).arq = s.arq := rfl
@[simp] theorem State.modRst_time (s : State) (f : RstSt → RstSt) : (s.modRst f).time = s.time := rfl
@[simp] theorem State.modRst_twin (s : State) (f : RstSt → RstSt) : (s.modRst f).twin = s.twin := rfl
@[simp] theorem State.modRst_od (s : State) (f : RstSt → RstSt) : (s.modRst f).od = s.od := rfl
@[simp] theorem State.modRst_yar (s : State) (f : RstSt → RstSt) : (s.modRst f).yar = s.yar := rfl
@[simp] theorem State.modRst_upd (s : State) (f : RstSt → RstSt) : (s.modRst f).upd = s.upd := rfl
@[simp] theorem State.modRst_rst (s : State) (f : RstSt → RstSt) : (s.modRst f).rst = f s.rst := rfl
@[simp] theorem State.modRst_pwr (s : State) (f : RstSt → RstSt) : (s.modRst f).pwr = s.pwr := rfl
@[simp] theorem State.modRst_port (s : State) (f : RstSt → RstSt) (x : Port) : (s.modRst f).port x = s.port x := by
  cases x <;> rfl
@[simp] theorem State.modRst_chan (s : State) (f : RstSt → RstSt) (n : Fin 20) : (s.modRst f).chan n = s.chan n := rfl

/-! ### `State.modPwr` -/

@[simp] theorem State.modPwr_pending (s : State) (f : PwrSt → PwrSt) : (s.modPwr f).pending = s.pending := rfl
@[simp] theorem State.modPwr_now (s : State) (f : PwrSt → PwrSt) : (s.modPwr f).now = s.now := rfl
@[simp] theorem State.modPwr_freeCtr (s : State) (f : PwrSt → PwrSt) : (s.modPwr f).freeCtr = s.freeCtr := rfl
@[simp] theorem State.modPwr_ch (s : State) (f : PwrSt → PwrSt) : (s.modPwr f).ch = s.ch := rfl
@[simp] theorem State.modPwr_pA (s : State) (f : PwrSt → PwrSt) : (s.modPwr f).pA = s.pA := rfl
@[simp] theorem State.modPwr_pB (s : State) (f : PwrSt → PwrSt) : (s.modPwr f).pB = s.pB := rfl
@[simp] theorem State.modPwr_mem (s : State) (f : PwrSt → PwrSt) : (s.modPwr f).mem = s.mem := rfl
@[simp] theorem State.modPwr_tansy (s : State) (f : PwrSt → PwrSt) : (s.modPwr f).tansy = s.tansy := rfl
@[simp] theorem State.modPwr_link (s : State) (f : PwrSt → PwrSt) : (s.modPwr f).link = s.link := rfl
@[simp] theorem State.modPwr_arq (s : State) (f : PwrSt → PwrSt) : (s.modPwr f).arq = s.arq := rfl
@[simp] theorem State.modPwr_time (s : State) (f : PwrSt → PwrSt) : (s.modPwr f).time = s.time := rfl
@[simp] theorem State.modPwr_twin (s : State) (f : PwrSt → PwrSt) : (s.modPwr f).twin = s.twin := rfl
@[simp] theorem State.modPwr_od (s : State) (f : PwrSt → PwrSt) : (s.modPwr f).od = s.od := rfl
@[simp] theorem State.modPwr_yar (s : State) (f : PwrSt → PwrSt) : (s.modPwr f).yar = s.yar := rfl
@[simp] theorem State.modPwr_upd (s : State) (f : PwrSt → PwrSt) : (s.modPwr f).upd = s.upd := rfl
@[simp] theorem State.modPwr_rst (s : State) (f : PwrSt → PwrSt) : (s.modPwr f).rst = s.rst := rfl
@[simp] theorem State.modPwr_pwr (s : State) (f : PwrSt → PwrSt) : (s.modPwr f).pwr = f s.pwr := rfl
@[simp] theorem State.modPwr_port (s : State) (f : PwrSt → PwrSt) (x : Port) : (s.modPwr f).port x = s.port x := by
  cases x <;> rfl
@[simp] theorem State.modPwr_chan (s : State) (f : PwrSt → PwrSt) (n : Fin 20) : (s.modPwr f).chan n = s.chan n := rfl

/-! ### `State.modCh` and `State.modCnt` -/

@[simp] theorem State.modCh_pending (s : State) (n : Fin 20) (f : Chan → Chan) : (s.modCh n f).pending = s.pending := rfl
@[simp] theorem State.modCh_now (s : State) (n : Fin 20) (f : Chan → Chan) : (s.modCh n f).now = s.now := rfl
@[simp] theorem State.modCh_freeCtr (s : State) (n : Fin 20) (f : Chan → Chan) : (s.modCh n f).freeCtr = s.freeCtr := rfl
@[simp] theorem State.modCh_pA (s : State) (n : Fin 20) (f : Chan → Chan) : (s.modCh n f).pA = s.pA := rfl
@[simp] theorem State.modCh_pB (s : State) (n : Fin 20) (f : Chan → Chan) : (s.modCh n f).pB = s.pB := rfl
@[simp] theorem State.modCh_mem (s : State) (n : Fin 20) (f : Chan → Chan) : (s.modCh n f).mem = s.mem := rfl
@[simp] theorem State.modCh_tansy (s : State) (n : Fin 20) (f : Chan → Chan) : (s.modCh n f).tansy = s.tansy := rfl
@[simp] theorem State.modCh_link (s : State) (n : Fin 20) (f : Chan → Chan) : (s.modCh n f).link = s.link := rfl
@[simp] theorem State.modCh_arq (s : State) (n : Fin 20) (f : Chan → Chan) : (s.modCh n f).arq = s.arq := rfl
@[simp] theorem State.modCh_time (s : State) (n : Fin 20) (f : Chan → Chan) : (s.modCh n f).time = s.time := rfl
@[simp] theorem State.modCh_twin (s : State) (n : Fin 20) (f : Chan → Chan) : (s.modCh n f).twin = s.twin := rfl
@[simp] theorem State.modCh_od (s : State) (n : Fin 20) (f : Chan → Chan) : (s.modCh n f).od = s.od := rfl
@[simp] theorem State.modCh_yar (s : State) (n : Fin 20) (f : Chan → Chan) : (s.modCh n f).yar = s.yar := rfl
@[simp] theorem State.modCh_upd (s : State) (n : Fin 20) (f : Chan → Chan) : (s.modCh n f).upd = s.upd := rfl
@[simp] theorem State.modCh_rst (s : State) (n : Fin 20) (f : Chan → Chan) : (s.modCh n f).rst = s.rst := rfl
@[simp] theorem State.modCh_pwr (s : State) (n : Fin 20) (f : Chan → Chan) : (s.modCh n f).pwr = s.pwr := rfl
@[simp] theorem State.modCnt_pending (s : State) (n : Fin 20) (f : ChCounters → ChCounters) :
    (s.modCnt n f).pending = s.pending := rfl
@[simp] theorem State.modCnt_now (s : State) (n : Fin 20) (f : ChCounters → ChCounters) :
    (s.modCnt n f).now = s.now := rfl
@[simp] theorem State.modCnt_freeCtr (s : State) (n : Fin 20) (f : ChCounters → ChCounters) :
    (s.modCnt n f).freeCtr = s.freeCtr := rfl
@[simp] theorem State.modCnt_pA (s : State) (n : Fin 20) (f : ChCounters → ChCounters) :
    (s.modCnt n f).pA = s.pA := rfl
@[simp] theorem State.modCnt_pB (s : State) (n : Fin 20) (f : ChCounters → ChCounters) :
    (s.modCnt n f).pB = s.pB := rfl
@[simp] theorem State.modCnt_mem (s : State) (n : Fin 20) (f : ChCounters → ChCounters) :
    (s.modCnt n f).mem = s.mem := rfl
@[simp] theorem State.modCnt_tansy (s : State) (n : Fin 20) (f : ChCounters → ChCounters) :
    (s.modCnt n f).tansy = s.tansy := rfl
@[simp] theorem State.modCnt_link (s : State) (n : Fin 20) (f : ChCounters → ChCounters) :
    (s.modCnt n f).link = s.link := rfl
@[simp] theorem State.modCnt_arq (s : State) (n : Fin 20) (f : ChCounters → ChCounters) :
    (s.modCnt n f).arq = s.arq := rfl
@[simp] theorem State.modCnt_time (s : State) (n : Fin 20) (f : ChCounters → ChCounters) :
    (s.modCnt n f).time = s.time := rfl
@[simp] theorem State.modCnt_twin (s : State) (n : Fin 20) (f : ChCounters → ChCounters) :
    (s.modCnt n f).twin = s.twin := rfl
@[simp] theorem State.modCnt_od (s : State) (n : Fin 20) (f : ChCounters → ChCounters) :
    (s.modCnt n f).od = s.od := rfl
@[simp] theorem State.modCnt_yar (s : State) (n : Fin 20) (f : ChCounters → ChCounters) :
    (s.modCnt n f).yar = s.yar := rfl
@[simp] theorem State.modCnt_upd (s : State) (n : Fin 20) (f : ChCounters → ChCounters) :
    (s.modCnt n f).upd = s.upd := rfl
@[simp] theorem State.modCnt_rst (s : State) (n : Fin 20) (f : ChCounters → ChCounters) :
    (s.modCnt n f).rst = s.rst := rfl
@[simp] theorem State.modCnt_pwr (s : State) (n : Fin 20) (f : ChCounters → ChCounters) :
    (s.modCnt n f).pwr = s.pwr := rfl
@[simp] theorem State.modCh_port (s : State) (n : Fin 20) (f : Chan → Chan) (x : Port) :
    (s.modCh n f).port x = s.port x := by
  cases x <;> rfl
@[simp] theorem State.modCnt_port (s : State) (n : Fin 20) (f : ChCounters → ChCounters) (x : Port) :
    (s.modCnt n f).port x = s.port x := by
  cases x <;> rfl

/-- The changed channel is the function of the old one. -/
@[simp] theorem State.modCh_chan_same (s : State) (n : Fin 20) (f : Chan → Chan) :
    (s.modCh n f).chan n = f (s.chan n) := by
  show (s.ch.set n.val (f (s.ch.get n)) n.isLt)[n.val] = f (s.ch.get n)
  simp

/-- Every other channel is unchanged. -/
theorem State.modCh_chan_other (s : State) {n k : Fin 20} (f : Chan → Chan) (h : k ≠ n) :
    (s.modCh n f).chan k = s.chan k := by
  have h' : n.val ≠ k.val := fun e => h (Fin.ext e.symm)
  show (s.ch.set n.val (f (s.ch.get n)) n.isLt)[k.val] = s.ch[k.val]
  simp [h']

/-- Both cases together. -/
theorem State.modCh_chan (s : State) (n k : Fin 20) (f : Chan → Chan) :
    (s.modCh n f).chan k = if k = n then f (s.chan n) else s.chan k := by
  by_cases h : k = n
  · subst h; simp
  · simp [h, s.modCh_chan_other f h]

/-- Counters are all that `modCnt` changes, in one channel. -/
theorem State.modCnt_chan (s : State) (n k : Fin 20) (f : ChCounters → ChCounters) :
    (s.modCnt n f).chan k = if k = n then { s.chan n with cnt := f (s.chan n).cnt } else s.chan k :=
  s.modCh_chan n k _

/-! ### `State.modPort` and `State.modPCnt` -/

@[simp] theorem State.modPort_pending (s : State) (x : Port) (f : PortSt → PortSt) : (s.modPort x f).pending = s.pending := by
  cases x <;> rfl
@[simp] theorem State.modPort_now (s : State) (x : Port) (f : PortSt → PortSt) : (s.modPort x f).now = s.now := by
  cases x <;> rfl
@[simp] theorem State.modPort_freeCtr (s : State) (x : Port) (f : PortSt → PortSt) : (s.modPort x f).freeCtr = s.freeCtr := by
  cases x <;> rfl
@[simp] theorem State.modPort_ch (s : State) (x : Port) (f : PortSt → PortSt) : (s.modPort x f).ch = s.ch := by
  cases x <;> rfl
@[simp] theorem State.modPort_mem (s : State) (x : Port) (f : PortSt → PortSt) : (s.modPort x f).mem = s.mem := by
  cases x <;> rfl
@[simp] theorem State.modPort_tansy (s : State) (x : Port) (f : PortSt → PortSt) : (s.modPort x f).tansy = s.tansy := by
  cases x <;> rfl
@[simp] theorem State.modPort_link (s : State) (x : Port) (f : PortSt → PortSt) : (s.modPort x f).link = s.link := by
  cases x <;> rfl
@[simp] theorem State.modPort_arq (s : State) (x : Port) (f : PortSt → PortSt) : (s.modPort x f).arq = s.arq := by
  cases x <;> rfl
@[simp] theorem State.modPort_time (s : State) (x : Port) (f : PortSt → PortSt) : (s.modPort x f).time = s.time := by
  cases x <;> rfl
@[simp] theorem State.modPort_twin (s : State) (x : Port) (f : PortSt → PortSt) : (s.modPort x f).twin = s.twin := by
  cases x <;> rfl
@[simp] theorem State.modPort_od (s : State) (x : Port) (f : PortSt → PortSt) : (s.modPort x f).od = s.od := by
  cases x <;> rfl
@[simp] theorem State.modPort_yar (s : State) (x : Port) (f : PortSt → PortSt) : (s.modPort x f).yar = s.yar := by
  cases x <;> rfl
@[simp] theorem State.modPort_upd (s : State) (x : Port) (f : PortSt → PortSt) : (s.modPort x f).upd = s.upd := by
  cases x <;> rfl
@[simp] theorem State.modPort_rst (s : State) (x : Port) (f : PortSt → PortSt) : (s.modPort x f).rst = s.rst := by
  cases x <;> rfl
@[simp] theorem State.modPort_pwr (s : State) (x : Port) (f : PortSt → PortSt) : (s.modPort x f).pwr = s.pwr := by
  cases x <;> rfl
@[simp] theorem State.modPCnt_pending (s : State) (x : Port) (f : PortCounters → PortCounters) :
    (s.modPCnt x f).pending = s.pending := by
  cases x <;> rfl
@[simp] theorem State.modPCnt_now (s : State) (x : Port) (f : PortCounters → PortCounters) :
    (s.modPCnt x f).now = s.now := by
  cases x <;> rfl
@[simp] theorem State.modPCnt_freeCtr (s : State) (x : Port) (f : PortCounters → PortCounters) :
    (s.modPCnt x f).freeCtr = s.freeCtr := by
  cases x <;> rfl
@[simp] theorem State.modPCnt_ch (s : State) (x : Port) (f : PortCounters → PortCounters) :
    (s.modPCnt x f).ch = s.ch := by
  cases x <;> rfl
@[simp] theorem State.modPCnt_mem (s : State) (x : Port) (f : PortCounters → PortCounters) :
    (s.modPCnt x f).mem = s.mem := by
  cases x <;> rfl
@[simp] theorem State.modPCnt_tansy (s : State) (x : Port) (f : PortCounters → PortCounters) :
    (s.modPCnt x f).tansy = s.tansy := by
  cases x <;> rfl
@[simp] theorem State.modPCnt_link (s : State) (x : Port) (f : PortCounters → PortCounters) :
    (s.modPCnt x f).link = s.link := by
  cases x <;> rfl
@[simp] theorem State.modPCnt_arq (s : State) (x : Port) (f : PortCounters → PortCounters) :
    (s.modPCnt x f).arq = s.arq := by
  cases x <;> rfl
@[simp] theorem State.modPCnt_time (s : State) (x : Port) (f : PortCounters → PortCounters) :
    (s.modPCnt x f).time = s.time := by
  cases x <;> rfl
@[simp] theorem State.modPCnt_twin (s : State) (x : Port) (f : PortCounters → PortCounters) :
    (s.modPCnt x f).twin = s.twin := by
  cases x <;> rfl
@[simp] theorem State.modPCnt_od (s : State) (x : Port) (f : PortCounters → PortCounters) :
    (s.modPCnt x f).od = s.od := by
  cases x <;> rfl
@[simp] theorem State.modPCnt_yar (s : State) (x : Port) (f : PortCounters → PortCounters) :
    (s.modPCnt x f).yar = s.yar := by
  cases x <;> rfl
@[simp] theorem State.modPCnt_upd (s : State) (x : Port) (f : PortCounters → PortCounters) :
    (s.modPCnt x f).upd = s.upd := by
  cases x <;> rfl
@[simp] theorem State.modPCnt_rst (s : State) (x : Port) (f : PortCounters → PortCounters) :
    (s.modPCnt x f).rst = s.rst := by
  cases x <;> rfl
@[simp] theorem State.modPCnt_pwr (s : State) (x : Port) (f : PortCounters → PortCounters) :
    (s.modPCnt x f).pwr = s.pwr := by
  cases x <;> rfl
@[simp] theorem State.modPort_chan (s : State) (x : Port) (f : PortSt → PortSt) (n : Fin 20) :
    (s.modPort x f).chan n = s.chan n := by
  cases x <;> rfl
@[simp] theorem State.modPCnt_chan (s : State) (x : Port) (f : PortCounters → PortCounters) (n : Fin 20) :
    (s.modPCnt x f).chan n = s.chan n := by
  cases x <;> rfl

/-- The changed port is the function of the old one. -/
@[simp] theorem State.modPort_port_same (s : State) (x : Port) (f : PortSt → PortSt) :
    (s.modPort x f).port x = f (s.port x) := by
  cases x <;> rfl

/-- The other port is unchanged. -/
theorem State.modPort_port_other (s : State) {x y : Port} (f : PortSt → PortSt) (h : y ≠ x) :
    (s.modPort x f).port y = s.port y := by
  cases x <;> cases y <;> first | rfl | exact absurd rfl h

/-! ### The passing of time and the random source -/

@[simp] theorem State.advance_pending (s : State) (dt : Nat) : (s.advance dt).pending = s.pending := by
  simp only [State.advance]; repeat' split
  all_goals rfl
@[simp] theorem State.advance_freeCtr (s : State) (dt : Nat) : (s.advance dt).freeCtr = s.freeCtr := by
  simp only [State.advance]; repeat' split
  all_goals rfl
@[simp] theorem State.advance_ch (s : State) (dt : Nat) : (s.advance dt).ch = s.ch := by
  simp only [State.advance]; repeat' split
  all_goals rfl
@[simp] theorem State.advance_pA (s : State) (dt : Nat) : (s.advance dt).pA = s.pA := by
  simp only [State.advance]; repeat' split
  all_goals rfl
@[simp] theorem State.advance_pB (s : State) (dt : Nat) : (s.advance dt).pB = s.pB := by
  simp only [State.advance]; repeat' split
  all_goals rfl
@[simp] theorem State.advance_mem (s : State) (dt : Nat) : (s.advance dt).mem = s.mem := by
  simp only [State.advance]; repeat' split
  all_goals rfl
@[simp] theorem State.advance_tansy (s : State) (dt : Nat) : (s.advance dt).tansy = s.tansy := by
  simp only [State.advance]; repeat' split
  all_goals rfl
@[simp] theorem State.advance_link (s : State) (dt : Nat) : (s.advance dt).link = s.link := by
  simp only [State.advance]; repeat' split
  all_goals rfl
@[simp] theorem State.advance_arq (s : State) (dt : Nat) : (s.advance dt).arq = s.arq := by
  simp only [State.advance]; repeat' split
  all_goals rfl
@[simp] theorem State.advance_twin (s : State) (dt : Nat) : (s.advance dt).twin = s.twin := by
  simp only [State.advance]; repeat' split
  all_goals rfl
@[simp] theorem State.advance_od (s : State) (dt : Nat) : (s.advance dt).od = s.od := by
  simp only [State.advance]; repeat' split
  all_goals rfl
@[simp] theorem State.advance_yar (s : State) (dt : Nat) : (s.advance dt).yar = s.yar := by
  simp only [State.advance]; repeat' split
  all_goals rfl
@[simp] theorem State.advance_upd (s : State) (dt : Nat) : (s.advance dt).upd = s.upd := by
  simp only [State.advance]; repeat' split
  all_goals rfl
@[simp] theorem State.advance_rst (s : State) (dt : Nat) : (s.advance dt).rst = s.rst := by
  simp only [State.advance]; repeat' split
  all_goals rfl
/-- Only TIMECLK's count moves, while its source runs (R293). -/
@[simp] theorem State.advance_pwr (s : State) (dt : Nat) :
    (s.advance dt).pwr =
      { s.pwr with timeclk := if s.pwr.clkSource = 1 then s.pwr.timeclk + 1250 * dt else s.pwr.timeclk } := by
  simp only [State.advance]; repeat' split
  all_goals first | rfl | simp_all [State.modPwr, State.modTime]
@[simp] theorem State.advance_now (s : State) (dt : Nat) : (s.advance dt).now = s.now + 1250 * dt := by
  simp only [State.advance]; repeat' split
  all_goals rfl
@[simp] theorem State.advance_port (s : State) (dt : Nat) (x : Port) : (s.advance dt).port x = s.port x := by
  cases x <;> simp [State.port]
@[simp] theorem State.advance_chan (s : State) (dt : Nat) (n : Fin 20) : (s.advance dt).chan n = s.chan n := by
  simp [State.chan]

@[simp] theorem State.draw_pending (s : State) : s.draw.2.pending = s.pending := rfl
@[simp] theorem State.draw_now (s : State) : s.draw.2.now = s.now := rfl
@[simp] theorem State.draw_ch (s : State) : s.draw.2.ch = s.ch := rfl
@[simp] theorem State.draw_pA (s : State) : s.draw.2.pA = s.pA := rfl
@[simp] theorem State.draw_pB (s : State) : s.draw.2.pB = s.pB := rfl
@[simp] theorem State.draw_mem (s : State) : s.draw.2.mem = s.mem := rfl
@[simp] theorem State.draw_tansy (s : State) : s.draw.2.tansy = s.tansy := rfl
@[simp] theorem State.draw_link (s : State) : s.draw.2.link = s.link := rfl
@[simp] theorem State.draw_arq (s : State) : s.draw.2.arq = s.arq := rfl
@[simp] theorem State.draw_time (s : State) : s.draw.2.time = s.time := rfl
@[simp] theorem State.draw_twin (s : State) : s.draw.2.twin = s.twin := rfl
@[simp] theorem State.draw_od (s : State) : s.draw.2.od = s.od := rfl
@[simp] theorem State.draw_yar (s : State) : s.draw.2.yar = s.yar := rfl
@[simp] theorem State.draw_upd (s : State) : s.draw.2.upd = s.upd := rfl
@[simp] theorem State.draw_rst (s : State) : s.draw.2.rst = s.rst := rfl
@[simp] theorem State.draw_pwr (s : State) : s.draw.2.pwr = s.pwr := rfl
@[simp] theorem State.draw_freeCtr (s : State) : s.draw.2.freeCtr = s.freeCtr + 1 := rfl

end Sys2Proof.Machine
end

