-- ==== Sys2Proof/Laws/Frames.lean ====
section
/-! SUPPORT. The frames of the shared operations: for each operation, the fields of State that it leaves as they were. -/

namespace Sys2Proof.Machine

open Sys2Proof

@[simp] theorem State.mirrorPhys_frame (s : State) (bank row col : Nat) (f : MemSt → Nat → MemSt) :
    (s.mirrorPhys bank row col f).pending = s.pending ∧ (s.mirrorPhys bank row col f).now = s.now ∧
    (s.mirrorPhys bank row col f).freeCtr = s.freeCtr ∧ (s.mirrorPhys bank row col f).ch = s.ch ∧
    (s.mirrorPhys bank row col f).pA = s.pA ∧ (s.mirrorPhys bank row col f).pB = s.pB ∧
    (s.mirrorPhys bank row col f).link = s.link ∧ (s.mirrorPhys bank row col f).arq = s.arq ∧
    (s.mirrorPhys bank row col f).time = s.time ∧ (s.mirrorPhys bank row col f).twin = s.twin ∧
    (s.mirrorPhys bank row col f).od = s.od ∧ (s.mirrorPhys bank row col f).yar = s.yar ∧
    (s.mirrorPhys bank row col f).upd = s.upd ∧ (s.mirrorPhys bank row col f).rst = s.rst ∧
    (s.mirrorPhys bank row col f).pwr = s.pwr := by
  unfold State.mirrorPhys
  try dsimp only
  repeat' split
  all_goals simp

@[simp] theorem State.mirrorPhys_port (s : State) (bank row col : Nat) (f : MemSt → Nat → MemSt) (y : Port) :
    (s.mirrorPhys bank row col f).port y = s.port y := by
  cases y <;> simp [State.port]

@[simp] theorem State.mirrorPhys_chan (s : State) (bank row col : Nat) (f : MemSt → Nat → MemSt) (k : Fin 20) :
    (s.mirrorPhys bank row col f).chan k = s.chan k := by
  simp [State.chan]

@[simp] theorem State.mirrorWrite_frame (s : State) (l : Loc) (f : MemSt → Nat → MemSt) :
    (s.mirrorWrite l f).pending = s.pending ∧ (s.mirrorWrite l f).now = s.now ∧
    (s.mirrorWrite l f).freeCtr = s.freeCtr ∧ (s.mirrorWrite l f).ch = s.ch ∧ (s.mirrorWrite l f).pA = s.pA ∧
    (s.mirrorWrite l f).pB = s.pB ∧ (s.mirrorWrite l f).link = s.link ∧ (s.mirrorWrite l f).arq = s.arq ∧
    (s.mirrorWrite l f).time = s.time ∧ (s.mirrorWrite l f).twin = s.twin ∧ (s.mirrorWrite l f).od = s.od ∧
    (s.mirrorWrite l f).yar = s.yar ∧ (s.mirrorWrite l f).upd = s.upd ∧ (s.mirrorWrite l f).rst = s.rst ∧
    (s.mirrorWrite l f).pwr = s.pwr := by
  unfold State.mirrorWrite
  all_goals simp

@[simp] theorem State.mirrorWrite_port (s : State) (l : Loc) (f : MemSt → Nat → MemSt) (y : Port) :
    (s.mirrorWrite l f).port y = s.port y := by
  cases y <;> simp [State.port]

@[simp] theorem State.mirrorWrite_chan (s : State) (l : Loc) (f : MemSt → Nat → MemSt) (k : Fin 20) :
    (s.mirrorWrite l f).chan k = s.chan k := by
  simp [State.chan]

@[simp] theorem State.storeWord_frame (s : State) (l : Loc) (bs : List Byte) :
    (s.storeWord l bs).pending = s.pending ∧ (s.storeWord l bs).now = s.now ∧
    (s.storeWord l bs).freeCtr = s.freeCtr ∧ (s.storeWord l bs).ch = s.ch ∧ (s.storeWord l bs).pA = s.pA ∧
    (s.storeWord l bs).pB = s.pB ∧ (s.storeWord l bs).link = s.link ∧ (s.storeWord l bs).arq = s.arq ∧
    (s.storeWord l bs).time = s.time ∧ (s.storeWord l bs).twin = s.twin ∧ (s.storeWord l bs).od = s.od ∧
    (s.storeWord l bs).yar = s.yar ∧ (s.storeWord l bs).upd = s.upd ∧ (s.storeWord l bs).rst = s.rst ∧
    (s.storeWord l bs).pwr = s.pwr := by
  unfold State.storeWord
  try dsimp only
  all_goals simp

@[simp] theorem State.storeWord_port (s : State) (l : Loc) (bs : List Byte) (y : Port) :
    (s.storeWord l bs).port y = s.port y := by
  cases y <;> simp [State.port]

@[simp] theorem State.storeWord_chan (s : State) (l : Loc) (bs : List Byte) (k : Fin 20) :
    (s.storeWord l bs).chan k = s.chan k := by
  simp [State.chan]

@[simp] theorem State.queueRepair_frame (s : State) (b row col : Nat) :
    (s.queueRepair b row col).pending = s.pending ∧ (s.queueRepair b row col).now = s.now ∧
    (s.queueRepair b row col).freeCtr = s.freeCtr ∧ (s.queueRepair b row col).ch = s.ch ∧
    (s.queueRepair b row col).pA = s.pA ∧ (s.queueRepair b row col).pB = s.pB ∧
    (s.queueRepair b row col).mem = s.mem ∧ (s.queueRepair b row col).link = s.link ∧
    (s.queueRepair b row col).arq = s.arq ∧ (s.queueRepair b row col).time = s.time ∧
    (s.queueRepair b row col).twin = s.twin ∧ (s.queueRepair b row col).od = s.od ∧
    (s.queueRepair b row col).yar = s.yar ∧ (s.queueRepair b row col).upd = s.upd ∧
    (s.queueRepair b row col).rst = s.rst ∧ (s.queueRepair b row col).pwr = s.pwr := by
  unfold State.queueRepair
  all_goals simp

@[simp] theorem State.queueRepair_port (s : State) (b row col : Nat) (y : Port) :
    (s.queueRepair b row col).port y = s.port y := by
  cases y <;> simp [State.port]

@[simp] theorem State.queueRepair_chan (s : State) (b row col : Nat) (k : Fin 20) :
    (s.queueRepair b row col).chan k = s.chan k := by
  simp [State.chan]

@[simp] theorem State.setLastUe_frame (s : State) (v : W32) :
    (s.setLastUe v).pending = s.pending ∧
    (s.setLastUe v).now = s.now ∧
    (s.setLastUe v).freeCtr = s.freeCtr ∧
    (s.setLastUe v).ch = s.ch ∧
    (s.setLastUe v).pA = s.pA ∧
    (s.setLastUe v).pB = s.pB ∧
    (s.setLastUe v).tansy = s.tansy ∧
    (s.setLastUe v).link = s.link ∧
    (s.setLastUe v).arq = s.arq ∧
    (s.setLastUe v).time = s.time ∧
    (s.setLastUe v).twin = s.twin ∧
    (s.setLastUe v).od = s.od ∧
    (s.setLastUe v).yar = s.yar ∧
    (s.setLastUe v).upd = s.upd ∧
    (s.setLastUe v).rst = s.rst ∧
    (s.setLastUe v).pwr = s.pwr := by
  unfold State.setLastUe
  simp

@[simp] theorem State.noteRead_frame (s : State) (l : Loc) (p : Nat) (r : WordRd) :
    (s.noteRead l p r).pending = s.pending ∧ (s.noteRead l p r).now = s.now ∧
    (s.noteRead l p r).freeCtr = s.freeCtr ∧ (s.noteRead l p r).pA = s.pA ∧ (s.noteRead l p r).pB = s.pB ∧
    (s.noteRead l p r).link = s.link ∧ (s.noteRead l p r).arq = s.arq ∧ (s.noteRead l p r).time = s.time ∧
    (s.noteRead l p r).twin = s.twin ∧ (s.noteRead l p r).od = s.od ∧ (s.noteRead l p r).yar = s.yar ∧
    (s.noteRead l p r).upd = s.upd ∧ (s.noteRead l p r).rst = s.rst ∧ (s.noteRead l p r).pwr = s.pwr ∧
    (s.noteRead l p r).ch = s.ch := by
  unfold State.noteRead
  try dsimp only
  repeat' split
  all_goals simp

@[simp] theorem State.countRead_frame (s : State) (l : Loc) (p : Nat) (r : WordRd) :
    (s.countRead l p r).pending = s.pending ∧ (s.countRead l p r).now = s.now ∧
    (s.countRead l p r).freeCtr = s.freeCtr ∧ (s.countRead l p r).pA = s.pA ∧ (s.countRead l p r).pB = s.pB ∧
    (s.countRead l p r).link = s.link ∧ (s.countRead l p r).arq = s.arq ∧ (s.countRead l p r).time = s.time ∧
    (s.countRead l p r).twin = s.twin ∧ (s.countRead l p r).od = s.od ∧ (s.countRead l p r).yar = s.yar ∧
    (s.countRead l p r).upd = s.upd ∧ (s.countRead l p r).rst = s.rst ∧ (s.countRead l p r).pwr = s.pwr := by
  unfold State.countRead
  try dsimp only
  repeat' split
  all_goals simp

@[simp] theorem State.countRead_port (s : State) (l : Loc) (p : Nat) (r : WordRd) (y : Port) :
    (s.countRead l p r).port y = s.port y := by
  cases y <;> simp [State.port]

@[simp] theorem State.countRefused_frame (s : State) (m : Fin 6) :
    (s.countRefused m).pending = s.pending ∧ (s.countRefused m).now = s.now ∧
    (s.countRefused m).freeCtr = s.freeCtr ∧ (s.countRefused m).ch = s.ch ∧ (s.countRefused m).pA = s.pA ∧
    (s.countRefused m).pB = s.pB ∧ (s.countRefused m).tansy = s.tansy ∧ (s.countRefused m).link = s.link ∧
    (s.countRefused m).arq = s.arq ∧ (s.countRefused m).time = s.time ∧ (s.countRefused m).twin = s.twin ∧
    (s.countRefused m).od = s.od ∧ (s.countRefused m).yar = s.yar ∧ (s.countRefused m).upd = s.upd ∧
    (s.countRefused m).rst = s.rst ∧ (s.countRefused m).pwr = s.pwr := by
  unfold State.countRefused
  all_goals simp

@[simp] theorem State.countRefused_port (s : State) (m : Fin 6) (y : Port) :
    (s.countRefused m).port y = s.port y := by
  cases y <;> simp [State.port]

@[simp] theorem State.countRefused_chan (s : State) (m : Fin 6) (k : Fin 20) :
    (s.countRefused m).chan k = s.chan k := by
  simp [State.chan]

@[simp] theorem State.attn_frame (s : State) (x : Port) (bit : Nat) :
    (s.attn x bit).pending = s.pending ∧ (s.attn x bit).now = s.now ∧ (s.attn x bit).freeCtr = s.freeCtr ∧
    (s.attn x bit).ch = s.ch ∧ (s.attn x bit).mem = s.mem ∧ (s.attn x bit).tansy = s.tansy ∧
    (s.attn x bit).link = s.link ∧ (s.attn x bit).arq = s.arq ∧ (s.attn x bit).time = s.time ∧
    (s.attn x bit).twin = s.twin ∧ (s.attn x bit).od = s.od ∧ (s.attn x bit).yar = s.yar ∧
    (s.attn x bit).upd = s.upd ∧ (s.attn x bit).rst = s.rst ∧ (s.attn x bit).pwr = s.pwr := by
  unfold State.attn
  all_goals simp

@[simp] theorem State.attn_chan (s : State) (x : Port) (bit : Nat) (k : Fin 20) :
    (s.attn x bit).chan k = s.chan k := by
  simp [State.chan]

@[simp] theorem State.attnBoth_frame (s : State) (bit : Nat) :
    (s.attnBoth bit).pending = s.pending ∧ (s.attnBoth bit).now = s.now ∧ (s.attnBoth bit).freeCtr = s.freeCtr ∧
    (s.attnBoth bit).ch = s.ch ∧ (s.attnBoth bit).mem = s.mem ∧ (s.attnBoth bit).tansy = s.tansy ∧
    (s.attnBoth bit).link = s.link ∧ (s.attnBoth bit).arq = s.arq ∧ (s.attnBoth bit).time = s.time ∧
    (s.attnBoth bit).twin = s.twin ∧ (s.attnBoth bit).od = s.od ∧ (s.attnBoth bit).yar = s.yar ∧
    (s.attnBoth bit).upd = s.upd ∧ (s.attnBoth bit).rst = s.rst ∧ (s.attnBoth bit).pwr = s.pwr := by
  unfold State.attnBoth
  all_goals simp

@[simp] theorem State.attnBoth_chan (s : State) (bit : Nat) (k : Fin 20) :
    (s.attnBoth bit).chan k = s.chan k := by
  simp [State.chan]

@[simp] theorem State.attnChAt_frame (s : State) (x : Port) (n : Fin 20) (bit : Nat) :
    (s.attnChAt x n bit).pending = s.pending ∧ (s.attnChAt x n bit).now = s.now ∧
    (s.attnChAt x n bit).freeCtr = s.freeCtr ∧ (s.attnChAt x n bit).ch = s.ch ∧ (s.attnChAt x n bit).mem = s.mem ∧
    (s.attnChAt x n bit).tansy = s.tansy ∧ (s.attnChAt x n bit).link = s.link ∧ (s.attnChAt x n bit).arq = s.arq ∧
    (s.attnChAt x n bit).time = s.time ∧ (s.attnChAt x n bit).twin = s.twin ∧ (s.attnChAt x n bit).od = s.od ∧
    (s.attnChAt x n bit).yar = s.yar ∧ (s.attnChAt x n bit).upd = s.upd ∧ (s.attnChAt x n bit).rst = s.rst ∧
    (s.attnChAt x n bit).pwr = s.pwr := by
  unfold State.attnChAt
  all_goals simp

@[simp] theorem State.attnChAt_chan (s : State) (x : Port) (n : Fin 20) (bit : Nat) (k : Fin 20) :
    (s.attnChAt x n bit).chan k = s.chan k := by
  simp [State.chan]

@[simp] theorem State.attnCh_frame (s : State) (n : Fin 20) (bit : Nat) :
    (s.attnCh n bit).pending = s.pending ∧ (s.attnCh n bit).now = s.now ∧ (s.attnCh n bit).freeCtr = s.freeCtr ∧
    (s.attnCh n bit).ch = s.ch ∧ (s.attnCh n bit).mem = s.mem ∧ (s.attnCh n bit).tansy = s.tansy ∧
    (s.attnCh n bit).link = s.link ∧ (s.attnCh n bit).arq = s.arq ∧ (s.attnCh n bit).time = s.time ∧
    (s.attnCh n bit).twin = s.twin ∧ (s.attnCh n bit).od = s.od ∧ (s.attnCh n bit).yar = s.yar ∧
    (s.attnCh n bit).upd = s.upd ∧ (s.attnCh n bit).rst = s.rst ∧ (s.attnCh n bit).pwr = s.pwr := by
  unfold State.attnCh
  try dsimp only
  repeat' split
  all_goals simp

@[simp] theorem State.attnCh_chan (s : State) (n : Fin 20) (bit : Nat) (k : Fin 20) :
    (s.attnCh n bit).chan k = s.chan k := by
  simp [State.chan]

@[simp] theorem State.attnConsumer_frame (s : State) (n : Fin 20) (bit : Nat) :
    (s.attnConsumer n bit).pending = s.pending ∧ (s.attnConsumer n bit).now = s.now ∧
    (s.attnConsumer n bit).freeCtr = s.freeCtr ∧ (s.attnConsumer n bit).ch = s.ch ∧
    (s.attnConsumer n bit).mem = s.mem ∧ (s.attnConsumer n bit).tansy = s.tansy ∧
    (s.attnConsumer n bit).link = s.link ∧ (s.attnConsumer n bit).arq = s.arq ∧
    (s.attnConsumer n bit).time = s.time ∧ (s.attnConsumer n bit).twin = s.twin ∧
    (s.attnConsumer n bit).od = s.od ∧ (s.attnConsumer n bit).yar = s.yar ∧ (s.attnConsumer n bit).upd = s.upd ∧
    (s.attnConsumer n bit).rst = s.rst ∧ (s.attnConsumer n bit).pwr = s.pwr := by
  unfold State.attnConsumer
  repeat' split
  all_goals simp

@[simp] theorem State.attnConsumer_chan (s : State) (n : Fin 20) (bit : Nat) (k : Fin 20) :
    (s.attnConsumer n bit).chan k = s.chan k := by
  simp [State.chan]

@[simp] theorem State.log_frame (s : State) (code src severity : Nat) (data : Nat) :
    (s.log code src severity data).pending = s.pending ∧ (s.log code src severity data).now = s.now ∧
    (s.log code src severity data).freeCtr = s.freeCtr ∧ (s.log code src severity data).ch = s.ch ∧
    (s.log code src severity data).pA = s.pA ∧ (s.log code src severity data).pB = s.pB ∧
    (s.log code src severity data).mem = s.mem ∧ (s.log code src severity data).tansy = s.tansy ∧
    (s.log code src severity data).link = s.link ∧ (s.log code src severity data).arq = s.arq ∧
    (s.log code src severity data).time = s.time ∧ (s.log code src severity data).twin = s.twin ∧
    (s.log code src severity data).od = s.od ∧ (s.log code src severity data).upd = s.upd ∧
    (s.log code src severity data).rst = s.rst ∧ (s.log code src severity data).pwr = s.pwr := by
  unfold State.log
  try dsimp only
  repeat' split
  all_goals simp

@[simp] theorem State.log_port (s : State) (code src severity : Nat) (data : Nat) (y : Port) :
    (s.log code src severity data).port y = s.port y := by
  cases y <;> simp [State.port]

@[simp] theorem State.log_chan (s : State) (code src severity : Nat) (data : Nat) (k : Fin 20) :
    (s.log code src severity data).chan k = s.chan k := by
  simp [State.chan]

@[simp] theorem State.active_frame (s : State) :
    (s.active).pending = s.pending ∧ (s.active).now = s.now ∧ (s.active).freeCtr = s.freeCtr ∧
    (s.active).ch = s.ch ∧ (s.active).pA = s.pA ∧ (s.active).pB = s.pB ∧ (s.active).mem = s.mem ∧
    (s.active).tansy = s.tansy ∧ (s.active).link = s.link ∧ (s.active).arq = s.arq ∧ (s.active).time = s.time ∧
    (s.active).twin = s.twin ∧ (s.active).od = s.od ∧ (s.active).yar = s.yar ∧ (s.active).upd = s.upd ∧
    (s.active).rst = s.rst := by
  unfold State.active
  all_goals simp

@[simp] theorem State.active_port (s : State) (y : Port) :
    (s.active).port y = s.port y := by
  cases y <;> simp [State.port]

@[simp] theorem State.active_chan (s : State) (k : Fin 20) :
    (s.active).chan k = s.chan k := by
  simp [State.chan]

@[simp] theorem State.idleAnew_frame (s : State) :
    s.idleAnew.pending = s.pending ∧ s.idleAnew.now = s.now ∧ s.idleAnew.freeCtr = s.freeCtr ∧
    s.idleAnew.ch = s.ch ∧ s.idleAnew.pA = s.pA ∧ s.idleAnew.pB = s.pB ∧ s.idleAnew.mem = s.mem ∧
    s.idleAnew.tansy = s.tansy ∧ s.idleAnew.link = s.link ∧ s.idleAnew.arq = s.arq ∧ s.idleAnew.time = s.time ∧
    s.idleAnew.twin = s.twin ∧ s.idleAnew.od = s.od ∧ s.idleAnew.yar = s.yar ∧ s.idleAnew.upd = s.upd ∧
    s.idleAnew.rst = s.rst := by
  unfold State.idleAnew
  all_goals simp

@[simp] theorem State.idleAnew_port (s : State) (y : Port) : s.idleAnew.port y = s.port y := by
  cases y <;> simp [State.port]

@[simp] theorem State.idleAnew_chan (s : State) (k : Fin 20) : s.idleAnew.chan k = s.chan k := by
  simp [State.chan]

@[simp] theorem State.wakeDoze_frame (s : State) :
    (s.wakeDoze).pending = s.pending ∧ (s.wakeDoze).now = s.now ∧ (s.wakeDoze).freeCtr = s.freeCtr ∧
    (s.wakeDoze).ch = s.ch ∧ (s.wakeDoze).pA = s.pA ∧ (s.wakeDoze).pB = s.pB ∧ (s.wakeDoze).mem = s.mem ∧
    (s.wakeDoze).tansy = s.tansy ∧ (s.wakeDoze).link = s.link ∧ (s.wakeDoze).arq = s.arq ∧
    (s.wakeDoze).time = s.time ∧ (s.wakeDoze).twin = s.twin ∧ (s.wakeDoze).od = s.od ∧ (s.wakeDoze).yar = s.yar ∧
    (s.wakeDoze).upd = s.upd ∧ (s.wakeDoze).rst = s.rst := by
  unfold State.wakeDoze
  all_goals simp

@[simp] theorem State.wakeDoze_port (s : State) (y : Port) :
    (s.wakeDoze).port y = s.port y := by
  cases y <;> simp [State.port]

@[simp] theorem State.wakeDoze_chan (s : State) (k : Fin 20) :
    (s.wakeDoze).chan k = s.chan k := by
  simp [State.chan]

@[simp] theorem State.clover_frame (s : State) (type : Nat) (body : List Byte) :
    (s.clover type body).pending = s.pending ∧ (s.clover type body).now = s.now ∧
    (s.clover type body).freeCtr = s.freeCtr ∧ (s.clover type body).ch = s.ch ∧ (s.clover type body).pA = s.pA ∧
    (s.clover type body).pB = s.pB ∧ (s.clover type body).mem = s.mem ∧ (s.clover type body).tansy = s.tansy ∧
    (s.clover type body).link = s.link ∧ (s.clover type body).arq = s.arq ∧ (s.clover type body).time = s.time ∧
    (s.clover type body).od = s.od ∧ (s.clover type body).yar = s.yar ∧ (s.clover type body).upd = s.upd ∧
    (s.clover type body).rst = s.rst := by
  unfold State.clover
  repeat' split
  all_goals simp

@[simp] theorem State.clover_port (s : State) (type : Nat) (body : List Byte) (y : Port) :
    (s.clover type body).port y = s.port y := by
  cases y <;> simp [State.port]

@[simp] theorem State.clover_chan (s : State) (type : Nat) (body : List Byte) (k : Fin 20) :
    (s.clover type body).chan k = s.chan k := by
  simp [State.chan]

@[simp] theorem State.announce_frame (s : State) (type : Nat) (body : List Byte) :
    (s.announce type body).pending = s.pending ∧ (s.announce type body).now = s.now ∧
    (s.announce type body).freeCtr = s.freeCtr ∧ (s.announce type body).ch = s.ch ∧
    (s.announce type body).pA = s.pA ∧ (s.announce type body).pB = s.pB ∧ (s.announce type body).mem = s.mem ∧
    (s.announce type body).tansy = s.tansy ∧ (s.announce type body).link = s.link ∧
    (s.announce type body).arq = s.arq ∧ (s.announce type body).time = s.time ∧ (s.announce type body).od = s.od ∧
    (s.announce type body).yar = s.yar ∧ (s.announce type body).upd = s.upd ∧ (s.announce type body).rst = s.rst := by
  unfold State.announce
  repeat' split
  all_goals simp

@[simp] theorem State.announce_port (s : State) (type : Nat) (body : List Byte) (y : Port) :
    (s.announce type body).port y = s.port y := by
  cases y <;> simp [State.port]

@[simp] theorem State.announce_chan (s : State) (type : Nat) (body : List Byte) (k : Fin 20) :
    (s.announce type body).chan k = s.chan k := by
  simp [State.chan]

@[simp] theorem State.portEvt_frame (s : State) (x : Port) (event seq : Nat) :
    (s.portEvt x event seq).pending = s.pending ∧ (s.portEvt x event seq).now = s.now ∧
    (s.portEvt x event seq).freeCtr = s.freeCtr ∧ (s.portEvt x event seq).ch = s.ch ∧
    (s.portEvt x event seq).pA = s.pA ∧ (s.portEvt x event seq).pB = s.pB ∧ (s.portEvt x event seq).mem = s.mem ∧
    (s.portEvt x event seq).tansy = s.tansy ∧ (s.portEvt x event seq).link = s.link ∧
    (s.portEvt x event seq).arq = s.arq ∧ (s.portEvt x event seq).time = s.time ∧
    (s.portEvt x event seq).od = s.od ∧ (s.portEvt x event seq).yar = s.yar ∧ (s.portEvt x event seq).upd = s.upd ∧
    (s.portEvt x event seq).rst = s.rst := by
  unfold State.portEvt
  repeat' split
  all_goals simp

@[simp] theorem State.portEvt_port (s : State) (x : Port) (event seq : Nat) (y : Port) :
    (s.portEvt x event seq).port y = s.port y := by
  cases y <;> simp [State.port]

@[simp] theorem State.portEvt_chan (s : State) (x : Port) (event seq : Nat) (k : Fin 20) :
    (s.portEvt x event seq).chan k = s.chan k := by
  simp [State.chan]

@[simp] theorem State.freeLocks_frame (s : State) (o : Owner) :
    (s.freeLocks o).pending = s.pending ∧ (s.freeLocks o).now = s.now ∧ (s.freeLocks o).freeCtr = s.freeCtr ∧
    (s.freeLocks o).ch = s.ch ∧ (s.freeLocks o).pA = s.pA ∧ (s.freeLocks o).pB = s.pB ∧
    (s.freeLocks o).tansy = s.tansy ∧ (s.freeLocks o).link = s.link ∧ (s.freeLocks o).arq = s.arq ∧
    (s.freeLocks o).time = s.time ∧ (s.freeLocks o).twin = s.twin ∧ (s.freeLocks o).od = s.od ∧
    (s.freeLocks o).yar = s.yar ∧ (s.freeLocks o).upd = s.upd ∧ (s.freeLocks o).rst = s.rst ∧
    (s.freeLocks o).pwr = s.pwr := by
  unfold State.freeLocks
  all_goals simp

@[simp] theorem State.freeLocks_port (s : State) (o : Owner) (y : Port) :
    (s.freeLocks o).port y = s.port y := by
  cases y <;> simp [State.port]

@[simp] theorem State.freeLocks_chan (s : State) (o : Owner) (k : Fin 20) :
    (s.freeLocks o).chan k = s.chan k := by
  simp [State.chan]

@[simp] theorem State.freeAllLocks_frame (s : State) :
    (s.freeAllLocks).pending = s.pending ∧ (s.freeAllLocks).now = s.now ∧ (s.freeAllLocks).freeCtr = s.freeCtr ∧
    (s.freeAllLocks).ch = s.ch ∧ (s.freeAllLocks).pA = s.pA ∧ (s.freeAllLocks).pB = s.pB ∧
    (s.freeAllLocks).tansy = s.tansy ∧ (s.freeAllLocks).link = s.link ∧ (s.freeAllLocks).arq = s.arq ∧
    (s.freeAllLocks).time = s.time ∧ (s.freeAllLocks).twin = s.twin ∧ (s.freeAllLocks).od = s.od ∧
    (s.freeAllLocks).yar = s.yar ∧ (s.freeAllLocks).upd = s.upd ∧ (s.freeAllLocks).rst = s.rst ∧
    (s.freeAllLocks).pwr = s.pwr := by
  unfold State.freeAllLocks
  all_goals simp

@[simp] theorem State.freeAllLocks_port (s : State) (y : Port) :
    (s.freeAllLocks).port y = s.port y := by
  cases y <;> simp [State.port]

@[simp] theorem State.freeAllLocks_chan (s : State) (k : Fin 20) :
    (s.freeAllLocks).chan k = s.chan k := by
  simp [State.chan]

@[simp] theorem State.sample_frame (s : State) (x : Port) (wctl : BitVec 5) (c : WCyc) :
    (s.sample x wctl c).pending = s.pending ∧ (s.sample x wctl c).now = s.now ∧
    (s.sample x wctl c).freeCtr = s.freeCtr ∧ (s.sample x wctl c).ch = s.ch ∧ (s.sample x wctl c).mem = s.mem ∧
    (s.sample x wctl c).tansy = s.tansy ∧ (s.sample x wctl c).link = s.link ∧ (s.sample x wctl c).arq = s.arq ∧
    (s.sample x wctl c).time = s.time ∧ (s.sample x wctl c).twin = s.twin ∧ (s.sample x wctl c).od = s.od ∧
    (s.sample x wctl c).yar = s.yar ∧ (s.sample x wctl c).upd = s.upd ∧ (s.sample x wctl c).rst = s.rst ∧
    (s.sample x wctl c).pwr = s.pwr := by
  unfold State.sample
  try dsimp only
  all_goals simp

@[simp] theorem State.sample_chan (s : State) (x : Port) (wctl : BitVec 5) (c : WCyc) (k : Fin 20) :
    (s.sample x wctl c).chan k = s.chan k := by
  simp [State.chan]

@[simp] theorem State.launch_frame (s : State) (x : Port) (b : Beat) :
    (s.launch x b).pending = s.pending ∧ (s.launch x b).now = s.now ∧ (s.launch x b).freeCtr = s.freeCtr ∧
    (s.launch x b).ch = s.ch ∧ (s.launch x b).mem = s.mem ∧ (s.launch x b).tansy = s.tansy ∧
    (s.launch x b).link = s.link ∧ (s.launch x b).arq = s.arq ∧ (s.launch x b).time = s.time ∧
    (s.launch x b).od = s.od ∧ (s.launch x b).yar = s.yar ∧ (s.launch x b).upd = s.upd ∧
    (s.launch x b).rst = s.rst ∧ (s.launch x b).pwr = s.pwr := by
  unfold State.launch
  try dsimp only
  repeat' split
  all_goals simp

@[simp] theorem State.launch_chan (s : State) (x : Port) (b : Beat) (k : Fin 20) :
    (s.launch x b).chan k = s.chan k := by
  simp [State.chan]

@[simp] theorem State.finish_frame (s : State) (x : Port) (k : PCmd) (b : Beat) :
    (s.finish x k b).pending = s.pending ∧ (s.finish x k b).now = s.now ∧ (s.finish x k b).freeCtr = s.freeCtr ∧
    (s.finish x k b).ch = s.ch ∧ (s.finish x k b).mem = s.mem ∧ (s.finish x k b).tansy = s.tansy ∧
    (s.finish x k b).link = s.link ∧ (s.finish x k b).arq = s.arq ∧ (s.finish x k b).time = s.time ∧
    (s.finish x k b).od = s.od ∧ (s.finish x k b).yar = s.yar ∧ (s.finish x k b).upd = s.upd ∧
    (s.finish x k b).rst = s.rst := by
  unfold State.finish
  try dsimp only
  repeat' split
  all_goals simp

@[simp] theorem State.finishStat_frame (s : State) (x : Port) (k : PCmd) (stat : Nat) :
    (s.finishStat x k stat).pending = s.pending ∧ (s.finishStat x k stat).now = s.now ∧
    (s.finishStat x k stat).freeCtr = s.freeCtr ∧ (s.finishStat x k stat).ch = s.ch ∧
    (s.finishStat x k stat).mem = s.mem ∧ (s.finishStat x k stat).tansy = s.tansy ∧
    (s.finishStat x k stat).link = s.link ∧ (s.finishStat x k stat).arq = s.arq ∧
    (s.finishStat x k stat).time = s.time ∧ (s.finishStat x k stat).od = s.od ∧
    (s.finishStat x k stat).yar = s.yar ∧ (s.finishStat x k stat).upd = s.upd ∧
    (s.finishStat x k stat).rst = s.rst := by
  unfold State.finishStat
  all_goals simp

@[simp] theorem State.updCmd_frame (s : State) (x : Port) (k k' : PCmd) :
    (s.updCmd x k k').pending = s.pending ∧ (s.updCmd x k k').now = s.now ∧ (s.updCmd x k k').freeCtr = s.freeCtr ∧
    (s.updCmd x k k').ch = s.ch ∧ (s.updCmd x k k').mem = s.mem ∧ (s.updCmd x k k').tansy = s.tansy ∧
    (s.updCmd x k k').link = s.link ∧ (s.updCmd x k k').arq = s.arq ∧ (s.updCmd x k k').time = s.time ∧
    (s.updCmd x k k').twin = s.twin ∧ (s.updCmd x k k').od = s.od ∧ (s.updCmd x k k').yar = s.yar ∧
    (s.updCmd x k k').upd = s.upd ∧ (s.updCmd x k k').rst = s.rst ∧ (s.updCmd x k k').pwr = s.pwr := by
  unfold State.updCmd
  all_goals simp

@[simp] theorem State.autoRelease_frame (s : State) (n : Fin 20) :
    (s.autoRelease n).pending = s.pending ∧ (s.autoRelease n).now = s.now ∧ (s.autoRelease n).freeCtr = s.freeCtr ∧
    (s.autoRelease n).pA = s.pA ∧ (s.autoRelease n).pB = s.pB ∧ (s.autoRelease n).mem = s.mem ∧
    (s.autoRelease n).tansy = s.tansy ∧ (s.autoRelease n).link = s.link ∧ (s.autoRelease n).arq = s.arq ∧
    (s.autoRelease n).time = s.time ∧ (s.autoRelease n).twin = s.twin ∧ (s.autoRelease n).od = s.od ∧
    (s.autoRelease n).yar = s.yar ∧ (s.autoRelease n).upd = s.upd ∧ (s.autoRelease n).rst = s.rst ∧
    (s.autoRelease n).pwr = s.pwr := by
  unfold State.autoRelease
  try dsimp only
  repeat' split
  all_goals simp

@[simp] theorem State.autoRelease_port (s : State) (n : Fin 20) (y : Port) :
    (s.autoRelease n).port y = s.port y := by
  cases y <;> simp [State.port]

@[simp] theorem State.ridle_frame (s : State) (n : Fin 20) :
    (s.ridle n).pending = s.pending ∧ (s.ridle n).now = s.now ∧ (s.ridle n).freeCtr = s.freeCtr ∧
    (s.ridle n).pA = s.pA ∧ (s.ridle n).pB = s.pB ∧ (s.ridle n).mem = s.mem ∧ (s.ridle n).tansy = s.tansy ∧
    (s.ridle n).link = s.link ∧ (s.ridle n).arq = s.arq ∧ (s.ridle n).time = s.time ∧ (s.ridle n).twin = s.twin ∧
    (s.ridle n).od = s.od ∧ (s.ridle n).yar = s.yar ∧ (s.ridle n).upd = s.upd ∧ (s.ridle n).rst = s.rst ∧
    (s.ridle n).pwr = s.pwr := by
  unfold State.ridle
  try dsimp only
  repeat' split
  all_goals simp

@[simp] theorem State.ridle_port (s : State) (n : Fin 20) (y : Port) :
    (s.ridle n).port y = s.port y := by
  cases y <;> simp [State.port]

@[simp] theorem State.setHold_frame (s : State) (n : Fin 20) (h : Bool) :
    (s.setHold n h).pending = s.pending ∧ (s.setHold n h).now = s.now ∧ (s.setHold n h).freeCtr = s.freeCtr ∧
    (s.setHold n h).pA = s.pA ∧ (s.setHold n h).pB = s.pB ∧ (s.setHold n h).mem = s.mem ∧
    (s.setHold n h).tansy = s.tansy ∧ (s.setHold n h).link = s.link ∧ (s.setHold n h).arq = s.arq ∧
    (s.setHold n h).time = s.time ∧ (s.setHold n h).od = s.od ∧ (s.setHold n h).yar = s.yar ∧
    (s.setHold n h).upd = s.upd ∧ (s.setHold n h).rst = s.rst := by
  unfold State.setHold
  try dsimp only
  repeat' split
  all_goals simp

@[simp] theorem State.setHold_port (s : State) (n : Fin 20) (h : Bool) (y : Port) :
    (s.setHold n h).port y = s.port y := by
  cases y <;> simp [State.port]

@[simp] theorem State.evalHold_frame (s : State) (n : Fin 20) :
    (s.evalHold n).pending = s.pending ∧ (s.evalHold n).now = s.now ∧ (s.evalHold n).freeCtr = s.freeCtr ∧
    (s.evalHold n).pA = s.pA ∧ (s.evalHold n).pB = s.pB ∧ (s.evalHold n).mem = s.mem ∧
    (s.evalHold n).tansy = s.tansy ∧ (s.evalHold n).link = s.link ∧ (s.evalHold n).arq = s.arq ∧
    (s.evalHold n).time = s.time ∧ (s.evalHold n).od = s.od ∧ (s.evalHold n).yar = s.yar ∧
    (s.evalHold n).upd = s.upd ∧ (s.evalHold n).rst = s.rst := by
  simp [State.evalHold]

@[simp] theorem State.evalHold_port (s : State) (n : Fin 20) (y : Port) :
    (s.evalHold n).port y = s.port y := by
  cases y <;> simp [State.port]

@[simp] theorem State.sendCredits_frame (s : State) :
    s.sendCredits.pending = s.pending ∧ s.sendCredits.now = s.now ∧ s.sendCredits.freeCtr = s.freeCtr ∧
    s.sendCredits.pA = s.pA ∧ s.sendCredits.pB = s.pB ∧ s.sendCredits.ch = s.ch ∧ s.sendCredits.mem = s.mem ∧
    s.sendCredits.tansy = s.tansy ∧ s.sendCredits.link = s.link ∧ s.sendCredits.arq = s.arq ∧
    s.sendCredits.time = s.time ∧ s.sendCredits.od = s.od ∧ s.sendCredits.yar = s.yar ∧
    s.sendCredits.upd = s.upd ∧ s.sendCredits.rst = s.rst := by
  unfold State.sendCredits
  split
  all_goals simp

@[simp] theorem State.evalCredit_frame (s : State) (n : Fin 20) :
    (s.evalCredit n).pending = s.pending ∧ (s.evalCredit n).now = s.now ∧ (s.evalCredit n).freeCtr = s.freeCtr ∧
    (s.evalCredit n).pA = s.pA ∧ (s.evalCredit n).pB = s.pB ∧ (s.evalCredit n).mem = s.mem ∧
    (s.evalCredit n).tansy = s.tansy ∧ (s.evalCredit n).link = s.link ∧ (s.evalCredit n).arq = s.arq ∧
    (s.evalCredit n).time = s.time ∧ (s.evalCredit n).od = s.od ∧ (s.evalCredit n).yar = s.yar ∧
    (s.evalCredit n).upd = s.upd ∧ (s.evalCredit n).rst = s.rst := by
  unfold State.evalCredit
  try dsimp only
  repeat' split
  all_goals simp

@[simp] theorem State.evalCredit_port (s : State) (n : Fin 20) (y : Port) :
    (s.evalCredit n).port y = s.port y := by
  cases y <;> simp [State.port]

@[simp] theorem State.freeSenderRecords_frame (s : State) (n : Fin 20) :
    (s.freeSenderRecords n).pending = s.pending ∧ (s.freeSenderRecords n).now = s.now ∧
    (s.freeSenderRecords n).freeCtr = s.freeCtr ∧ (s.freeSenderRecords n).pA = s.pA ∧
    (s.freeSenderRecords n).pB = s.pB ∧ (s.freeSenderRecords n).mem = s.mem ∧
    (s.freeSenderRecords n).tansy = s.tansy ∧ (s.freeSenderRecords n).link = s.link ∧
    (s.freeSenderRecords n).arq = s.arq ∧ (s.freeSenderRecords n).time = s.time ∧
    (s.freeSenderRecords n).twin = s.twin ∧ (s.freeSenderRecords n).od = s.od ∧
    (s.freeSenderRecords n).yar = s.yar ∧ (s.freeSenderRecords n).upd = s.upd ∧
    (s.freeSenderRecords n).rst = s.rst ∧ (s.freeSenderRecords n).pwr = s.pwr := by
  unfold State.freeSenderRecords
  try dsimp only
  repeat' split
  all_goals simp

@[simp] theorem State.freeSenderRecords_port (s : State) (n : Fin 20) (y : Port) :
    (s.freeSenderRecords n).port y = s.port y := by
  cases y <;> simp [State.port]

@[simp] theorem State.countCut_frame (s : State) (n : Fin 20) :
    (s.countCut n).pending = s.pending ∧
    (s.countCut n).now = s.now ∧
    (s.countCut n).freeCtr = s.freeCtr ∧
    (s.countCut n).pA = s.pA ∧
    (s.countCut n).pB = s.pB ∧
    (s.countCut n).link = s.link ∧
    (s.countCut n).arq = s.arq ∧
    (s.countCut n).time = s.time ∧
    (s.countCut n).twin = s.twin ∧
    (s.countCut n).od = s.od ∧
    (s.countCut n).yar = s.yar ∧
    (s.countCut n).upd = s.upd ∧
    (s.countCut n).rst = s.rst ∧
    (s.countCut n).pwr = s.pwr := by
  unfold State.countCut
  simp

@[simp] theorem State.passOver_frame (s : State) (n : Fin 20) :
    (s.passOver n).pending = s.pending ∧ (s.passOver n).now = s.now ∧ (s.passOver n).freeCtr = s.freeCtr ∧
    (s.passOver n).pA = s.pA ∧ (s.passOver n).pB = s.pB ∧ (s.passOver n).link = s.link ∧
    (s.passOver n).time = s.time ∧ (s.passOver n).twin = s.twin ∧ (s.passOver n).od = s.od ∧
    (s.passOver n).yar = s.yar ∧ (s.passOver n).upd = s.upd ∧ (s.passOver n).rst = s.rst ∧
    (s.passOver n).pwr = s.pwr := by
  unfold State.passOver
  try dsimp only
  repeat' split
  all_goals simp

@[simp] theorem State.passOver_port (s : State) (n : Fin 20) (y : Port) :
    (s.passOver n).port y = s.port y := by
  cases y <;> simp [State.port]

@[simp] theorem State.refreshFlow_frame (s : State) (n : Fin 20) :
    (s.refreshFlow n).pending = s.pending ∧ (s.refreshFlow n).now = s.now ∧ (s.refreshFlow n).freeCtr = s.freeCtr ∧
    (s.refreshFlow n).pA = s.pA ∧ (s.refreshFlow n).pB = s.pB ∧ (s.refreshFlow n).link = s.link ∧
    (s.refreshFlow n).time = s.time ∧ (s.refreshFlow n).twin = s.twin ∧ (s.refreshFlow n).od = s.od ∧
    (s.refreshFlow n).yar = s.yar ∧ (s.refreshFlow n).upd = s.upd ∧ (s.refreshFlow n).rst = s.rst ∧
    (s.refreshFlow n).pwr = s.pwr := by
  unfold State.refreshFlow
  try dsimp only
  repeat' split
  all_goals simp

@[simp] theorem State.refreshFlow_port (s : State) (n : Fin 20) (y : Port) :
    (s.refreshFlow n).port y = s.port y := by
  cases y <;> simp [State.port]

@[simp] theorem State.cutHead_frame (s : State) (n : Fin 20) :
    (s.cutHead n).pending = s.pending ∧ (s.cutHead n).now = s.now ∧ (s.cutHead n).freeCtr = s.freeCtr ∧
    (s.cutHead n).pA = s.pA ∧ (s.cutHead n).pB = s.pB ∧ (s.cutHead n).link = s.link ∧ (s.cutHead n).time = s.time ∧
    (s.cutHead n).twin = s.twin ∧ (s.cutHead n).od = s.od ∧ (s.cutHead n).yar = s.yar ∧ (s.cutHead n).upd = s.upd ∧
    (s.cutHead n).rst = s.rst ∧ (s.cutHead n).pwr = s.pwr := by
  unfold State.cutHead
  try dsimp only
  repeat' split
  all_goals simp

@[simp] theorem State.cutHead_port (s : State) (n : Fin 20) (y : Port) :
    (s.cutHead n).port y = s.port y := by
  cases y <;> simp [State.port]

@[simp] theorem State.dropOpen_frame (s : State) (n : Fin 20) :
    (s.dropOpen n).pending = s.pending ∧ (s.dropOpen n).now = s.now ∧ (s.dropOpen n).freeCtr = s.freeCtr ∧
    (s.dropOpen n).pA = s.pA ∧ (s.dropOpen n).pB = s.pB ∧ (s.dropOpen n).mem = s.mem ∧
    (s.dropOpen n).tansy = s.tansy ∧ (s.dropOpen n).link = s.link ∧ (s.dropOpen n).arq = s.arq ∧
    (s.dropOpen n).time = s.time ∧ (s.dropOpen n).twin = s.twin ∧ (s.dropOpen n).od = s.od ∧
    (s.dropOpen n).yar = s.yar ∧ (s.dropOpen n).upd = s.upd ∧ (s.dropOpen n).rst = s.rst ∧
    (s.dropOpen n).pwr = s.pwr := by
  unfold State.dropOpen
  try dsimp only
  repeat' split
  all_goals simp

@[simp] theorem State.dropOpen_port (s : State) (n : Fin 20) (y : Port) :
    (s.dropOpen n).port y = s.port y := by
  cases y <;> simp [State.port]

@[simp] theorem State.stopChannel_frame (s : State) (n : Fin 20) :
    (s.stopChannel n).pending = s.pending ∧ (s.stopChannel n).now = s.now ∧ (s.stopChannel n).freeCtr = s.freeCtr ∧
    (s.stopChannel n).pA = s.pA ∧ (s.stopChannel n).pB = s.pB ∧ (s.stopChannel n).link = s.link ∧
    (s.stopChannel n).time = s.time ∧ (s.stopChannel n).od = s.od ∧ (s.stopChannel n).yar = s.yar ∧
    (s.stopChannel n).upd = s.upd ∧ (s.stopChannel n).rst = s.rst := by
  unfold State.stopChannel
  try dsimp only
  all_goals simp

@[simp] theorem State.stopChannel_port (s : State) (n : Fin 20) (y : Port) :
    (s.stopChannel n).port y = s.port y := by
  cases y <;> simp [State.port]

@[simp] theorem State.presetPending_frame (s : State) (n : Fin 20) (stat : Nat) :
    (s.presetPending n stat).pending = s.pending ∧ (s.presetPending n stat).now = s.now ∧
    (s.presetPending n stat).freeCtr = s.freeCtr ∧ (s.presetPending n stat).mem = s.mem ∧
    (s.presetPending n stat).tansy = s.tansy ∧ (s.presetPending n stat).link = s.link ∧
    (s.presetPending n stat).arq = s.arq ∧ (s.presetPending n stat).time = s.time ∧
    (s.presetPending n stat).od = s.od ∧ (s.presetPending n stat).yar = s.yar ∧
    (s.presetPending n stat).upd = s.upd ∧ (s.presetPending n stat).rst = s.rst ∧
    (s.presetPending n stat).ch = s.ch ∧ (s.presetPending n stat).twin = s.twin ∧
    (s.presetPending n stat).pwr = s.pwr := by
  simp [State.presetPending]

/-- A channel's FAULT is told to the ports that it concerns, and nothing else is touched outside the channels (R49, R89). -/
@[simp] theorem State.chFault_frame (s : State) (n : Fin 20) (cause : Nat) :
    (s.chFault n cause).pending = s.pending ∧ (s.chFault n cause).now = s.now ∧
    (s.chFault n cause).freeCtr = s.freeCtr ∧ (s.chFault n cause).link = s.link ∧
    (s.chFault n cause).time = s.time ∧ (s.chFault n cause).od = s.od ∧ (s.chFault n cause).yar = s.yar ∧
    (s.chFault n cause).upd = s.upd ∧ (s.chFault n cause).rst = s.rst := by
  unfold State.chFault
  try dsimp only
  repeat' split
  all_goals simp

@[simp] theorem State.trim_frame (s : State) (n : Fin 20) :
    (s.trim n).pending = s.pending ∧ (s.trim n).now = s.now ∧ (s.trim n).freeCtr = s.freeCtr ∧
    (s.trim n).link = s.link ∧ (s.trim n).time = s.time ∧ (s.trim n).od = s.od ∧ (s.trim n).yar = s.yar ∧
    (s.trim n).upd = s.upd ∧ (s.trim n).rst = s.rst := by
  unfold State.trim
  try dsimp only
  repeat' split
  all_goals simp

/-- With no fence deferred in its region, what a channel loses behind LP faults nothing (R43, R46). -/
theorem State.trim_of_no_deferred (s : State) (n : Fin 20) (h : (s.chan n).deferred = []) :
    s.trim n = s.modCh n Chan.trim := by
  simp [State.trim, h]

@[simp] theorem State.settle_frame (s : State) (n : Fin 20) :
    (s.settle n).pending = s.pending ∧ (s.settle n).now = s.now ∧ (s.settle n).freeCtr = s.freeCtr ∧
    (s.settle n).link = s.link ∧ (s.settle n).time = s.time ∧ (s.settle n).od = s.od ∧ (s.settle n).yar = s.yar ∧
    (s.settle n).upd = s.upd ∧ (s.settle n).rst = s.rst := by
  simp [State.settle]

@[simp] theorem State.discardOpen_frame (s : State) (n : Fin 20) :
    (s.discardOpen n).pending = s.pending ∧ (s.discardOpen n).now = s.now ∧ (s.discardOpen n).freeCtr = s.freeCtr ∧
    (s.discardOpen n).link = s.link ∧ (s.discardOpen n).time = s.time ∧ (s.discardOpen n).od = s.od ∧
    (s.discardOpen n).yar = s.yar ∧ (s.discardOpen n).upd = s.upd ∧ (s.discardOpen n).rst = s.rst := by
  unfold State.discardOpen
  try dsimp only
  repeat' split
  all_goals simp

@[simp] theorem State.discardPacket_frame (s : State) (n : Fin 20) :
    (s.discardPacket n).pending = s.pending ∧ (s.discardPacket n).now = s.now ∧
    (s.discardPacket n).freeCtr = s.freeCtr ∧ (s.discardPacket n).link = s.link ∧
    (s.discardPacket n).time = s.time ∧ (s.discardPacket n).od = s.od ∧ (s.discardPacket n).yar = s.yar ∧
    (s.discardPacket n).upd = s.upd ∧ (s.discardPacket n).rst = s.rst := by
  unfold State.discardPacket
  try dsimp only
  repeat' split
  all_goals simp

@[simp] theorem State.copyRaw_frame (s : State) (n : Fin 20) (tail : Bool) (bs : List Byte) :
    (s.copyRaw n tail bs).pending = s.pending ∧ (s.copyRaw n tail bs).now = s.now ∧
    (s.copyRaw n tail bs).freeCtr = s.freeCtr ∧ (s.copyRaw n tail bs).ch = s.ch ∧ (s.copyRaw n tail bs).pA = s.pA ∧
    (s.copyRaw n tail bs).pB = s.pB ∧ (s.copyRaw n tail bs).mem = s.mem ∧ (s.copyRaw n tail bs).tansy = s.tansy ∧
    (s.copyRaw n tail bs).link = s.link ∧ (s.copyRaw n tail bs).arq = s.arq ∧ (s.copyRaw n tail bs).time = s.time ∧
    (s.copyRaw n tail bs).od = s.od ∧ (s.copyRaw n tail bs).yar = s.yar ∧ (s.copyRaw n tail bs).upd = s.upd ∧
    (s.copyRaw n tail bs).rst = s.rst := by
  unfold State.copyRaw
  repeat' split
  all_goals simp

@[simp] theorem State.copyRaw_port (s : State) (n : Fin 20) (tail : Bool) (bs : List Byte) (y : Port) :
    (s.copyRaw n tail bs).port y = s.port y := by
  cases y <;> simp [State.port]

@[simp] theorem State.copyRaw_chan (s : State) (n : Fin 20) (tail : Bool) (bs : List Byte) (k : Fin 20) :
    (s.copyRaw n tail bs).chan k = s.chan k := by
  simp [State.chan]

@[simp] theorem State.announceRefusal_frame (s : State) (n : Fin 20) (wseq why : Nat) :
    (s.announceRefusal n wseq why).pending = s.pending ∧ (s.announceRefusal n wseq why).now = s.now ∧
    (s.announceRefusal n wseq why).freeCtr = s.freeCtr ∧ (s.announceRefusal n wseq why).ch = s.ch ∧
    (s.announceRefusal n wseq why).pA = s.pA ∧ (s.announceRefusal n wseq why).pB = s.pB ∧
    (s.announceRefusal n wseq why).mem = s.mem ∧ (s.announceRefusal n wseq why).tansy = s.tansy ∧
    (s.announceRefusal n wseq why).link = s.link ∧ (s.announceRefusal n wseq why).arq = s.arq ∧
    (s.announceRefusal n wseq why).time = s.time ∧ (s.announceRefusal n wseq why).od = s.od ∧
    (s.announceRefusal n wseq why).yar = s.yar ∧ (s.announceRefusal n wseq why).upd = s.upd ∧
    (s.announceRefusal n wseq why).rst = s.rst := by
  unfold State.announceRefusal
  repeat' split
  all_goals simp

@[simp] theorem State.announceRefusal_port (s : State) (n : Fin 20) (wseq why : Nat) (y : Port) :
    (s.announceRefusal n wseq why).port y = s.port y := by
  cases y <;> simp [State.port]

@[simp] theorem State.announceRefusal_chan (s : State) (n : Fin 20) (wseq why : Nat) (k : Fin 20) :
    (s.announceRefusal n wseq why).chan k = s.chan k := by
  simp [State.chan]

@[simp] theorem State.countStateRefused_frame (s : State) (n : Fin 20) (x : Option Port) :
    (s.countStateRefused n x).pending = s.pending ∧ (s.countStateRefused n x).now = s.now ∧
    (s.countStateRefused n x).freeCtr = s.freeCtr ∧ (s.countStateRefused n x).mem = s.mem ∧
    (s.countStateRefused n x).tansy = s.tansy ∧ (s.countStateRefused n x).link = s.link ∧
    (s.countStateRefused n x).arq = s.arq ∧ (s.countStateRefused n x).time = s.time ∧
    (s.countStateRefused n x).twin = s.twin ∧ (s.countStateRefused n x).od = s.od ∧
    (s.countStateRefused n x).yar = s.yar ∧ (s.countStateRefused n x).upd = s.upd ∧
    (s.countStateRefused n x).rst = s.rst ∧ (s.countStateRefused n x).pwr = s.pwr := by
  unfold State.countStateRefused
  try dsimp only
  repeat' split
  all_goals simp

@[simp] theorem State.writeWord_frame (s : State) (n : Fin 20) (bs : List Byte) :
    (s.writeWord n bs).pending = s.pending ∧ (s.writeWord n bs).now = s.now ∧
    (s.writeWord n bs).freeCtr = s.freeCtr ∧ (s.writeWord n bs).pA = s.pA ∧ (s.writeWord n bs).pB = s.pB ∧
    (s.writeWord n bs).link = s.link ∧ (s.writeWord n bs).arq = s.arq ∧ (s.writeWord n bs).time = s.time ∧
    (s.writeWord n bs).twin = s.twin ∧ (s.writeWord n bs).od = s.od ∧ (s.writeWord n bs).yar = s.yar ∧
    (s.writeWord n bs).upd = s.upd ∧ (s.writeWord n bs).rst = s.rst ∧ (s.writeWord n bs).pwr = s.pwr := by
  unfold State.writeWord
  try dsimp only
  all_goals simp

@[simp] theorem State.writeWord_port (s : State) (n : Fin 20) (bs : List Byte) (y : Port) :
    (s.writeWord n bs).port y = s.port y := by
  cases y <;> simp [State.port]

@[simp] theorem State.strict_frame (s : State) (rank : Nat) (f : TxFrame) :
    (s.strict rank f).pending = s.pending ∧ (s.strict rank f).now = s.now ∧ (s.strict rank f).freeCtr = s.freeCtr ∧
    (s.strict rank f).ch = s.ch ∧ (s.strict rank f).pA = s.pA ∧ (s.strict rank f).pB = s.pB ∧
    (s.strict rank f).mem = s.mem ∧ (s.strict rank f).tansy = s.tansy ∧ (s.strict rank f).arq = s.arq ∧
    (s.strict rank f).time = s.time ∧ (s.strict rank f).twin = s.twin ∧ (s.strict rank f).od = s.od ∧
    (s.strict rank f).yar = s.yar ∧ (s.strict rank f).upd = s.upd ∧ (s.strict rank f).rst = s.rst ∧
    (s.strict rank f).pwr = s.pwr := by
  unfold State.strict
  all_goals simp

@[simp] theorem State.strict_port (s : State) (rank : Nat) (f : TxFrame) (y : Port) :
    (s.strict rank f).port y = s.port y := by
  cases y <;> simp [State.port]

@[simp] theorem State.strict_chan (s : State) (rank : Nat) (f : TxFrame) (k : Fin 20) :
    (s.strict rank f).chan k = s.chan k := by
  simp [State.chan]

@[simp] theorem State.transmit_frame (s : State) (f : TxFrame) :
    (s.transmit f).pending = s.pending ∧ (s.transmit f).now = s.now ∧ (s.transmit f).freeCtr = s.freeCtr ∧
    (s.transmit f).ch = s.ch ∧ (s.transmit f).pA = s.pA ∧ (s.transmit f).pB = s.pB ∧ (s.transmit f).mem = s.mem ∧
    (s.transmit f).tansy = s.tansy ∧ (s.transmit f).arq = s.arq ∧ (s.transmit f).time = s.time ∧
    (s.transmit f).twin = s.twin ∧ (s.transmit f).od = s.od ∧ (s.transmit f).yar = s.yar ∧
    (s.transmit f).upd = s.upd ∧ (s.transmit f).rst = s.rst ∧ (s.transmit f).pwr = s.pwr := by
  unfold State.transmit
  all_goals simp

@[simp] theorem State.transmit_port (s : State) (f : TxFrame) (y : Port) :
    (s.transmit f).port y = s.port y := by
  cases y <;> simp [State.port]

@[simp] theorem State.transmit_chan (s : State) (f : TxFrame) (k : Fin 20) :
    (s.transmit f).chan k = s.chan k := by
  simp [State.chan]

@[simp] theorem State.refreshMgmt_frame (s : State) :
    (s.refreshMgmt).pending = s.pending ∧ (s.refreshMgmt).now = s.now ∧ (s.refreshMgmt).freeCtr = s.freeCtr ∧
    (s.refreshMgmt).ch = s.ch ∧ (s.refreshMgmt).pA = s.pA ∧ (s.refreshMgmt).pB = s.pB ∧
    (s.refreshMgmt).mem = s.mem ∧ (s.refreshMgmt).tansy = s.tansy ∧ (s.refreshMgmt).arq = s.arq ∧
    (s.refreshMgmt).time = s.time ∧ (s.refreshMgmt).twin = s.twin ∧ (s.refreshMgmt).od = s.od ∧
    (s.refreshMgmt).yar = s.yar ∧ (s.refreshMgmt).upd = s.upd ∧ (s.refreshMgmt).rst = s.rst ∧
    (s.refreshMgmt).pwr = s.pwr := by
  unfold State.refreshMgmt
  try dsimp only
  repeat' split
  all_goals simp

@[simp] theorem State.refreshMgmt_port (s : State) (y : Port) :
    (s.refreshMgmt).port y = s.port y := by
  cases y <;> simp [State.port]

@[simp] theorem State.refreshMgmt_chan (s : State) (k : Fin 20) :
    (s.refreshMgmt).chan k = s.chan k := by
  simp [State.chan]

@[simp] theorem State.queueMgmt_frame (s : State) (addr svc reqseq : Nat) (body : List Byte) :
    (s.queueMgmt addr svc reqseq body).pending = s.pending ∧ (s.queueMgmt addr svc reqseq body).now = s.now ∧
    (s.queueMgmt addr svc reqseq body).freeCtr = s.freeCtr ∧ (s.queueMgmt addr svc reqseq body).ch = s.ch ∧
    (s.queueMgmt addr svc reqseq body).pA = s.pA ∧ (s.queueMgmt addr svc reqseq body).pB = s.pB ∧
    (s.queueMgmt addr svc reqseq body).mem = s.mem ∧ (s.queueMgmt addr svc reqseq body).tansy = s.tansy ∧
    (s.queueMgmt addr svc reqseq body).arq = s.arq ∧ (s.queueMgmt addr svc reqseq body).time = s.time ∧
    (s.queueMgmt addr svc reqseq body).twin = s.twin ∧ (s.queueMgmt addr svc reqseq body).od = s.od ∧
    (s.queueMgmt addr svc reqseq body).yar = s.yar ∧ (s.queueMgmt addr svc reqseq body).upd = s.upd ∧
    (s.queueMgmt addr svc reqseq body).rst = s.rst ∧ (s.queueMgmt addr svc reqseq body).pwr = s.pwr := by
  unfold State.queueMgmt
  all_goals simp

@[simp] theorem State.queueMgmt_port (s : State) (addr svc reqseq : Nat) (body : List Byte) (y : Port) :
    (s.queueMgmt addr svc reqseq body).port y = s.port y := by
  cases y <;> simp [State.port]

@[simp] theorem State.queueMgmt_chan (s : State) (addr svc reqseq : Nat) (body : List Byte) (k : Fin 20) :
    (s.queueMgmt addr svc reqseq body).chan k = s.chan k := by
  simp [State.chan]

@[simp] theorem State.releaseEntry_frame (s : State) (e : WinEntry) :
    (s.releaseEntry e).pending = s.pending ∧ (s.releaseEntry e).now = s.now ∧
    (s.releaseEntry e).freeCtr = s.freeCtr ∧ (s.releaseEntry e).pA = s.pA ∧ (s.releaseEntry e).pB = s.pB ∧
    (s.releaseEntry e).link = s.link ∧ (s.releaseEntry e).time = s.time ∧ (s.releaseEntry e).od = s.od ∧
    (s.releaseEntry e).yar = s.yar ∧ (s.releaseEntry e).upd = s.upd ∧ (s.releaseEntry e).rst = s.rst := by
  unfold State.releaseEntry
  try dsimp only
  repeat' split
  all_goals simp

@[simp] theorem State.releaseEntry_port (s : State) (e : WinEntry) (y : Port) :
    (s.releaseEntry e).port y = s.port y := by
  cases y <;> simp [State.port]

@[simp] theorem State.mailboxReply_frame (s : State) (addr svc reqseq : Nat) (data mac : List Byte) :
    (s.mailboxReply addr svc reqseq data mac).pending = s.pending ∧
    (s.mailboxReply addr svc reqseq data mac).now = s.now ∧
    (s.mailboxReply addr svc reqseq data mac).freeCtr = s.freeCtr ∧
    (s.mailboxReply addr svc reqseq data mac).ch = s.ch ∧ (s.mailboxReply addr svc reqseq data mac).pA = s.pA ∧
    (s.mailboxReply addr svc reqseq data mac).pB = s.pB ∧ (s.mailboxReply addr svc reqseq data mac).mem = s.mem ∧
    (s.mailboxReply addr svc reqseq data mac).tansy = s.tansy ∧
    (s.mailboxReply addr svc reqseq data mac).link = s.link ∧
    (s.mailboxReply addr svc reqseq data mac).arq = s.arq ∧
    (s.mailboxReply addr svc reqseq data mac).time = s.time ∧
    (s.mailboxReply addr svc reqseq data mac).twin = s.twin ∧
    (s.mailboxReply addr svc reqseq data mac).yar = s.yar ∧ (s.mailboxReply addr svc reqseq data mac).upd = s.upd ∧
    (s.mailboxReply addr svc reqseq data mac).rst = s.rst ∧ (s.mailboxReply addr svc reqseq data mac).pwr = s.pwr := by
  unfold State.mailboxReply
  try dsimp only
  split
  all_goals simp

@[simp] theorem State.mailboxReply_port (s : State) (addr svc reqseq : Nat) (data mac : List Byte) (y : Port) :
    (s.mailboxReply addr svc reqseq data mac).port y = s.port y := by
  cases y <;> simp [State.port]

@[simp] theorem State.mailboxReply_chan (s : State) (addr svc reqseq : Nat) (data mac : List Byte) (k : Fin 20) :
    (s.mailboxReply addr svc reqseq data mac).chan k = s.chan k := by
  simp [State.chan]

@[simp] theorem State.forwardAbort_frame (s : State) (f : FwdReq) (abort : Nat) :
    (s.forwardAbort f abort).pending = s.pending ∧
    (s.forwardAbort f abort).now = s.now ∧
    (s.forwardAbort f abort).freeCtr = s.freeCtr ∧
    (s.forwardAbort f abort).ch = s.ch ∧
    (s.forwardAbort f abort).pA = s.pA ∧
    (s.forwardAbort f abort).pB = s.pB ∧
    (s.forwardAbort f abort).mem = s.mem ∧
    (s.forwardAbort f abort).tansy = s.tansy ∧
    (s.forwardAbort f abort).link = s.link ∧
    (s.forwardAbort f abort).arq = s.arq ∧
    (s.forwardAbort f abort).time = s.time ∧
    (s.forwardAbort f abort).twin = s.twin ∧
    (s.forwardAbort f abort).yar = s.yar ∧
    (s.forwardAbort f abort).upd = s.upd ∧
    (s.forwardAbort f abort).rst = s.rst ∧
    (s.forwardAbort f abort).pwr = s.pwr := by
  unfold State.forwardAbort
  try dsimp only
  all_goals simp

@[simp] theorem State.forwardAbort_port (s : State) (f : FwdReq) (abort : Nat) (y : Port) :
    (s.forwardAbort f abort).port y = s.port y := by
  cases y <;> simp [State.port]

@[simp] theorem State.forwardAbort_chan (s : State) (f : FwdReq) (abort : Nat) (k : Fin 20) :
    (s.forwardAbort f abort).chan k = s.chan k := by
  simp [State.chan]

@[simp] theorem State.sendStrict_frame (s : State) (i : StrictItem) :
    (s.sendStrict i).pending = s.pending ∧ (s.sendStrict i).now = s.now ∧ (s.sendStrict i).freeCtr = s.freeCtr ∧
    (s.sendStrict i).ch = s.ch ∧ (s.sendStrict i).pA = s.pA ∧ (s.sendStrict i).pB = s.pB ∧
    (s.sendStrict i).mem = s.mem ∧ (s.sendStrict i).tansy = s.tansy ∧ (s.sendStrict i).arq = s.arq ∧
    (s.sendStrict i).time = s.time ∧ (s.sendStrict i).twin = s.twin ∧ (s.sendStrict i).od = s.od ∧
    (s.sendStrict i).yar = s.yar ∧ (s.sendStrict i).upd = s.upd ∧ (s.sendStrict i).rst = s.rst ∧
    (s.sendStrict i).pwr = s.pwr := by
  unfold State.sendStrict
  dsimp only
  split
  all_goals simp

@[simp] theorem State.sendStrict_port (s : State) (i : StrictItem) (y : Port) :
    (s.sendStrict i).port y = s.port y := by
  cases y <;> simp [State.port]

@[simp] theorem State.sendStrict_chan (s : State) (i : StrictItem) (k : Fin 20) :
    (s.sendStrict i).chan k = s.chan k := by
  simp [State.chan]

@[simp] theorem State.drainTo_frame (s : State) (type fuel : Nat) :
    (s.drainTo type fuel).pending = s.pending ∧ (s.drainTo type fuel).now = s.now ∧
    (s.drainTo type fuel).freeCtr = s.freeCtr ∧ (s.drainTo type fuel).ch = s.ch ∧ (s.drainTo type fuel).pA = s.pA ∧
    (s.drainTo type fuel).pB = s.pB ∧ (s.drainTo type fuel).mem = s.mem ∧ (s.drainTo type fuel).tansy = s.tansy ∧
    (s.drainTo type fuel).arq = s.arq ∧ (s.drainTo type fuel).time = s.time ∧ (s.drainTo type fuel).twin = s.twin ∧
    (s.drainTo type fuel).od = s.od ∧ (s.drainTo type fuel).yar = s.yar ∧ (s.drainTo type fuel).upd = s.upd ∧
    (s.drainTo type fuel).rst = s.rst ∧ (s.drainTo type fuel).pwr = s.pwr := by
  induction fuel generalizing s with
  | zero => simp [State.drainTo]
  | succ k ih =>
    unfold State.drainTo
    repeat' split
    all_goals simp [ih]

@[simp] theorem State.drainTo_port (s : State) (type fuel : Nat) (y : Port) :
    (s.drainTo type fuel).port y = s.port y := by
  cases y <;> simp [State.port]

@[simp] theorem State.drainTo_chan (s : State) (type fuel : Nat) (k : Fin 20) :
    (s.drainTo type fuel).chan k = s.chan k := by
  simp [State.chan]

@[simp] theorem State.sendCopies_frame (s : State) (f : TxFrame) :
    (s.sendCopies f).pending = s.pending ∧ (s.sendCopies f).now = s.now ∧ (s.sendCopies f).freeCtr = s.freeCtr ∧
    (s.sendCopies f).ch = s.ch ∧ (s.sendCopies f).pA = s.pA ∧ (s.sendCopies f).pB = s.pB ∧
    (s.sendCopies f).mem = s.mem ∧ (s.sendCopies f).tansy = s.tansy ∧ (s.sendCopies f).arq = s.arq ∧
    (s.sendCopies f).time = s.time ∧ (s.sendCopies f).twin = s.twin ∧ (s.sendCopies f).od = s.od ∧
    (s.sendCopies f).yar = s.yar ∧ (s.sendCopies f).upd = s.upd ∧ (s.sendCopies f).rst = s.rst ∧
    (s.sendCopies f).pwr = s.pwr := by
  simp [State.sendCopies]

@[simp] theorem State.sendCopies_port (s : State) (f : TxFrame) (y : Port) :
    (s.sendCopies f).port y = s.port y := by
  cases y <;> simp [State.port]

@[simp] theorem State.sendCopies_chan (s : State) (f : TxFrame) (k : Fin 20) :
    (s.sendCopies f).chan k = s.chan k := by
  simp [State.chan]

@[simp] theorem State.bye_frame (s : State) (reason : Nat) :
    (s.bye reason).pending = s.pending ∧ (s.bye reason).now = s.now ∧ (s.bye reason).freeCtr = s.freeCtr ∧
    (s.bye reason).ch = s.ch ∧ (s.bye reason).pA = s.pA ∧ (s.bye reason).pB = s.pB ∧ (s.bye reason).mem = s.mem ∧
    (s.bye reason).tansy = s.tansy ∧ (s.bye reason).arq = s.arq ∧ (s.bye reason).time = s.time ∧
    (s.bye reason).twin = s.twin ∧ (s.bye reason).od = s.od ∧ (s.bye reason).yar = s.yar ∧
    (s.bye reason).upd = s.upd ∧ (s.bye reason).rst = s.rst ∧ (s.bye reason).pwr = s.pwr := by
  unfold State.bye
  try dsimp only
  repeat' split
  all_goals simp

@[simp] theorem State.bye_port (s : State) (reason : Nat) (y : Port) :
    (s.bye reason).port y = s.port y := by
  cases y <;> simp [State.port]

@[simp] theorem State.bye_chan (s : State) (reason : Nat) (k : Fin 20) :
    (s.bye reason).chan k = s.chan k := by
  simp [State.chan]

@[simp] theorem State.enterDetect_frame (s : State) :
    (s.enterDetect).pending = s.pending ∧ (s.enterDetect).now = s.now ∧ (s.enterDetect).ch = s.ch ∧
    (s.enterDetect).pA = s.pA ∧ (s.enterDetect).pB = s.pB ∧ (s.enterDetect).mem = s.mem ∧
    (s.enterDetect).tansy = s.tansy ∧ (s.enterDetect).arq = s.arq ∧ (s.enterDetect).time = s.time ∧
    (s.enterDetect).twin = s.twin ∧ (s.enterDetect).od = s.od ∧ (s.enterDetect).yar = s.yar ∧
    (s.enterDetect).upd = s.upd ∧ (s.enterDetect).rst = s.rst ∧ (s.enterDetect).pwr = s.pwr := by
  unfold State.enterDetect
  try dsimp only
  all_goals simp

@[simp] theorem State.enterDetect_port (s : State) (y : Port) :
    (s.enterDetect).port y = s.port y := by
  cases y <;> simp [State.port]

@[simp] theorem State.enterDetect_chan (s : State) (k : Fin 20) :
    (s.enterDetect).chan k = s.chan k := by
  simp [State.chan]

@[simp] theorem State.modPath_frame (s : State) (p : Path) (f : PathSt → PathSt) :
    (s.modPath p f).pending = s.pending ∧ (s.modPath p f).now = s.now ∧ (s.modPath p f).freeCtr = s.freeCtr ∧
    (s.modPath p f).ch = s.ch ∧ (s.modPath p f).pA = s.pA ∧ (s.modPath p f).pB = s.pB ∧
    (s.modPath p f).mem = s.mem ∧ (s.modPath p f).tansy = s.tansy ∧ (s.modPath p f).link = s.link ∧
    (s.modPath p f).arq = s.arq ∧ (s.modPath p f).time = s.time ∧ (s.modPath p f).twin = s.twin ∧
    (s.modPath p f).yar = s.yar ∧ (s.modPath p f).upd = s.upd ∧ (s.modPath p f).rst = s.rst ∧
    (s.modPath p f).pwr = s.pwr := by
  unfold State.modPath
  repeat' split
  all_goals simp

@[simp] theorem State.modPath_port (s : State) (p : Path) (f : PathSt → PathSt) (y : Port) :
    (s.modPath p f).port y = s.port y := by
  cases y <;> simp [State.port]

@[simp] theorem State.modPath_chan (s : State) (p : Path) (f : PathSt → PathSt) (k : Fin 20) :
    (s.modPath p f).chan k = s.chan k := by
  simp [State.chan]

@[simp] theorem State.reply_frame (s : State) (p : Path) (svc reqseq : Nat) (data mac : List Byte) :
    (s.reply p svc reqseq data mac).pending = s.pending ∧ (s.reply p svc reqseq data mac).now = s.now ∧
    (s.reply p svc reqseq data mac).freeCtr = s.freeCtr ∧ (s.reply p svc reqseq data mac).ch = s.ch ∧
    (s.reply p svc reqseq data mac).pA = s.pA ∧ (s.reply p svc reqseq data mac).pB = s.pB ∧
    (s.reply p svc reqseq data mac).mem = s.mem ∧ (s.reply p svc reqseq data mac).tansy = s.tansy ∧
    (s.reply p svc reqseq data mac).arq = s.arq ∧ (s.reply p svc reqseq data mac).time = s.time ∧
    (s.reply p svc reqseq data mac).twin = s.twin ∧ (s.reply p svc reqseq data mac).yar = s.yar ∧
    (s.reply p svc reqseq data mac).upd = s.upd ∧ (s.reply p svc reqseq data mac).rst = s.rst ∧
    (s.reply p svc reqseq data mac).pwr = s.pwr := by
  unfold State.reply
  repeat' split
  all_goals simp

@[simp] theorem State.reply_port (s : State) (p : Path) (svc reqseq : Nat) (data mac : List Byte) (y : Port) :
    (s.reply p svc reqseq data mac).port y = s.port y := by
  cases y <;> simp [State.port]

@[simp] theorem State.reply_chan (s : State) (p : Path) (svc reqseq : Nat) (data mac : List Byte) (k : Fin 20) :
    (s.reply p svc reqseq data mac).chan k = s.chan k := by
  simp [State.chan]

@[simp] theorem State.authFailed_frame (s : State) (reqseq : Nat) :
    (s.authFailed reqseq).pending = s.pending ∧ (s.authFailed reqseq).now = s.now ∧
    (s.authFailed reqseq).freeCtr = s.freeCtr ∧ (s.authFailed reqseq).ch = s.ch ∧ (s.authFailed reqseq).pA = s.pA ∧
    (s.authFailed reqseq).pB = s.pB ∧ (s.authFailed reqseq).mem = s.mem ∧ (s.authFailed reqseq).tansy = s.tansy ∧
    (s.authFailed reqseq).link = s.link ∧ (s.authFailed reqseq).arq = s.arq ∧ (s.authFailed reqseq).time = s.time ∧
    (s.authFailed reqseq).twin = s.twin ∧ (s.authFailed reqseq).upd = s.upd ∧ (s.authFailed reqseq).rst = s.rst ∧
    (s.authFailed reqseq).pwr = s.pwr := by
  unfold State.authFailed
  try dsimp only
  repeat' split
  all_goals simp

@[simp] theorem State.authFailed_port (s : State) (reqseq : Nat) (y : Port) :
    (s.authFailed reqseq).port y = s.port y := by
  cases y <;> simp [State.port]

@[simp] theorem State.authFailed_chan (s : State) (reqseq : Nat) (k : Fin 20) :
    (s.authFailed reqseq).chan k = s.chan k := by
  simp [State.chan]

@[simp] theorem State.dropSnap_frame (s : State) (p : Path) (index sub : Nat) :
    (s.dropSnap p index sub).pending = s.pending ∧ (s.dropSnap p index sub).now = s.now ∧
    (s.dropSnap p index sub).freeCtr = s.freeCtr ∧ (s.dropSnap p index sub).ch = s.ch ∧
    (s.dropSnap p index sub).pA = s.pA ∧ (s.dropSnap p index sub).pB = s.pB ∧
    (s.dropSnap p index sub).mem = s.mem ∧ (s.dropSnap p index sub).tansy = s.tansy ∧
    (s.dropSnap p index sub).link = s.link ∧ (s.dropSnap p index sub).arq = s.arq ∧
    (s.dropSnap p index sub).time = s.time ∧ (s.dropSnap p index sub).twin = s.twin ∧
    (s.dropSnap p index sub).yar = s.yar ∧ (s.dropSnap p index sub).upd = s.upd ∧
    (s.dropSnap p index sub).rst = s.rst ∧ (s.dropSnap p index sub).pwr = s.pwr := by
  unfold State.dropSnap
  all_goals simp

@[simp] theorem State.dropSnap_port (s : State) (p : Path) (index sub : Nat) (y : Port) :
    (s.dropSnap p index sub).port y = s.port y := by
  cases y <;> simp [State.port]

@[simp] theorem State.dropSnap_chan (s : State) (p : Path) (index sub : Nat) (k : Fin 20) :
    (s.dropSnap p index sub).chan k = s.chan k := by
  simp [State.chan]

@[simp] theorem State.endSession_frame (s : State) (p : Path) :
    (s.endSession p).pending = s.pending ∧ (s.endSession p).now = s.now ∧ (s.endSession p).freeCtr = s.freeCtr ∧
    (s.endSession p).ch = s.ch ∧ (s.endSession p).pA = s.pA ∧ (s.endSession p).pB = s.pB ∧
    (s.endSession p).mem = s.mem ∧ (s.endSession p).tansy = s.tansy ∧ (s.endSession p).link = s.link ∧
    (s.endSession p).arq = s.arq ∧ (s.endSession p).time = s.time ∧ (s.endSession p).twin = s.twin ∧
    (s.endSession p).yar = s.yar ∧ (s.endSession p).upd = s.upd ∧ (s.endSession p).rst = s.rst ∧
    (s.endSession p).pwr = s.pwr := by
  unfold State.endSession
  all_goals simp

@[simp] theorem State.endSession_port (s : State) (p : Path) (y : Port) :
    (s.endSession p).port y = s.port y := by
  cases y <;> simp [State.port]

@[simp] theorem State.endSession_chan (s : State) (p : Path) (k : Fin 20) :
    (s.endSession p).chan k = s.chan k := by
  simp [State.chan]

@[simp] theorem State.complete_frame (s : State) (p : Path) (r : Req) (a : Reply) (data mac : List Byte) :
    (s.complete p r a data mac).pending = s.pending ∧ (s.complete p r a data mac).now = s.now ∧
    (s.complete p r a data mac).freeCtr = s.freeCtr ∧ (s.complete p r a data mac).ch = s.ch ∧
    (s.complete p r a data mac).pA = s.pA ∧ (s.complete p r a data mac).pB = s.pB ∧
    (s.complete p r a data mac).mem = s.mem ∧ (s.complete p r a data mac).tansy = s.tansy ∧
    (s.complete p r a data mac).arq = s.arq ∧ (s.complete p r a data mac).time = s.time ∧
    (s.complete p r a data mac).twin = s.twin ∧ (s.complete p r a data mac).yar = s.yar ∧
    (s.complete p r a data mac).upd = s.upd ∧ (s.complete p r a data mac).rst = s.rst ∧
    (s.complete p r a data mac).pwr = s.pwr := by
  unfold State.complete
  try dsimp only
  repeat' split
  all_goals simp

@[simp] theorem State.complete_port (s : State) (p : Path) (r : Req) (a : Reply) (data mac : List Byte) (y : Port) :
    (s.complete p r a data mac).port y = s.port y := by
  cases y <;> simp [State.port]

@[simp] theorem State.complete_chan (s : State) (p : Path) (r : Req) (a : Reply) (data mac : List Byte) (k : Fin 20) :
    (s.complete p r a data mac).chan k = s.chan k := by
  simp [State.chan]

@[simp] theorem State.noRoute_frame (s : State) :
    (s.noRoute).pending = s.pending ∧ (s.noRoute).now = s.now ∧ (s.noRoute).freeCtr = s.freeCtr ∧
    (s.noRoute).ch = s.ch ∧ (s.noRoute).pA = s.pA ∧ (s.noRoute).pB = s.pB ∧ (s.noRoute).mem = s.mem ∧
    (s.noRoute).tansy = s.tansy ∧ (s.noRoute).arq = s.arq ∧ (s.noRoute).time = s.time ∧ (s.noRoute).twin = s.twin ∧
    (s.noRoute).od = s.od ∧ (s.noRoute).yar = s.yar ∧ (s.noRoute).upd = s.upd ∧ (s.noRoute).rst = s.rst ∧
    (s.noRoute).pwr = s.pwr := by
  unfold State.noRoute
  all_goals simp

@[simp] theorem State.noRoute_port (s : State) (y : Port) :
    (s.noRoute).port y = s.port y := by
  cases y <;> simp [State.port]

@[simp] theorem State.noRoute_chan (s : State) (k : Fin 20) :
    (s.noRoute).chan k = s.chan k := by
  simp [State.chan]

@[simp] theorem State.commitLog_frame (s : State) :
    (s.commitLog).pending = s.pending ∧ (s.commitLog).now = s.now ∧ (s.commitLog).freeCtr = s.freeCtr ∧
    (s.commitLog).ch = s.ch ∧ (s.commitLog).pA = s.pA ∧ (s.commitLog).pB = s.pB ∧ (s.commitLog).mem = s.mem ∧
    (s.commitLog).link = s.link ∧ (s.commitLog).arq = s.arq ∧ (s.commitLog).time = s.time ∧
    (s.commitLog).twin = s.twin ∧ (s.commitLog).od = s.od ∧ (s.commitLog).upd = s.upd ∧ (s.commitLog).rst = s.rst ∧
    (s.commitLog).pwr = s.pwr := by
  unfold State.commitLog
  try dsimp only
  repeat' split
  all_goals simp

@[simp] theorem State.commitLog_port (s : State) (y : Port) :
    (s.commitLog).port y = s.port y := by
  cases y <;> simp [State.port]

@[simp] theorem State.commitLog_chan (s : State) (j : Fin 20) :
    (s.commitLog).chan j = s.chan j := by
  simp [State.chan]

@[simp] theorem State.noteWclk_frame (s : State) (x : Port) :
    (s.noteWclk x).pending = s.pending ∧ (s.noteWclk x).now = s.now ∧ (s.noteWclk x).freeCtr = s.freeCtr ∧
    (s.noteWclk x).ch = s.ch ∧ (s.noteWclk x).mem = s.mem ∧ (s.noteWclk x).tansy = s.tansy ∧
    (s.noteWclk x).link = s.link ∧ (s.noteWclk x).arq = s.arq ∧ (s.noteWclk x).time = s.time ∧
    (s.noteWclk x).twin = s.twin ∧ (s.noteWclk x).od = s.od ∧ (s.noteWclk x).yar = s.yar ∧
    (s.noteWclk x).upd = s.upd ∧ (s.noteWclk x).rst = s.rst ∧ (s.noteWclk x).pwr = s.pwr := by
  unfold State.noteWclk
  try dsimp only
  repeat' split
  all_goals simp

@[simp] theorem State.noteWclk_chan (s : State) (x : Port) (j : Fin 20) :
    (s.noteWclk x).chan j = s.chan j := by
  simp [State.chan]

@[simp] theorem State.noteRclk_frame (s : State) (x : Port) :
    (s.noteRclk x).pending = s.pending ∧ (s.noteRclk x).now = s.now ∧ (s.noteRclk x).freeCtr = s.freeCtr ∧
    (s.noteRclk x).ch = s.ch ∧ (s.noteRclk x).mem = s.mem ∧ (s.noteRclk x).tansy = s.tansy ∧
    (s.noteRclk x).link = s.link ∧ (s.noteRclk x).arq = s.arq ∧ (s.noteRclk x).time = s.time ∧
    (s.noteRclk x).twin = s.twin ∧ (s.noteRclk x).od = s.od ∧ (s.noteRclk x).yar = s.yar ∧
    (s.noteRclk x).upd = s.upd ∧ (s.noteRclk x).rst = s.rst ∧ (s.noteRclk x).pwr = s.pwr := by
  unfold State.noteRclk
  try dsimp only
  repeat' split
  all_goals simp

@[simp] theorem State.noteRclk_chan (s : State) (x : Port) (j : Fin 20) :
    (s.noteRclk x).chan j = s.chan j := by
  simp [State.chan]

@[simp] theorem State.startTraining_frame (s : State) :
    (s.startTraining).pending = s.pending ∧ (s.startTraining).now = s.now ∧ (s.startTraining).freeCtr = s.freeCtr ∧
    (s.startTraining).ch = s.ch ∧ (s.startTraining).pA = s.pA ∧ (s.startTraining).pB = s.pB ∧
    (s.startTraining).mem = s.mem ∧ (s.startTraining).tansy = s.tansy ∧ (s.startTraining).link = s.link ∧
    (s.startTraining).arq = s.arq ∧ (s.startTraining).time = s.time ∧ (s.startTraining).od = s.od ∧
    (s.startTraining).yar = s.yar ∧ (s.startTraining).upd = s.upd ∧ (s.startTraining).rst = s.rst ∧
    (s.startTraining).pwr = s.pwr := by
  unfold State.startTraining
  try dsimp only
  repeat' split
  all_goals simp

@[simp] theorem State.startTraining_port (s : State) (y : Port) :
    (s.startTraining).port y = s.port y := by
  cases y <;> simp [State.port]

@[simp] theorem State.startTraining_chan (s : State) (j : Fin 20) :
    (s.startTraining).chan j = s.chan j := by
  simp [State.chan]

@[simp] theorem State.sendStatus_frame (s : State) :
    (s.sendStatus).pending = s.pending ∧ (s.sendStatus).now = s.now ∧ (s.sendStatus).freeCtr = s.freeCtr ∧
    (s.sendStatus).ch = s.ch ∧ (s.sendStatus).pA = s.pA ∧ (s.sendStatus).pB = s.pB ∧ (s.sendStatus).mem = s.mem ∧
    (s.sendStatus).tansy = s.tansy ∧ (s.sendStatus).link = s.link ∧ (s.sendStatus).arq = s.arq ∧
    (s.sendStatus).time = s.time ∧ (s.sendStatus).od = s.od ∧ (s.sendStatus).yar = s.yar ∧
    (s.sendStatus).upd = s.upd ∧ (s.sendStatus).rst = s.rst := by
  simp [State.sendStatus]

@[simp] theorem State.sendStatus_port (s : State) (y : Port) :
    (s.sendStatus).port y = s.port y := by
  cases y <;> simp [State.port]

@[simp] theorem State.sendStatus_chan (s : State) (j : Fin 20) :
    (s.sendStatus).chan j = s.chan j := by
  simp [State.chan]

@[simp] theorem State.sendSnap_frame (s : State) :
    (s.sendSnap).pending = s.pending ∧ (s.sendSnap).now = s.now ∧ (s.sendSnap).freeCtr = s.freeCtr ∧
    (s.sendSnap).ch = s.ch ∧ (s.sendSnap).pA = s.pA ∧ (s.sendSnap).pB = s.pB ∧ (s.sendSnap).mem = s.mem ∧
    (s.sendSnap).tansy = s.tansy ∧ (s.sendSnap).link = s.link ∧ (s.sendSnap).arq = s.arq ∧
    (s.sendSnap).time = s.time ∧ (s.sendSnap).od = s.od ∧ (s.sendSnap).yar = s.yar ∧ (s.sendSnap).upd = s.upd ∧
    (s.sendSnap).rst = s.rst := by
  unfold State.sendSnap
  split
  all_goals simp

@[simp] theorem State.sendSnap_port (s : State) (y : Port) :
    (s.sendSnap).port y = s.port y := by
  cases y <;> simp [State.port]

@[simp] theorem State.sendSnap_chan (s : State) (j : Fin 20) :
    (s.sendSnap).chan j = s.chan j := by
  simp [State.chan]

@[simp] theorem State.statusAnew_frame (s : State) :
    (s.statusAnew).pending = s.pending ∧ (s.statusAnew).now = s.now ∧ (s.statusAnew).freeCtr = s.freeCtr ∧
    (s.statusAnew).ch = s.ch ∧ (s.statusAnew).pA = s.pA ∧ (s.statusAnew).pB = s.pB ∧ (s.statusAnew).mem = s.mem ∧
    (s.statusAnew).tansy = s.tansy ∧ (s.statusAnew).link = s.link ∧ (s.statusAnew).arq = s.arq ∧
    (s.statusAnew).time = s.time ∧ (s.statusAnew).od = s.od ∧ (s.statusAnew).yar = s.yar ∧
    (s.statusAnew).upd = s.upd ∧ (s.statusAnew).rst = s.rst := by
  unfold State.statusAnew
  split
  all_goals simp

@[simp] theorem State.statusAnew_port (s : State) (y : Port) :
    (s.statusAnew).port y = s.port y := by
  cases y <;> simp [State.port]

@[simp] theorem State.statusAnew_chan (s : State) (j : Fin 20) :
    (s.statusAnew).chan j = s.chan j := by
  simp [State.chan]

@[simp] theorem State.beginSave_frame (s : State) (vals : List Saved) :
    (s.beginSave vals).pending = s.pending ∧ (s.beginSave vals).now = s.now ∧
    (s.beginSave vals).freeCtr = s.freeCtr ∧ (s.beginSave vals).ch = s.ch ∧ (s.beginSave vals).pA = s.pA ∧
    (s.beginSave vals).pB = s.pB ∧ (s.beginSave vals).mem = s.mem ∧ (s.beginSave vals).tansy = s.tansy ∧
    (s.beginSave vals).link = s.link ∧ (s.beginSave vals).arq = s.arq ∧ (s.beginSave vals).time = s.time ∧
    (s.beginSave vals).twin = s.twin ∧ (s.beginSave vals).yar = s.yar ∧ (s.beginSave vals).rst = s.rst ∧
    (s.beginSave vals).pwr = s.pwr := by
  simp [State.beginSave]

@[simp] theorem State.beginSave_port (s : State) (vals : List Saved) (y : Port) :
    (s.beginSave vals).port y = s.port y := by
  cases y <;> simp [State.port]

@[simp] theorem State.beginSave_chan (s : State) (vals : List Saved) (j : Fin 20) :
    (s.beginSave vals).chan j = s.chan j := by
  simp [State.chan]

@[simp] theorem State.endSave_frame (s : State) (slot : Nat) (vals : List Saved) :
    (s.endSave slot vals).pending = s.pending ∧ (s.endSave slot vals).now = s.now ∧
    (s.endSave slot vals).freeCtr = s.freeCtr ∧ (s.endSave slot vals).ch = s.ch ∧ (s.endSave slot vals).pA = s.pA ∧
    (s.endSave slot vals).pB = s.pB ∧ (s.endSave slot vals).mem = s.mem ∧ (s.endSave slot vals).tansy = s.tansy ∧
    (s.endSave slot vals).link = s.link ∧ (s.endSave slot vals).arq = s.arq ∧ (s.endSave slot vals).time = s.time ∧
    (s.endSave slot vals).twin = s.twin ∧ (s.endSave slot vals).yar = s.yar ∧ (s.endSave slot vals).rst = s.rst ∧
    (s.endSave slot vals).pwr = s.pwr := by
  simp [State.endSave]

@[simp] theorem State.endSave_port (s : State) (slot : Nat) (vals : List Saved) (y : Port) :
    (s.endSave slot vals).port y = s.port y := by
  cases y <;> simp [State.port]

@[simp] theorem State.endSave_chan (s : State) (slot : Nat) (vals : List Saved) (j : Fin 20) :
    (s.endSave slot vals).chan j = s.chan j := by
  simp [State.chan]

@[simp] theorem State.eraseStore_frame (s : State) :
    (s.eraseStore).pending = s.pending ∧ (s.eraseStore).now = s.now ∧ (s.eraseStore).freeCtr = s.freeCtr ∧
    (s.eraseStore).ch = s.ch ∧ (s.eraseStore).pA = s.pA ∧ (s.eraseStore).pB = s.pB ∧ (s.eraseStore).mem = s.mem ∧
    (s.eraseStore).tansy = s.tansy ∧ (s.eraseStore).link = s.link ∧ (s.eraseStore).arq = s.arq ∧
    (s.eraseStore).time = s.time ∧ (s.eraseStore).twin = s.twin ∧ (s.eraseStore).yar = s.yar ∧
    (s.eraseStore).rst = s.rst ∧ (s.eraseStore).pwr = s.pwr := by
  simp [State.eraseStore]

@[simp] theorem State.eraseStore_port (s : State) (y : Port) :
    (s.eraseStore).port y = s.port y := by
  cases y <;> simp [State.port]

@[simp] theorem State.eraseStore_chan (s : State) (j : Fin 20) :
    (s.eraseStore).chan j = s.chan j := by
  simp [State.chan]

@[simp] theorem State.blowRollback_frame (s : State) (readBack : Bool) :
    (s.blowRollback readBack).pending = s.pending ∧ (s.blowRollback readBack).now = s.now ∧
    (s.blowRollback readBack).freeCtr = s.freeCtr ∧ (s.blowRollback readBack).ch = s.ch ∧
    (s.blowRollback readBack).pA = s.pA ∧ (s.blowRollback readBack).pB = s.pB ∧
    (s.blowRollback readBack).mem = s.mem ∧ (s.blowRollback readBack).tansy = s.tansy ∧
    (s.blowRollback readBack).link = s.link ∧ (s.blowRollback readBack).arq = s.arq ∧
    (s.blowRollback readBack).time = s.time ∧ (s.blowRollback readBack).twin = s.twin ∧
    (s.blowRollback readBack).od = s.od ∧ (s.blowRollback readBack).rst = s.rst ∧
    (s.blowRollback readBack).pwr = s.pwr := by
  unfold State.blowRollback
  split
  all_goals simp

@[simp] theorem State.blowRollback_port (s : State) (readBack : Bool) (y : Port) :
    (s.blowRollback readBack).port y = s.port y := by
  cases y <;> simp [State.port]

@[simp] theorem State.blowRollback_chan (s : State) (readBack : Bool) (j : Fin 20) :
    (s.blowRollback readBack).chan j = s.chan j := by
  simp [State.chan]

@[simp] theorem State.startTask_frame (s : State) (q : WCtx) (k : TaskKind) :
    (s.startTask q k).pending = s.pending ∧ (s.startTask q k).now = s.now ∧ (s.startTask q k).freeCtr = s.freeCtr ∧
    (s.startTask q k).ch = s.ch ∧ (s.startTask q k).pA = s.pA ∧ (s.startTask q k).pB = s.pB ∧
    (s.startTask q k).mem = s.mem ∧ (s.startTask q k).tansy = s.tansy ∧ (s.startTask q k).link = s.link ∧
    (s.startTask q k).arq = s.arq ∧ (s.startTask q k).time = s.time ∧ (s.startTask q k).twin = s.twin ∧
    (s.startTask q k).yar = s.yar ∧ (s.startTask q k).upd = s.upd ∧ (s.startTask q k).rst = s.rst ∧
    (s.startTask q k).pwr = s.pwr := by
  simp [State.startTask]

@[simp] theorem State.startTask_port (s : State) (q : WCtx) (k : TaskKind) (y : Port) :
    (s.startTask q k).port y = s.port y := by
  cases y <;> simp [State.port]

@[simp] theorem State.startTask_chan (s : State) (q : WCtx) (k : TaskKind) (j : Fin 20) :
    (s.startTask q k).chan j = s.chan j := by
  simp [State.chan]

@[simp] theorem State.endTask_frame (s : State) (k : TaskKind) :
    ((s.endTask k).2).pending = s.pending ∧ ((s.endTask k).2).now = s.now ∧ ((s.endTask k).2).freeCtr = s.freeCtr ∧
    ((s.endTask k).2).ch = s.ch ∧ ((s.endTask k).2).pA = s.pA ∧ ((s.endTask k).2).pB = s.pB ∧
    ((s.endTask k).2).mem = s.mem ∧ ((s.endTask k).2).tansy = s.tansy ∧ ((s.endTask k).2).link = s.link ∧
    ((s.endTask k).2).arq = s.arq ∧ ((s.endTask k).2).time = s.time ∧ ((s.endTask k).2).twin = s.twin ∧
    ((s.endTask k).2).rst = s.rst ∧ ((s.endTask k).2).pwr = s.pwr := by
  unfold State.endTask
  split
  all_goals first | simp | (split <;> simp)

@[simp] theorem State.endTask_port (s : State) (k : TaskKind) (y : Port) :
    ((s.endTask k).2).port y = s.port y := by
  cases y <;> simp [State.port]

@[simp] theorem State.endTask_chan (s : State) (k : TaskKind) (j : Fin 20) :
    ((s.endTask k).2).chan j = s.chan j := by
  simp [State.chan]

@[simp] theorem State.probePort_frame (s : State) (x : Port) :
    (s.probePort x).pending = s.pending ∧ (s.probePort x).now = s.now ∧ (s.probePort x).freeCtr = s.freeCtr ∧
    (s.probePort x).ch = s.ch ∧ (s.probePort x).mem = s.mem ∧ (s.probePort x).tansy = s.tansy ∧
    (s.probePort x).link = s.link ∧ (s.probePort x).arq = s.arq ∧ (s.probePort x).time = s.time ∧
    (s.probePort x).twin = s.twin ∧ (s.probePort x).od = s.od ∧ (s.probePort x).yar = s.yar ∧
    (s.probePort x).upd = s.upd ∧ (s.probePort x).rst = s.rst ∧ (s.probePort x).pwr = s.pwr := by
  unfold State.probePort State.startProbe
  repeat' split
  all_goals simp

@[simp] theorem State.probePort_chan (s : State) (x : Port) (j : Fin 20) :
    (s.probePort x).chan j = s.chan j := by
  simp [State.chan]

/-- What every channel's turn keeps, the walk over the channels keeps. -/
theorem State.forChans_keeps {P : State → Prop} {f : Fin 20 → State → State} (hf : ∀ n s, P s → P (f n s)) {s : State}
    (h : P s) : P (s.forChans f) := by
  unfold State.forChans
  induction List.finRange 20 generalizing s with
  | nil => exact h
  | cons n l ih => exact ih (hf n s h)

/-- A cause bit that has been set stands. -/
theorem State.attn_set (s : State) (x : Port) (bit : Fin 32) :
    ((s.attn x bit.val).port x).attnCause.getLsbD bit.val = true := by
  simp [State.attn]

/-- A beat that the device launches joins the port's beats. -/
theorem State.launch_ret (s : State) (x : Port) (b : Beat) (h : s.drives = true) :
    ((s.launch x b).port x).ret = (s.port x).ret ++ [b] := by
  cases x <;> simp [State.launch, h, State.modPort, State.port]

/-- A request of the mailbox that was executed is recorded as the last one, unless it was answered BUSY (R253). -/
theorem State.complete_last (s : State) (r : Req) (a : Reply) (data mac : List Byte) (h : a.abort ≠ abBusy) :
    (s.complete .mailbox r a data mac).od.mailbox.last = some r.reqseq ∧
    (s.complete .mailbox r a data mac).od.mailbox.lastAbort = a.abort := by
  simp only [State.complete, h, if_false]
  split <;> constructor <;> first | rfl | (simp [State.reply, State.modPath, State.modOd, State.mailboxReply]; split <;> rfl)

end Sys2Proof.Machine
end

