-- ==== Sys2Proof/Laws/Memory.lean ====
section
/-! SUPPORT. The laws of the memory lists: the canonical form is kept, a read after a write gives the value written, and
every other address reads as before; and the same for lanes and words of the array. -/

namespace Sys2Proof.Machine

open Sys2Proof

variable {β : Type} [DecidableEq β]

/-- A list in canonical form from `hi` up is in canonical form from any lower address up. -/
theorem assocWf_mono {z : β} {lo hi : Nat} {m : List (Nat × β)} (h : assocWfFrom z hi m = true) (hl : lo ≤ hi) :
    assocWfFrom z lo m = true := by
  cases m with
  | nil => rfl
  | cons c t =>
    obtain ⟨a, v⟩ := c
    simp only [assocWfFrom, Bool.and_eq_true, decide_eq_true_eq] at h ⊢
    exact ⟨⟨hl.trans h.1.1, h.1.2⟩, h.2⟩

/-- An address below a canonical list reads as unlisted. -/
theorem assocGet_below {z : β} {lo a : Nat} {m : List (Nat × β)} (h : assocWfFrom z lo m = true) (ha : a < lo) :
    assocGet z m a = z := by
  induction m generalizing lo with
  | nil => rfl
  | cons c t ih =>
    obtain ⟨b, v⟩ := c
    simp only [assocWfFrom, Bool.and_eq_true, decide_eq_true_eq] at h
    have hb : b ≠ a := by omega
    simp only [assocGet, hb, if_false]
    exact ih h.2 (by omega)

/-- A store keeps the canonical form. -/
theorem assocSet_wf {z : β} {lo a : Nat} (v : β) {m : List (Nat × β)} (h : assocWfFrom z lo m = true) (ha : lo ≤ a) :
    assocWfFrom z lo (assocSet z m a v) = true := by
  induction m generalizing lo with
  | nil =>
    by_cases hv : v = z
    · simp [assocSet, hv, assocWfFrom]
    · simp [assocSet, hv, assocWfFrom, ha]
  | cons c t ih =>
    obtain ⟨b, w⟩ := c
    simp only [assocWfFrom, Bool.and_eq_true, decide_eq_true_eq] at h
    obtain ⟨⟨hb, hw⟩, ht⟩ := h
    simp only [assocSet]
    split
    · rename_i hab
      split
      · simp [assocWfFrom, hb, hw, ht]
      · rename_i hv
        have : a + 1 ≤ b := hab
        simp [assocWfFrom, ha, hv, this, hw, ht]
    · split
      · rename_i hab
        split
        · exact assocWf_mono ht (by omega)
        · rename_i hv
          subst hab
          simp [assocWfFrom, ha, hv, ht]
      · simp only [assocWfFrom, Bool.and_eq_true, decide_eq_true_eq]
        exact ⟨⟨hb, hw⟩, ih ht (by omega)⟩

/-- A read after a store to the same address gives the value stored. -/
theorem assocGet_set_same {z : β} {lo a : Nat} (v : β) {m : List (Nat × β)} (h : assocWfFrom z lo m = true) :
    assocGet z (assocSet z m a v) a = v := by
  induction m generalizing lo with
  | nil => by_cases hv : v = z <;> simp [assocSet, hv, assocGet]
  | cons c t ih =>
    obtain ⟨b, w⟩ := c
    simp only [assocWfFrom, Bool.and_eq_true, decide_eq_true_eq] at h
    simp only [assocSet]
    split
    · rename_i hab
      split
      · rename_i hv
        have hne : b ≠ a := by omega
        simp only [assocGet, hne, if_false, hv]
        exact assocGet_below h.2 (by omega)
      · simp [assocGet]
    · split
      · rename_i hab
        split
        · rename_i hv
          rw [hv]
          exact assocGet_below h.2 (by omega)
        · simp [assocGet]
      · rename_i hab
        have hne : b ≠ a := fun e => hab e.symm
        simp only [assocGet, hne, if_false]
        exact ih h.2

/-- A store leaves every other address as it reads. -/
theorem assocGet_set_other {z : β} {a k : Nat} (v : β) (m : List (Nat × β)) (hk : k ≠ a) :
    assocGet z (assocSet z m a v) k = assocGet z m k := by
  induction m with
  | nil => by_cases hv : v = z <;> simp [assocSet, hv, assocGet, Ne.symm hk]
  | cons c t ih =>
    obtain ⟨b, w⟩ := c
    simp only [assocSet]
    split
    · split
      · rfl
      · simp [assocGet, Ne.symm hk]
    · split
      · rename_i hab
        subst hab
        split <;> simp [assocGet, Ne.symm hk]
      · simp only [assocGet]
        split
        · rfl
        · exact ih

/-- A byte string stored keeps the canonical form. -/
theorem storeBytes_wf {m : List Host.Cell} (h : Memory.wf m) (a : Nat) (bs : List Byte) :
    Memory.wf (storeBytes m a bs) := by
  induction bs generalizing m a with
  | nil => exact h
  | cons b t ih => exact ih (assocSet_wf b h (Nat.zero_le _)) (a + 1)

/-- Bytes stored leave every address outside them as it reads. -/
theorem storeBytes_other (m : List Host.Cell) (a : Nat) (bs : List Byte) (k : Nat)
    (hk : k < a ∨ a + bs.length ≤ k) : assocGet 0 (storeBytes m a bs) k = assocGet 0 m k := by
  induction bs generalizing m a with
  | nil => rfl
  | cons b t ih =>
    simp only [List.length_cons] at hk
    rw [storeBytes, ih _ _ (by omega), assocGet_set_other _ _ (by omega)]

/-- A byte stored reads back. -/
theorem storeBytes_get {m : List Host.Cell} (h : Memory.wf m) (a : Nat) (bs : List Byte) (i : Nat)
    (hi : i < bs.length) : assocGet 0 (storeBytes m a bs) (a + i) = bs[i] := by
  induction bs generalizing m a i with
  | nil => exact absurd hi (Nat.not_lt_zero _)
  | cons b t ih =>
    cases i with
    | zero =>
      rw [storeBytes, Nat.add_zero, storeBytes_other _ _ _ _ (by omega)]
      exact assocGet_set_same b h
    | succ j =>
      have hj : j < t.length := by simpa using hi
      have e : a + (j + 1) = a + 1 + j := by omega
      rw [storeBytes, e, ih (assocSet_wf b h (Nat.zero_le _)) (a + 1) j hj]
      rfl

/-- Loading agrees on lists that read alike there. -/
theorem loadBytes_congr {m k : List Host.Cell} (a n : Nat)
    (h : ∀ i, a ≤ i → i < a + n → assocGet 0 m i = assocGet 0 k i) : loadBytes m a n = loadBytes k a n := by
  induction n generalizing a with
  | zero => rfl
  | succ n ih =>
    rw [loadBytes, loadBytes, h a (le_refl a) (by omega), ih (a + 1) fun i h1 h2 => h i (by omega) (by omega)]

/-- What has been stored loads back. -/
theorem loadBytes_store {m : List Host.Cell} (h : Memory.wf m) (a : Nat) (bs : List Byte) :
    loadBytes (storeBytes m a bs) a bs.length = bs := by
  induction bs generalizing m a with
  | nil => rfl
  | cons b t ih =>
    have hw := assocSet_wf (a := a) b h (Nat.zero_le _)
    rw [List.length_cons, loadBytes, storeBytes, ih hw (a + 1), storeBytes_other _ _ _ _ (by omega),
      assocGet_set_same b h]

/-- Bytes loaded outside what was stored are as before. -/
theorem loadBytes_store_other (m : List Host.Cell) (a : Nat) (bs : List Byte) (k n : Nat)
    (hk : k + n ≤ a ∨ a + bs.length ≤ k) : loadBytes (storeBytes m a bs) k n = loadBytes m k n :=
  loadBytes_congr k n fun i h1 h2 => storeBytes_other m a bs i (by omega)

/-! ### Lanes and words (R18, R20, R317) -/

/-- The canonical forms of the array and of its error masks. -/
def MemSt.canonical (m : MemSt) : Prop := Memory.wf m.cells ∧ assocWfFrom (0 : BitVec 72) 0 m.errs = true

theorem writeLane_canonical {m : MemSt} (h : m.canonical) (w i : Nat) (bs : List Byte) :
    (writeLane m w i bs).canonical :=
  ⟨storeBytes_wf h.1 _ _, assocSet_wf _ h.2 (Nat.zero_le _)⟩

theorem errsSet_canonical {m : MemSt} (h : m.canonical) (a : Nat) (v : BitVec 72) :
    ({ m with errs := assocSet 0 m.errs a v } : MemSt).canonical :=
  ⟨h.1, assocSet_wf v h.2 (Nat.zero_le _)⟩

/-- A fold keeps what every step keeps. -/
theorem foldl_keeps {α : Type} {P : MemSt → Prop} {f : MemSt → α → MemSt} (hf : ∀ m a, P m → P (f m a)) (l : List α)
    {m : MemSt} (h : P m) : P (l.foldl f m) := by
  induction l generalizing m with
  | nil => exact h
  | cons a t ih => exact ih (hf m a h)

theorem writeWordAt_canonical {m : MemSt} (h : m.canonical) (w : Nat) (bs : List Byte) :
    (writeWordAt m w bs).canonical := by
  have k := foldl_keeps (P := MemSt.canonical) (f := fun m i => writeLane m w i ((takePad 32 bs).drop (8 * i)))
    (fun _ _ hm => writeLane_canonical hm _ _ _) [0, 1, 2, 3] h
  unfold writeWordAt
  exact ⟨k.1, k.2⟩

theorem copyWordAt_canonical {m : MemSt} (h : m.canonical) (src dst : Nat) : (copyWordAt m src dst).canonical := by
  have hc : ∀ bs, ({ m with cells := storeBytes m.cells (dst * 32) bs } : MemSt).canonical := by
    intro bs
    have hb := storeBytes_wf h.1 (dst * 32) bs
    exact And.intro hb h.2
  unfold copyWordAt
  exact foldl_keeps (P := MemSt.canonical) (fun k i hk => errsSet_canonical hk _ _) _ (hc _)

theorem rewriteLanes_canonical {m : MemSt} (h : m.canonical) (w : Nat) (r : WordRd) (data : List Byte) :
    (rewriteLanes m w r data).canonical := by
  have step : ∀ (m : MemSt) (i : Nat), m.canonical →
      (if r.lane i = .uncorr then m else writeLane m w i (data.drop (8 * i))).canonical := by
    intro m i hm
    split
    · exact hm
    · exact writeLane_canonical hm _ _ _
  have k := foldl_keeps (P := MemSt.canonical) step [0, 1, 2, 3] h
  unfold rewriteLanes
  exact ⟨k.1, k.2⟩

theorem MemSt.zeroed_canonical (m : MemSt) : m.zeroed.canonical := ⟨rfl, rfl⟩

/-- A lane of another word, or another lane, reads as before a lane is written. -/
theorem readLane_writeLane_other (m : MemSt) (w i v j : Nat) (bs : List Byte) (hi : i < 4) (hj : j < 4)
    (h : ¬(v = w ∧ j = i)) : readLane (writeLane m w i bs) v j = readLane m v j := by
  have hb : (bs.take 8).length ≤ 8 := by simp
  have hd : v * 32 + 8 * j + 8 ≤ w * 32 + 8 * i ∨ w * 32 + 8 * i + 8 ≤ v * 32 + 8 * j := by omega
  have hl : loadBytes (writeLane m w i bs).cells (v * 32 + 8 * j) 8 = loadBytes m.cells (v * 32 + 8 * j) 8 :=
    loadBytes_store_other _ _ _ _ _ (by omega)
  have he : assocGet 0 (writeLane m w i bs).errs (v * 4 + j) = assocGet 0 m.errs (v * 4 + j) :=
    assocGet_set_other _ _ (by omega)
  simp only [readLane, hl, he]

/-- A lane is read from the stored bytes and error masks alone. -/
theorem readLane_congr {m k : MemSt} (hc : m.cells = k.cells) (he : m.errs = k.errs) (w i : Nat) :
    readLane m w i = readLane k w i := by
  simp only [readLane, hc, he]

/-- A write of a whole word leaves every lane of every other word as it reads. -/
theorem readLane_writeWordAt_other (m : MemSt) (w v j : Nat) (bs : List Byte) (h : v ≠ w) (hj : j < 4) :
    readLane (writeWordAt m w bs) v j = readLane m v j := by
  have k : readLane ([0, 1, 2, 3].foldl (fun m i => writeLane m w i ((takePad 32 bs).drop (8 * i))) m) v j =
      readLane m v j := by
    simp only [List.foldl]
    rw [readLane_writeLane_other _ _ _ _ _ _ (by omega) hj (fun e => h e.1),
      readLane_writeLane_other _ _ _ _ _ _ (by omega) hj (fun e => h e.1),
      readLane_writeLane_other _ _ _ _ _ _ (by omega) hj (fun e => h e.1),
      readLane_writeLane_other _ _ _ _ _ _ (by omega) hj (fun e => h e.1)]
  unfold writeWordAt
  exact (readLane_congr (by rfl) (by rfl) _ _).trans k

/-- A write of a whole word leaves every other word as it reads. -/
theorem readWordAt_writeWordAt_other (m : MemSt) (w v : Nat) (bs : List Byte) (h : v ≠ w) :
    readWordAt (writeWordAt m w bs) v = readWordAt m v := by
  simp only [readWordAt, List.map, readLane_writeWordAt_other m w v _ bs h (by omega : 0 < 4),
    readLane_writeWordAt_other m w v _ bs h (by omega : 1 < 4), readLane_writeWordAt_other m w v _ bs h (by omega : 2 < 4),
    readLane_writeWordAt_other m w v _ bs h (by omega : 3 < 4)]

/-! ### The operations over State -/

theorem State.mirrorPhys_canonical {s : State} (h : s.mem.canonical) (b row col : Nat) {f : MemSt → Nat → MemSt}
    (hf : ∀ m w, m.canonical → (f m w).canonical) : (s.mirrorPhys b row col f).mem.canonical := by
  unfold State.mirrorPhys
  split
  · split
    · simpa using hf _ _ h
    · exact h
  · exact h

theorem State.storeWord_canonical {s : State} (h : s.mem.canonical) (l : Loc) (bs : List Byte) :
    (s.storeWord l bs).mem.canonical := by
  unfold State.storeWord State.mirrorWrite
  exact State.mirrorPhys_canonical (by simpa using writeWordAt_canonical h _ _) _ _ _
    fun m w hm => writeWordAt_canonical hm _ _

/-- Queueing a row for repair touches nothing but Tansy. -/
@[simp] theorem State.queueRepair_mem (s : State) (b row col : Nat) : (s.queueRepair b row col).mem = s.mem := rfl

/-- The repair queue keeps its bound (R315). -/
theorem State.queueRepair_bounded {s : State} (h : s.tansy.queue.length ≤ 16) (b row col : Nat) :
    (s.queueRepair b row col).tansy.queue.length ≤ 16 := by
  simp only [State.queueRepair, State.modTansy_tansy]
  split
  · exact h
  · split
    · simp; omega
    · exact h

theorem State.setLastUe_canonical {s : State} (h : s.mem.canonical) (v : W32) : (s.setLastUe v).mem.canonical := by
  simpa [MemSt.canonical, State.setLastUe] using h

/-- What ECC does with a word read changes no stored byte and no error mask. -/
theorem State.noteRead_canonical {s : State} (h : s.mem.canonical) (l : Loc) (p : Nat) (r : WordRd) :
    (s.noteRead l p r).mem.canonical := by
  unfold State.noteRead
  split
  · simpa using State.setLastUe_canonical h _
  · split <;> simpa [MemSt.canonical] using h

/-- Counting a read changes no stored byte and no error mask. -/
theorem State.countRead_canonical {s : State} (h : s.mem.canonical) (l : Loc) (p : Nat) (r : WordRd) :
    (s.countRead l p r).mem.canonical := by
  replace h := State.noteRead_canonical h l p r
  unfold State.countRead
  dsimp only
  split
  · simpa [MemSt.canonical] using h
  · split
    · split <;> simpa [MemSt.canonical] using h
    · exact h

theorem State.readP_canonical {s : State} (h : s.mem.canonical) (p : Nat) : (s.readP p).2.mem.canonical := by
  unfold State.readP
  dsimp only
  split
  · exact h
  · exact State.countRead_canonical h _ _ _

theorem State.writeP_canonical {s : State} (h : s.mem.canonical) (p off : Nat) (bs : List Byte) :
    (s.writeP p off bs).2.mem.canonical := by
  unfold State.writeP
  dsimp only
  split
  · exact h
  · split
    · exact State.storeWord_canonical h _ _
    · split
      · exact State.countRead_canonical h _ _ _
      · unfold State.mirrorWrite
        refine State.mirrorPhys_canonical ?_ _ _ _ fun m w hm => rewriteLanes_canonical (copyWordAt_canonical hm _ _) _ _ _
        simpa using rewriteLanes_canonical (State.countRead_canonical h _ _ _) _ _ _

/-- The memories of the reset state have their canonical form. -/
theorem State.reset_canonical : State.reset.mem.canonical := ⟨rfl, rfl⟩

end Sys2Proof.Machine
end

