-- ==== Sys2Proof/Tests/Slice0.lean ====
section
/-! SUPPORT. Tests of the model: terms that are no commands, single steps with results that the spec gives, and for
every statement with hypotheses a state and operands that meet them, one for each of its clauses. -/

namespace Sys2Proof.Tests

open Sys2Proof Sys2Proof.Machine

set_option Elab.async false

/-! ### Small states -/

/-- A device that runs and serves, in Receiver role, with the memory open and the link OFF. -/
def base : State :=
  { State.reset with
    mem := { State.reset.mem with clearState := 2, cleared := true }
    rst := { State.reset.rst with phase := .running, blockReset := 0, sbHeld := false, yarBooted := true }
    yar := { State.reset.yar with serving := true, permit := true, sensed := true }
    pwr := { State.reset.pwr with clkSource := 1, pllLocked := true, clkfailArmed := true }
    twin := { State.reset.twin with started := true, own := true } }

/-- `base` as a sender. -/
def sendBase : State := { base with rst := { base.rst with roleInUse := 1, roleNext := 1 } }

/-- An active channel of a class from port A to port B over blocks 0 to 255. -/
def chanAB (k : Cls) : Chan :=
  { cfg := { cls := k, producer := .portA, consumer := .portB, relmode := .explicit }, state := .active }

/-- `s` with channel 0 as given. -/
def ch0 (s : State) (c : Chan) : State := s.modCh 0 fun _ => c

/-- `s` with both ports READY and channel 0 selected for writing at port A. -/
def ports (s : State) : State :=
  { s with pA := { s.pA with state := .ready, wsel := some 0, wclkSince := some 0, rclkSince := some 0 }
           pB := { s.pB with state := .ready, wclkSince := some 0, rclkSince := some 0 } }

/-- A write-side cycle with the right parity. -/
def wc (wctl : BitVec 5) (dat : BitVec 64) : WCyc :=
  ⟨dat, BitVec.ofNat 2 (natOfBits [oddParity (dat.extractLsb' 0 32 ++ wctl : BitVec 37).toNat 37,
    oddParity (dat.extractLsb' 32 32).toNat 32])⟩

/-- A read-side command with the right parity. -/
def rc (opc : BitVec 5) (mod : BitVec 7) (op1 op2 : W32) : RCmd :=
  let c : RCmd := { tag := 5, ch := 0, cseq := 0, mod := mod, par := 0, complete := true }
  { c with par := BitVec.ofNat 3 (natOfBits [oddParity (c.first opc).toNat 32, oddParity op1.toNat 32,
      oddParity op2.toNat 32]) }

/-- An open packet of 24 payload bytes with its header at word 0. -/
def pkt0 : OpenPkt :=
  { slot := {}, wseq := 3, slice := 0, kind := 0, frame := 9, len := 24, crc := crcInit,
    first := List.replicate 16 1, buf := List.replicate 8 1 }

/-- A closed packet of one word at word 0. -/
def closed0 : ClosedPkt :=
  { slot := {}, endp := { off := 1 }, wseq := 3, slice := 0, kind := 0, frame := 9, len := 4, crcFail := false }

/-- A command of port A or B as accepted. -/
def cmd (opc : BitVec 5) (op1 : W32) (waiting : Bool) : PCmd :=
  { opc := opc, c := rc opc 0 op1 0, op1 := op1, op2 := 0, latched := 0, delivered := 0, waiting := waiting,
    acted := false, preset := none }

/-- The head of a request from the mailbox. -/
def hd : OdHead :=
  { src := .mailbox, addr := 0, keysel := 0, reqseq := 1, mac := zeros 8, flags := 0, abortField := 0, offset := 0,
    crcTotal := 0, rsv18 := 0 }

/-- A frame that arrived whole. -/
def good : RxMeta := ⟨true, true, true⟩

/-- `s` with the link UP at rate 02h. -/
def up (s : State) : State :=
  { s with link := { s.link with state := .up, rate := 2, modPresent := true } }

/-- An entry of the window for an MGMT frame with sequence number `k`. -/
def win (k : Nat) : WinEntry :=
  { seq := k, type := 10, ch := 20, endp := {}, pseq := 0, pts := none, body := .copy (plainFrame 10 [] []),
    sentAt := 0, retxAt := none }

/-- `s` in Mirror mode with Clover up and a role. -/
def mirror (s : State) (r : TwinRole) : State :=
  { s with twin := { s.twin with cloverState := 2, partnerPresent := true, role := r,
                                 own := r == .active || r == .solo } }

/-- `s` as one half of a Chain pair with Clover up. -/
def chain (s : State) (half : Bool) : State :=
  { s with twin := { s.twin with pairInUse := 2, twinId := half, cloverState := 2, partnerPresent := true,
                                 role := .active } }

/-- `base` with the link UP and a Wall key. -/
def keyedUp : State := { up base with od := { base.od with wallKey := List.replicate 16 7 } }

/-- The head of a request that arrives on the link under the Wall key, without its MAC. -/
def linkHd : OdHead := { hd with src := .link good 0 0, keysel := 1 }

/-- `linkHd` with the MAC of a WRITE of 5000h.02 with this data under the Wall key (R250). -/
def signedHd (data : List Byte) : OdHead :=
  let r := headReq linkHd 2 0x5000 2 data
  { linkHd with mac := (hmac (List.replicate 16 7) (macMessage 0 0 r.ask.svc r.reqseq r.sdata)).take 8 }

/-- A request of service 02h or 03h on the link with the MAC of its key, which is the test's Wall key for every KEYSEL (R254). -/
def signedUnit (keysel : Nat) (lock : Bool) (opc place unit : Nat) (operand : W32) : OdHead :=
  let h : OdHead := { linkHd with keysel := keysel }
  let r := headUnit h lock opc place 0#8 unit operand
  { h with mac := (hmac (List.replicate 16 7) (macMessage 0 0 r.ask.svc r.reqseq r.sdata)).take 8 }

/-- `keyedUp` with that key as the Operator and the Observer key too. -/
def allKeysUp : State :=
  { keyedUp with od := { keyedUp.od with operatorKey := List.replicate 16 7, observerKey := List.replicate 16 7 } }

/-- A firmware image of 16 body bytes, signed outside the model under a key made for the test (R267, R268). -/
def testImage : List Byte :=
  leBytes 0x00000000d961c03c000000100000000500020003010203042010000157465143 32 ++
  leBytes 0x0000000000000000000000000000000000000000000000000000000000000000 32 ++
  leBytes 0x3693c042ff1215ec5b2e7765844f858f84c84c04c0bcc77f126554957ea7a2fd 32 ++
  leBytes 0x79e6547721e64e7ad957212e50d52f3276d008a30b80222ce724679f600f72e4 32 ++
  leBytes 0xf9ebe464147cc102d92324d099d927c1a50e42d57a08a116ffec0a29819d8c65 32 ++
  leBytes 0x70baf7d12888902a6a0c1d67add103123c859ab69bf8e9431c9384930d4b7eee 32 ++
  leBytes 0x0000000000000000000000000000000000000000000000000000000000000000 32 ++
  leBytes 0x0000000000000000000000000000000000000000000000000000000000000000 32 ++
  leBytes 0x00000013000000130000001300000013 16

/-- The SHA-256 of that key (R268). -/
def testKeyHash : List Byte :=
  leBytes 0x2e6b5b0e65e25862b5cd1b1bd8bd101839638a9b7726e53317c7659aad0f3443 32

/-- Flash and fuses with that image in slot A and its key. -/
def signedUpd : UpdSt := { base.upd with imageA := testImage, keyHash := testKeyHash }

/-- The image passes every check of R268. -/
theorem testImage_ok : imageCheck testKeyHash 0 bodyMax testImage = 0 := by decide +kernel

theorem check_of_testImage {u : UpdSt} (hk : u.keyHash = testKeyHash) (hr : u.rollbackFuse = 0)
    (hi : u.image 0 = testImage) : u.check 0 = 0 := by
  rw [UpdSt.check, hk, hr, hi]
  exact testImage_ok

/-- A device whose boot code is about to choose an image, with BOOT strap 00b. -/
def bootable (u : UpdSt) : State :=
  { base with rst := { base.rst with phase := .starting, yarBooted := false, straps := ⟨0, 0, true⟩ }, upd := u }

/-- The state that an outcome answers, `s` where it answers none. -/
def out (o : Host.Outcome State Fault Refusal) (s : State) : State := match o with | .next t => t | _ => s

theorem eq_out {o : Host.Outcome State Fault Refusal} {s : State} (h : ∃ t, o = .next t) : o = .next (out o s) := by
  obtain ⟨t, rfl⟩ := h
  rfl

/-- A TRIM whose INC is exact: 5,368,709,120 / 5120 more than the nominal advance (R191). -/
theorem inc_exact : inc (1 / 5120) = 5369757696 := by
  norm_num [inc, Config.round]
  decide

theorem data_next (x : Port) (c : WCyc) (s : State) : ∃ t, exec (.data x c) s = .next t :=
  have h : ∃ t, execData x c s = .next t := ⟨_, rfl⟩
  h

theorem idle_next (x : Port) (c : WCyc) (s : State) : ∃ t, exec (.idle x c) s = .next t :=
  have h : ∃ t, execIdle x c s = .next t := ⟨_, rfl⟩
  h

theorem nop_next (x : Port) (c : RCmd) (s : State) : ∃ t, exec (.nop x c) s = .next t :=
  have h : ∃ t, execNop x c s = .next t := ⟨_, rfl⟩
  h

theorem idleStep_base : step base = .next (base.advance 1) := rfl

/-- A joining device whose conditions of R218 are all met. -/
def joinReady : State :=
  let s := mirror base .joining
  { s with twin := { s.twin with partnerRole := 1, partnerDevRole := 2, snapDone := true, partnerDigest := s.planDigest }
           time := { s.time with valid := true } }

theorem planDigest_of {s t : State} (hr : s.rst = t.rst) (hc : s.ch = t.ch) (hm : s.mem = t.mem) :
    s.planDigest = t.planDigest := by
  unfold State.planDigest State.digestAs
  rw [hr, hc, hm]

theorem joinReady_joins : joinReady.joinBlock = 0 := by
  have h0 : joinReady.twin.partnerDigest = (mirror base .joining).planDigest := by simp only [joinReady]
  have h : joinReady.twin.partnerDigest = joinReady.planDigest := h0.trans (planDigest_of rfl rfl rfl)
  have hd : joinReady.roleDiffers = false := by decide
  simp only [State.joinBlock, h, hd, ne_eq, not_true_eq_false, if_false]
  decide +kernel

/-! ### Encodings: terms that `Instr.wellFormed` refuses, one for each check -/

theorem test_refuses_assigned_wctl : Instr.wellFormed (.reservedWctl .A 1#5 (wc 1 0)) = false := by decide

theorem test_refuses_bank_row :
    Instr.wellFormed (.bankGrant 0 [⟨0, 0, 528, 0, .rd⟩] []) = false ∧
    Instr.wellFormed (.bankGrant 0 [⟨0, 0, 0, 64, .rd⟩] []) = false ∧
    Instr.wellFormed (.bankGrant 0 [⟨0, 0, 0, 0, .wr (zeros 32)⟩] []) = false ∧
    Instr.wellFormed (.bankGrant 0 [] [⟨0, 0, 0, 0, .wr (zeros 31)⟩]) = false ∧
    Instr.wellFormed (.bankGrant 0 [⟨2, 0, 0, 0, .swr 0 0⟩] []) = false ∧
    Instr.wellFormed (.eccWriteBack 0 528 0) = false := by decide

theorem test_refuses_other_opcode_words :
    Instr.wellFormed (.releaseToRp .A (rc 6 1 0 0)) = false ∧ Instr.wellFormed (.releaseToMp .A (rc 6 0 0 0)) = false ∧
    Instr.wellFormed (.status .A (rc 14 0x45 0 0) 0 0) = false ∧
    Instr.wellFormed (.statusActClear .A (rc 14 0x46 0 0) 0 0) = false ∧
    Instr.wellFormed (.statusActMask .A (rc 14 0x45 0 0) 0 0) = false ∧
    Instr.wellFormed (.timeget .A (rc 17 1 0 0)) = false ∧ Instr.wellFormed (.timegetSet .A (rc 17 0 0 0) 0 0) = false ∧
    Instr.wellFormed (.reservedOpcode .A 17#5 (rc 17 0 0 0)) = false := by decide

theorem test_refuses_wide_frame_fields :
    Instr.wellFormed (.ack good 65536) = false ∧ Instr.wellFormed (.nak good 65536) = false ∧
    Instr.wellFormed (.sync good ⟨0, 1000000000, 0⟩ 0 true) = false ∧
    Instr.wellFormed (.echoReq good 65536 ⟨0, 0, 0⟩) = false ∧
    Instr.wellFormed (.echoRsp good 0 ⟨0, 0, 65536⟩ ⟨0, 0, 0⟩ ⟨0, 0, 0⟩) = false ∧
    Instr.wellFormed (.rxreport good 0 []) = false ∧ Instr.wellFormed (.linkreset good [] (zeros 17)) = false ∧
    Instr.wellFormed (.bye good 256) = false ∧ Instr.wellFormed (.caps good 256 0 ⟨0, 0, 0, 0, 0, 0, 0, 0, 0, 0, 0, 0⟩) = false ∧
    Instr.wellFormed (.slice good 65536 0 0 0 0 []) = false ∧
    Instr.wellFormed (.fstart good 0 0 0 256 0 0 0 0) = false ∧
    Instr.wellFormed (.mgmtResponse good 0 0 0x81 0 [] (zeros 7)) = false := by decide

theorem test_refuses_wide_requests :
    Instr.wellFormed (.save { hd with mac := zeros 7 } 1) = false ∧
    Instr.wellFormed (.objectRead hd 65536 0 []) = false ∧ Instr.wellFormed (.keyWrite hd 256 []) = false ∧
    Instr.wellFormed (.countClear hd 0 256 0) = false ∧ Instr.wellFormed (.portModeOn hd .A 0) = false ∧
    Instr.wellFormed (.mgmtScratch hd 256 0 0 0 0) = false ∧ Instr.wellFormed (.writeReq 65536 []) = false := by decide

theorem test_refuses_other_operands :
    Instr.wellFormed (.modulePresence true (some []) (some (zeros 10))) = false ∧
    Instr.wellFormed (.moduleDdmRead (some [])) = false ∧
    Instr.wellFormed (.memoryWindowAccess false 0 (.load 3)) = false ∧
    Instr.wellFormed (.memoryWindowAccess false 0 (.store [])) = false ∧
    Instr.wellFormed (.ydmaDescriptor true 0 65536) = false ∧ Instr.wellFormed (.marchDone [⟨130, 0, 0⟩]) = false ∧
    Instr.wellFormed (.cloverStatus ⟨256, true⟩ 0 0 true 0 0 0) = false ∧
    Instr.wellFormed (.standin ⟨0, true⟩ 0 false 0 4096 0) = false ∧
    Instr.wellFormed (.snap ⟨0, true⟩ (2 ^ 32) 0 ⟨[], [], [], [], ⟨0, 0, 0⟩, 0, 0⟩) = false ∧
    Instr.wellFormed (.chainCredit ⟨0, true⟩ [2 ^ 32] 0) = false ∧ Instr.wellFormed (.sramScrub 0 [524288]) = false ∧
    Instr.wellFormed (.returnBusBeat .A ⟨128, true, 0, 0, zeros 32⟩ 0 false) = false := by decide

theorem test_accepts_commands :
    Instr.wellFormed (.reservedWctl .A 2#5 (wc 2 0)) = true ∧ Instr.wellFormed (.nop .B (rc 0 0 0 0)) = true ∧
    Instr.wellFormed (.save hd 1) = true ∧ Instr.wellFormed (.ack good 65535) = true := by decide

/-! ### Steps with results that the spec gives -/

/-- R67: the CRC of "123456789" is E306_9283h, and that of nothing is 0. -/
theorem test_crc32c : crc32c (leBytes 0x393837363534333231 9) = 0xE3069283 ∧ crc32c [] = 0 := by
  decide +kernel

/-- The worked example of spec/03_channels.md, "wrap and a fence": the distances of its rows, with S = 256. -/
theorem test_wrap_example :
    dist 256 { off := 200 } { lap := true, off := 40 } = 96 ∧ dist 256 { off := 200 } { lap := true, off := 100 } = 156 ∧
    dist 256 { off := 230 } { lap := true, off := 10 } = 36 ∧
    dist 256 { off := 200 } { lap := true, off := 105 } = 161 := by decide

/-- The example of spec/02_memory_array.md, "a client crash while holding a lock": client B's LOCK of the freed and
marked slot 5 returns BROKEN (11), and B holds it with the mark cleared. -/
theorem test_lock_of_broken_slot :
    let s := { ports base with mem := { base.mem with locks := base.mem.locks.set 5 ⟨.free, true⟩ } }
    let t := out (exec (.lock .B (rc 12 5 0 0)) s) s
    t.slot 5 = ⟨.pb, false⟩ ∧ t.pB.ret.map (·.stat) = [11] := by decide +kernel

/-- The worked example of spec/04_packets_and_width.md, "a short raw tail": DATA-LAST 010b after 24 bytes commits one
word of 27 bytes with one entry of the tail table. -/
theorem test_raw_tail :
    let s := ports (ch0 base { chanAB .raw with rawBuf := zeros 24 })
    let t := out (exec (.dataLast .A 2#3 (wc (1#2 ++ 2#3) 0)) s) s
    (t.chan 0).rawBuf = [] ∧ (t.chan 0).cp = { off := 1 } ∧ (t.chan 0).tails.map (·.vb) = [27] := by decide +kernel

/-- The worked example of spec/10_link_scheduling_and_policing.md, "three flows at a sender": the head tags of the three
flows, in the register's units. -/
theorem test_flow_tags :
    headTag 0 0 4836 24 32 = 9953280 ∧ headTag 0 0 9236 24 8 = 75857920 ∧ headTag 0 0 120 24 4 = 2359296 := by
  decide +kernel

/-- The worked example of spec/11_wall_time.md, "the wall processor's time jumps back": a SET 2 s behind the counter
makes EPOCH 17 into 18 and sets the counter back. -/
theorem test_set_back_opens_epoch :
    let s := { ports sendBase with
      time := { base.time with source := 1, valid := true, epoch := 17, wall := stampWall ⟨22, 0, 0⟩ } }
    let t := out (exec (.timegetSet .A (rc 17 1 20 0) 20 0) s) s
    t.time.epoch = 18 ∧ t.time.wall = stampWall ⟨20, 0, 0⟩ := by decide +kernel

/-- The example of spec/16_reset_and_start_up.md, "an escalated bite": a bite inside the window of an earlier one
reaches the whole device and counts one escalation. -/
theorem test_second_bite_escalates :
    let s := { base with yar := { base.yar with wdtAt := some 0 }, rst := { base.rst with window := some 0 } }
    let t := out (exec (.watchdogBite 4000000000) s) s
    t.rst.wdtEscalations = 1 ∧ t.rst.lastReach = 3 := by decide +kernel

/-- The example of spec/13_yarrow_management.md, "a hot receiver with a floor of PL2": at 100.00 °C with the cap at PL2
the level falls to PL1 below its floor, which begins an episode with OVERRIDDEN [0] and log data 0000_0201h. -/
theorem test_thermal_override :
    let s := { ports base with
      pwr := { base.pwr with plFloor := 2, plCeiling := 3, level := 2, thermalCap := 2 }
      yar := { base.yar with temp := [400], tjThrottle := 100 } }
    let t := out (exec (.thermalCap 800000000) s) s
    t.pwr.level = 1 ∧ t.yar.overridden = 1 ∧ t.yar.overrideCount = 1 ∧ t.yar.lastOverride = 0x201 := by decide +kernel

/-- The example of spec/14_object_dictionary.md, "a forwarded write and its retry": a request found in the cache is
answered with the stored response and not performed. -/
theorem test_retry_is_not_performed :
    let r : Resp := ⟨0x81, 1, zeros 20, zeros 8⟩
    let s := { base with od := { base.od with mailbox := { base.od.mailbox with cache := [r], last := some 1 } } }
    let t := out (exec (.objectWrite hd 0x5000 2 [0xF4, 1, 0, 0]) s) s
    t.od.dupReq = 1 ∧ t.time.syncPeriod = 1000 := by decide +kernel

/-- R145: in pattern 3 the first half carries 0 on every bit. -/
theorem test_train_prbs :
    let t := out (exec (.train .B (rc 16 3 0 0)) (ports base)) (ports base)
    (t.pB.ret.head?.map fun b => b.data.take 16) = some (zeros 16) ∧ t.pB.ret.length = 16 := by decide +kernel

/-- R136: a reserved opcode completes with BADOP (5). -/
theorem test_reserved_opcode :
    let t := out (exec (.reservedOpcode .B 18#5 (rc 18 0 0 0)) (ports base)) (ports base)
    t.pB.ret.map (·.stat) = [5] := by decide +kernel

/-- R160 with R172: LINK_ENABLE 0 in UP leaves UP with a BYE and goes to OFF. -/
theorem test_link_disable :
    let t := out (exec (.linkEnable hd 0) (up base)) (up base)
    t.link.state = .off ∧ t.link.sent.map (·.type) = [13, 13, 13] := by decide +kernel

/-! ### The hypotheses of the statements can be met

Theorem `witness_<Name>` shows for each clause of `Obligations.<Name>` operands and a state that meet all of that clause's
hypotheses together. -/

theorem witness_StepRunsFrontCommand :
    (∃ (c : Instr) (rest : List Instr) (s : State), s.pending = c :: rest) :=
  ⟨.nop .A (rc 0 0 0 0), [], { base with pending := [(.nop .A (rc 0 0 0 0))] }, by decide +kernel⟩

theorem witness_IdleStepIsOneTick :
    (∃ (s : State), s.pending = []) ∧
    (∃ (s : State) (a : List LogEntry) (e : LogEntry), s.pending = [] ∧ s.yar.serving = false ∧ s.twin.snapOut = [] ∧
      s.twin.cloverState ≠ 2 ∧ s.logsToFlash = true ∧ s.yar.flashLog = a ++ [e] ∧ e.void = false ∧ e.committed =
      false) :=
  ⟨⟨base, by decide +kernel⟩,
   ⟨{ base with yar := { base.yar with serving := false, flashLog := [({ uptime := 0, code := 0x7001, src := 0, severity := 0, committed := false, seq := 1, data := 0 })] } },
    [], { uptime := 0, code := 0x7001, src := 0, severity := 0, committed := false, seq := 1, data := 0 },
    by decide +kernel⟩⟩

theorem witness_StepKeepsMemoriesCanonical :
    (∃ (s : State) (t : State), MemoriesCanonical s ∧ step s = .next t) :=
  ⟨base, base.advance 1, ⟨by decide +kernel, idleStep_base⟩⟩

theorem witness_StepKeepsQueuesBounded :
    (∃ (s : State) (t : State), QueuesBounded s ∧ step s = .next t) :=
  ⟨base, base.advance 1, ⟨by decide +kernel, idleStep_base⟩⟩

theorem witness_WriteSideChecks :
    (∃ (x : Port) (c : WCyc) (s : State), Sampling x s ∧ c.parityOk 0#5 = true ∧ (s.port x).frameFirst = none) ∧
    (∃ (x : Port) (code : BitVec 5) (c : WCyc) (n : Fin 20) (s : State), reservedWctlCode code = true ∧ WriteTaken x
      code c n s) ∧
    (∃ (x : Port) (c : WCyc) (n : Fin 20) (s : State), WriteTaken x 19#5 c n s) ∧
    (∃ (x : Port) (a : WCyc) (c : WCyc) (s : State), Sampling x s ∧ c.parityOk 0#5 = true ∧ (s.port x).frameFirst =
      some a) ∧
    (∃ (x : Port) (a : WCyc) (c : WCyc) (s : State), Sampling x s ∧ SelectionRoomy x s ∧ c.parityOk 1#5 = false ∧
      (s.port x).frameFirst = some a) ∧
    (∃ (x : Port) (b : WCyc) (n : Fin 20) (s : State), WriteTaken x 20#5 b n s) ∧
    (∃ (x : Port) (c : WCyc) (s : State), Sampling x s ∧ c.parityOk 1#5 = true ∧ (s.port x).frameFirst = none ∧
      (s.port x).joinSkip = true ∧ (∀ n, (s.port x).wsel = some n → (s.chan n).cutOpen x 1#5 = false)) ∧
    (∃ (x : Port) (k : BitVec 3) (c : WCyc) (n : Fin 20) (s : State), Sampling x s ∧ c.parityOk (1#2 ++ k) = true ∧
      (s.port x).writeRefusal = false ∧ (s.port x).frameFirst = none ∧ (s.port x).joinSkip = true ∧ (s.port x).wsel =
      some n ∧ (s.chan n).cutOpen x (1#2 ++ k) = true) ∧
    (∃ (s : State), s.joinHolds = true) ∧
    (∃ (x : Port) (c : WCyc) (n : Fin 20) (s : State), Sampling x s ∧ c.parityOk 1#5 = false ∧ (s.port x).wsel = some
      n ∧ (s.chan n).cfg.producer = End.ofPort x ∧ Roomy n s) ∧
    (∃ (x : Port) (c : WCyc) (n : Fin 20) (s : State), Sampling x s ∧ c.parityOk 16#5 = true ∧ BitVec.ofNat 8
      (c.field 8 8) = (s.port x).expWseq ∧ chanOf (c.field 0 5) = some n) ∧
    (∃ (x : Port) (c : WCyc) (s : State), Sampling x s ∧ SelectionRoomy x s ∧ c.parityOk 16#5 = true ∧ BitVec.ofNat 8
      (c.field 8 8) ≠ (s.port x).expWseq ∧ (s.port x).writeRefusal = false) ∧
    (∃ (x : Port) (c : WCyc) (s : State), Sampling x s ∧ c.parityOk 16#5 = true ∧ BitVec.ofNat 8 (c.field 8 8) ≠
      (s.port x).expWseq ∧ (s.port x).writeRefusal = true ∧ (s.port x).frameFirst = none) :=
  ⟨⟨.A, wc 0 7, ports base, by decide +kernel⟩,
   ⟨.A, 7#5, wc 7#5 7, 0, ports base, by decide +kernel⟩,
   ⟨.A, wc 19 7, 0, ports base, by decide +kernel⟩,
   ⟨.A, wc 19 0x0000000400000009#64, wc 0 7,
    (ports (ch0 base (chanAB .slice))).modPort .A fun p => { p with frameFirst := some (wc 19 0x0000000400000009#64) },
    by decide +kernel⟩,
   ⟨.A, wc 19 0x0000000400000009#64, ⟨7, (wc 1 7).par ^^^ 1⟩,
    (ports (ch0 base (chanAB .slice))).modPort .A fun p => { p with frameFirst := some (wc 19 0x0000000400000009#64) },
    by decide +kernel⟩,
   ⟨.A, wc 20 7, 0, ports (ch0 base (chanAB .slice)), by decide +kernel⟩,
   ⟨.A, wc 1 7, (ports base).modPort .A fun p => { p with joinSkip := true }, by decide +kernel⟩,
   ⟨.A, 3, wc (1#2 ++ 3#3) 7, 0,
    (ports (ch0 base { chanAB .packet with refusing := true, cuts := [⟨0, 0, 0, 0, false, false⟩] })).modPort .A fun p => { p with joinSkip := true },
    by decide +kernel⟩,
   ⟨{ mirror (base) .joining with twin := { (mirror (base) .joining).twin with snapParts := 1 } }, by decide +kernel⟩,
   ⟨.A, ⟨7, (wc 1 7).par ^^^ 1⟩, 0, ports (ch0 base { chanAB .packet with pkt := some pkt0, wp := { off := 1 } }),
    by decide +kernel⟩,
   ⟨.A, wc 16 0x3#64, 3, ports base, by decide +kernel⟩,
   ⟨.A, wc 16 0x703#64, ports base, by decide +kernel⟩,
   ⟨.A, wc 16 0x703#64, (ports base).modPort .A fun p => { p with writeRefusal := true }, by decide +kernel⟩⟩

theorem witness_OpenPacketOpens :
    (∃ (x : Port) (c : WCyc) (n : Fin 20) (s : State), WriteTaken x 17#5 c n s ∧ BitVec.ofNat 8 (c.field 0 8) =
      (s.port x).expWseq ∧ (s.chan n).cfg.cls ≠ .raw ∧ (s.chan n).cfg.producer = End.ofPort x ∧ (s.chan n).state =
      .active ∧ (s.chan n).pkt = none ∧ s.shadows = false ∧ Roomy n s ∧ s.free n ≠ 0) ∧
    (∃ (x : Port) (c : WCyc) (n : Fin 20) (s : State), WriteTaken x 17#5 c n s ∧ BitVec.ofNat 8 (c.field 0 8) =
      (s.port x).expWseq ∧ (s.chan n).cfg.cls = .packet ∧ (s.chan n).cfg.producer = End.ofPort x ∧ (s.chan n).state =
      .active ∧ (s.chan n).pkt = none ∧ (s.chan n).cfg.relmode ≠ .framehold ∧ s.shadows = false ∧ Roomy n s ∧ s.free
      n = 0) :=
  ⟨⟨.A, wc 17 0x0000000900300500#64, 0, ports (ch0 base (chanAB .packet)), by decide +kernel⟩,
   ⟨.A, wc 17 0x0000000900300500#64, 0,
    ports (ch0 base { chanAB .packet with wp := { lap := true }, cp := { lap := true } }), by decide +kernel⟩⟩

theorem witness_PacketCyclesAndCommits :
    (∃ (x : Port) (c : WCyc) (n : Fin 20) (s : State) (p : OpenPkt), WriteTaken x 1#5 c n s ∧ WritesTo x n .packet s
      ∧ (s.chan n).refusing = false ∧ (s.chan n).pkt = some p ∧ p.buf.length < 32 ∧ p.len + 8 ≤ 16777215 ∧ Roomy n s
      ∧ s.free n ≠ 0) ∧
    (∃ (x : Port) (nnn : BitVec 3) (c : WCyc) (n : Fin 20) (s : State) (p : OpenPkt), WriteTaken x (1#2 ++ nnn) c n s
      ∧ WritesTo x n .packet s ∧ (s.chan n).refusing = false ∧ (s.chan n).pkt = some p ∧ p.buf.length + 8 < 32 ∧
      p.len + 8 ≤ 16777215 ∧ s.free n ≠ 0 ∧ Released n s) ∧
    (∃ (x : Port) (c : WCyc) (n : Fin 20) (s : State) (p : OpenPkt), WriteTaken x 21#5 c n s ∧ WritesTo x n .packet s
      ∧ (s.chan n).refusing = false ∧ (s.chan n).pkt = some p ∧ Roomy n s ∧ s.free n ≠ 0) ∧
    (∃ (x : Port) (c : WCyc) (n : Fin 20) (s : State) (p : OpenPkt), WriteTaken x 18#5 c n s ∧ WritesTo x n .packet s
      ∧ (s.chan n).refusing = false ∧ (s.chan n).pkt = some p ∧ Roomy n s) ∧
    (∃ (n : Fin 20) (s : State) (k : ClosedPkt) (rest : List ClosedPkt), (s.chan n).cfg.cls = .packet ∧ (s.chan
      n).closing = k :: rest ∧ Roomy n s) ∧
    (∃ (n : Fin 20) (s : State), (s.chan n).tailPending = true ∧ (s.chan n).rawBuf ≠ [] ∧ Roomy n s ∧ s.free n ≠ 0 ∧
      (s.chan n).tails.length < 1536) :=
  ⟨⟨.A, wc 1 0x1122334455667788#64, 0, ports (ch0 base { chanAB .packet with pkt := some pkt0, wp := { off := 1 } }),
    pkt0, by decide +kernel⟩,
   ⟨.A, 3, wc (1#2 ++ 3#3) 0x1122334455667788#64, 0,
    ports (ch0 base { chanAB .packet with pkt := some pkt0, wp := { off := 1 } }), pkt0, by decide +kernel⟩,
   ⟨.A, wc 21 0#64, 0, ports (ch0 base { chanAB .packet with pkt := some pkt0, wp := { off := 1 } }), pkt0,
    by decide +kernel⟩,
   ⟨.A, wc 18 0#64, 0, ports (ch0 base { chanAB .packet with pkt := some pkt0, wp := { off := 1 } }), pkt0,
    by decide +kernel⟩,
   ⟨0, ch0 base { chanAB .packet with closing := [closed0], wp := { off := 1 } }, closed0, [], by decide +kernel⟩,
   ⟨0, ch0 base { chanAB .raw with tailPending := true, rawBuf := [1, 2, 3] }, by decide +kernel⟩⟩

theorem witness_MarkerCreatesRecord :
    (∃ (x : Port) (a : WCyc) (b : WCyc) (n : Fin 20) (s : State), WriteTaken x 19#5 a n s ∧ WriteTaken x 20#5 b n s ∧
      WritesTo x n .slice s ∧ s.chainHalf false = false ∧ Roomy n s ∧ 1 ≤ a.field 32 12 ∧ a.field 32 12 ≤ 512 ∧
      b.field 30 2 = 0 ∧ b.field 0 30 ≤ 999999999 ∧ (∀ i : Fin 3, (s.chan n).record i = {}) ∧ ((s.sender = true ∨
      a.field 44 8 = s.time.epoch))) ∧
    (∃ (x : Port) (a : WCyc) (b : WCyc) (n : Fin 20) (s : State), Sampling x s ∧ b.parityOk 20#5 = true ∧ (s.port
      x).writeRefusal = false ∧ (s.port x).joinSkip = false ∧ (s.port x).wsel = some n ∧ (s.port x).frameFirst = some
      a ∧ WritesTo x n .slice s ∧ s.chainHalf false = false ∧ Roomy n s ∧ 1 ≤ a.field 32 12 ∧ a.field 32 12 ≤ 512 ∧
      b.field 30 2 = 0 ∧ b.field 0 30 ≤ 999999999 ∧ (∀ i : Fin 3, (s.chan n).record i = {}) ∧ ((s.sender = true ∨
      a.field 44 8 = s.time.epoch))) :=
  ⟨⟨.A, wc 19 0x0000000400000009#64, wc 20 0x0000000700000005#64, 0, ports (ch0 base (chanAB .slice)),
    by decide +kernel⟩,
   ⟨.A, wc 19 0x0000000400000009#64, wc 20 0x0000000700000005#64, 0,
    (ports (ch0 base (chanAB .slice))).modPort .A fun p => { p with frameFirst := some (wc 19 0x0000000400000009#64) },
    by decide +kernel⟩⟩

theorem witness_WriteCycleFrame :
    (∃ (x : Port) (c : WCyc) (s : State) (t : State), s.twin.cloverState ≠ 2 ∧ ((exec (.data x c) s = .next t ∨ exec
      (.tail x c) s = .next t ∨ exec (.abort x c) s = .next t)) ∧ (s.port x).wsel = none) ∧
    (∃ (x : Port) (c : WCyc) (s : State) (t : State), s.writeOn x = false ∧ s.joinHolds = false ∧ ((exec (.idle x c)
      s = .next t ∨ exec (.data x c) s = .next t ∨ exec (.select x c) s = .next t ∨ exec (.openPacket x c) s = .next
      t ∨ exec (.abort x c) s = .next t ∨ exec (.tail x c) s = .next t))) ∧
    (∃ (x : Port) (n : Fin 20) (s : State), WriteSettled x n s ∧ (s.chan n).pkt.all (fun p => decide (p.buf.length <
      32)) = true ∧ (s.chan n).rawBuf.length ≤ 32) ∧
    (∃ (x : Port) (n : Fin 20) (s : State), WriteSettled x n s ∧ (s.chan n).pkt.all (fun p => decide (p.buf.length <
      32)) = true ∧ (s.chan n).rawBuf.length ≤ 32) ∧
    (∃ (x : Port) (n : Fin 20) (s : State), WriteSettled x n s) ∧
    (∃ (x : Port) (n : Fin 20) (s : State), WriteSettled x n s) ∧
    (∃ (x : Port) (n : Fin 20) (s : State), WriteSettled x n s) ∧
    (∃ (x : Port) (n : Fin 20) (s : State), WriteSettled x n s) ∧
    (∃ (x : Port) (n : Fin 20) (s : State), WriteSettled x n s) ∧
    (∃ (x : Port) (n : Fin 20) (s : State), WriteSettled x n s) ∧
    (∃ (x : Port) (n : Fin 20) (s : State), WriteSettled x n s) ∧
    (∃ (x : Port) (n : Fin 20) (s : State), WriteSettled x n s) :=
  ⟨⟨.A, wc 1 7, (ports base).modPort .A fun p => { p with wsel := none },
    out (exec (.data (.A) (wc 1 7)) ((ports base).modPort .A fun p => { p with wsel := none })) ((ports base).modPort .A fun p => { p with wsel := none }),
    ⟨by decide +kernel, .inl (eq_out (data_next _ _ _)), by decide +kernel⟩⟩,
   ⟨.A, wc 1 7, base, out (exec (.idle (.A) (wc 1 7)) (base)) (base),
    ⟨by decide +kernel, by decide +kernel, .inl (eq_out (idle_next _ _ _))⟩⟩,
   ⟨.A, 0, ports (ch0 base { chanAB .packet with pkt := some pkt0, wp := { off := 1 } }), by decide +kernel⟩,
   ⟨.A, 0, ports (ch0 base { chanAB .packet with pkt := some pkt0, wp := { off := 1 } }), by decide +kernel⟩,
   ⟨.A, 0, ports (ch0 base { chanAB .packet with pkt := some pkt0, wp := { off := 1 } }), by decide +kernel⟩,
   ⟨.A, 0, ports (ch0 base { chanAB .packet with pkt := some pkt0, wp := { off := 1 } }), by decide +kernel⟩,
   ⟨.A, 0, ports (ch0 base { chanAB .packet with pkt := some pkt0, wp := { off := 1 } }), by decide +kernel⟩,
   ⟨.A, 0, ports (ch0 base { chanAB .packet with pkt := some pkt0, wp := { off := 1 } }), by decide +kernel⟩,
   ⟨.A, 0, ports (ch0 base { chanAB .packet with pkt := some pkt0, wp := { off := 1 } }), by decide +kernel⟩,
   ⟨.A, 0, ports (ch0 base { chanAB .packet with pkt := some pkt0, wp := { off := 1 } }), by decide +kernel⟩,
   ⟨.A, 0, ports (ch0 base { chanAB .packet with pkt := some pkt0, wp := { off := 1 } }), by decide +kernel⟩,
   ⟨.A, 0, ports (ch0 base { chanAB .packet with pkt := some pkt0, wp := { off := 1 } }), by decide +kernel⟩⟩

theorem witness_BankGrantsRead :
    (∃ (q : BankReq) (s : State), s.blockUp 0 = true ∧ q.op = .rd ∧ s.mem.waiting = [] ∧ s.mem.holding = []) :=
  ⟨⟨0, 0, 0, 0, .rd⟩, base, by decide +kernel⟩

theorem witness_WriteBackRepairsLanes :
    (∃ (bank : Fin 130) (row : Nat) (col : Nat) (s : State), row < 528 ∧ col < 64 ∧ s.blockUp 0 = true ∧ s.tansy.copy
      = none ∧ s.mem.writeBack.contains (wordNo bank.val row col) = true ∧ Memory.wf s.mem.cells ∧ assocWfFrom (0 :
      BitVec 72) 0 s.mem.errs = true) :=
  ⟨0, 0, 0, { base with mem := { base.mem with errs := [(0, 1)], writeBack := [0] } }, by decide +kernel⟩

theorem witness_StoredWords :
    (∃ (m : MemSt) (bs : List Byte), bs.length = 32 ∧ Memory.wf m.cells ∧ assocWfFrom (0 : BitVec 72) 0 m.errs =
      true) :=
  ⟨base.mem, List.replicate 32 7, by decide +kernel⟩

theorem witness_LaneErrors :
    (∃ (m : MemSt) (w : Nat) (i : Nat), assocGet 0 m.errs (w * 4 + i) = 0) ∧
    (∃ (m : MemSt) (w : Nat) (i : Nat) (b : Fin 72), assocGet 0 m.errs (w * 4 + i) = (1 : BitVec 72) <<< b.val) ∧
    (∃ (m : MemSt) (w : Nat) (i : Nat) (b : Fin 72) (c : Fin 72), b ≠ c ∧ assocGet 0 m.errs (w * 4 + i) = (1 : BitVec
      72) <<< b.val ^^^ (1 : BitVec 72) <<< c.val) ∧
    (∃ (m : MemSt) (w : Nat) (i : Nat), 3 ≤ popBits (assocGet 0 m.errs (w * 4 + i)).toNat 72) ∧
    (∃ (m : MemSt) (k : MemSt) (w : Nat) (v : Nat) (i : Nat) (j : Nat), loadBytes m.cells (w * 32 + 8 * i) 8 =
      loadBytes k.cells (v * 32 + 8 * j) 8 ∧ assocGet 0 m.errs (w * 4 + i) = assocGet 0 k.errs (v * 4 + j)) :=
  ⟨⟨base.mem, 1, 1, by decide +kernel⟩,
   ⟨{ base.mem with errs := [(5, 4)] }, 1, 1, 2, by decide +kernel⟩,
   ⟨{ base.mem with errs := [(5, 6)] }, 1, 1, 2, 1, by decide +kernel⟩,
   ⟨{ base.mem with errs := [(5, 7)] }, 1, 1, by decide +kernel⟩,
   ⟨{ base.mem with errs := [(5, 7)] }, { base.mem with errs := [(8, 7)] }, 1, 2, 1, 0, by decide +kernel⟩⟩

theorem witness_PlacesAndPointers :
    (∃ (p : Nat) (n : Fin 20) (s : State), s.inArea p = false ∧ (∀ k : Fin 20, (s.chan k).holdsBlock (p / 128) = true
      ↔ k = n)) ∧
    (∃ (p : Nat) (s : State), ((s.inArea p = true ∨ ∀ k : Fin 20, (s.chan k).holdsBlock (p / 128) = false))) ∧
    (∃ (skew : Nat) (p : Nat), skew < 128 ∧ p < 4194304) ∧
    (∃ (sz : Nat) (p : Ptr), 0 < sz ∧ p.off < sz) ∧
    (∃ (sz : Nat) (p : Ptr), 0 < sz ∧ p.off < sz) ∧
    (∃ (sz : Nat) (a : Ptr) (b : Ptr), 0 < sz ∧ a.off < sz ∧ b.off < sz ∧ dist sz a b = 0) :=
  ⟨⟨0, 0, { base with mem := { base.mem with areas := Vector.replicate 4 0 } }, by decide +kernel⟩,
   ⟨4194303, { base with mem := { base.mem with areas := Vector.replicate 4 0 } }, by decide +kernel⟩,
   ⟨127, 4194303, by decide +kernel⟩,
   ⟨1, { off := 0 }, by decide +kernel⟩,
   ⟨3, { off := 2 }, by decide +kernel⟩,
   ⟨1, {}, {}, by decide +kernel⟩⟩

theorem witness_PlainCommandsAnswered :
    (∃ (x : Port) (c : RCmd) (s : State), CmdTaken x 0#5 c 0 0 s) ∧
    (∃ (x : Port) (c : RCmd) (s : State), CmdTaken x 17#5 c 0 0 s ∧ c.mod.getLsbD 0 = false) ∧
    (∃ (x : Port) (c : RCmd) (op1 : W32) (op2 : W32) (s : State), CmdTaken x 14#5 c op1 op2 s ∧ c.mod = 5#7) ∧
    (∃ (x : Port) (c : RCmd) (s : State), CmdTaken x 16#5 c 0 0 s ∧ c.mod = 1#7) ∧
    (∃ (x : Port) (opc : BitVec 5) (c : RCmd) (s : State), 18 ≤ opc.toNat ∧ (s.port x).state = .ready ∧ s.chainHalf
      false = false ∧ s.shadows = false ∧ s.drives = true ∧ (s.port x).q = [] ∧ cmdParityOk opc c 0 0 = true ∧ c.cseq
      = (s.port x).expCseq) ∧
    (∃ (x : Port) (c : RCmd) (op1 : W32) (op2 : W32) (s : State), CmdTaken x 14#5 c op1 op2 s ∧ c.mod = 0x45#7) ∧
    (∃ (x : Port) (c : RCmd) (op1 : W32) (s : State), CmdTaken x 14#5 c op1 0 s ∧ c.mod = 0x46#7) :=
  ⟨⟨.B, rc 0 0 0 0, ports base, by decide +kernel⟩,
   ⟨.B, rc 17 0 0 0, ports base, by decide +kernel⟩,
   ⟨.B, rc 14 5 0 0, 0, 0, ports base, by decide +kernel⟩,
   ⟨.B, rc 16 1 0 0, ports base, by decide +kernel⟩,
   ⟨.B, 31#5, rc 31 0 0 0, ports base, by decide +kernel⟩,
   ⟨.B, rc 14 0x45 (0xFFFFFFFF) (1), 0xFFFFFFFF, 1,
    (ports base).modPort .B fun p => { p with attnCause := 0x60, attnChannels := 3 }, by decide +kernel⟩,
   ⟨.B, rc 14 0x46 (0xFFFFFFFF) 0, 0xFFFFFFFF, ports base, by decide +kernel⟩⟩

theorem witness_LockAndUnlock :
    (∃ (x : Port) (c : RCmd) (s : State), CmdTaken x 12#5 c 0 0 s ∧ s.blockUp 0 = true ∧ s.slot (c.mod.toNat % 64) =
      ⟨.free, false⟩) ∧
    (∃ (x : Port) (c : RCmd) (s : State), CmdTaken x 12#5 c 0 0 s ∧ s.blockUp 0 = true ∧ s.slot (c.mod.toNat % 64) =
      ⟨.free, true⟩) ∧
    (∃ (x : Port) (c : RCmd) (s : State), CmdTaken x 12#5 c 0 0 s ∧ s.blockUp 0 = true ∧ (s.slot (c.mod.toNat %
      64)).owner ≠ .free ∧ (s.slot (c.mod.toNat % 64)).owner ≠ portOwner x) ∧
    (∃ (x : Port) (c : RCmd) (s : State), CmdTaken x 13#5 c 0 0 s ∧ s.blockUp 0 = true ∧ (s.slot (c.mod.toNat %
      64)).owner = portOwner x) ∧
    (∃ (x : Port) (c : RCmd) (s : State), CmdTaken x 12#5 c 0 0 s ∧ s.blockUp 0 = false) ∧
    (∃ (o : Owner), o ≠ .free) :=
  ⟨⟨.B, rc 12 63 0 0, ports base, by decide +kernel⟩,
   ⟨.B, rc 12 63 0 0, { ports base with mem := { base.mem with locks := base.mem.locks.set 63 ⟨.free, true⟩ } },
    by decide +kernel⟩,
   ⟨.B, rc 12 0 0 0, { ports base with mem := { base.mem with locks := base.mem.locks.set 0 ⟨.pa, false⟩ } },
    by decide +kernel⟩,
   ⟨.B, rc 13 0 0 0, { ports base with mem := { base.mem with locks := base.mem.locks.set 0 ⟨.pb, false⟩ } },
    by decide +kernel⟩,
   ⟨.B, rc 12 63 0 0, { ports base with rst := { base.rst with blockReset := 1 } }, by decide +kernel⟩,
   ⟨.lr, by decide +kernel⟩⟩

theorem witness_ScratchOperations :
    (∃ (x : Port) (c : RCmd) (op1 : W32) (s : State), CmdTaken x 8#5 c op1 0 s ∧ ScratchReady (portMaster x) false
      (c.mod.toNat % 4) op1.toNat s) ∧
    (∃ (x : Port) (c : RCmd) (op1 : W32) (op2 : W32) (s : State), CmdTaken x 9#5 c op1 op2 s ∧ ScratchReady
      (portMaster x) true (c.mod.toNat % 4) op1.toNat s ∧ s.tansy.copy = none ∧ MemoriesCanonical s) ∧
    (∃ (x : Port) (c : RCmd) (op1 : W32) (op2 : W32) (s : State), CmdTaken x 10#5 c op1 op2 s ∧ ScratchReady
      (portMaster x) true (c.mod.toNat % 4) op1.toNat s ∧ s.tansy.copy = none ∧ MemoriesCanonical s) ∧
    (∃ (x : Port) (c : RCmd) (op1 : W32) (op2 : W32) (s : State), CmdTaken x 11#5 c op1 op2 s ∧ ScratchReady
      (portMaster x) true (c.mod.toNat % 4) op1.toNat s ∧ s.tansy.copy = none ∧ MemoriesCanonical s) ∧
    (∃ (x : Port) (c : RCmd) (op1 : W32) (s : State), CmdTaken x 8#5 c op1 0 s ∧ s.blockUp 0 = true ∧ ((areaOn
      (s.mem.areas.toList.getD (c.mod.toNat % 4) 0) = false ∨ areaSize (s.mem.areas.toList.getD (c.mod.toNat % 4) 0)
      * 1024 ≤ op1.toNat))) ∧
    (∃ (x : Port) (c : RCmd) (op1 : W32) (op2 : W32) (s : State), CmdTaken x 9#5 c op1 op2 s ∧ s.blockUp 0 = true ∧
      ((areaOn (s.mem.areas.toList.getD (c.mod.toNat % 4) 0) = false ∨ areaSize (s.mem.areas.toList.getD (c.mod.toNat
      % 4) 0) * 1024 ≤ op1.toNat))) ∧
    (∃ (x : Port) (c : RCmd) (op1 : W32) (op2 : W32) (s : State), CmdTaken x 10#5 c op1 op2 s ∧ s.blockUp 0 = true ∧
      ((areaOn (s.mem.areas.toList.getD (c.mod.toNat % 4) 0) = false ∨ areaSize (s.mem.areas.toList.getD (c.mod.toNat
      % 4) 0) * 1024 ≤ op1.toNat))) ∧
    (∃ (x : Port) (c : RCmd) (op1 : W32) (op2 : W32) (s : State), CmdTaken x 11#5 c op1 op2 s ∧ s.blockUp 0 = true ∧
      ((areaOn (s.mem.areas.toList.getD (c.mod.toNat % 4) 0) = false ∨ areaSize (s.mem.areas.toList.getD (c.mod.toNat
      % 4) 0) * 1024 ≤ op1.toNat))) :=
  ⟨⟨.B, rc 8 0 (1023) 0, 1023,
    { ports base with mem := { base.mem with cells := [(0, 0x5A)], areas := base.mem.areas.set 0 0x80008000, desc := base.mem.desc.set 1 (base.mem.desc.get 3) } },
    by decide +kernel⟩,
   ⟨.B, rc 9 0 (0) (0xA5), 0, 0xA5,
    { ports base with mem := { base.mem with cells := [(0, 0x5A)], areas := base.mem.areas.set 0 0x80008000, desc := base.mem.desc.set 1 (base.mem.desc.get 3) } },
    by decide +kernel⟩,
   ⟨.B, rc 10 0 (0) (0xA5), 0, 0xA5,
    { ports base with mem := { base.mem with cells := [(0, 0x5A)], areas := base.mem.areas.set 0 0x80008000, desc := base.mem.desc.set 1 (base.mem.desc.get 3) } },
    by decide +kernel⟩,
   ⟨.B, rc 11 0 (0) (0xA5), 0, 0xA5,
    { ports base with mem := { base.mem with cells := [(0, 0x5A)], areas := base.mem.areas.set 0 0x80008000, desc := base.mem.desc.set 1 (base.mem.desc.get 3) } },
    by decide +kernel⟩,
   ⟨.B, rc 8 0 (1024) 0, 1024,
    { ports base with mem := { base.mem with cells := [(0, 0x5A)], areas := base.mem.areas.set 0 0x80008000, desc := base.mem.desc.set 1 (base.mem.desc.get 3) } },
    by decide +kernel⟩,
   ⟨.B, rc 9 0 (0) (0xA5), 0, 0xA5, ports base, by decide +kernel⟩,
   ⟨.B, rc 10 0 (1024) (0xA5), 1024, 0xA5,
    { ports base with mem := { base.mem with cells := [(0, 0x5A)], areas := base.mem.areas.set 0 0x80008000, desc := base.mem.desc.set 1 (base.mem.desc.get 3) } },
    by decide +kernel⟩,
   ⟨.B, rc 11 0 (1024) (0xA5), 1024, 0xA5,
    { ports base with mem := { base.mem with cells := [(0, 0x5A)], areas := base.mem.areas.set 0 0x80008000, desc := base.mem.desc.set 1 (base.mem.desc.get 3) } },
    by decide +kernel⟩⟩

theorem witness_ChannelCommands :
    (∃ (x : Port) (c : RCmd) (n : Fin 20) (s : State), CmdTaken x 4#5 c 0 0 s ∧ Commands x c n s) ∧
    (∃ (x : Port) (c : RCmd) (n : Fin 20) (s : State), CmdTaken x 5#5 c 0 0 s ∧ Commands x c n s) ∧
    (∃ (x : Port) (c : RCmd) (n : Fin 20) (s : State), CmdTaken x 6#5 c 0 0 s ∧ Commands x c n s ∧ c.mod = 0#7) ∧
    (∃ (x : Port) (c : RCmd) (n : Fin 20) (s : State), CmdTaken x 6#5 c 0 0 s ∧ Commands x c n s ∧ c.mod = 1#7 ∧
      (((s.chan n).cfg.relmode = .explicit ∨ (s.chan n).markValid = true))) ∧
    (∃ (x : Port) (c : RCmd) (n : Fin 20) (s : State), CmdTaken x 6#5 c 0 0 s ∧ Commands x c n s ∧ c.mod = 1#7 ∧
      (s.chan n).cfg.relmode ≠ .explicit ∧ (s.chan n).markValid = false) ∧
    (∃ (x : Port) (c : RCmd) (n : Fin 20) (s : State), CmdTaken x 7#5 c 0 0 s ∧ Commands x c n s ∧ (s.chan
      n).cfg.compat = true ∧ (s.chan n).inPkt = none) ∧
    (∃ (x : Port) (c : RCmd) (n : Fin 20) (s : State), CmdTaken x 7#5 c 0 0 s ∧ Commands x c n s ∧ (s.chan
      n).cfg.compat = true ∧ (s.chan n).inPkt.isSome = true) ∧
    (∃ (x : Port) (c : RCmd) (n : Fin 20) (s : State) (k : PktPos), CmdTaken x 2#5 c 0 0 s ∧ Consumes x c n s ∧
      (s.chan n).cfg.cls = .packet ∧ (s.chan n).flushArmed = true ∧ (s.chan n).inPkt = some k ∧ k.total = k.done + 1
      ∧ s.ringReadable n ≠ 0 ∧ (s.wordAtRp n).bad = false) ∧
    (∃ (x : Port) (c : RCmd) (n : Fin 20) (s : State), CmdTaken x 7#5 c 0 0 s ∧ Commands x c n s ∧ (s.chan
      n).cfg.compat = false) ∧
    (∃ (x : Port) (c : RCmd) (n : Fin 20) (s : State), CmdTaken x 4#5 c 0 0 s ∧ chanOf c.ch.toNat = some n ∧ (s.chan
      n).cfg.consumer = End.ofPort x ∧ (((s.chan n).state = .disabled ∨ (s.chan n).state = .fault))) ∧
    (∃ (x : Port) (c : RCmd) (n : Fin 20) (s : State), CmdTaken x 5#5 c 0 0 s ∧ chanOf c.ch.toNat = some n ∧ (s.chan
      n).cfg.consumer = End.ofPort x ∧ (((s.chan n).state = .disabled ∨ (s.chan n).state = .fault))) ∧
    (∃ (x : Port) (c : RCmd) (n : Fin 20) (s : State), CmdTaken x 6#5 c 0 0 s ∧ chanOf c.ch.toNat = some n ∧ (s.chan
      n).cfg.consumer = End.ofPort x ∧ (((s.chan n).state = .disabled ∨ (s.chan n).state = .fault)) ∧ c.mod = 0#7) ∧
    (∃ (x : Port) (c : RCmd) (n : Fin 20) (s : State), CmdTaken x 6#5 c 0 0 s ∧ chanOf c.ch.toNat = some n ∧ (s.chan
      n).cfg.consumer = End.ofPort x ∧ (((s.chan n).state = .disabled ∨ (s.chan n).state = .fault)) ∧ c.mod = 1#7) ∧
    (∃ (x : Port) (c : RCmd) (n : Fin 20) (s : State), CmdTaken x 7#5 c 0 0 s ∧ chanOf c.ch.toNat = some n ∧ (s.chan
      n).cfg.consumer = End.ofPort x ∧ (((s.chan n).state = .disabled ∨ (s.chan n).state = .fault))) ∧
    (∃ (x : Port) (c : RCmd) (n : Fin 20) (s : State), CmdTaken x 6#5 c 0 0 s ∧ chanOf c.ch.toNat = some n ∧ (s.chan
      n).cfg.consumer = End.ofPort x ∧ (s.chan n).state = .active ∧ s.dirRead n = false ∧ c.mod = 0#7 ∧ (s.chan
      n).cfg.relmode = .explicit ∧ (s.chan n).rp = (s.chan n).wp ∧ (s.chan n).deferred ≠ [] ∧ (s.chan n).s < 128 +
      (fenceOffsets s.tansy.fences (s.chan n)).length) :=
  ⟨⟨.B, rc 4 0 0 0, 0,
    ports (ch0 base { chanAB .packet with wp := { off := 3 }, cp := { off := 3 }, rp := { off := 2 }, mp := { off := 1 }, lp := { off := 1 } }),
    by decide +kernel⟩,
   ⟨.B, rc 5 0 0 0, 0,
    ports (ch0 base { chanAB .packet with wp := { off := 3 }, cp := { off := 3 }, rp := { off := 2 }, mp := { off := 1 }, lp := { off := 1 }, markValid := true }),
    by decide +kernel⟩,
   ⟨.B, rc 6 0 0 0, 0,
    ports (ch0 base { chanAB .packet with wp := { off := 3 }, cp := { off := 3 }, rp := { off := 2 }, mp := { off := 1 }, lp := { off := 1 }, markValid := true }),
    by decide +kernel⟩,
   ⟨.B, rc 6 1 0 0, 0,
    ports (ch0 base { chanAB .packet with wp := { off := 3 }, cp := { off := 3 }, rp := { off := 2 }, mp := { off := 1 }, lp := { off := 1 }, markValid := true }),
    by decide +kernel⟩,
   ⟨.B, rc 6 1 0 0, 0,
    (ports (ch0 base { chanAB .packet with wp := { off := 3 }, cp := { off := 3 }, rp := { off := 2 }, mp := { off := 1 }, lp := { off := 1 }, markValid := false })).modCh 0 fun k => { k with cfg := { k.cfg with relmode := .auto } },
    by decide +kernel⟩,
   ⟨.B, rc 7 0 0 0, 0,
    (ports (ch0 base { chanAB .packet with wp := { off := 3 }, cp := { off := 3 }, rp := { off := 2 }, mp := { off := 1 }, lp := { off := 1 }, markValid := true })).modCh 0 fun k => { k with cfg := { k.cfg with compat := true } },
    by decide +kernel⟩,
   ⟨.B, rc 7 0 0 0, 0,
    (ports (ch0 base { chanAB .packet with wp := { off := 3 }, cp := { off := 3 }, rp := { off := 2 }, mp := { off := 1 }, lp := { off := 1 }, markValid := true, inPkt := some ⟨36, 2, 1, 0⟩, state := .held })).modCh 0 fun k => { k with cfg := { k.cfg with compat := true } },
    by decide +kernel⟩,
   ⟨.B, rc 2 0 0 0, 0,
    ports (ch0 base { chanAB .packet with wp := { off := 3 }, cp := { off := 3 }, rp := { off := 2 }, mp := { off := 1 }, lp := { off := 1 }, markValid := true, inPkt := some ⟨36, 2, 1, 0⟩, flushArmed := true }),
    ⟨36, 2, 1, 0⟩, by decide +kernel⟩,
   ⟨.B, rc 7 0 0 0, 0,
    ports (ch0 base { chanAB .packet with wp := { off := 3 }, cp := { off := 3 }, rp := { off := 2 }, mp := { off := 1 }, lp := { off := 1 }, markValid := true }),
    by decide +kernel⟩,
   ⟨.B, rc 4 0 0 0, 0,
    ports (ch0 base { chanAB .packet with wp := { off := 3 }, cp := { off := 3 }, rp := { off := 2 }, mp := { off := 1 }, lp := { off := 1 }, markValid := true, state := .fault }),
    by decide +kernel⟩,
   ⟨.B, rc 5 0 0 0, 0,
    ports (ch0 base { chanAB .packet with wp := { off := 3 }, cp := { off := 3 }, rp := { off := 2 }, mp := { off := 1 }, lp := { off := 1 }, markValid := true, state := .disabled }),
    by decide +kernel⟩,
   ⟨.B, rc 6 0 0 0, 0,
    ports (ch0 base { chanAB .packet with wp := { off := 3 }, cp := { off := 3 }, rp := { off := 2 }, mp := { off := 1 }, lp := { off := 1 }, markValid := true, state := .fault }),
    by decide +kernel⟩,
   ⟨.B, rc 6 1 0 0, 0,
    ports (ch0 base { chanAB .packet with wp := { off := 3 }, cp := { off := 3 }, rp := { off := 2 }, mp := { off := 1 }, lp := { off := 1 }, markValid := true, state := .disabled }),
    by decide +kernel⟩,
   ⟨.B, rc 7 0 0 0, 0,
    ports (ch0 base { chanAB .packet with wp := { off := 3 }, cp := { off := 3 }, rp := { off := 2 }, mp := { off := 1 }, lp := { off := 1 }, markValid := true, state := .fault }),
    by decide +kernel⟩,
   ⟨.B, rc 6 0 0 0, 0,
    ports { ch0 base { chanAB .raw with cfg := { (chanAB .raw).cfg with size := 1 }, wp := { off := 2 }, cp := { off := 2 }, rp := { off := 2 }, deferred := [0] } with tansy := { base.tansy with fences := [⟨0, 0, 0, 0, 0⟩] } },
    by decide +kernel⟩⟩

theorem witness_ReadsDeliverStoredWords :
    (∃ (x : Port) (c : RCmd) (op1 : W32) (n : Fin 20) (s : State), CmdTaken x 1#5 c op1 0 s ∧ Consumes x c n s ∧
      (s.chan n).cfg.cls = .raw ∧ op1 = 0 ∧ s.ringReadable n ≠ 0 ∧ (s.chan n).tails = [] ∧ (s.wordAtRp n).bad = false
      ∧ (s.chan n).flushArmed = false) ∧
    (∃ (x : Port) (c : RCmd) (n : Fin 20) (s : State) (k : PktPos), CmdTaken x 2#5 c 0 0 s ∧ Consumes x c n s ∧
      (s.chan n).cfg.cls = .packet ∧ (s.chan n).inPkt = some k ∧ k.total = k.done + 1 ∧ s.ringReadable n ≠ 0 ∧
      (s.wordAtRp n).bad = false ∧ (s.chan n).flushArmed = false) ∧
    (∃ (x : Port) (c : RCmd) (n : Fin 20) (s : State) (k : PktPos), CmdTaken x 3#5 c 0 0 s ∧ Consumes x c n s ∧
      (s.chan n).cfg.cls = .packet ∧ (s.chan n).inPkt = some k ∧ k.total = k.done + 1 ∧ s.ringReadable n ≠ 0 ∧
      (s.wordAtRp n).bad = false) ∧
    (∃ (x : Port) (c : RCmd) (op1 : W32) (n : Fin 20) (s : State), CmdTaken x 1#5 c op1 0 s ∧ Consumes x c n s ∧
      (s.chan n).cfg.cls = .raw ∧ op1.toNat < 256 ∧ op1.toNat < s.ringReadable n ∧ (s.chan n).tails = [] ∧ (s.chan
      n).deferred = [] ∧ (s.wordsFrom n (op1.toNat + 1) (s.chan n).rp).all (fun w => !w.bad) = true ∧ (s.chan
      n).flushArmed = false) ∧
    (∃ (x : Port) (c : RCmd) (n : Fin 20) (s : State) (len : Nat), CmdTaken x 2#5 c 0 0 s ∧ Consumes x c n s ∧
      (s.chan n).cfg.cls = .packet ∧ (s.chan n).inPkt = none ∧ (s.chan n).deferred = [] ∧ leField (s.wordAtRp n).data
      0 3 = len ∧ pktWords len ≤ s.ringReadable n ∧ (s.wordsFrom n (pktWords len) (s.chan n).rp).all (fun w =>
      !w.bad) = true ∧ (s.chan n).flushArmed = false) ∧
    (∃ (x : Port) (c : RCmd) (n : Fin 20) (s : State) (len : Nat), CmdTaken x 3#5 c 0 0 s ∧ Consumes x c n s ∧
      (s.chan n).cfg.cls = .packet ∧ (s.chan n).inPkt = none ∧ (s.chan n).deferred = [] ∧ leField (s.wordAtRp n).data
      0 3 = len ∧ pktWords len ≤ s.ringReadable n ∧ (s.wordsFrom n (pktWords len) (s.chan n).rp).all (fun w =>
      !w.bad) = true) ∧
    (∃ (x : Port) (c : RCmd) (op1 : W32) (n : Fin 20) (s : State) (len : Nat), CmdTaken x 1#5 c op1 0 s ∧ Consumes x
      c n s ∧ (s.chan n).cfg.cls = .packet ∧ (s.chan n).inPkt = none ∧ (s.chan n).deferred = [] ∧ leField (s.wordAtRp
      n).data 0 3 = len ∧ op1.toNat < 256 ∧ op1.toNat + 1 < pktWords len ∧ op1.toNat < s.ringReadable n ∧
      (s.wordsFrom n (op1.toNat + 1) (s.chan n).rp).all (fun w => !w.bad) = true ∧ (s.chan n).flushArmed = false) ∧
    (∃ (x : Port) (c : RCmd) (n : Fin 20) (i : Fin 3) (k : Nat) (e : SliceEntry) (s : State), CmdTaken x 2#5 c 0 0 s
      ∧ chanOf c.ch.toNat = some n ∧ SlicePresent x n i k e s ∧ k + 1 < ((s.chan n).record i).count) ∧
    (∃ (x : Port) (c : RCmd) (n : Fin 20) (i : Fin 3) (k : Nat) (e : SliceEntry) (s : State), CmdTaken x 3#5 c 0 0 s
      ∧ chanOf c.ch.toNat = some n ∧ SlicePresent x n i k e s) :=
  ⟨⟨.B, rc 1 0 0 0, 0, 0,
    ports (ch0 base { chanAB .raw with wp := { off := 3 }, cp := { off := 3 }, rp := { off := 2 }, mp := { off := 1 }, lp := { off := 1 } }),
    by decide +kernel⟩,
   ⟨.B, rc 2 0 0 0, 0,
    ports (ch0 base { chanAB .packet with wp := { off := 3 }, cp := { off := 3 }, rp := { off := 2 }, mp := { off := 1 }, lp := { off := 1 }, inPkt := some ⟨20, 2, 1, 0⟩ }),
    ⟨20, 2, 1, 0⟩, by decide +kernel⟩,
   ⟨.B, rc 3 0 0 0, 0,
    ports (ch0 base { chanAB .packet with wp := { off := 3 }, cp := { off := 3 }, rp := { off := 2 }, mp := { off := 1 }, lp := { off := 1 }, inPkt := some ⟨20, 2, 1, 0⟩ }),
    ⟨20, 2, 1, 0⟩, by decide +kernel⟩,
   ⟨.B, rc 1 0 1 0, 1, 0,
    ports (ch0 ({ base with mem := { base.mem with cells := storeBytes [] 0 (leBytes 36 3 ++ [8] ++ zeros 4 ++ leBytes 9 4 ++ List.replicate 52 5) } }) { chanAB .raw with wp := { off := 2 }, cp := { off := 2 }, nextPseq := 65535 }),
    by decide +kernel⟩,
   ⟨.B, rc 2 0 0 0, 0,
    ports (ch0 ({ base with mem := { base.mem with cells := storeBytes [] 0 (leBytes 36 3 ++ [8] ++ zeros 4 ++ leBytes 9 4 ++ List.replicate 52 5) } }) { chanAB .packet with wp := { off := 2 }, cp := { off := 2 }, nextPseq := 65535 }),
    36, by decide +kernel⟩,
   ⟨.B, rc 3 0 0 0, 0,
    ports (ch0 ({ base with mem := { base.mem with cells := storeBytes [] 0 (leBytes 36 3 ++ [8] ++ zeros 4 ++ leBytes 9 4 ++ List.replicate 52 5) } }) { chanAB .packet with wp := { off := 2 }, cp := { off := 2 }, nextPseq := 65535 }),
    36, by decide +kernel⟩,
   ⟨.B, rc 1 0 0 0, 0, 0,
    ports (ch0 ({ base with mem := { base.mem with cells := storeBytes [] 0 (leBytes 36 3 ++ [8] ++ zeros 4 ++ leBytes 9 4 ++ List.replicate 52 5) } }) { chanAB .packet with wp := { off := 2 }, cp := { off := 2 }, nextPseq := 65535 }),
    36, by decide +kernel⟩,
   ⟨.B, rc 2 0 0 0, 0, 2, 1, ⟨1, true, 0, 0, 36, {}, 0⟩,
    ports (ch0 ({ base with mem := { base.mem with cells := storeBytes [] 0 (leBytes 36 3 ++ [8] ++ zeros 4 ++ leBytes 9 4 ++ List.replicate 52 5) } }) ({ chanAB .slice with wp := { off := 2 }, cp := { off := 2 }, nextPseq := 65535 }.modRec 2 fun _ => { state := .reading, count := 3, frame := 3, gateOpen := true, pos := 1, entries := [⟨1, true, 0, 0, 36, {}, 0⟩] })),
    by decide +kernel⟩,
   ⟨.B, rc 3 0 0 0, 0, 2, 1, ⟨1, true, 0, 0, 36, {}, 0⟩,
    ports (ch0 ({ base with mem := { base.mem with cells := storeBytes [] 0 (leBytes 36 3 ++ [8] ++ zeros 4 ++ leBytes 9 4 ++ List.replicate 52 5) } }) ({ chanAB .slice with wp := { off := 2 }, cp := { off := 2 }, nextPseq := 65535 }.modRec 2 fun _ => { state := .reading, count := 3, frame := 3, gateOpen := true, pos := 1, entries := [⟨1, true, 0, 0, 36, {}, 0⟩] })),
    by decide +kernel⟩⟩

theorem witness_ResyncMakesReady :
    (∃ (x : Port) (c : RCmd) (op1 : W32) (s : State), (s.port x).state ≠ .off ∧ s.chainHalf false = false ∧ s.shadows
      = false ∧ s.drives = true ∧ (s.port x).q = [] ∧ cmdParityOk 15#5 c op1 0 = true ∧ malformed 15#5 c op1 0 =
      false ∧ s.clocksStable x = true ∧ s.blockUp (7 + portIdx x) = true) ∧
    (∃ (x : Port) (c : RCmd) (op1 : W32) (s : State), (s.port x).state ≠ .off ∧ s.chainHalf false = true ∧
      cmdParityOk 15#5 c op1 0 = true ∧ malformed 15#5 c op1 0 = false ∧ s.clocksStable x = true ∧ s.blockUp (7 +
      portIdx x) = true) :=
  ⟨⟨.B, rc 15 1 (9) 0, 9,
    { (ports base).modPort .B fun p => { p with state := .isolated, lastAccepted := 4 } with now := 20000000 },
    by decide +kernel⟩,
   ⟨.B, rc 15 1 (9) 0, 9,
    { (chain (ports base) false).modPort .B fun p => { p with state := .isolated, lastAccepted := 4 } with now := 20000000 },
    by decide +kernel⟩⟩

theorem witness_DecoderRefusals :
    (∃ (i : Instr) (x : Port) (opc : BitVec 5) (c : RCmd) (op1 : W32) (op2 : W32) (s : State), asCommand i = some (x,
      opc, c, op1, op2) ∧ (s.port x).state ≠ .off ∧ s.chainHalf false = false ∧ s.shadows = false ∧ s.drives = true ∧
      (s.port x).q = [] ∧ cmdParityOk opc c op1 op2 = false) ∧
    (∃ (i : Instr) (x : Port) (opc : BitVec 5) (c : RCmd) (op1 : W32) (op2 : W32) (s : State), asCommand i = some (x,
      opc, c, op1, op2) ∧ (s.port x).state = .isolated ∧ s.chainHalf false = false ∧ s.shadows = false ∧ s.drives =
      true ∧ (s.port x).q = [] ∧ cmdParityOk opc c op1 op2 = true ∧ opc ≠ 15#5) ∧
    (∃ (i : Instr) (x : Port) (opc : BitVec 5) (c : RCmd) (op1 : W32) (op2 : W32) (s : State), asCommand i = some (x,
      opc, c, op1, op2) ∧ (s.port x).state = .seqgap ∧ s.chainHalf false = false ∧ s.shadows = false ∧ s.drives =
      true ∧ (s.port x).q = [] ∧ cmdParityOk opc c op1 op2 = true ∧ opc ≠ 15#5) ∧
    (∃ (i : Instr) (x : Port) (opc : BitVec 5) (c : RCmd) (op1 : W32) (op2 : W32) (s : State), asCommand i = some (x,
      opc, c, op1, op2) ∧ (s.port x).state = .ready ∧ s.chainHalf false = false ∧ s.shadows = false ∧ s.drives = true
      ∧ (s.port x).q = [] ∧ cmdParityOk opc c op1 op2 = true ∧ opc ≠ 15#5 ∧ c.cseq ≠ (s.port x).expCseq) :=
  ⟨⟨.nop (.B) ({ rc 0 0 0 0 with par := (rc 0 0 0 0).par ^^^ 1 }), .B, 0,
    { rc 0 0 0 0 with par := (rc 0 0 0 0).par ^^^ 1 }, 0, 0, ports base, by decide +kernel⟩,
   ⟨.swr (.B) (rc 9 0 0 5) (0) (5), .B, 9, rc 9 0 0 5, 0, 5,
    (ports base).modPort .B fun p => { p with state := .isolated }, by decide +kernel⟩,
   ⟨.readp (.B) (rc 2 0 0 0), .B, 2, rc 2 0 0 0, 0, 0, (ports base).modPort .B fun p => { p with state := .seqgap },
    by decide +kernel⟩,
   ⟨.lock (.B) (rc 12 0 0 0), .B, 12, rc 12 0 0 0, 0, 0, (ports base).modPort .B fun p => { p with expCseq := 7 },
    by decide +kernel⟩⟩

theorem witness_TimeSetAtSender :
    (∃ (x : Port) (c : RCmd) (op1 : W32) (op2 : W32) (s : State), CmdTaken x 17#5 c op1 op2 s ∧ c.mod = 1#7 ∧
      s.time.valid = false) ∧
    (∃ (x : Port) (c : RCmd) (op1 : W32) (op2 : W32) (s : State), CmdTaken x 17#5 c op1 op2 s ∧ c.mod = 1#7 ∧
      s.time.valid = true ∧ (s.time.stepThreshold * tk : Nat) < (stampWall ⟨op1.toNat, op2.toNat, 0⟩ : Int) -
      s.time.wall) ∧
    (∃ (x : Port) (c : RCmd) (op1 : W32) (op2 : W32) (s : State), CmdTaken x 17#5 c op1 op2 s ∧ c.mod = 1#7 ∧
      s.time.valid = true ∧ (stampWall ⟨op1.toNat, op2.toNat, 0⟩ : Int) - s.time.wall < -(s.time.stepThreshold * tk :
      Nat)) :=
  ⟨⟨.B, rc 17 1 (5) (7), 5, 7,
    { ports sendBase with time := { base.time with source := 1, valid := false, wall := 5 * 1000000000 * tk } },
    by decide +kernel⟩,
   ⟨.B, rc 17 1 (9) (7), 9, 7,
    { ports sendBase with time := { base.time with source := 1, valid := true, wall := 5 * 1000000000 * tk } },
    by decide +kernel⟩,
   ⟨.B, rc 17 1 (2) (7), 2, 7,
    { ports sendBase with time := { base.time with source := 1, valid := true, wall := 5 * 1000000000 * tk } },
    by decide +kernel⟩⟩

theorem witness_AnsweredCommandFrame :
    (∃ (x : Port) (c : RCmd) (s : State) (t : State), s.twin.cloverState ≠ 2 ∧ ((∃ opc : BitVec 5, CmdTaken x opc c 0
      0 s ∧ ((opc = 0#5 ∧ exec (.nop x c) s = .next t) ∨ (opc = 17#5 ∧ c.mod.getLsbD 0 = false ∧ exec (.timeget x c)
      s = .next t) ∨ (opc = 12#5 ∧ exec (.lock x c) s = .next t) ∨ (opc = 13#5 ∧ exec (.unlock x c) s = .next t) ∨
      (opc = 14#5 ∧ exec (.status x c 0 0) s = .next t))))) :=
  ⟨.B, rc 0 0 0 0, ports base, out (exec (.nop (.B) (rc 0 0 0 0)) (ports base)) (ports base),
   ⟨by decide +kernel, ⟨0, by decide +kernel, .inl ⟨rfl, eq_out (nop_next _ _ _)⟩⟩⟩⟩

theorem witness_ChannelEndings :
    (∃ (n : Fin 20) (s : State), s.drained n = true ∧ s.pA.q = [] ∧ s.pB.q = []) ∧
    (∃ (n : Fin 20) (s : State), (s.chan n).state = .active ∧ s.pA.q = [] ∧ s.pB.q = []) :=
  ⟨⟨0, ch0 base { chanAB .packet with state := .draining }, by decide +kernel⟩,
   ⟨0, ch0 base { chanAB .packet with rp := { off := 1 } }, by decide +kernel⟩⟩

theorem witness_WaitingReadsAndIdle :
    (∃ (x : Port) (n : Fin 20) (s : State) (k : PCmd), s.shadows = false ∧ s.drives = true ∧ (s.port x).q = [k] ∧
      k.stalled = true ∧ k.opc = 1#5 ∧ chanOf k.c.ch.toNat = some n ∧ k.op1.toNat % 256 = k.delivered ∧ (s.chan
      n).cfg.cls = .raw ∧ (s.chan n).cfg.consumer = End.ofPort x ∧ (s.chan n).state = .active ∧ Roomy n s ∧
      s.ringReadable n ≠ 0 ∧ (s.chan n).tails = [] ∧ (s.wordAtRp n).bad = false ∧ (s.chan n).flushArmed = false) ∧
    (∃ (dt : Nat) (x : Port) (n : Fin 20) (s : State) (k : PCmd) (a : Nat), s.shadows = false ∧ s.drives = true ∧
      (s.port x).q = [k] ∧ k.stalled = true ∧ k.opc = 1#5 ∧ k.c.mod.getLsbD 0 = false ∧ chanOf k.c.ch.toNat = some n
      ∧ (s.chan n).cfg.cls = .raw ∧ (s.chan n).cfg.stallTimeout ≠ 0 ∧ (s.port x).stallStart = some a ∧ a + us (s.chan
      n).cfg.stallTimeout ≤ (s.advance dt).pwr.timeclk ∧ s.ringReadable n = 0) ∧
    (∃ (dt : Nat) (n : Fin 20) (x : Port) (s : State) (a : Nat), (s.chan n).cfg.cls = .packet ∧ (s.chan
      n).cfg.consumer = End.ofPort x ∧ (s.chan n).cfg.ridleTimeout ≠ 0 ∧ (s.chan n).ridleStart = some a ∧ a + us
      (s.chan n).cfg.ridleTimeout ≤ (s.advance dt).pwr.timeclk ∧ (s.chan n).ridleFired = false ∧ s.ridleNonEmpty n =
      true) ∧
    (∃ (dt : Nat) (n : Fin 20) (x : Port) (s : State) (a : Nat), (s.chan n).cfg.cls = .raw ∧ (s.chan n).cfg.consumer
      = End.ofPort x ∧ (s.chan n).state = .active ∧ (s.chan n).cfg.ridleTimeout ≠ 0 ∧ (s.chan n).ridleStart = some a
      ∧ a + us (s.chan n).cfg.ridleTimeout ≤ (s.advance dt).pwr.timeclk ∧ (s.chan n).ridleFired = false ∧ (s.chan
      n).rawBuf ≠ [] ∧ Roomy n s ∧ s.free n ≠ 0 ∧ (s.chan n).tails.length < 1536) ∧
    (∃ (dt : Nat) (n : Fin 20) (s : State) (a : Nat), (s.chan n).cfg.cls = .raw ∧ (s.chan n).cfg.ridleTimeout ≠ 0 ∧
      (s.chan n).ridleStart = some a ∧ a + us (s.chan n).cfg.ridleTimeout ≤ (s.advance dt).pwr.timeclk ∧ (s.chan
      n).ridleFired = false ∧ (s.chan n).rawBuf ≠ [] ∧ (s.chan n).tailPending = true ∧ s.free n = 0) ∧
    (∃ (n : Fin 20) (s : State), s.ridleNonEmpty n = false) :=
  ⟨⟨.B, 0,
    (ports (ch0 base { chanAB .raw with wp := { off := 3 }, cp := { off := 3 }, rp := { off := 2 }, mp := { off := 1 }, lp := { off := 1 } })).modPort .B fun p => { p with q := [({ cmd 1 1 true with delivered := 1 })], stallStart := some 0 },
    { cmd 1 1 true with delivered := 1 }, by decide +kernel⟩,
   ⟨800, .B, 0,
    (ports (ch0 base { chanAB .raw with cfg := { (chanAB .raw).cfg with stallTimeout := 1 } })).modPort .B fun p => { p with q := [(cmd 1 0 true)], stallStart := some 0 },
    cmd 1 0 true, 0, by decide +kernel⟩,
   ⟨800000, 0, .B, ch0 base { chanAB .packet with ridleStart := some 0, pkt := some pkt0 }, 0, by decide +kernel⟩,
   ⟨800000, 0, .B, ch0 base { chanAB .raw with ridleStart := some 0, rawBuf := [1, 2] }, 0, by decide +kernel⟩,
   ⟨800000, 0,
    ch0 base { chanAB .raw with ridleStart := some 0, rawBuf := [1, 2], tailPending := true, wp := { lap := true }, cp := { lap := true } },
    0, by decide +kernel⟩,
   ⟨0, ch0 base (chanAB .raw), by decide +kernel⟩⟩

theorem witness_GatesAndStandins :
    (∃ (dt : Nat) (n : Fin 20) (slot : Fin 3) (s : State), s.dirRead n = true ∧ (s.chan n).state = .active ∧ ((s.chan
      n).record slot).state = .filling ∧ ((s.chan n).record slot).gateOpen = false ∧ ((s.chan n).record slot).epoch =
      s.time.epoch ∧ s.timeValid = true ∧ Roomy n s ∧ (s.chan n).gateTime ((s.chan n).record slot) ≤ ((s.advance
      dt).time.wall : Int)) ∧
    (∃ (dt : Nat) (n : Fin 20) (i : Fin 3) (j : Nat) (s : State) (k : PCmd), s.shadows = false ∧ s.drives = true ∧
      s.pA.q = [k] ∧ s.pB.q = [] ∧ k.stalled = true ∧ k.opc = 2#5 ∧ chanOf k.c.ch.toNat = some n ∧ s.dirRead n = true
      ∧ (s.chan n).cfg.consumer = .portA ∧ (s.chan n).state = .active ∧ s.nextSlice n = some (i, j) ∧ ((s.chan
      n).record i).entries = [] ∧ (s.chan n).slotOf (fun r => r.state == .held) = none ∧ s.announcedStandin n j
      ((s.chan n).record i).frame = none ∧ Roomy n s ∧ s.timeValid = true ∧ ((s.chan n).record i).d ≤ ((s.advance
      dt).time.wall : Int)) :=
  ⟨⟨0, 0, 2,
    { ch0 base ({ chanAB .slice with state := .active }.modRec 2 fun _ => { state := .filling, count := 4, frame := 3 }) with time := { base.time with valid := true, wall := 4 * tk } },
    by decide +kernel⟩,
   ⟨0, 0, 0, 0,
    { (ports (ch0 base ({ chanAB .slice with cfg := { (chanAB .slice).cfg with consumer := .portA, producer := .portB } }.modRec 0 fun _ => { state := .filling, count := 4, frame := 3, gateOpen := true }))) with time := { base.time with valid := true, wall := 4 * tk } }.modPort .A fun p => { p with q := [(cmd 2 0 true)], stallStart := some 0 },
    cmd 2 0 true, by decide +kernel⟩⟩

theorem witness_ClockAbsentIsolates :
    (∃ (x : Port) (wclk : Bool) (rclk : Bool) (s : State), ((wclk = true ∨ rclk = true)) ∧ (s.port x).state = .ready
      ∧ (∀ n : Fin 20, Roomy n s)) ∧
    (∃ (x : Port) (s : State), (s.port x).wclkSince = none) :=
  ⟨⟨.B, true, false, { ports base with mem := { base.mem with locks := base.mem.locks.set 5 ⟨.pb, false⟩ } },
    by decide +kernel⟩,
   ⟨.B, base, by decide +kernel⟩⟩

theorem witness_ProbeEnds :
    (∃ (dt : Nat) (x : Port) (detected : Bool) (a : Nat) (s : State), (s.port x).probing = some a ∧ a + us 200 ≤
      s.now + 1250 * dt ∧ (((s.port x).mode = 1 ∨ ((s.port x).mode = 2 ∧ detected = true)))) ∧
    (∃ (dt : Nat) (x : Port) (a : Nat) (s : State), (s.port x).probing = some a ∧ a + us 200 ≤ s.now + 1250 * dt ∧
      (s.port x).mode = 2) ∧
    (∃ (x : Port) (s : State), s.yar.serving = true ∧ (s.port x).state = .off ∧ (s.port x).mode ≠ 0 ∧ s.portUp x =
      true) :=
  ⟨⟨160000, .B, true, 0, base.modPort .B fun p => { p with probing := some 0 }, by decide +kernel⟩,
   ⟨160000, .B, 0, base.modPort .B fun p => { p with probing := some 0 }, by decide +kernel⟩,
   ⟨.B, base.modPort .B fun p => { p with rail := false }, by decide +kernel⟩⟩

theorem witness_EnableMoves :
    (∃ (h : OdHead) (n : Fin 20) (s : State), OdServed h 2 (0x2000 + n.val) 0x13 [1#8] s ∧ (s.chan n).state =
      .disabled ∧ s.blockUp 1 = true ∧ s.unreadable = false ∧ s.enableCheck n 1 = 0) ∧
    (∃ (h : OdHead) (n : Fin 20) (s : State), OdServed h 2 (0x2000 + n.val) 0x13 [1#8] s ∧ (s.chan n).state =
      .disabled ∧ s.blockUp 1 = true ∧ s.unreadable = false ∧ s.enableCheck n 1 ≠ 0) ∧
    (∃ (h : OdHead) (n : Fin 20) (s : State), OdServed h 2 (0x2000 + n.val) 0x13 [1#8] s ∧ (s.chan n).state =
      .disabled ∧ s.blockUp 1 = true ∧ s.unreadable = true) ∧
    (∃ (h : OdHead) (n : Fin 20) (s : State), OdServed h 2 (0x2000 + n.val) 0x13 [2#8] s ∧ s.blockUp 1 = true ∧ Roomy
      n s ∧ (((s.chan n).state = .active ∨ (s.chan n).state = .draining))) ∧
    (∃ (h : OdHead) (n : Fin 20) (s : State), OdServed h 2 (0x2000 + n.val) 0x13 [3#8] s ∧ s.blockUp 1 = true ∧
      s.unreadable = false ∧ Roomy n s ∧ (((s.chan n).state = .active ∨ (s.chan n).state = .held))) ∧
    (∃ (h : OdHead) (n : Fin 20) (s : State), OdServed h 2 (0x2000 + n.val) 0x13 [0#8] s ∧ s.blockUp 1 = true ∧
      (s.chan n).state ≠ .disabled ∧ s.pA.q = [] ∧ s.pB.q = []) :=
  ⟨⟨hd, 16,
    { base with mem := { base.mem with desc := (base.mem.desc.set 0 (base.mem.desc.get 3)).set 2 (base.mem.desc.get 3) } },
    by decide +kernel⟩,
   ⟨hd, 16, base, by decide +kernel⟩,
   ⟨hd, 16, { base with od := { base.od with storeState := 3 } }, by decide +kernel⟩,
   ⟨hd, 0, ch0 base (chanAB .packet), by decide +kernel⟩,
   ⟨hd, 0, ch0 base { chanAB .packet with state := .held }, by decide +kernel⟩,
   ⟨hd, 0, ch0 base (chanAB .packet), by decide +kernel⟩⟩

theorem witness_MemoryRightsWrites :
    (∃ (h : OdHead) (m : Fin 6) (sub : Fin 8) (v : W32) (s : State), OdServed h 2 (0x2400 + m.val) (sub.val + 1)
      (leBytes v.toNat 4) s ∧ (v.extractLsb 16 2).toNat ≤ (v.extractLsb 31 17).toNat ∧ (∀ n : Fin 20, (s.chan
      n).enabled = true → s.rightsOk n = true → (s.putDesc m sub.val v).rightsOk n = true)) ∧
    (∃ (h : OdHead) (m : Fin 6) (sub : Fin 8) (v : W32) (s : State), OdServed h 2 (0x2400 + m.val) (sub.val + 1)
      (leBytes v.toNat 4) s ∧ (v.extractLsb 31 17).toNat < (v.extractLsb 16 2).toNat) ∧
    (∃ (h : OdHead) (k : Fin 4) (v : W32) (s : State), OdServed h 2 0x2300 (k.val + 1) (leBytes v.toNat 4) s ∧ v &&&
      0x83FFFFFF#32 = v ∧ areaOn v = true ∧ 1 ≤ areaSize v ∧ areaSize v ≤ 1024 ∧ areaBase v + areaSize v ≤ 32768 ∧
      s.mem.areas = Vector.replicate 4 0 ∧ (∀ n : Fin 20, (s.chan n).state = .disabled)) ∧
    (∃ (h : OdHead) (v : Byte) (s : State), OdServed h 2 0x2300 0x13 [v] s ∧ v.toNat < 64 ∧ (s.slot v.toNat).owner ≠
      .free) :=
  ⟨⟨hd, 2, 7, 0xFFFE0003, base, by decide +kernel⟩,
   ⟨hd, 2, 7, 0x0002000F, base, by decide +kernel⟩,
   ⟨hd, 3, 0x8000FF00, { base with mem := { base.mem with areas := Vector.replicate 4 0 } }, by decide +kernel⟩,
   ⟨hd, 63, { base with mem := { base.mem with locks := base.mem.locks.set 63 ⟨.pb, false⟩ } }, by decide +kernel⟩⟩

theorem witness_CountersClear :
    (∃ (h : OdHead) (n : Fin 20) (v : Byte) (s : State), OdServed h 2 (0x2100 + n.val) 0x1B [v] s) ∧
    (∃ (h : OdHead) (x : Port) (v : Byte) (s : State), OdServed h 2 (0x3010 + portPlace x) 0x18 [v] s) ∧
    (∃ (h : OdHead) (v : Byte) (s : State), OdServed h 2 0x4020 0x1B [v] s) ∧
    (∃ (h : OdHead) (v : Byte) (s : State), OdServed h 2 0x4001 0x17 [v] s) ∧
    (∃ (h : OdHead) (n : Fin 20) (v : Byte) (s : State), OdServed h 2 (0x4100 + n.val) 6 [v] s) ∧
    (∃ (h : OdHead) (v : Byte) (s : State), OdServed h 2 0x4114 6 [v] s) ∧
    (∃ (h : OdHead) (n : Fin 20) (v : Byte) (s : State), OdServed h 2 (0x4200 + n.val) 0x14 [v] s ∧ (((s.chan
      n).pol.mode ≠ 1 ∨ (s.chan n).pol.cir ≤ (s.chan n).pol.pir))) ∧
    (∃ (h : OdHead) (v : Byte) (s : State), OdServed h 2 0x5000 0x1B [v] s) ∧
    (∃ (h : OdHead) (v : Byte) (s : State), OdServed h 2 0x6000 0x2A [v] s) ∧
    (∃ (h : OdHead) (v : Byte) (s : State), OdServed h 2 0x7000 0x0B [v] s) ∧
    (∃ (h : OdHead) (v : Byte) (s : State), OdServed h 2 0x7100 0x15 [v] s) ∧
    (∃ (h : OdHead) (v : Byte) (s : State), OdServed h 2 0x9000 0x0F [v] s) ∧
    (∃ (h : OdHead) (v : Byte) (s : State), OdServed h 2 0x1010 0x10 [v] s) :=
  ⟨⟨hd, 19, 1, base, by decide +kernel⟩,
   ⟨hd, .B, 1, base, by decide +kernel⟩,
   ⟨hd, 1, base, by decide +kernel⟩,
   ⟨hd, 1, base, by decide +kernel⟩,
   ⟨hd, 19, 1, base, by decide +kernel⟩,
   ⟨hd, 1, base, by decide +kernel⟩,
   ⟨hd, 19, 1, base, by decide +kernel⟩,
   ⟨hd, 1, base, by decide +kernel⟩,
   ⟨hd, 1, base, by decide +kernel⟩,
   ⟨hd, 1, base, by decide +kernel⟩,
   ⟨hd, 1, base, by decide +kernel⟩,
   ⟨hd, 1, base, by decide +kernel⟩,
   ⟨hd, 1, base, by decide +kernel⟩⟩

theorem witness_PortModeWrites :
    (∃ (h : OdHead) (x : Port) (v : Byte) (s : State), OdServed h 2 (0x3000 + portPlace x) 1 [v] s ∧ v ≠ 0#8 ∧
      (s.port x).state = .off ∧ s.portUp x = true ∧ (s.port x).rail = true) ∧
    (∃ (h : OdHead) (x : Port) (s : State), OdServed h 2 (0x3000 + portPlace x) 1 [0#8] s ∧ (s.port x).state ≠ .off) :=
  ⟨⟨hd, .B, 1, base, by decide +kernel⟩,
   ⟨hd, .B, ports base, by decide +kernel⟩⟩

theorem witness_TansyCommands :
    (∃ (h : OdHead) (s : State), OdServed h 2 0x8000 0x11 [1#8] s ∧ s.tansyUp = true ∧ s.allDisabled = true ∧
      s.anyArea = false ∧ s.memOpen = true ∧ s.marching = false) ∧
    (∃ (h : OdHead) (s : State), OdServed h 2 0x8000 0x11 [2#8] s ∧ s.tansyUp = true ∧ s.memOpen = true ∧
      s.tansy.preserving = false) ∧
    (∃ (h : OdHead) (s : State), OdServed h 2 0x8000 0x11 [3#8] s ∧ s.tansyUp = true ∧ s.memOpen = true ∧
      s.tansy.scrubbing = false) ∧
    (∃ (h : OdHead) (s : State), OdServed h 2 0x8000 0x11 [4#8] s ∧ s.tansyUp = true ∧ s.tansy.preserving = true) ∧
    (∃ (h : OdHead) (v : Byte) (s : State), OdServed h 2 0x8000 0x1F [v] s ∧ s.allDisabled = true ∧ s.flashWritable =
      true) :=
  ⟨⟨hd, { base with mem := { base.mem with areas := Vector.replicate 4 0 } }, by decide +kernel⟩,
   ⟨hd, base, by decide +kernel⟩,
   ⟨hd, base, by decide +kernel⟩,
   ⟨hd, { base with tansy := { base.tansy with preserving := true } }, by decide +kernel⟩,
   ⟨hd, 1, base, by decide +kernel⟩⟩

theorem witness_StoreAndLogClear :
    (∃ (h : OdHead) (v : Byte) (s : State), OdServed h 2 0x1100 1 [v] s ∧ s.storeWritable = true) ∧
    (∃ (image : List Byte) (slot : Nat) (vals : List Saved) (s : State), Ending (.save slot vals) image s) ∧
    (∃ (h : OdHead) (v : Byte) (s : State), OdServed h 2 0x1100 2 [v] s ∧ s.storeWritable = true) ∧
    (∃ (image : List Byte) (s : State), Ending .restore image s) ∧
    (∃ (h : OdHead) (v : Byte) (s : State), OdServed h 2 0x1100 3 [v] s) ∧
    (∃ (h : OdHead) (v : Byte) (s : State) (o : OdReq), Attended h s ∧ s.od.mailbox.judge h.reqseq = .run ∧ (headReq
      h 2 0x1100 1 [v]).ask = .od o ∧ o.fieldsOk = true ∧ s.od.storeLock = true) ∧
    (∃ (h : OdHead) (s : State), OdServed h 2 0x9100 7 [1#8] s) ∧
    (∃ (h : OdHead) (s : State), OdServed h 2 0x9100 7 [2#8] s ∧ s.flashWritable = true) :=
  ⟨⟨hd, 1, base, by decide +kernel⟩,
   ⟨(headReq hd 2 0x1100 1 [1]).image, 0, [],
    { base with od := { base.od with task := some ⟨.save 0 [], .mailbox, (headReq hd 2 0x1100 1 [1]).image, none⟩ } },
    by decide +kernel⟩,
   ⟨hd, 1, base, by decide +kernel⟩,
   ⟨(headReq hd 2 0x1100 1 [1]).image,
    { base with od := { base.od with task := some ⟨.restore, .mailbox, (headReq hd 2 0x1100 1 [1]).image, none⟩ } },
    by decide +kernel⟩,
   ⟨hd, 1, base, by decide +kernel⟩,
   ⟨hd, 1, { base with od := { base.od with storeLock := true } },
    { op := 2, index := 0x1100, sub := 1, flags := 0, abort := 0, offset := 0, crc := 0, dlen := 1, rsv := 0, data := [1] },
    by decide +kernel⟩,
   ⟨hd, base, by decide +kernel⟩,
   ⟨hd, base, by decide +kernel⟩⟩

theorem witness_KeysAndLocks :
    (∃ (h : OdHead) (data : List Byte) (s : State), OdServed h 4 0x1010 1 data s ∧ h.flags = 1 ∧ h.offset = 0 ∧
      h.crcTotal = crc32c data ∧ data.length = 16 ∧ s.od.link.session = none ∧ s.flashWritable = true) ∧
    (∃ (image : List Byte) (key : List Byte) (s : State), Ending (.key 1 key) image s) ∧
    (∃ (h : OdHead) (v : Byte) (s : State), OdServed h 2 0x1010 5 [v] s) ∧
    (∃ (h : OdHead) (v : Byte) (s : State), OdServed h 2 0x1010 0x0D [v] s ∧ s.upd.raising = none) ∧
    (∃ (h : OdHead) (v : Byte) (b : Bool) (s : State), OdServed h 2 0x1010 0x0D [v] s ∧ s.upd.raising = some b) ∧
    (∃ (image : List Byte) (v : Bool) (s : State), Ending (.lockFuse v true) image s) ∧
    (∃ (image : List Byte) (v : Bool) (s : State), Ending (.lockFuse v false) image s) :=
  ⟨⟨{ hd with flags := 1, crcTotal := crc32c (List.replicate 16 7) }, List.replicate 16 7, base, by decide +kernel⟩,
   ⟨(headReq hd 2 0x1100 1 [1]).image, List.replicate 16 7,
    { base with od := { base.od with task := some ⟨.key 1 (List.replicate 16 7), .mailbox, (headReq hd 2 0x1100 1 [1]).image, none⟩ } },
    by decide +kernel⟩,
   ⟨hd, 1, base, by decide +kernel⟩,
   ⟨hd, 1, base, by decide +kernel⟩,
   ⟨hd, 1, true, { base with upd := { base.upd with raising := some true } }, by decide +kernel⟩,
   ⟨(headReq hd 2 0x1100 1 [1]).image, true,
    { base with od := { base.od with task := some ⟨.lockFuse true true, .mailbox, (headReq hd 2 0x1100 1 [1]).image, none⟩ } },
    by decide +kernel⟩,
   ⟨(headReq hd 2 0x1100 1 [1]).image, true,
    { base with od := { base.od with task := some ⟨.lockFuse true false, .mailbox, (headReq hd 2 0x1100 1 [1]).image, none⟩ } },
    by decide +kernel⟩⟩

theorem witness_RolesAndSwap :
    (∃ (h : OdHead) (v : Byte) (s : State), OdServed h 2 0x1200 1 [v] s) ∧
    (∃ (h : OdHead) (v : Byte) (s : State), OdServed h 2 0x6000 1 [v] s) ∧
    (∃ (h : OdHead) (v : Byte) (s : State), OdServed h 2 0x6000 2 [v] s ∧ s.swapAllowed = true) :=
  ⟨⟨hd, 1, base, by decide +kernel⟩,
   ⟨hd, 2, base, by decide +kernel⟩,
   ⟨hd, 1, { base with twin := { base.twin with role := .active, partnerRole := 2 } }, by decide +kernel⟩⟩

theorem witness_FirmwareUpdate :
    (∃ (h : OdHead) (s : State), OdServed h 2 0xA000 8 [1#8] s ∧ s.upd.state = .committed ∧ s.upd.imageCheckReg = 0 ∧
      s.blockUp 17 = true) ∧
    (∃ (h : OdHead) (v : Byte) (s : State), OdServed h 2 0xA000 9 [v] s ∧ s.flashWritable = true ∧ s.unreadable =
      false ∧ s.upd.state = .trial ∧ s.upd.raising = none) ∧
    (∃ (image : List Byte) (code : Nat) (s : State), Ending (.record code none) image s) ∧
    (∃ (image : List Byte) (code : Nat) (readBack : Bool) (s : State), Ending (.record code (some readBack)) image s) ∧
    (∃ (image : List Byte) (s : State), Ending (.rollback true) image s ∧ s.upd.mustRaise = true) ∧
    (∃ (image : List Byte) (s : State), Ending (.rollback false) image s) ∧
    (∃ (u : UpdSt) (a : CtlRec) (b : CtlRec), u.ctlA = some a ∧ u.ctlB = some b ∧ a.good = true ∧ b.good = true ∧
      a.seq ≠ b.seq) ∧
    (∃ (h : OdHead) (v : Byte) (s : State) (o : OdReq), h.src = .mailbox ∧ h.addr = 0 ∧ h.keysel = 0 ∧ h.mac = zeros
      8 ∧ s.mailboxUp = true ∧ s.od.mbxReq = none ∧ s.od.task = none ∧ s.od.queue = [] ∧ s.yar.loader = true ∧
      s.loaderLink = false ∧ s.od.mailbox.judge h.reqseq = .run ∧ (headReq h 2 0xA000 0x10 [v]).ask = .od o ∧
      s.odCheck .mailbox 0 o = 0 ∧ s.upd.ramCheck = 0) :=
  ⟨⟨hd, { base with upd := { base.upd with checkB := 0 } }, by decide +kernel⟩,
   ⟨hd, 1, { base with upd := { base.upd with state := .trial, runningSlot := 1 } }, by decide +kernel⟩,
   ⟨(headReq hd 2 0x1100 1 [1]).image, 0,
    { base with od := { base.od with task := some ⟨.record 0 none, .mailbox, (headReq hd 2 0x1100 1 [1]).image, none⟩ } },
    by decide +kernel⟩,
   ⟨(headReq hd 2 0x1100 1 [1]).image, 0, false,
    { base with od := { base.od with task := some ⟨.record 0 (some false), .mailbox, (headReq hd 2 0x1100 1 [1]).image, none⟩ } },
    by decide +kernel⟩,
   ⟨(headReq hd 2 0x1100 1 [1]).image,
    { base with od := { base.od with task := some ⟨.rollback true, .mailbox, (headReq hd 2 0x1100 1 [1]).image, none⟩ }, upd := { base.upd with imageA := testImage } },
    by decide +kernel⟩,
   ⟨(headReq hd 2 0x1100 1 [1]).image,
    { base with od := { base.od with task := some ⟨.rollback false, .mailbox, (headReq hd 2 0x1100 1 [1]).image, none⟩ }, upd := { base.upd with imageA := testImage } },
    by decide +kernel⟩,
   ⟨{ base.upd with ctlA := some (⟨3, 1, .committed, 0, none, none, true⟩), ctlB := some (⟨4, 0, .trial, 1, none, none, true⟩) },
    ⟨3, 1, .committed, 0, none, none, true⟩, ⟨4, 0, .trial, 1, none, none, true⟩, by decide +kernel⟩,
   ⟨hd, 1,
    { base with yar := { base.yar with serving := false, loader := true }, upd := { base.upd with ramCheck := 0 } },
    { op := 2, index := 0xA000, sub := 0x10, flags := 0, abort := 0, offset := 0, crc := 0, dlen := 1, rsv := 0, data := [1] },
    by decide +kernel⟩⟩

theorem witness_TimeWritesAndEvents :
    (∃ (h : OdHead) (v : Byte) (s : State), OdServed h 2 0x5000 1 [v] s) ∧
    (∃ (h : OdHead) (v : Byte) (s : State), OdServed h 2 0x5000 8 [v] s ∧ s.sender = true ∧ s.blockUp 2 = true) ∧
    (∃ (h : OdHead) (v : Byte) (s : State), OdServed h 2 0x5000 8 [v] s ∧ ((s.sender = false ∨ s.blockUp 2 = false))) ∧
    (∃ (dt : Nat) (s : State), s.pwr.clkSource = 1 ∧ s.blockUp 2 = true ∧ s.time.slew ≠ 0 ∧ slewTicks s.time ≤ dt) ∧
    (∃ (dt : Nat) (a : Nat) (s : State), s.sender = false ∧ s.time.lastUsed = some a ∧ s.time.period ≠ 0 ∧ 2 *
      s.time.period ≤ ((s.now + 1250 * dt - a : Nat) : Rat)) ∧
    (∃ (dt : Nat) (a : Nat) (s : State), s.sender = false ∧ s.time.lastUsed = some a ∧ a + ms s.time.holdover ≤ s.now
      + 1250 * dt ∧ s.time.locked = true) :=
  ⟨⟨hd, 0, sendBase, by decide +kernel⟩,
   ⟨hd, 1, sendBase, by decide +kernel⟩,
   ⟨hd, 1, base, by decide +kernel⟩,
   ⟨5000, { base with time := { base.time with slew := 4294967296, trim := 1 / 5120 } },
    ⟨by decide +kernel, by decide +kernel, by decide +kernel, by simp only [slewTicks, inc_exact]; decide⟩⟩,
   ⟨1600, 0, { base with time := { base.time with lastUsed := some 0, period := 1000000 } }, by decide +kernel⟩,
   ⟨800000000, 0, { base with time := { base.time with lastUsed := some 0, locked := true } }, by decide +kernel⟩⟩

theorem witness_ResetAndSleepWrites :
    (∃ (h : OdHead) (s : State), OdServed h 2 0x7000 3 [1#8] s) ∧
    (∃ (h : OdHead) (s : State), OdServed h 2 0x7000 3 [3#8] s) ∧
    (∃ (h : OdHead) (s : State), OdServed h 2 0x7000 3 [2#8] s) ∧
    (∃ (h : OdHead) (v : W32) (s : State), OdServed h 2 0x7010 1 (leBytes v.toNat 4) s ∧ s.blockResetRefused v =
      false) ∧
    (∃ (h : OdHead) (s : State), OdServed h 2 0x7100 7 [1#8] s ∧ s.pwr.state = .run ∧ s.coolEnough = true) ∧
    (∃ (h : OdHead) (s : State), OdServed h 2 0x7100 7 [1#8] s ∧ s.coolEnough = false) ∧
    (∃ (h : OdHead) (s : State), OdServed h 2 0x7100 7 [2#8] s ∧ s.pwr.state = .run) ∧
    (∃ (h : OdHead) (s : State), OdServed h 2 0x7100 7 [2#8] s ∧ s.pwr.state = .entering) ∧
    (∃ (h : OdHead) (s : State), OdServed h 2 0x7100 7 [1#8] s ∧ s.pwr.state = .entering ∧ s.coolEnough = true) :=
  ⟨⟨hd, base, by decide +kernel⟩,
   ⟨hd, base, by decide +kernel⟩,
   ⟨hd, base, by decide +kernel⟩,
   ⟨hd, 0x200, base, by decide +kernel⟩,
   ⟨hd, base, by decide +kernel⟩,
   ⟨hd, { base with yar := { base.yar with temp := [381] } }, by decide +kernel⟩,
   ⟨hd, base, by decide +kernel⟩,
   ⟨hd, { base with pwr := { (base).pwr with state := .entering, entry := 1, step := 1 } }, by decide +kernel⟩,
   ⟨hd, { base with pwr := { (base).pwr with state := .entering, entry := 1, step := 1 } }, by decide +kernel⟩⟩

theorem witness_LinkActions :
    (∃ (h : OdHead) (s : State), OdServed h 2 0x4000 1 [1#8] s ∧ s.link.state = .off ∧ s.blockUp 3 = true ∧
      s.link.rail = true ∧ s.pwr.clkSource = 1) ∧
    (∃ (h : OdHead) (s : State), OdServed h 2 0x4000 1 [0#8] s ∧ s.linkUp = true ∧ s.link.byeIdle = false) ∧
    (∃ (h : OdHead) (v : Byte) (s : State), OdServed h 2 0x4000 9 [v] s ∧ s.linkUp = true) ∧
    (∃ (h : OdHead) (v : Byte) (s : State), OdServed h 2 0x4000 0x0A [v] s ∧ s.linkUp = true) ∧
    (∃ (h : OdHead) (v : Byte) (s : State), OdServed h 2 0x4000 0x0A [v] s ∧ s.linkUp = false) ∧
    (∃ (h : OdHead) (v : Byte) (s : State), OdServed h 2 0x4000 8 [v] s ∧ s.link.state ≠ .off) :=
  ⟨⟨hd, base, by decide +kernel⟩,
   ⟨hd, up base, by decide +kernel⟩,
   ⟨hd, 1, up base, by decide +kernel⟩,
   ⟨hd, 1, up base, by decide +kernel⟩,
   ⟨hd, 1, base, by decide +kernel⟩,
   ⟨hd, 1, up base, by decide +kernel⟩⟩

theorem witness_RequestsServed :
    (∃ (h : OdHead) (index : Nat) (sub : Nat) (v : List Byte) (s : State), OdServed h 1 index sub [] s ∧
      s.active.entryValue index sub = some v) ∧
    (∃ (h : OdHead) (group : Nat) (sub : Nat) (n : Fin 20) (v : List Byte) (s : State), OdServed h 1 (group + n.val)
      sub [] s ∧ (s.chan n).entryValue group sub = some v) ∧
    (∃ (h : OdHead) (index : Nat) (sub : Nat) (data : List Byte) (s : State) (u : State), OdServed h 2 index sub data
      s ∧ s.active.entryWritten index sub (leNat data) = some u) ∧
    (∃ (h : OdHead) (sub : Nat) (n : Fin 20) (data : List Byte) (s : State) (g : ChCfg), OdServed h 2 (0x2000 +
      n.val) sub data s ∧ (s.chan n).cfg.entryWritten sub (leNat data) = some g) ∧
    (∃ (h : OdHead) (index : Nat) (sub : Nat) (v : List Byte) (s : State), OdServed h 3 index sub [] s ∧
      s.domainValue index sub = some v ∧ h.offset = 0) ∧
    (∃ (h : OdHead) (x : ReadSnap) (index : Nat) (sub : Nat) (s : State), OdServed h 3 index sub [] s ∧
      s.od.mailbox.snap = some x ∧ x.index = index ∧ x.sub = sub ∧ s.now < x.touched + ms 10000 ∧ h.offset ≠ 0) ∧
    (∃ (h : OdHead) (data : List Byte) (s : State), OdServed h 4 0x2200 1 data s ∧ h.flags = 1 ∧ h.offset = 0 ∧
      h.crcTotal = crc32c data ∧ data.length = 32 ∧ s.od.link.session = none) ∧
    (∃ (h : OdHead) (data : List Byte) (s : State), OdServed h 4 0x2200 1 data s ∧ h.flags = 0 ∧ h.offset = 0 ∧
      data.length = 1024 ∧ s.od.link.session = none) ∧
    (∃ (h : OdHead) (data : List Byte) (bs : List Byte) (a : Nat) (s : State), OdServed h 4 0x2200 1 data s ∧
      s.od.mailbox.session = some ⟨0x2200, 1, bs, a⟩ ∧ s.now < a + ms 10000 ∧ s.od.link.session = none ∧ h.flags = 0
      ∧ h.offset ≠ 0 ∧ data.length = 1024) ∧
    (∃ (h : OdHead) (data : List Byte) (s : State), OdServed h 4 0x2200 1 data s ∧ h.flags = 1 ∧ h.offset = 0 ∧
      h.crcTotal ≠ crc32c data ∧ s.od.link.session = none) ∧
    (∃ (h : OdHead) (data : List Byte) (x : Session) (s : State), OdServed h 4 0x2200 1 data s ∧ h.flags = 1 ∧
      h.offset = 0 ∧ s.od.link.session = some x ∧ x.index = 0x2200 ∧ x.sub = 1 ∧ s.now < x.touched + ms 10000) ∧
    (∃ (h : OdHead) (index : Nat) (sub : Nat) (s : State), OdServed h 5 index sub [] s ∧ (∀ x ∈ s.od.mailbox.session,
      x.index = index ∧ x.sub = sub)) ∧
    (∃ (h : OdHead) (index : Nat) (sub : Nat) (v : List Byte) (s : State), Attended h s ∧ s.od.mailbox.judge h.reqseq
      = .run ∧ (h.flags = 0 ∧ h.abortField = 0 ∧ h.offset = 0 ∧ h.crcTotal = 0 ∧ h.rsv18 = 0) ∧ s.domainValue index
      sub = some v) ∧
    (∃ (h : OdHead) (index : Nat) (sub : Nat) (v : List Byte) (s : State), Attended h s ∧ s.od.mailbox.judge h.reqseq
      = .run ∧ (h.flags = 0 ∧ h.abortField = 0 ∧ h.offset = 0 ∧ h.crcTotal = 0 ∧ h.rsv18 = 0) ∧ s.entryValue index
      sub = some v) ∧
    (∃ (h : OdHead) (index : Nat) (sub : Nat) (data : List Byte) (s : State), h.src = .mailbox ∧ h.addr = 0 ∧
      s.mailboxUp = true ∧ s.od.mbxReq = none ∧ s.yar.serving = true ∧ s.od.task.isSome = true ∧ s.heldNow (headReq h
      2 index sub data) = false ∧ (s.od.queue.filter fun x => x.path == .mailbox).length < 4) ∧
    (∃ (h : OdHead) (index : Nat) (sub : Nat) (data : List Byte) (s : State), h.src = .mailbox ∧ h.addr = 0 ∧
      s.mailboxUp = true ∧ s.od.mbxReq = none ∧ s.yar.serving = true ∧ s.od.task.isSome = true ∧ s.heldNow (headReq h
      2 index sub data) = false ∧ 4 ≤ (s.od.queue.filter fun x => x.path == .mailbox).length) ∧
    (∃ (h : OdHead) (index : Nat) (sub : Nat) (data : List Byte) (s : State), h.src = .mailbox ∧ h.addr = 0 ∧
      s.mailboxUp = true ∧ s.od.mbxReq = none ∧ s.yar.serving = true ∧ s.od.queue ≠ [] ∧ s.heldNow (headReq h 2 index
      sub data) = true ∧ s.passes .mailbox (headReq h 2 index sub data) = true) ∧
    (∃ (s : State) (x : Queued) (rest : List Queued) (o : OdReq), s.pending = [] ∧ s.yar.serving = true ∧
      s.yar.loader = false ∧ s.upd.raising = none ∧ s.od.task = none ∧ s.od.queue = x :: rest ∧ x.path = .mailbox ∧
      (parseImage x.image).ask = .od o ∧ o.op = 2 ∧ o.index = 0x5000 ∧ o.sub = 2 ∧ s.od.mailbox.judge (parseImage
      x.image).reqseq = .run ∧ (((s.advance 1).commitLog).modOd fun d => { d with queue := rest }).odCheck .mailbox
      (parseImage x.image).keysel o = 0) ∧
    (∃ (h : OdHead) (slot : Nat) (s : State), UnitAsked h s ∧ s.shadows = false ∧ s.blockUp 0 = true ∧ slot < 64) ∧
    (∃ (h : OdHead) (slot : Nat) (s : State), UnitAsked h s ∧ s.shadows = false ∧ s.blockUp 0 = true ∧ slot < 64) ∧
    (∃ (h : OdHead) (opc : Nat) (slot : Nat) (rsv : Byte) (s : State), UnitAsked h s ∧ (((opc ≠ 12 ∧ opc ≠ 13) ∨ 64 ≤
      slot ∨ rsv ≠ 0#8))) ∧
    (∃ (h : OdHead) (slot : Nat) (s : State), UnitAsked h s ∧ slot < 64 ∧ s.shadows = true) ∧
    (∃ (h : OdHead) (area : Nat) (unit : Nat) (s : State), UnitAsked h s ∧ s.blockUp 0 = true ∧ s.memOpen = true ∧
      area < 4 ∧ ScratchReady 3 false area unit s) ∧
    (∃ (h : OdHead) (opc : Nat) (area : Nat) (unit : Nat) (s : State), UnitAsked h s ∧ s.shadows = false ∧ s.blockUp
      0 = true ∧ s.memOpen = true ∧ ((opc = 9 ∨ opc = 10 ∨ opc = 11)) ∧ area < 4 ∧ ScratchReady 3 true area unit s ∧
      s.tansy.copy = none ∧ MemoriesCanonical s) ∧
    (∃ (h : OdHead) (opc : Nat) (area : Nat) (s : State), UnitAsked h s ∧ s.shadows = false ∧ s.blockUp 0 = true ∧
      s.memOpen = false ∧ ((opc = 8 ∨ opc = 9 ∨ opc = 10 ∨ opc = 11)) ∧ area < 4) ∧
    (∃ (h : OdHead) (opc : Nat) (area : Nat) (unit : Nat) (s : State), UnitAsked h s ∧ s.shadows = false ∧ s.blockUp
      0 = true ∧ s.memOpen = true ∧ ((opc = 8 ∨ opc = 9 ∨ opc = 10 ∨ opc = 11)) ∧ area < 4 ∧ ((areaOn
      (s.mem.areas.toList.getD area 0) = false ∨ areaSize (s.mem.areas.toList.getD area 0) * 1024 ≤ unit))) ∧
    (∃ (h : OdHead) (opc : Nat) (area : Nat) (unit : Nat) (s : State), UnitAsked h s ∧ s.shadows = false ∧ s.blockUp
      0 = true ∧ s.memOpen = true ∧ ((opc = 8 ∨ opc = 9 ∨ opc = 10 ∨ opc = 11)) ∧ area < 4 ∧ areaOn
      (s.mem.areas.toList.getD area 0) = true ∧ unit < areaSize (s.mem.areas.toList.getD area 0) * 1024 ∧ s.allowed 3
      (s.scratchWord area unit / 128) (opc != 8) = false) ∧
    (∃ (h : OdHead) (opc : Nat) (area : Nat) (rsv : Byte) (s : State), UnitAsked h s ∧ ((opc < 8 ∨ 11 < opc ∨ 4 ≤
      area ∨ rsv ≠ 0#8))) ∧
    (∃ (h : OdHead) (m : RxMeta) (seq : Nat) (wlow : Nat) (slot : Nat) (unit : Nat) (operand : W32) (s : State),
      LinkAsked h m seq wlow (headUnit h true 12 slot 0#8 unit operand) s ∧ ((h.keysel = 1 ∨ h.keysel = 2)) ∧
      s.shadows = false ∧ s.blockUp 0 = true ∧ slot < 64 ∧ s.slot slot = ⟨.free, false⟩) ∧
    (∃ (h : OdHead) (m : RxMeta) (seq : Nat) (wlow : Nat) (area : Nat) (unit : Nat) (operand : W32) (s : State),
      LinkAsked h m seq wlow (headUnit h false 9 area 0#8 unit operand) s ∧ ((h.keysel = 1 ∨ h.keysel = 2)) ∧
      s.shadows = false ∧ s.blockUp 0 = true ∧ s.memOpen = true ∧ area < 4 ∧ ScratchReady 2 true area unit s ∧
      s.tansy.copy = none ∧ MemoriesCanonical s) ∧
    (∃ (h : OdHead) (m : RxMeta) (seq : Nat) (wlow : Nat) (slot : Nat) (unit : Nat) (operand : W32) (s : State),
      LinkAsked h m seq wlow (headUnit h true 12 slot 0#8 unit operand) s ∧ h.keysel = 3 ∧ slot < 64) :=
  ⟨⟨hd, 0x4120, 2, leBytes 0 8, base, by decide +kernel⟩,
   ⟨hd, 0x4200, 4, 19, leBytes 65536 4, base, by decide +kernel⟩,
   ⟨hd, 0x5000, 2, [0xF4, 1, 0, 0], base, { base.active with time := { base.time with syncPeriod := 500 } },
    by decide +kernel⟩,
   ⟨hd, 5, 0, [1, 0], base, { (base.chan 0).cfg with size := 1 }, by decide +kernel⟩,
   ⟨hd, 0x8000, 3, zeros 520, base, by decide +kernel⟩,
   ⟨{ hd with offset := 1024 }, ⟨0x2200, 1, zeros 1030, 0⟩, 0x2200, 1,
    { base with od := { base.od with mailbox := { base.od.mailbox with snap := some (⟨0x2200, 1, zeros 1030, 0⟩) } } },
    by decide +kernel⟩,
   ⟨{ hd with flags := 1, crcTotal := crc32c (List.replicate 32 7) }, List.replicate 32 7, base, by decide +kernel⟩,
   ⟨hd, List.replicate 1024 7, base, by decide +kernel⟩,
   ⟨{ hd with offset := 1024 }, List.replicate 1024 7, zeros 1024, 0,
    { base with od := { base.od with mailbox := { base.od.mailbox with session := some ⟨0x2200, 1, zeros 1024, 0⟩ } } },
    by decide +kernel⟩,
   ⟨{ hd with flags := 1, crcTotal := 5 }, List.replicate 32 7, base, by decide +kernel⟩,
   ⟨{ hd with flags := 1, crcTotal := 5 }, List.replicate 32 7, ⟨0x2200, 1, [], 0⟩,
    { base with od := { base.od with link := { base.od.link with session := some ⟨0x2200, 1, [], 0⟩ } } },
    by decide +kernel⟩,
   ⟨hd, 0x2200, 1,
    { base with od := { base.od with mailbox := { base.od.mailbox with session := some ⟨0x2200, 1, [], 0⟩ } } },
    by decide +kernel⟩,
   ⟨hd, 0x2200, 1, zeros 32, base, by decide +kernel⟩,
   ⟨hd, 0x5000, 1, [0], base, by decide +kernel⟩,
   ⟨hd, 0x5000, 2, [0xF4, 1, 0, 0],
    { base with od := { base.od with task := some ⟨.restore, .mailbox, (headReq hd 2 0x1100 1 [1]).image, none⟩ } },
    by decide +kernel⟩,
   ⟨hd, 0x5000, 2, [0xF4, 1, 0, 0],
    { base with od := { base.od with task := some ⟨.restore, .mailbox, [], none⟩, queue := List.replicate 4 ⟨.mailbox, [], true⟩ } },
    by decide +kernel⟩,
   ⟨hd, 0x1100, 1, [1],
    { base with od := { base.od with task := some ⟨.restore, .mailbox, [], none⟩, queue := [⟨.mailbox, [], true⟩] } },
    by decide +kernel⟩,
   ⟨{ base with od := { base.od with queue := [(⟨.mailbox, (headReq hd 2 0x5000 2 [0xF4, 1, 0, 0]).image, true⟩)] } },
    ⟨.mailbox, (headReq hd 2 0x5000 2 [0xF4, 1, 0, 0]).image, true⟩, [],
    { op := 2, index := 0x5000, sub := 2, flags := 0, abort := 0, offset := 0, crc := 0, dlen := 4, rsv := 0, data := [0xF4, 1, 0, 0] },
    by decide +kernel⟩,
   ⟨hd, 63, base.setSlot 63 ⟨.free, true⟩, by decide +kernel⟩,
   ⟨hd, 0, base.setSlot 0 ⟨.pa, false⟩, by decide +kernel⟩,
   ⟨hd, 8, 0, 0, base, by decide +kernel⟩,
   ⟨hd, 0, mirror base .standby, by decide +kernel⟩,
   ⟨hd, 0, 3,
    { ports base with mem := { base.mem with cells := [(0, 0x5A)], areas := base.mem.areas.set 0 0x80008000, desc := base.mem.desc.set 1 (base.mem.desc.get 3) } },
    by decide +kernel⟩,
   ⟨hd, 11, 0, 3,
    { ports base with mem := { base.mem with cells := [(0, 0x5A)], areas := base.mem.areas.set 0 0x80008000, desc := base.mem.desc.set 1 (base.mem.desc.get 3) } },
    by decide +kernel⟩,
   ⟨hd, 10, 3, { base with mem := { base.mem with clearState := 1 } }, by decide +kernel⟩,
   ⟨hd, 9, 3, 3, base, by decide +kernel⟩,
   ⟨hd, 8, 0, 0,
    { ports base with mem := { base.mem with areas := base.mem.areas.set 0 0x80008000, desc := base.mem.desc.set 3 (Vector.replicate 8 0) } },
    by decide +kernel⟩,
   ⟨hd, 8, 4, 0, base, by decide +kernel⟩,
   ⟨signedUnit 2 true 12 5 3 0xA5, good, 0, 0, 5, 3, 0xA5, allKeysUp, by decide +kernel⟩,
   ⟨signedUnit 2 false 9 0 3 0xA5, good, 0, 0, 0, 3, 0xA5,
    { allKeysUp with mem := { base.mem with cells := [(0, 0x5A)], areas := base.mem.areas.set 0 0x80008000, desc := base.mem.desc.set 2 (base.mem.desc.get 3) } },
    by decide +kernel⟩,
   ⟨signedUnit 3 true 12 5 3 0xA5, good, 0, 0, 5, 3, 0xA5, allKeysUp, by decide +kernel⟩⟩

theorem witness_RequestsOnce :
    (∃ (h : OdHead) (s : State) (r : Resp), Attended h s ∧ s.od.mailbox.judge h.reqseq = .cached r) ∧
    (∃ (h : OdHead) (s : State), Attended h s ∧ s.od.mailbox.judge h.reqseq = .refuse) ∧
    (∃ (h : OdHead) (s : State) (code : Nat), Attended h s ∧ s.od.mailbox.judge h.reqseq = .again code) ∧
    (∃ (h : OdHead) (m : RxMeta) (seq : Nat) (wlow : Nat) (data : List Byte) (s : State) (o : OdReq), h.src = .link m
      seq wlow ∧ h.addr = 0 ∧ RxTaken m (28 + data.length) s ∧ InSequence seq wlow s ∧ s.yar.serving = true ∧
      s.yar.loader = false ∧ s.lockedOut = false ∧ s.od.task = none ∧ s.od.queue = [] ∧ s.od.link.judge h.reqseq =
      .run ∧ (headReq h 2 0x5000 2 data).ask = .od o ∧ h.keysel ≠ 0 ∧ s.macOk (headReq h 2 0x5000 2 data) = true ∧
      s.odCheck .link h.keysel o = 0) ∧
    (∃ (h : OdHead) (m : RxMeta) (seq : Nat) (wlow : Nat) (data : List Byte) (s : State), h.src = .link m seq wlow ∧
      h.addr = 0 ∧ RxTaken m (28 + data.length) s ∧ InSequence seq wlow s ∧ s.yar.serving = true ∧ s.yar.loader =
      false ∧ s.lockedOut = false ∧ s.od.task = none ∧ s.od.queue = [] ∧ h.keysel ≠ 0 ∧ s.macOk (headReq h 2 0x5000 2
      data) = false) :=
  ⟨⟨hd,
    { base with od := { base.od with mailbox := { base.od.mailbox with cache := [(⟨1, 1, zeros 20, zeros 8⟩)], last := some 1 } } },
    ⟨1, 1, zeros 20, zeros 8⟩, by decide +kernel⟩,
   ⟨hd, { base with od := { base.od with mailbox := { base.od.mailbox with last := some 2 } } }, by decide +kernel⟩,
   ⟨hd, { base with od := { base.od with mailbox := { base.od.mailbox with last := some 1, lastAbort := 0x0303 } } },
    0x0303, by decide +kernel⟩,
   ⟨signedHd [0xF4, 1, 0, 0], good, 0, 0, [0xF4, 1, 0, 0], keyedUp,
    { op := 2, index := 0x5000, sub := 2, flags := 0, abort := 0, offset := 0, crc := 0, dlen := 4, rsv := 0, data := ([0xF4, 1, 0, 0]) },
    by decide +kernel⟩,
   ⟨linkHd, good, 0, 0, [0xF4, 1, 0, 0], keyedUp, by decide +kernel⟩⟩

theorem witness_MailboxAndTimers :
    (∃ (len : Nat) (s : State), s.mailboxUp = true ∧ 28 ≤ len ∧ len ≤ 9224 ∧ s.od.mbxReq = none ∧ s.servesPath
      .mailbox = false) ∧
    (∃ (len : Nat) (s : State), s.mailboxUp = true ∧ ((len < 28 ∨ 9224 < len ∨ s.od.mbxReq.isSome = true))) ∧
    (∃ (s : State) (img : List Byte), s.mailboxUp = true ∧ s.od.mbxRsp = some img) ∧
    (∃ (s : State), s.mailboxUp = true) ∧
    (∃ (dt : Nat) (a : Nat) (s : State), s.od.lockoutUntil = some a ∧ a ≤ s.now + 1250 * dt) ∧
    (∃ (dt : Nat) (s : State) (x : Session), s.od.mailbox.session = some x ∧ x.touched + ms 10000 ≤ s.now + 1250 *
      dt) :=
  ⟨⟨28, { base with yar := { base.yar with serving := false } }, by decide +kernel⟩,
   ⟨27, base, by decide +kernel⟩,
   ⟨{ base with od := { base.od with mbxRsp := some [1, 2] } }, [1, 2], by decide +kernel⟩,
   ⟨base, by decide +kernel⟩,
   ⟨1, 1250, { base with od := { base.od with lockoutUntil := some 1250 } }, by decide +kernel⟩,
   ⟨8000000000,
    { base with od := { base.od with mailbox := { base.od.mailbox with session := some (⟨0x2200, 1, [], 0⟩) } } },
    ⟨0x2200, 1, [], 0⟩, by decide +kernel⟩⟩

theorem witness_LinkBringUp :
    (∃ (s : State), s.linkHears = true ∧ s.link.state = .detect ∧ s.link.modPresent = true ∧ s.link.bluebell = none) ∧
    (∃ (s : State), s.link.state = .caps ∧ s.link.rxSeen = false) ∧
    (∃ (s : State), s.link.state = .caps ∧ s.link.rxSeen = true ∧ s.link.capsIn = true ∧ s.link.trialAt = none ∧
      s.candidateRate = 0) ∧
    (∃ (m : RxMeta) (s : State), FrameTaken m 32 s ∧ s.link.state = .caps ∧ s.link.sentSeen = false) ∧
    (∃ (m : RxMeta) (cflags : Nat) (b : Caps) (s : State), FrameTaken m 32 s ∧ s.link.state = .caps ∧ s.link.sentSeen
      = true ∧ cflags.testBit 0 = true ∧ s.link.trialAt = none ∧ (s.modLink fun l => { l with peer := some b
      }).candidateRate ≠ 0) ∧
    (∃ (m : RxMeta) (b : Caps) (s : State), FrameTaken m 32 s ∧ s.link.state = .up ∧ ((b.serial ≠ s.link.upSerial ∨
      b.linkNonce ≠ s.link.upNonce))) ∧
    (∃ (dt : Nat) (s : State), s.link.state = .caps ∧ s.link.capsAt + ms 10 ≤ s.now + 1250 * dt) ∧
    (∃ (dt : Nat) (a : Nat) (s : State), s.link.state = .caps ∧ s.link.trialAt = some a ∧ a + us 10 ≤ s.now + 1250 *
      dt) ∧
    (∃ (errs : Nat) (s : State), s.link.state = .trial ∧ s.link.own = 0 ∧ s.link.peerPass = false ∧ errs ≤
      s.link.errLimit) ∧
    (∃ (errs : Nat) (s : State), s.link.state = .trial ∧ s.link.own = 0 ∧ s.link.peerPass = true ∧ errs ≤
      s.link.errLimit) ∧
    (∃ (lockHeld : Bool) (errs : Nat) (s : State), s.link.state = .trial ∧ s.link.own = 0 ∧ ((lockHeld = false ∨
      s.link.errLimit < errs))) ∧
    (∃ (dt : Nat) (a : Nat) (s : State), s.link.state = .trial ∧ s.link.own = 2 ∧ s.link.resultAt = some a ∧ a + us
      100 ≤ s.now + 1250 * dt) ∧
    (∃ (dt : Nat) (a : Nat) (s : State), s.link.state = .trial ∧ s.link.trialAt = some a ∧ a + ms 2 ≤ s.now + 1250 *
      dt) ∧
    (∃ (dt : Nat) (a : Nat) (s : State), s.link.bluebell = some a ∧ a + us 200 ≤ s.now + 1250 * dt) :=
  ⟨⟨{ base with link := { base.link with state := .detect, modPresent := true } }, by decide +kernel⟩,
   ⟨{ base with link := { base.link with state := .caps } }, by decide +kernel⟩,
   ⟨{ base with link := { base.link with state := .caps, rxSeen := true, capsIn := true } }, by decide +kernel⟩,
   ⟨good, { base with link := { base.link with state := .caps } }, by decide +kernel⟩,
   ⟨good, 1, ⟨0x2010, 1, 1, 2, 0, 0, 3, 0, 0, 0, 7, 77⟩,
    { base with link := { base.link with state := .caps, sentSeen := true, moduleRateCheck := false } },
    by decide +kernel⟩,
   ⟨good, ⟨0x2010, 1, 1, 2, 0, 0, 3, 0, 0, 0, 7, 77⟩, up base, by decide +kernel⟩,
   ⟨8000000, { base with link := { base.link with state := .caps } }, by decide +kernel⟩,
   ⟨8000, 0, { base with link := { base.link with state := .caps, trialAt := some 0, candidate := 2 } },
    by decide +kernel⟩,
   ⟨0, { base with link := { base.link with state := .trial } }, by decide +kernel⟩,
   ⟨0, { base with link := { base.link with state := .trial, peerPass := true, candidate := 2 } }, by decide +kernel⟩,
   ⟨true, 1, { base with link := { base.link with state := .trial, peerPass := true, candidate := 2 } },
    by decide +kernel⟩,
   ⟨80000, 0, { base with link := { base.link with state := .trial, own := 2, resultAt := some 0, candidate := 2 } },
    by decide +kernel⟩,
   ⟨1600000, 0, { base with link := { base.link with state := .trial, trialAt := some 0, candidate := 1 } },
    by decide +kernel⟩,
   ⟨160000, 0, { base with link := { base.link with state := .detect, bluebell := some 0 } }, by decide +kernel⟩⟩

theorem witness_LinkLeavesUp :
    (∃ (s : State), s.linkUp = true) ∧
    (∃ (s : State), s.linkUp = true) ∧
    (∃ (dt : Nat) (s : State), s.linkUp = true ∧ s.link.lastRx + ms 1 ≤ s.now + 1250 * dt) ∧
    (∃ (m : RxMeta) (s : State), RxTaken m 0 s) ∧
    (∃ (m : RxMeta) (hdr : List Byte) (mac : List Byte) (k : List Byte) (s : State), FrameTaken m 8 s ∧ AllRoomy s ∧
      s.keyOf 1 = some k ∧ mac = (hmac k hdr).take 8 ∧ leField hdr 10 4 = s.link.nonce ∧ leField hdr 8 1 = 2) ∧
    (∃ (m : RxMeta) (hdr : List Byte) (mac : List Byte) (k : List Byte) (s : State), FrameTaken m 8 s ∧ AllRoomy s ∧
      s.keyOf 1 = some k ∧ mac = (hmac k hdr).take 8 ∧ leField hdr 10 4 = s.link.nonce ∧ leField hdr 8 1 = 1 ∧
      s.yarUp = true) ∧
    (∃ (m : RxMeta) (hdr : List Byte) (mac : List Byte) (s : State), FrameTaken m 8 s ∧ (((s.keyOf 1).map (fun k =>
      (hmac k hdr).take 8) ≠ some mac ∨ leField hdr 10 4 ≠ s.link.nonce ∨ (leField hdr 8 1 ≠ 1 ∧ leField hdr 8 1 ≠
      2)))) ∧
    (∃ (s : State), s.linkUp = true) ∧
    (∃ (s : State), s.linkUp = true) ∧
    (∃ (s : State), s.yar.serving = true ∧ s.clocked = true ∧ s.blockUp 19 = true) ∧
    (∃ (s : State), s.yar.serving = true ∧ s.clocked = true ∧ s.blockUp 19 = true) ∧
    (∃ (s : State), s.link.modPresent = true ∧ s.link.modDiag = true ∧ s.yar.serving = true ∧ s.clocked = true ∧
      s.blockUp 19 = true ∧ s.link.ddmAt + ms 1000 ≤ s.now) ∧
    (∃ (s : State), s.link.modPresent = true ∧ s.link.modDiag = true ∧ s.yar.serving = true ∧ s.clocked = true ∧
      s.blockUp 19 = true ∧ s.link.ddmAt + ms 1000 ≤ s.now) ∧
    (∃ (s : State), ((s.blockUp 19 = false ∨ s.clocked = false ∨ s.link.modPresent = false ∨ s.now < s.link.ddmAt +
      ms 1000))) :=
  ⟨⟨up base, by decide +kernel⟩,
   ⟨up base, by decide +kernel⟩,
   ⟨800000, up base, by decide +kernel⟩,
   ⟨good, up base, by decide +kernel⟩,
   ⟨good, linkresetHeader 2 7, (hmac (List.replicate 16 7) (linkresetHeader 2 7)).take 8, List.replicate 16 7,
    { up base with od := { base.od with wallKey := List.replicate 16 7 }, link := { (up base).link with nonce := 7 } },
    by decide +kernel⟩,
   ⟨good, linkresetHeader 1 7, (hmac (List.replicate 16 7) (linkresetHeader 1 7)).take 8, List.replicate 16 7,
    { up base with od := { base.od with wallKey := List.replicate 16 7 }, link := { (up base).link with nonce := 7 } },
    by decide +kernel⟩,
   ⟨good, linkresetHeader 1 8, zeros 8,
    { up base with od := { base.od with wallKey := List.replicate 16 7 }, link := { (up base).link with nonce := 7 } },
    by decide +kernel⟩,
   ⟨up base, by decide +kernel⟩,
   ⟨up base, by decide +kernel⟩,
   ⟨base, by decide +kernel⟩,
   ⟨base, by decide +kernel⟩,
   ⟨{ base with now := 1000000000000, link := { base.link with modPresent := true, modDiag := true } },
    by decide +kernel⟩,
   ⟨{ base with now := 1000000000000, link := { base.link with modPresent := true, modDiag := true } },
    by decide +kernel⟩,
   ⟨{ base with rst := { base.rst with blockReset := 0x80000 } }, by decide +kernel⟩⟩

theorem witness_ControlFrames :
    (∃ (m : RxMeta) (type : Byte) (s : State), FrameTaken m 0 s ∧ type.toNat ≤ 13) ∧
    (∃ (m : RxMeta) (type : Byte) (s : State), s.linkHears = true ∧ ((13 < type.toNat ∨ m.delimited = false ∨
      m.lengthOk = false))) ∧
    (∃ (m : RxMeta) (s : State), s.linkHears = true ∧ m.delimited = true ∧ m.lengthOk = true ∧ m.crcOk = false) ∧
    (∃ (m : RxMeta) (ackseq : Nat) (f : WinEntry) (a : List WinEntry) (b : List WinEntry) (s : State), RxTaken m 0 s
      ∧ s.arq.window = (f :: a) ++ b ∧ seqDist f.seq ackseq < seqDist f.seq s.arq.nextSeq ∧ (∀ e ∈ a, seqDist f.seq
      e.seq ≤ seqDist f.seq ackseq) ∧ b.head?.all (fun e => decide (seqDist f.seq ackseq < seqDist f.seq e.seq)) =
      true) ∧
    (∃ (m : RxMeta) (ackseq : Nat) (s : State), RxTaken m 0 s ∧ s.arq.window.head?.all (fun f => decide (seqDist
      f.seq s.arq.nextSeq ≤ seqDist f.seq ackseq)) = true) ∧
    (∃ (m : RxMeta) (nakseq : Nat) (e : WinEntry) (b : List WinEntry) (s : State), RxTaken m 0 s ∧ s.arq.window = e
      :: b ∧ seqDist e.seq s.arq.nextSeq ≤ seqDist e.seq (seqPred nakseq) ∧ ((e.seq = nakseq ∨ serialAfter 16 e.seq
      nakseq = true)) ∧ s.arq.retx.contains e.seq = false ∧ e.retxAt = none) ∧
    (∃ (m : RxMeta) (nakseq : Nat) (f : WinEntry) (e : WinEntry) (a : List WinEntry) (b : List WinEntry) (s : State),
      RxTaken m 0 s ∧ s.arq.window = (f :: a) ++ e :: b ∧ seqDist f.seq (seqPred nakseq) < seqDist f.seq
      s.arq.nextSeq ∧ (∀ x ∈ a, seqDist f.seq x.seq ≤ seqDist f.seq (seqPred nakseq)) ∧ seqDist f.seq (seqPred
      nakseq) < seqDist f.seq e.seq ∧ ((e.seq = nakseq ∨ serialAfter 16 e.seq nakseq = true)) ∧ s.arq.retx.contains
      e.seq = false ∧ e.retxAt = none) ∧
    (∃ (m : RxMeta) (s : State), RxTaken m 0 s ∧ s.sender = true) ∧
    (∃ (m : RxMeta) (s : State), RxTaken m 0 s ∧ s.sender = false) ∧
    (∃ (m : RxMeta) (s : State), RxTaken m 4 s ∧ s.sender = false ∧ s.blockUp 2 = true) ∧
    (∃ (m : RxMeta) (s : State), RxTaken m 4 s ∧ s.sender = false ∧ s.blockUp 2 = true ∧ s.time.valid = false) ∧
    (∃ (m : RxMeta) (epoch : Nat) (s : State), RxTaken m 4 s ∧ s.sender = false ∧ s.blockUp 2 = true ∧ epoch < 256 ∧
      epoch ≠ s.time.epoch) ∧
    (∃ (m : RxMeta) (s : State), RxTaken m 10 s ∧ s.sender = true) ∧
    (∃ (m : RxMeta) (s : State) (e : EchoSet), RxTaken m 30 s ∧ s.link.echo = some e ∧ e.done + 1 ≠ 256) ∧
    (∃ (m : RxMeta) (s : State) (e : EchoSet), RxTaken m 30 s ∧ s.link.echo = some e ∧ e.done + 1 = 256 ∧
      s.link.echoPeriod = 0) ∧
    (∃ (m : RxMeta) (no : Nat) (s : State), RxTaken m 240 s ∧ s.sender = true ∧ ((s.link.firstReport = true ∨
      serialAfter 32 no s.link.lastReportNo = true))) ∧
    (∃ (m : RxMeta) (seq : Nat) (wlow : Nat) (reqseq : Nat) (data : List Byte) (f : FwdReq) (s : State), RxTaken m
      (data.length + 8) s ∧ InSequence seq wlow s ∧ s.yar.serving = true ∧ s.link.forwarded = [f] ∧ f.svc = 1 ∧
      f.reqseq = reqseq ∧ f.own = true ∧ leField data 6 2 = 0 ∧ 24 ≤ data.length) ∧
    (∃ (m : RxMeta) (seq : Nat) (wlow : Nat) (reqseq : Nat) (data : List Byte) (k : List Byte) (nonce : Nat) (f :
      FwdReq) (s : State), RxTaken m (data.length + 8) s ∧ InSequence seq wlow s ∧ s.yar.serving = true ∧ s.blockUp
      18 = true ∧ s.link.forwarded = [f] ∧ f.svc = 1 ∧ f.reqseq = reqseq ∧ f.own = false ∧ f.unauth = false ∧ s.keyOf
      f.keysel = some k ∧ s.link.peerBootNonce = some nonce) ∧
    (∃ (m : RxMeta) (seq : Nat) (wlow : Nat) (data : List Byte) (s : State), RxTaken m (data.length + 8) s ∧
      InSequence seq wlow s ∧ s.yar.serving = false) :=
  ⟨⟨good, 13, up base, by decide +kernel⟩,
   ⟨good, 14, up base, by decide +kernel⟩,
   ⟨⟨true, true, false⟩, up base, by decide +kernel⟩,
   ⟨good, 6, win 5, [], [win 7], { up base with arq := { base.arq with window := [win 5, win 7], nextSeq := 8 } },
    by decide +kernel⟩,
   ⟨good, 7, { up base with arq := { base.arq with window := [win 4, win 5, win 6], nextSeq := 7 } },
    by decide +kernel⟩,
   ⟨good, 4, win 4, [win 5, win 6],
    { up base with arq := { base.arq with window := [win 4, win 5, win 6], nextSeq := 7 } }, by decide +kernel⟩,
   ⟨good, 6, win 5, win 7, [], [win 8],
    { up base with arq := { base.arq with window := [win 5, win 7, win 8], nextSeq := 9 } }, by decide +kernel⟩,
   ⟨good, (up sendBase).modCh 0 fun c => { c with cfg := { c.cfg with consumer := .link } }, by decide +kernel⟩,
   ⟨good, up base, by decide +kernel⟩,
   ⟨good, up base, by decide +kernel⟩,
   ⟨good, up base, by decide +kernel⟩,
   ⟨good, 255, up base, by decide +kernel⟩,
   ⟨good, up sendBase, by decide +kernel⟩,
   ⟨good, { up base with link := { (up base).link with echo := some (⟨254, 5, 9, ⟨0, 0, 0⟩, 0⟩) } },
    ⟨254, 5, 9, ⟨0, 0, 0⟩, 0⟩, by decide +kernel⟩,
   ⟨good, { up base with link := { (up base).link with echo := some (⟨255, 5, 9, ⟨0, 0, 0⟩, 0⟩), echoPeriod := 0 } },
    ⟨255, 5, 9, ⟨0, 0, 0⟩, 0⟩, by decide +kernel⟩,
   ⟨good, 4294967295, up sendBase, by decide +kernel⟩,
   ⟨good, 0, 0, 0, zeros 24, ⟨1, 0, 255, true, true, zeros 20⟩,
    { up base with link := { (up base).link with forwarded := [(⟨1, 0, 255, true, true, zeros 20⟩)] } },
    by decide +kernel⟩,
   ⟨good, 0, 0, 0, zeros 24, List.replicate 16 7, 5, ⟨1, 0, 1, false, false, zeros 20⟩,
    { keyedUp with link := { (up base).link with forwarded := [(⟨1, 0, 1, false, false, zeros 20⟩)], peerBootNonce := some 5 } },
    by decide +kernel⟩,
   ⟨good, 0, 0, zeros 24, { up base with yar := { base.yar with serving := false } }, by decide +kernel⟩⟩

theorem witness_ChannelFrames :
    (∃ (m : RxMeta) (seq : Nat) (wlow : Nat) (ch : Nat) (body : List Byte) (s : State), RxTaken m body.length s ∧
      InSequence seq wlow s ∧ (∀ n : Fin 20, chanOf ch = some n → s.rowMisrouted n = true)) ∧
    (∃ (m : RxMeta) (seq : Nat) (wlow : Nat) (body : List Byte) (s : State), RxTaken m body.length s ∧ serialAfter 16
      wlow s.arq.exp = false ∧ serialAfter 16 s.arq.exp seq = true) ∧
    (∃ (m : RxMeta) (seq : Nat) (wlow : Nat) (ch : Nat) (body : List Byte) (s : State) (n : Fin 20), RxTaken m
      body.length s ∧ InSequence seq wlow s ∧ chanOf ch = some n ∧ s.rowMisrouted n = false ∧ (s.chan n).cfg.cls =
      .raw ∧ (s.chan n).state = .active ∧ (s.chan n).copyGap = false ∧ s.shadows = false ∧ s.policed n = false ∧
      (s.chan n).rawBuf.length + body.length < 32) ∧
    (∃ (m : RxMeta) (seq : Nat) (wlow : Nat) (ch : Nat) (body : List Byte) (s : State) (n : Fin 20), RxTaken m
      body.length s ∧ InSequence seq wlow s ∧ IngestsPacket ch n s ∧ (s.chan n).pkt = none ∧ 16 ≤ body.length ∧
      body.length / 32 + 1 ≤ s.free n) ∧
    (∃ (m : RxMeta) (seq : Nat) (wlow : Nat) (ch : Nat) (body : List Byte) (s : State) (n : Fin 20), RxTaken m
      body.length s ∧ InSequence seq wlow s ∧ IngestsPacket ch n s ∧ (s.chan n).pkt = none ∧ 16 ≤ body.length ∧
      body.length / 32 + 1 ≤ s.free n) ∧
    (∃ (m : RxMeta) (seq : Nat) (wlow : Nat) (ch : Nat) (body : List Byte) (s : State) (n : Fin 20) (p : OpenPkt),
      RxTaken m body.length s ∧ InSequence seq wlow s ∧ IngestsPacket ch n s ∧ (s.chan n).pkt = some p ∧ p.buf.length
      < 32 ∧ p.len + body.length ≤ 16777215 ∧ body.length / 32 + 2 ≤ s.free n) ∧
    (∃ (m : RxMeta) (seq : Nat) (wlow : Nat) (ch : Nat) (body : List Byte) (s : State) (n : Fin 20) (p : OpenPkt),
      RxTaken m body.length s ∧ InSequence seq wlow s ∧ IngestsPacket ch n s ∧ (s.chan n).pkt = some p ∧ p.buf.length
      < 32 ∧ p.len + body.length ≤ 16777215 ∧ body.length / 32 + 2 ≤ s.free n) ∧
    (∃ (m : RxMeta) (seq : Nat) (wlow : Nat) (ch : Nat) (segoff : Nat) (body : List Byte) (s : State) (n : Fin 20) (p
      : OpenPkt), RxTaken m body.length s ∧ InSequence seq wlow s ∧ IngestsPacket ch n s ∧ (s.chan n).pkt = some p ∧
      segoff ≠ (s.chan n).ingNext) ∧
    (∃ (m : RxMeta) (seq : Nat) (wlow : Nat) (ch : Nat) (body : List Byte) (s : State) (n : Fin 20), RxTaken m
      body.length s ∧ AheadOfTurn seq wlow s ∧ IngestsPacket ch n s ∧ (s.chan n).pkt = none ∧ s.earlySlice ch 3#8
      body = true ∧ 16 ≤ body.length ∧ body.length / 32 + 1 ≤ s.free n) ∧
    (∃ (m : RxMeta) (seq : Nat) (wlow : Nat) (ch : Nat) (segf : BitVec 8) (body : List Byte) (s : State), RxTaken m
      body.length s ∧ AheadOfTurn seq wlow s ∧ s.earlySlice ch segf body = false) ∧
    (∃ (m : RxMeta) (seq : Nat) (wlow : Nat) (ch : Nat) (segf : BitVec 8) (body : List Byte) (s : State) (n : Fin
      20), RxTaken m body.length s ∧ InSequence seq wlow s ∧ chanOf ch = some n ∧ s.rowMisrouted n = false ∧ (s.chan
      n).cfg.cls ≠ .raw ∧ (s.chan n).copyGap = false ∧ s.shadows = false ∧ (s.chan n).state ≠ .active ∧ segf.getLsbD
      0 = true ∧ segf.getLsbD 2 = false ∧ Roomy n s) ∧
    (∃ (m : RxMeta) (seq : Nat) (wlow : Nat) (ch : Nat) (segf : BitVec 8) (body : List Byte) (s : State) (n : Fin
      20), RxTaken m body.length s ∧ InSequence seq wlow s ∧ chanOf ch = some n ∧ s.rowMisrouted n = false ∧ (s.chan
      n).cfg.cls ≠ .raw ∧ (s.chan n).copyGap = false ∧ s.shadows = false ∧ (s.chan n).pkt = none ∧ (((s.chan n).state
      = .held ∨ (s.chan n).state = .fault)) ∧ segf.getLsbD 0 = false ∧ segf.getLsbD 2 = false) ∧
    (∃ (m : RxMeta) (seq : Nat) (wlow : Nat) (ch : Nat) (body : List Byte) (s : State) (n : Fin 20), RxTaken m
      body.length s ∧ InSequence seq wlow s ∧ IngestsRaw ch n s ∧ s.policed n = true ∧ (s.chan n).rawBuf.length +
      body.length < 32 ∧ (20 + body.length + s.link.oh) * 1024 ≤ (s.chan n).pol.tp ∧ (20 + body.length + s.link.oh) *
      1024 ≤ (s.chan n).pol.tc) ∧
    (∃ (m : RxMeta) (seq : Nat) (wlow : Nat) (ch : Nat) (body : List Byte) (s : State) (n : Fin 20), RxTaken m
      body.length s ∧ InSequence seq wlow s ∧ IngestsRaw ch n s ∧ s.policed n = true ∧ (s.chan n).rawBuf.length +
      body.length < 32 ∧ (20 + body.length + s.link.oh) * 1024 ≤ (s.chan n).pol.tp ∧ (s.chan n).pol.tc < (20 +
      body.length + s.link.oh) * 1024 ∧ (s.chan n).holdReq = false) ∧
    (∃ (m : RxMeta) (seq : Nat) (wlow : Nat) (ch : Nat) (body : List Byte) (s : State) (n : Fin 20), RxTaken m
      body.length s ∧ InSequence seq wlow s ∧ IngestsRaw ch n s ∧ s.policed n = true ∧ Roomy n s ∧ (20 + body.length
      + s.link.oh) * 1024 ≤ (s.chan n).pol.tp ∧ (s.chan n).pol.tc < (20 + body.length + s.link.oh) * 1024 ∧ (s.chan
      n).holdReq = true) ∧
    (∃ (m : RxMeta) (seq : Nat) (wlow : Nat) (ch : Nat) (body : List Byte) (s : State) (n : Fin 20), RxTaken m
      body.length s ∧ InSequence seq wlow s ∧ chanOf ch = some n ∧ s.rowMisrouted n = false ∧ (s.chan n).cfg.cls ≠
      .raw ∧ (s.chan n).state = .active ∧ (s.chan n).copyGap = false ∧ s.shadows = false ∧ Roomy n s ∧ 16 ≤
      body.length ∧ s.policed n = true ∧ (20 + body.length + s.link.oh) * 1024 ≤ (s.chan n).pol.tp ∧ (s.chan
      n).pol.tc < (20 + body.length + s.link.oh) * 1024 ∧ (s.chan n).holdReq = true) ∧
    (∃ (m : RxMeta) (seq : Nat) (wlow : Nat) (ch : Nat) (body : List Byte) (s : State) (n : Fin 20), RxTaken m
      body.length s ∧ InSequence seq wlow s ∧ chanOf ch = some n ∧ s.rowMisrouted n = false ∧ (s.chan n).cfg.cls ≠
      .raw ∧ (s.chan n).state = .active ∧ (s.chan n).copyGap = false ∧ s.shadows = false ∧ Roomy n s ∧ 16 ≤
      body.length ∧ s.policed n = true ∧ (s.chan n).pol.tp < (20 + body.length + s.link.oh) * 1024) ∧
    (∃ (m : RxMeta) (seq : Nat) (wlow : Nat) (ch : Nat) (body : List Byte) (s : State) (n : Fin 20), RxTaken m
      body.length s ∧ InSequence seq wlow s ∧ chanOf ch = some n ∧ s.rowMisrouted n = false ∧ (s.chan n).cfg.cls ≠
      .raw ∧ (s.chan n).state = .active ∧ (s.chan n).copyGap = false ∧ s.shadows = false ∧ (s.chan n).refusing =
      false ∧ (((s.chan n).pol.segDrop = 1 ∨ (s.chan n).pol.segDrop = 2))) ∧
    (∃ (m : RxMeta) (seq : Nat) (wlow : Nat) (ch : Nat) (count : Nat) (ns : Nat) (s : State), RxTaken m 8 s ∧
      InSequence seq wlow s ∧ ((∀ n : Fin 20, chanOf ch = some n → s.rowMisrouted n = true ∨ (s.chan n).cfg.cls ≠
      .slice ∨ count = 0 ∨ 512 < count ∨ 999999999 < ns))) ∧
    (∃ (m : RxMeta) (seq : Nat) (wlow : Nat) (ch : Nat) (count : Nat) (ns : Nat) (s : State) (n : Fin 20), RxTaken m
      8 s ∧ InSequence seq wlow s ∧ chanOf ch = some n ∧ s.rowMisrouted n = false ∧ (s.chan n).cfg.cls = .slice ∧
      (s.chan n).state = .active ∧ s.sender = false ∧ s.chainHalf false = false ∧ 1 ≤ count ∧ count ≤ 512 ∧ ns ≤
      999999999 ∧ Roomy n s ∧ (∀ i : Fin 3, (s.chan n).record i = {})) :=
  ⟨⟨good, 0, 0, 20, zeros 16, up base, by decide +kernel⟩,
   ⟨good, 65535, 0, zeros 16, up base, by decide +kernel⟩,
   ⟨good, 0, 0, 0, [1, 2, 3],
    (up base).modCh 0 fun _ => { chanAB .raw with cfg := { (chanAB .raw).cfg with producer := .link } }, 0,
    by decide +kernel⟩,
   ⟨good, 0, 0, 0, zeros 40,
    (up base).modCh 0 fun _ => { chanAB .packet with cfg := { (chanAB .packet).cfg with producer := .link } }, 0,
    by decide +kernel⟩,
   ⟨good, 0, 0, 0, zeros 40,
    (up base).modCh 0 fun _ => { chanAB .packet with cfg := { (chanAB .packet).cfg with producer := .link } }, 0,
    by decide +kernel⟩,
   ⟨good, 0, 0, 0, zeros 40,
    (up base).modCh 0 fun _ => { chanAB .packet with cfg := { (chanAB .packet).cfg with producer := .link }, pkt := some pkt0, wp := { off := 1 }, ingNext := 16 },
    0, pkt0, by decide +kernel⟩,
   ⟨good, 0, 0, 0, zeros 40,
    (up base).modCh 0 fun _ => { chanAB .packet with cfg := { (chanAB .packet).cfg with producer := .link }, pkt := some pkt0, wp := { off := 1 }, ingNext := 16 },
    0, pkt0, by decide +kernel⟩,
   ⟨good, 0, 0, 0, 17, zeros 40,
    (up base).modCh 0 fun _ => { chanAB .packet with cfg := { (chanAB .packet).cfg with producer := .link }, pkt := some pkt0, wp := { off := 1 }, ingNext := 16 },
    0, pkt0, by decide +kernel⟩,
   ⟨good, 5, 0, 0, leBytes 0 6 ++ leBytes 2 2 ++ leBytes 1 4 ++ zeros 14,
    (up base).modCh 0 fun _ => ({ chanAB .slice with cfg := { (chanAB .slice).cfg with producer := .link } }.modRec 0 fun _ => { state := .filling, frame := 1, count := 3 }),
    0, by decide +kernel⟩,
   ⟨good, 1023, 0, 0, 3, zeros 40,
    (up base).modCh 0 fun _ => { chanAB .packet with cfg := { (chanAB .packet).cfg with producer := .link } },
    by decide +kernel⟩,
   ⟨good, 0, 0, 0, 3, zeros 40,
    (up base).modCh 0 fun _ => { chanAB .packet with cfg := { (chanAB .packet).cfg with producer := .link }, state := .draining },
    0, by decide +kernel⟩,
   ⟨good, 0, 0, 0, 2, zeros 40,
    (up base).modCh 0 fun _ => { chanAB .packet with cfg := { (chanAB .packet).cfg with producer := .link }, state := .held },
    0, by decide +kernel⟩,
   ⟨good, 0, 0, 0, [1, 2, 3],
    (up base).modCh 0 fun _ => { chanAB .raw with cfg := { (chanAB .raw).cfg with producer := .link }, pol := { (chanAB .raw).pol with mode := 1, tp := 999999, tc := 999999 } },
    0, by decide +kernel⟩,
   ⟨good, 0, 0, 0, [1, 2, 3],
    (up base).modCh 0 fun _ => { chanAB .raw with cfg := { (chanAB .raw).cfg with producer := .link }, pol := { (chanAB .raw).pol with mode := 1, tp := 999999, tc := 999 } },
    0, by decide +kernel⟩,
   ⟨good, 0, 0, 0, [1, 2, 3],
    (up base).modCh 0 fun _ => { chanAB .raw with cfg := { (chanAB .raw).cfg with producer := .link }, pol := { (chanAB .raw).pol with mode := 1, tp := 999999, tc := 999 }, holdReq := true },
    0, by decide +kernel⟩,
   ⟨good, 0, 0, 0, zeros 40,
    (up base).modCh 0 fun _ => { chanAB .packet with cfg := { (chanAB .packet).cfg with producer := .link }, pol := { (chanAB .raw).pol with mode := 1, tp := 999999, tc := 999 }, holdReq := true, pkt := some pkt0, wp := { off := 1 }, ingNext := 16 },
    0, by decide +kernel⟩,
   ⟨good, 0, 0, 0, zeros 40,
    (up base).modCh 0 fun _ => { chanAB .packet with cfg := { (chanAB .packet).cfg with producer := .link }, pol := { (chanAB .raw).pol with mode := 1, tp := 40960, tc := 0 } },
    0, by decide +kernel⟩,
   ⟨good, 0, 0, 0, zeros 40,
    (up base).modCh 0 fun _ => { chanAB .packet with cfg := { (chanAB .packet).cfg with producer := .link }, pol := { (chanAB .raw).pol with segDrop := 1 } },
    0, by decide +kernel⟩,
   ⟨good, 0, 0, 0, 513, 0,
    (up base).modCh 0 fun _ => { chanAB .slice with cfg := { (chanAB .slice).cfg with producer := .link } },
    by decide +kernel⟩,
   ⟨good, 0, 0, 0, 512, 999999999,
    (up base).modCh 0 fun _ => { chanAB .slice with cfg := { (chanAB .slice).cfg with producer := .link } }, 0,
    by decide +kernel⟩⟩

theorem witness_Transmitter :
    (∃ (s : State) (i : StrictItem), s.link.state ≠ .off ∧ s.pwr.clkSource = 1 ∧ s.link.byeIdle = false ∧ nextStrict
      s.link.strict = some i) ∧
    (∃ (s : State) (h : Head) (f : TxFrame) (rest : List TxFrame), TxFree s ∧ s.arq.retx = [] ∧ s.blockUp 5 = true ∧
      s.nextFlow = some (20, h) ∧ s.link.mgmtQ = f :: rest) ∧
    (∃ (s : State) (n : Fin 20) (h : Head) (f : FstartItem) (rest : List FstartItem), TxFree s ∧ s.arq.retx = [] ∧
      s.blockUp 5 = true ∧ s.nextFlow = some (n.val, h) ∧ h.kind = .fstart ∧ (s.chan n).fstarts = f :: rest ∧ Roomy n
      s) ∧
    (∃ (s : State) (n : Fin 20) (h : Head) (start : Ptr) (segoff : Nat) (bytes : Nat) (len : Nat) (first : Bool)
      (last : Bool), TxFree s ∧ s.arq.retx = [] ∧ s.blockUp 5 = true ∧ s.nextFlow = some (n.val, h) ∧ h.kind =
      .segment start segoff bytes len first last ∧ ((s.chan n).entryAt start).all (fun e => decide (e.flips = 0)) =
      true ∧ (s.wordsFrom n ((bytes + 31) / 32) start).all (fun w => !w.bad) = true ∧ Roomy n s) ∧
    (∃ (s : State) (n : Fin 20) (h : Head) (start : Ptr) (words : Nat) (bytes : Nat) (tail : Bool), TxFree s ∧
      s.arq.retx = [] ∧ s.blockUp 5 = true ∧ s.nextFlow = some (n.val, h) ∧ h.kind = .raw start words bytes tail ∧
      ((s.chan n).tailOf (s.fenced n) words start).all (fun e => decide (e.flips = 0)) = true ∧ (s.wordsFrom n words
      start).all (fun w => !w.bad) = true ∧ Roomy n s) ∧
    (∃ (s : State) (e : WinEntry) (f : TxFrame), TxFree s ∧ s.arq.window.find? (fun e => s.arq.retx.contains e.seq) =
      some e ∧ e.body = .copy f) ∧
    (∃ (s : State) (e : WinEntry) (n : Fin 20) (start : Ptr) (segoff : Nat) (bytes : Nat) (len : Nat) (frame : Nat)
      (pseq : Nat) (first : Bool) (last : Bool), TxFree s ∧ s.arq.window.find? (fun e => s.arq.retx.contains e.seq) =
      some e ∧ e.body = .segment start segoff bytes len frame pseq first last ∧ chanOf e.ch = some n ∧ e.stale =
      false ∧ (s.chan n).skip = none ∧ (s.wordsFrom n ((bytes + 31) / 32) start).all (fun w => !w.bad) = true ∧ Roomy
      n s) ∧
    (∃ (s : State), s.linkUp = true ∧ s.pwr.clkSource = 1 ∧ s.link.byeIdle = false ∧ s.link.strict = [] ∧
      (((s.arq.retx = [] ∧ (s.blockUp 5 = false ∨ s.nextFlow = none)) ∨ s.clocked = false))) ∧
    (∃ (s : State), s.link.state = .trial ∧ s.pwr.clkSource = 1 ∧ s.link.byeIdle = false ∧ s.link.strict = []) ∧
    (∃ (s : State), s.link.byeIdle = true) ∧
    (∃ (dt : Nat) (a : Nat) (s : State), s.linkUp = true ∧ s.arq.firstAcc = some a ∧ a + ns s.arq.ackDelay ≤ s.now +
      1250 * dt) ∧
    (∃ (dt : Nat) (s : State) (e : WinEntry) (rest : List WinEntry), s.linkUp = true ∧ s.arq.window = e :: rest ∧
      e.retxAt.getD e.sentAt + us s.arq.rto ≤ s.now + 1250 * dt ∧ s.arq.timeouts + 1 < s.arq.retryLimit) ∧
    (∃ (dt : Nat) (s : State) (e : WinEntry) (rest : List WinEntry), s.linkUp = true ∧ s.arq.window = e :: rest ∧
      e.retxAt.getD e.sentAt + us s.arq.rto ≤ s.now + 1250 * dt ∧ s.arq.retryLimit ≤ s.arq.timeouts + 1) ∧
    (∃ (s : State), s.sender = false) ∧
    (∃ (dt : Nat) (s : State) (e : WinEntry) (p : Nat × Nat), s.sender = true ∧ s.arq.window = [e] ∧ s.isSliceEntry e
      = true ∧ e.pts = some p ∧ (s.advance dt).ptsPassed p = true) ∧
    (∃ (s : State), s.sender = false ∧ s.linkFlows = true ∧ s.pauseMap ≠ s.link.lastPause) ∧
    (∃ (s : State), s.sender = false ∧ s.linkFlows = true ∧ s.pauseMap ≠ 0) ∧
    (∃ (dt : Nat) (s : State), s.sender = true ∧ s.link.pauseRxAt + ms 1 ≤ s.now + 1250 * dt) ∧
    (∃ (dt : Nat) (s : State), s.sender = false ∧ s.linkFlows = true ∧ s.link.reportAt + ms 100 ≤ s.now + 1250 * dt) ∧
    (∃ (dt : Nat) (s : State), s.sender = false ∧ s.linkUp = true ∧ s.link.echo = none ∧ s.link.echoPeriod ≠ 0 ∧
      s.link.echoStart + ms s.link.echoPeriod ≤ s.now + 1250 * dt) ∧
    (∃ (dt : Nat) (s : State) (e : EchoSet), s.linkUp = true ∧ s.link.echo = some e ∧ e.sentAt + us 100 ≤ s.now +
      1250 * dt) ∧
    (∃ (dt : Nat) (s : State), s.sender = true ∧ s.linkUp = true ∧ s.link.syncAt + us s.link.syncEvery ≤ s.now + 1250
      * dt) ∧
    (∃ (dt : Nat) (s : State), s.pwr.clkSource = 1 ∧ s.now + 1250 * dt < s.link.refillAt + us 1) ∧
    (∃ (dt : Nat) (s : State), s.pwr.clkSource = 1 ∧ s.link.refillAt + us 1 ≤ s.now + 1250 * dt) :=
  ⟨⟨{ up sendBase with link := { (up sendBase).link with strict := [⟨4, plainFrame 8 [] []⟩, (⟨1, plainFrame 7 [] (zeros 4)⟩)] } },
    ⟨1, plainFrame 7 [] (zeros 4)⟩, by decide +kernel⟩,
   ⟨{ up base with link := { (up base).link with mgmtQ := [(plainFrame 10 [] (zeros 28))], mgmtFlow := { weight := 4, head := some (⟨9, 48, .mgmt⟩) } } },
    ⟨9, 48, .mgmt⟩, plainFrame 10 [] (zeros 28), [], by decide +kernel⟩,
   ⟨(up ({ base with mem := { base.mem with cells := storeBytes [] 0 (leBytes 36 3 ++ [8] ++ zeros 4 ++ leBytes 9 4 ++ List.replicate 52 5) } })).modCh 0 fun _ => { chanAB .slice with cfg := { (chanAB .slice).cfg with consumer := .link }, wp := { off := 2 }, cp := { off := 2 }, nextPseq := 65535, flow := { (chanAB .raw).flow with head := some ⟨9, 48, .fstart⟩ }, fstarts := [({ pos := {}, frame := 5, count := 300, epoch := 1, ptsSec := 0, ptsNs := 999999999 } : FstartItem)] },
    0, ⟨9, 48, .fstart⟩,
    ({ pos := {}, frame := 5, count := 300, epoch := 1, ptsSec := 0, ptsNs := 999999999 } : FstartItem), [],
    by decide +kernel⟩,
   ⟨(up ({ base with mem := { base.mem with cells := storeBytes [] 0 (leBytes 36 3 ++ [8] ++ zeros 4 ++ leBytes 9 4 ++ List.replicate 52 5) } })).modCh 0 fun _ => { chanAB .packet with cfg := { (chanAB .packet).cfg with consumer := .link }, wp := { off := 2 }, cp := { off := 2 }, nextPseq := 65535, flow := { (chanAB .raw).flow with head := some ⟨9, 48, .segment {} 0 52 36 true true⟩ } },
    0, ⟨9, 48, .segment {} 0 52 36 true true⟩, {}, 0, 52, 36, true, true, by decide +kernel⟩,
   ⟨(up ({ base with mem := { base.mem with cells := storeBytes [] 0 (leBytes 36 3 ++ [8] ++ zeros 4 ++ leBytes 9 4 ++ List.replicate 52 5) } })).modCh 0 fun _ => { chanAB .raw with cfg := { (chanAB .raw).cfg with consumer := .link }, wp := { off := 2 }, cp := { off := 2 }, nextPseq := 65535, flow := { (chanAB .raw).flow with head := some ⟨9, 48, .raw {} 2 40 false⟩ } },
    0, ⟨9, 48, .raw {} 2 40 false⟩, {}, 2, 40, false, by decide +kernel⟩,
   ⟨{ up base with arq := { base.arq with window := [win 4, win 5], nextSeq := 6, retx := [5] } }, win 5,
    plainFrame 10 [] [], by decide +kernel⟩,
   ⟨{ (up ({ base with mem := { base.mem with cells := storeBytes [] 0 (leBytes 36 3 ++ [8] ++ zeros 4 ++ leBytes 9 4 ++ List.replicate 52 5) } })).modCh 0 fun _ => { chanAB .packet with cfg := { (chanAB .packet).cfg with consumer := .link }, wp := { off := 2 }, cp := { off := 2 }, nextPseq := 65535 } with arq := { base.arq with window := [win 4, { win 5 with type := 2, ch := 0, endp := { off := 2 }, pseq := 3, body := .segment {} 0 52 36 9 3 true true }], nextSeq := 6, retx := [5] } },
    { win 5 with type := 2, ch := 0, endp := { off := 2 }, pseq := 3, body := .segment {} 0 52 36 9 3 true true }, 0,
    {}, 0, 52, 36, 9, 3, true, true, by decide +kernel⟩,
   ⟨{ up base with now := 50000000 }, by decide +kernel⟩,
   ⟨{ base with link := { base.link with state := .trial } }, by decide +kernel⟩,
   ⟨{ up base with link := { (up base).link with byeIdle := true } }, by decide +kernel⟩,
   ⟨1600, 0, { up base with arq := { base.arq with firstAcc := some 0, accSince := 1 } }, by decide +kernel⟩,
   ⟨16000, { up base with arq := { base.arq with window := [win 4, win 5] } }, win 4, [win 5], by decide +kernel⟩,
   ⟨16000, { up base with arq := { base.arq with window := [win 4, win 5], timeouts := 63 } }, win 4, [win 5],
    by decide +kernel⟩,
   ⟨base, by decide +kernel⟩,
   ⟨0,
    { (up sendBase).modCh 0 fun c => { c with cfg := { c.cfg with consumer := .link }, state := .active } with arq := { base.arq with window := [({ win 4 with type := 2, ch := 0, pts := some (0, 0) })] }, time := { base.time with valid := true, wall := 1 } },
    { win 4 with type := 2, ch := 0, pts := some (0, 0) }, (0, 0), by decide +kernel⟩,
   ⟨{ up base with link := { (up base).link with lastPause := 1 } }, by decide +kernel⟩,
   ⟨(up base).modCh 0 fun c => { c with holdReq := true }, by decide +kernel⟩,
   ⟨800000, up sendBase, by decide +kernel⟩,
   ⟨80000000, up base, by decide +kernel⟩,
   ⟨800000000, up base, by decide +kernel⟩,
   ⟨80000, { up base with link := { (up base).link with echo := some (⟨254, 5, 9, ⟨0, 0, 0⟩, 0⟩) } },
    ⟨254, 5, 9, ⟨0, 0, 0⟩, 0⟩, by decide +kernel⟩,
   ⟨800000, up sendBase, by decide +kernel⟩,
   ⟨799,
    base.modCh 0 fun c => { c with cfg := { c.cfg with producer := .link }, pol := { c.pol with mode := 1, cir := 8, pir := 8, tc := 0, tp := 0 } },
    by decide +kernel⟩,
   ⟨800,
    base.modCh 0 fun c => { c with cfg := { c.cfg with producer := .link }, pol := { c.pol with mode := 1, cir := 8, pir := 8, tc := 0, tp := 0 } },
    by decide +kernel⟩⟩

theorem witness_YarrowAccesses :
    (∃ (v : W32) (s : State), s.ycoreRuns = true ∧ s.blockUp 0 = true ∧ s.shadows = false ∧ v.getLsbD 7 = false ∧
      s.slot (v.toNat % 64) = ⟨.free, false⟩) ∧
    (∃ (v : W32) (s : State), s.ycoreRuns = true ∧ s.blockUp 0 = true ∧ s.shadows = false ∧ v.getLsbD 7 = true ∧
      (s.slot (v.toNat % 64)).owner = .yc) ∧
    (∃ (s : State), s.ycoreRuns = true) ∧
    (∃ (s : State), s.ycoreRuns = true ∧ s.blockUp 16 = true) ∧
    (∃ (addr : Nat) (n : Nat) (s : State), s.ycoreRuns = true ∧ s.memOpen = true ∧ s.blockUp 0 = true ∧ 0x40000000 ≤
      addr ∧ addr < 0x48000000 ∧ addr % 32 + n ≤ 32 ∧ s.allowed 3 ((addr - 0x40000000) / 32 / 128) false = true ∧
      s.fencedAt (s.placeOf ((addr - 0x40000000) / 32)) = false ∧ (readWordAt s.mem (s.phys (s.placeOf ((addr -
      0x40000000) / 32)))).lanesOk (addr % 32) n = true) ∧
    (∃ (addr : Nat) (d : List Byte) (s : State), s.ycoreRuns = true ∧ s.memOpen = true ∧ s.blockUp 0 = true ∧
      0x40000000 ≤ addr ∧ addr < 0x48000000 ∧ addr % 32 + d.length ≤ 32 ∧ s.allowed 3 ((addr - 0x40000000) / 32 /
      128) true = true ∧ s.fencedAt (s.placeOf ((addr - 0x40000000) / 32)) = false ∧ (readWordAt s.mem (s.phys
      (s.placeOf ((addr - 0x40000000) / 32)))).bad = false ∧ s.tansy.copy = none ∧ MemoriesCanonical s) ∧
    (∃ (addr : Nat) (n : Nat) (s : State), s.ycoreRuns = true ∧ s.memOpen = true ∧ s.blockUp 0 = true ∧ 0x40000000 ≤
      addr ∧ addr < 0x48000000 ∧ addr % 32 + n ≤ 32 ∧ s.allowed 3 ((addr - 0x40000000) / 32 / 128) false = false) ∧
    (∃ (s : State), s.ycoreRuns = true) ∧
    (∃ (period : Nat) (s : State), s.ycoreRuns = true ∧ 1000 ≤ period ∧ period ≤ 10000000) ∧
    (∃ (s : State), s.ycoreRuns = true) ∧
    (∃ (addr : Nat) (n : Nat) (s : State), s.ycoreRuns = true ∧ 0x10000000 ≤ addr ∧ addr + n ≤ 0x10040000 ∧
      s.yar.sramErr = []) ∧
    (∃ (addr : Nat) (w : Nat) (s : State), s.ycoreRuns = true ∧ 0x10000000 ≤ addr ∧ addr + 4 ≤ 0x10040000 ∧ addr -
      0x10000000 = 4 * w ∧ s.yar.sramErr = [(w, true)]) ∧
    (∃ (addr : Nat) (d : List Byte) (s : State), s.ycoreRuns = true ∧ 0x10000000 ≤ addr ∧ addr + d.length ≤
      0x10040000 ∧ MemoriesCanonical s) ∧
    (∃ (dt : Nat) (s : State), s.yarUp = true ∧ s.yarrowHeld = false ∧ s.clocked = true ∧ s.yar.scrubAt + ms 1000 ≤
      s.now + 1250 * dt ∧ s.yar.sramErr.all (fun e => e.2) = true) ∧
    (∃ (dt : Nat) (w : Nat) (s : State), s.yarUp = true ∧ s.yarrowHeld = false ∧ s.clocked = true ∧ s.yar.scrubAt +
      ms 1000 ≤ s.now + 1250 * dt ∧ s.yar.sramErr = [(w, false)]) ∧
    (∃ (dt : Nat) (s : State), ((s.clocked = false ∨ s.yarrowHeld = true ∨ s.now + 1250 * dt < s.yar.scrubAt + ms
      1000))) :=
  ⟨⟨63, base, by decide +kernel⟩,
   ⟨0x80, { base with mem := { base.mem with locks := base.mem.locks.set 0 ⟨.yc, false⟩ } }, by decide +kernel⟩,
   ⟨base, by decide +kernel⟩,
   ⟨{ base with tansy := { base.tansy with copy := some (3, 128) } }, by decide +kernel⟩,
   ⟨0x47FFFFFC, 4, base, by decide +kernel⟩,
   ⟨0x40000003, [1, 2], base, by decide +kernel⟩,
   ⟨0x40000003, 2, { base with mem := { base.mem with desc := base.mem.desc.set 3 (Vector.replicate 8 0) } },
    by decide +kernel⟩,
   ⟨base, by decide +kernel⟩,
   ⟨10000000, base, by decide +kernel⟩,
   ⟨{ base with yar := { base.yar with ydma := base.yar.ydma.set 0 { base.yar.ydma.get 0 with haltCause := 1 } } },
    by decide +kernel⟩,
   ⟨0x1003FFFC, 4, base, by decide +kernel⟩,
   ⟨0x10000004, 1, { base with yar := { base.yar with sramErr := [(1, true)] } }, by decide +kernel⟩,
   ⟨0x10000003, [1, 2], base, by decide +kernel⟩,
   ⟨800000000, { base with yar := { base.yar with sramErr := [(1, true)] } }, by decide +kernel⟩,
   ⟨800000000, 5, { base with yar := { base.yar with sramErr := [(5, false)] } }, by decide +kernel⟩,
   ⟨800000000, { base with pwr := { (base).pwr with state := .doze } }, by decide +kernel⟩⟩

theorem witness_YdmaMoves :
    (∃ (k : Fin 4) (index : Nat) (w : Nat) (a : Nat) (b : Nat) (s : State), YReady k index w s ∧ dUnits w = 1 ∧
      yTarget (4 * dField w 12 26 : Nat) = .sram a ∧ yTarget (4 * dField w 38 26 : Nat) = .sram b ∧ MemoriesCanonical
      s) ∧
    (∃ (k : Fin 4) (index : Nat) (w : Nat) (s : State), YReady k index w s ∧ SramToSram w ∧ MemoriesCanonical s) ∧
    (∃ (k : Fin 4) (index : Nat) (w : Nat) (a : Nat) (b : Nat) (s : State), YReady k index w s ∧ dUnits w = 1 ∧
      yTarget (4 * dField w 12 26 : Nat) = .array a ∧ yTarget (4 * dField w 38 26 : Nat) = .sram b ∧ s.blockUp 0 =
      true ∧ s.allowed 4 (a / 4096) false = true ∧ s.fencedAt (s.placeOf (a / 32)) = false ∧ (readWordAt s.mem
      (s.phys (s.placeOf (a / 32)))).lanesOk (a % 32) 4 = true ∧ MemoriesCanonical s) ∧
    (∃ (k : Fin 4) (index : Nat) (w : Nat) (a : Nat) (b : Nat) (s : State), YReady k index w s ∧ dUnits w = 1 ∧
      yTarget (4 * dField w 12 26 : Nat) = .sram a ∧ yTarget (4 * dField w 38 26 : Nat) = .array b ∧ s.blockUp 0 =
      true ∧ s.allowed 4 (b / 4096) true = true ∧ s.fencedAt (s.placeOf (b / 32)) = false ∧ (readWordAt s.mem (s.phys
      (s.placeOf (b / 32)))).bad = false ∧ s.tansy.copy = none ∧ MemoriesCanonical s) ∧
    (∃ (k : Fin 4) (index : Nat) (w : Nat) (i : Nat) (b : Nat) (s : State) (n : Fin 20), YReady k index w s ∧ dUnits
      w = 8 ∧ yTarget (4 * dField w 12 26 : Nat) = .aperture i ∧ chanOf i = some n ∧ s.blockUp 0 = true ∧ s.blockUp 1
      = true ∧ (s.chan n).cfg.consumer = .yarrow ∧ (s.chan n).cfg.cls = .raw ∧ (s.chan n).state = .active ∧ (s.chan
      n).deferred = [] ∧ (s.chan n).tails = [] ∧ s.ringReadable n ≠ 0 ∧ (s.wordAtRp n).bad = false ∧ (dstAt w 0 =
      (0x8000000 + b : Nat) ∧ dstAt w 1 = (0x8000004 + b : Nat) ∧ dstAt w 2 = (0x8000008 + b : Nat) ∧ dstAt w 3 =
      (0x800000C + b : Nat) ∧ dstAt w 4 = (0x8000010 + b : Nat) ∧ dstAt w 5 = (0x8000014 + b : Nat) ∧ dstAt w 6 =
      (0x8000018 + b : Nat) ∧ dstAt w 7 = (0x800001C + b : Nat)) ∧ b + 32 ≤ 0x40000 ∧ MemoriesCanonical s) ∧
    (∃ (k : Fin 4) (index : Nat) (w : Nat) (i : Nat) (s : State) (n : Fin 20), YReady k index w s ∧ FromSram w ∧
      yTarget (4 * dField w 38 26 : Nat) = .aperture i ∧ ApertureFed i n s ∧ (s.chan n).state = .active ∧ (s.chan
      n).cfg.cls ≠ .raw ∧ 4 * dUnits w ≤ 16777215 ∧ dUnits w / 8 + 2 ≤ s.free n) ∧
    (∃ (k : Fin 4) (index : Nat) (w : Nat) (i : Nat) (s : State) (n : Fin 20), YReady k index w s ∧ FromSram w ∧
      dUnits w = 1 ∧ yTarget (4 * dField w 38 26 : Nat) = .aperture i ∧ ApertureFed i n s ∧ (s.chan n).state =
      .active ∧ (s.chan n).cfg.cls = .raw ∧ (s.chan n).rawBuf.length + 4 ≤ 32 ∧ (s.chan n).tails.length < tailTable ∧
      s.free n ≠ 0) ∧
    (∃ (k : Fin 4) (index : Nat) (w : Nat) (i : Nat) (b : Nat) (s : State) (n : Fin 20), YReady k index w s ∧ yTarget
      (4 * dField w 12 26 : Nat) = .aperture i ∧ yTarget (4 * dField w 38 26 : Nat) = .sram b ∧ chanOf i = some n ∧
      s.blockUp 0 = true ∧ s.blockUp 1 = true ∧ (s.chan n).cfg.consumer = .yarrow ∧ (((s.chan n).state = .held ∨
      (((s.chan n).state = .active ∨ (s.chan n).state = .draining) ∧ s.ringReadable n = 0)))) ∧
    (∃ (k : Fin 4) (index : Nat) (w : Nat) (i : Nat) (s : State) (n : Fin 20), YReady k index w s ∧ FromSram w ∧
      yTarget (4 * dField w 38 26 : Nat) = .aperture i ∧ ApertureFed i n s ∧ (((s.chan n).state = .held ∨ (s.chan
      n).state = .draining))) ∧
    (∃ (k : Fin 4) (index : Nat) (w : Nat) (a : Nat) (s : State), YReady k index w s ∧ yTarget (4 * dField w 12 26 :
      Nat) = .array a ∧ s.blockUp 0 = true ∧ s.allowed 4 (a / 4096) false = false) ∧
    (∃ (k : Fin 4) (index : Nat) (w : Nat) (a : Nat) (b : Nat) (s : State), YReady k index w s ∧ yTarget (4 * dField
      w 12 26 : Nat) = .sram a ∧ yTarget (4 * dField w 38 26 : Nat) = .array b ∧ s.blockUp 0 = true ∧ s.allowed 4 (b
      / 4096) true = false) ∧
    (∃ (k : Fin 4) (index : Nat) (w : Nat) (a : Nat) (s : State), YReady k index w s ∧ yTarget (4 * dField w 12 26 :
      Nat) = .array a ∧ s.blockUp 0 = true ∧ s.allowed 4 (a / 4096) false = true ∧ ((s.fencedAt (s.placeOf (a / 32))
      = true ∨ (readWordAt s.mem (s.phys (s.placeOf (a / 32)))).lanesOk (a % 32) 4 = false))) ∧
    (∃ (k : Fin 4) (index : Nat) (w : Nat) (i : Nat) (s : State) (n : Fin 20), YReady k index w s ∧ yTarget (4 *
      dField w 12 26 : Nat) = .aperture i ∧ chanOf i = some n ∧ ((s.blockUp 0 = false ∨ s.blockUp 1 = false ∨ (s.chan
      n).state = .disabled ∨ (s.chan n).state = .fault ∨ (s.chan n).cfg.consumer ≠ .yarrow))) ∧
    (∃ (k : Fin 4) (index : Nat) (w : Nat) (a : Nat) (i : Nat) (s : State) (n : Fin 20), YReady k index w s ∧ yTarget
      (4 * dField w 12 26 : Nat) = .sram a ∧ yTarget (4 * dField w 38 26 : Nat) = .aperture i ∧ chanOf i = some n ∧
      ((s.blockUp 0 = false ∨ s.blockUp 1 = false ∨ (s.chan n).state = .disabled ∨ (s.chan n).state = .fault ∨
      (s.chan n).cfg.producer ≠ .yarrow))) ∧
    (∃ (k : Fin 4) (index : Nat) (w : Nat) (s : State), YReady k index w s ∧ yTarget (4 * dField w 12 26 : Nat) =
      .unmapped) ∧
    (∃ (k : Fin 4) (index : Nat) (w : Nat) (a : Nat) (b : Nat) (s : State), YReady k index w s ∧ yTarget (4 * dField
      w 12 26 : Nat) = .sram a ∧ ((yTarget (4 * dField w 38 26 : Nat) = .unmapped ∨ yTarget (4 * dField w 38 26 :
      Nat) = .flash b))) ∧
    (∃ (k : Fin 4) (s : State), s.ycoreRuns = true ∧ s.blockUp 16 = true ∧ (s.yar.ydma.get k).haltCause = 0 ∧
      (s.yar.ydma.get k).active = false ∧ s.memOpen = false) ∧
    (∃ (k : Fin 4) (index : Nat) (s : State), s.ycoreRuns = true ∧ s.blockUp 16 = true ∧ (s.yar.ydma.get k).haltCause
      = 0 ∧ (s.yar.ydma.get k).active = false ∧ s.memOpen = true ∧ s.yar.bankCopyStart = false ∧ s.yar.sramErr = [] ∧
      descriptorError (s.descriptor index) = true) ∧
    (∃ (k : Fin 4) (s : State), s.yHalted k = true ∧ s.memOpen = false) ∧
    (∃ (k : Fin 4) (a : Nat) (b : Nat) (s : State), s.yHalted k = true ∧ s.memOpen = true ∧ (s.yar.ydma.get
      k).started = true ∧ (k.val = 3 → s.yar.bankCopyStart = false) ∧ descriptorError (s.descriptor (s.yar.ydma.get
      k).index) = false ∧ (s.yar.ydma.get k).moved (s.descriptor (s.yar.ydma.get k).index) + 1 = dUnits (s.descriptor
      (s.yar.ydma.get k).index) ∧ yTarget (s.yar.ydma.get k).s = .sram a ∧ yTarget (s.yar.ydma.get k).d = .sram b ∧
      s.yar.sramErr = [] ∧ MemoriesCanonical s) ∧
    (∃ (k : Fin 4) (s : State), s.yHalted k = true ∧ (s.yar.ydma.get k).started = true ∧ (s.yar.ydma.get k).moved
      (s.descriptor (s.yar.ydma.get k).index) + 1 = dUnits (s.descriptor (s.yar.ydma.get k).index) ∧ (yTarget
      (s.yar.ydma.get k).s).isAperture = false ∧ (yTarget (s.yar.ydma.get k).d).isAperture = false ∧
      s.yar.sramErr.all (fun e => e.1 < (0x30000 + 32 * (s.yar.ydma.get k).index) / 4) = true) ∧
    (∃ (k : Fin 4) (s : State), s.yHalted k = true) :=
  ⟨⟨3, 0, 9223389766479773696, 0, 0x100,
    { (base : State) with yar := { base.yar with sram := storeBytes (storeBytes [] 0 (leBytes 0x0102030405060708 8)) 196608 (leBytes 9223389766479773696 32) } },
    by decide +kernel⟩,
   ⟨3, 0, 6277099116375479058255660082777334309408195794789206065163,
    { (base : State) with yar := { base.yar with sram := storeBytes (storeBytes [] 0 (leBytes 0x0102030405060708 8)) 196608 (leBytes 6277099116375479058255660082777334309408195794789206065163 32) } },
    by decide +kernel⟩,
   ⟨0, 0, 9223372311732715520, 0x20, 4,
    { (base : State) with yar := { base.yar with sram := storeBytes (storeBytes [] 0 (leBytes 0x0102030405060708 8)) 196608 (leBytes 9223372311732715520 32) } },
    by decide +kernel⟩,
   ⟨0, 0, 9223371899415822336, 0, 0x7FFFFFC,
    { (base : State) with yar := { base.yar with sram := storeBytes (storeBytes [] 0 (leBytes 0x0102030405060708 8)) 196608 (leBytes 9223371899415822336 32) } },
    by decide +kernel⟩,
   ⟨0, 0, 4835841629043639365664768, 0, 0x40,
    { ((ch0 base { chanAB .raw with state := .active, cfg := { (chanAB .raw).cfg with consumer := .yarrow }, wp := { off := 1 }, cp := { off := 1 } }) : State) with yar := { base.yar with sram := storeBytes (storeBytes [] 0 (leBytes 0x0102030405060708 8)) 196608 (leBytes 4835841629043639365664768 32) } },
    0, by decide +kernel⟩,
   ⟨0, 0, 81129638414894912072078155841536, 0,
    { ((ch0 base { chanAB .packet with state := .active, cfg := { (chanAB .packet).cfg with producer := .yarrow } }) : State) with yar := { base.yar with sram := storeBytes (storeBytes [] 0 (leBytes 0x0102030405060708 8)) 196608 (leBytes 81129638414894912072078155841536 32) } },
    0, by decide +kernel⟩,
   ⟨0, 0, 11529215183507423232, 0,
    { ((ch0 base { chanAB .raw with state := .active, cfg := { (chanAB .raw).cfg with producer := .yarrow } }) : State) with yar := { base.yar with sram := storeBytes (storeBytes [] 0 (leBytes 0x0102030405060708 8)) 196608 (leBytes 11529215183507423232 32) } },
    0, by decide +kernel⟩,
   ⟨0, 0, 4835841629043639365664768, 0, 0x40,
    { ((ch0 base { chanAB .raw with state := .draining, cfg := { (chanAB .raw).cfg with consumer := .yarrow } }) : State) with yar := { base.yar with sram := storeBytes (storeBytes [] 0 (leBytes 0x0102030405060708 8)) 196608 (leBytes 4835841629043639365664768 32) } },
    0, by decide +kernel⟩,
   ⟨0, 0, 11529215183507423232, 0,
    { ((ch0 base { chanAB .packet with state := .held, cfg := { (chanAB .packet).cfg with producer := .yarrow } }) : State) with yar := { base.yar with sram := storeBytes (storeBytes [] 0 (leBytes 0x0102030405060708 8)) 196608 (leBytes 11529215183507423232 32) } },
    0, by decide +kernel⟩,
   ⟨0, 0, 9223372036854808576, 0x20,
    { ({ base with mem := { base.mem with desc := base.mem.desc.set 4 (Vector.replicate 8 0) } } : State) with yar := { base.yar with sram := storeBytes (storeBytes [] 0 (leBytes 0x0102030405060708 8)) 196608 (leBytes 9223372036854808576 32) } },
    by decide +kernel⟩,
   ⟨0, 0, 2336462209024, 0, 0x20,
    { ({ base with mem := { base.mem with desc := base.mem.desc.set 4 (Vector.replicate 8 0) } } : State) with yar := { base.yar with sram := storeBytes (storeBytes [] 0 (leBytes 0x0102030405060708 8)) 196608 (leBytes 2336462209024 32) } },
    by decide +kernel⟩,
   ⟨0, 0, 9223372036854775808, 0,
    { ({ base with mem := { base.mem with errs := [(0, 3)] } } : State) with yar := { base.yar with sram := storeBytes (storeBytes [] 0 (leBytes 0x0102030405060708 8)) 196608 (leBytes 9223372036854775808 32) } },
    by decide +kernel⟩,
   ⟨0, 0, 138350580725895397376, 19,
    { (base : State) with yar := { base.yar with sram := storeBytes (storeBytes [] 0 (leBytes 0x0102030405060708 8)) 196608 (leBytes 138350580725895397376 32) } },
    19, by decide +kernel⟩,
   ⟨0, 0, 11529215183507423232, 0, 0,
    { (ch0 base (chanAB .raw) : State) with yar := { base.yar with sram := storeBytes (storeBytes [] 0 (leBytes 0x0102030405060708 8)) 196608 (leBytes 11529215183507423232 32) } },
    0, by decide +kernel⟩,
   ⟨0, 0, 9223372225833336832,
    { (base : State) with yar := { base.yar with sram := storeBytes (storeBytes [] 0 (leBytes 0x0102030405060708 8)) 196608 (leBytes 9223372225833336832 32) } },
    by decide +kernel⟩,
   ⟨0, 0, 18446743936270598144, 0, 0x3FFFFFC,
    { (base : State) with yar := { base.yar with sram := storeBytes (storeBytes [] 0 (leBytes 0x0102030405060708 8)) 196608 (leBytes 18446743936270598144 32) } },
    by decide +kernel⟩,
   ⟨3, { base with mem := { base.mem with clearState := 1 } }, by decide +kernel⟩,
   ⟨3, 0,
    { base with yar := { base.yar with sram := storeBytes [] 0x30000 (leBytes 20282409603660893813713731059713 32) } },
    by decide +kernel⟩,
   ⟨0,
    { (({ base with yar := { base.yar with sram := storeBytes [] 0x30000 (leBytes 9223389766479773697 32) } }).modYdma 0 fun y => { y with haltCause := 2, started := true, s := 0x8000000, d := 0x8000100 }) with mem := { base.mem with clearState := 1, cleared := false } },
    by decide +kernel⟩,
   ⟨0, 0, 0x100,
    ({ base with yar := { base.yar with sram := storeBytes [] 0x30000 (leBytes 9223389766479773697 32) } }).modYdma 0 fun y => { y with haltCause := 2, started := true, s := 0x8000000, d := 0x8000100 },
    by decide +kernel⟩,
   ⟨0,
    ({ base with yar := { base.yar with sram := storeBytes [] 0x30000 (leBytes 9223389766479773697 32) } }).modYdma 0 fun y => { y with haltCause := 2, started := true, s := 0x8000000, d := 0x8000100 },
    by decide +kernel⟩,
   ⟨0,
    ({ base with yar := { base.yar with sram := storeBytes [] 0x30000 (leBytes 9223389766479773697 32) } }).modYdma 0 fun y => { y with haltCause := 2, s := 0x8000000, d := 0x8000100 },
    by decide +kernel⟩⟩

theorem witness_TansyRepairs :
    (∃ (s : State), s.mem.clearState = 0 ∧ s.mem.cleared = false ∧ s.rst.phase ≠ .held ∧ s.rst.phase ≠ .optionLoad) ∧
    (∃ (s : State), s.mem.clearState = 1 ∧ s.tansyUp = true) ∧
    (∃ (reached : Nat) (s : State), s.tansy.preserving = true ∧ s.tansyUp = true ∧ s.memOpen = true ∧
      s.tansy.stopRequested = true ∧ ((reached = 0 ∨ s.mem.errs = []))) ∧
    (∃ (s : State), s.tansy.preserving = true ∧ s.tansyUp = true ∧ s.memOpen = true ∧ s.tansy.stopRequested = false ∧
      s.mem.errs = []) ∧
    (∃ (dt : Nat) (a : Nat) (s : State), s.tansy.scrubPeriod ≠ 0 ∧ s.tansy.scrubStart = some a ∧ a + ms
      (s.tansy.scrubPeriod * 1000) ≤ s.now + 1250 * dt ∧ s.tansyUp = true ∧ s.memOpen = true ∧ s.tansy.scrubbing =
      true) ∧
    (∃ (dt : Nat) (a : Nat) (s : State), s.tansy.scrubPeriod ≠ 0 ∧ s.tansy.scrubStart = some a ∧ a + ms
      (s.tansy.scrubPeriod * 1000) ≤ s.now + 1250 * dt ∧ s.tansyUp = true ∧ s.memOpen = true ∧ s.tansy.scrubbing =
      false) ∧
    (∃ (s : State), s.tansy.scrubbing = true ∧ s.tansyUp = true ∧ s.memOpen = true) ∧
    (∃ (f : RowLoc) (s : State), s.tansy.scrubbing = true ∧ s.tansyUp = true ∧ s.memOpen = true ∧ s.tansy.scrubDue =
      false ∧ 512 ≤ f.row ∧ s.logicalRow f.bank f.row f.col = none ∧ s.tansy.spareUsed.contains (f.bank, f.row - 512)
      = false) ∧
    (∃ (s : State) (q : RepairItem) (rest : List RepairItem) (k : Nat), s.tansyUp = true ∧ s.memOpen = true ∧
      s.tansy.queue = q :: rest ∧ s.canStart q = true ∧ s.tansy.freeRow q.bank = some k) ∧
    (∃ (bank : Fin 130) (r : RowMap) (rest : List RowMap) (s : State), s.tansyUp = true ∧ s.tansy.rowMaps = r :: rest
      ∧ r.bank = bank.val ∧ r.row < 512 ∧ r.spare < 16 ∧ r.progress < 64 ∧ rest.all (fun m => !(m.bank == bank.val &&
      m.row == r.row)) = true ∧ MemoriesCanonical s) ∧
    (∃ (b : Nat) (spare : Nat) (s : State), s.tansy.copy = some (b, spare) ∧ s.blockUp 0 = true ∧ s.tansy.copied =
      allCopied) :=
  ⟨⟨{ base with mem := { base.mem with clearState := 0, cleared := false, cells := [(3, 4)] }, rst := { base.rst with phase := .starting } },
    by decide +kernel⟩,
   ⟨{ base with mem := { base.mem with clearState := 1, cells := [(3, 4)] } }, by decide +kernel⟩,
   ⟨0, { base with tansy := { base.tansy with preserving := true, stopRequested := true } }, by decide +kernel⟩,
   ⟨{ base with tansy := { base.tansy with preserving := true } }, by decide +kernel⟩,
   ⟨480000000000, 0, { base with tansy := { base.tansy with scrubStart := some 0, scrubbing := true } },
    by decide +kernel⟩,
   ⟨480000000000, 0, { base with tansy := { base.tansy with scrubStart := some 0 } }, by decide +kernel⟩,
   ⟨{ base with tansy := { base.tansy with scrubbing := true, scrubDue := true } }, by decide +kernel⟩,
   ⟨⟨3, 513, 0⟩, { base with tansy := { base.tansy with scrubbing := true } }, by decide +kernel⟩,
   ⟨{ base with tansy := { base.tansy with queue := [⟨3, 4, 5⟩] } }, ⟨3, 4, 5⟩, [], 0, by decide +kernel⟩,
   ⟨3, ⟨3, 511, 15, 0⟩, [], { base with tansy := { base.tansy with rowMaps := [⟨3, 511, 15, 0⟩] } },
    by decide +kernel⟩,
   ⟨3, 129, { base with tansy := { base.tansy with copy := some (3, 129), copied := allCopied } }, by decide +kernel⟩⟩

theorem witness_CloverMessages :
    (∃ (m : CMeta) (id : Bool) (s : State), MsgTaken m s ∧ s.twin.pairInUse = 1 ∧ id = s.twin.twinId) ∧
    (∃ (m : CMeta) (role : Nat) (id : Bool) (s : State), MsgTaken m s ∧ id ≠ s.twin.twinId ∧ s.twin.pairInUse = 1 ∧
      s.twin.role = .solo ∧ s.twin.own = true ∧ ((role = 2 ∨ role = 3))) ∧
    (∃ (m : CMeta) (s : State), MsgTaken m s ∧ s.announces = true) ∧
    (∃ (m : CMeta) (ch : Nat) (n : Fin 20) (s : State), MsgTaken m s ∧ s.applies = true ∧ chanOf ch = some n) ∧
    (∃ (m : CMeta) (opc : Nat) (slot : Nat) (s : State), MsgTaken m s ∧ s.applies = true ∧ ((opc = 12 ∨ opc = 13)) ∧
      slot < 64) ∧
    (∃ (m : CMeta) (opc : Nat) (area : Nat) (unit : Nat) (s : State), MsgTaken m s ∧ s.applies = true ∧ opc ≠ 12 ∧
      opc ≠ 13 ∧ s.fencedAt (s.placeOf (s.scratchWord area unit)) = false ∧ (readWordAt s.mem (s.phys (s.placeOf
      (s.scratchWord area unit)))).lane (unit % 8 / 2) ≠ .uncorr ∧ s.tansy.copy = none ∧ MemoriesCanonical s) ∧
    (∃ (m : CMeta) (ch : Nat) (n : Fin 20) (p : OpenPkt) (s : State), MsgTaken m s ∧ s.applies = true ∧ chanOf ch =
      some n ∧ (s.chan n).pkt = some p ∧ s.twin.ownRefusals.any (fun r => r.1 == n.val && r.2.1 == p.wseq) = false) ∧
    (∃ (m : CMeta) (ch : Nat) (wseq : Nat) (n : Fin 20) (s : State), MsgTaken m s ∧ s.applies = true ∧ chanOf ch =
      some n ∧ (s.chan n).cuts = [] ∧ s.twin.ownRefusals.any (fun r => r.1 == n.val && r.2.1 == wseq) = true) ∧
    (∃ (m : CMeta) (x : Port) (event : Nat) (seq : Nat) (s : State), MsgTaken m s ∧ s.twin.role = .standby ∧
      s.twin.ownEvents.find? (fun e => e.x == x && e.event == event && e.seq == seq) = none) ∧
    (∃ (m : CMeta) (x : Port) (event : Nat) (seq : Nat) (e : OwnEvent) (s : State), MsgTaken m s ∧ s.twin.role =
      .standby ∧ s.twin.ownEvents.find? (fun e => e.x == x && e.event == event && e.seq == seq) = some e) ∧
    (∃ (m : CMeta) (ch : Nat) (data : List Byte) (n : Fin 20) (s : State), MsgTaken m s ∧ s.applies = true ∧ chanOf
      ch = some n ∧ (s.chan n).copied = true ∧ (s.chan n).cfg.cls = .raw ∧ (s.chan n).rawBuf.length + data.length <
      32) ∧
    (∃ (m : CMeta) (s : State), MsgTaken m s ∧ s.sender = true ∧ s.shadows = true ∧ s.blockUp 2 = true ∧ s.time.valid
      = false) ∧
    (∃ (m : CMeta) (part : Nat) (s : State), MsgTaken m s ∧ s.twin.role = .joining ∧ s.twin.snapDone = false ∧ part =
      s.twin.snapParts) ∧
    (∃ (m : CMeta) (counts : List Nat) (s : State), MsgTaken m s ∧ s.twin.role = .standby ∧ s.twin.busLow = true ∧
      counts = s.launchedCounts .A ++ s.launchedCounts .B) ∧
    (∃ (m : CMeta) (counts : List Nat) (s : State), MsgTaken m s ∧ s.twin.role = .standby ∧ s.twin.pairInUse = 1 ∧
      counts ≠ s.launchedCounts .A ++ s.launchedCounts .B) ∧
    (∃ (m : CMeta) (s : State), MsgTaken m s ∧ s.twin.pairInUse = 1 ∧ s.twin.own = true ∧ ((s.twin.role = .active ∨
      s.twin.role = .solo))) ∧
    (∃ (b : List Byte) (rest : List (List Byte)) (s : State), s.pending = [] ∧ s.yar.serving = false ∧
      s.twin.cloverState = 2 ∧ s.blockUp 6 = true ∧ s.twin.snapOut = b :: rest) ∧
    (∃ (m : CMeta) (ch : Nat) (data : List Byte) (n : Fin 20) (s : State), MsgTaken m s ∧ s.chainHalf true = true ∧
      s.twin.chainKnown < 256 ∧ m.mseq = (s.twin.chainKnown + 1) % 256 ∧ s.twin.chainSkipped = [] ∧ chanOf ch = some
      n ∧ (s.chan n).cfg.cls = .raw ∧ (s.chan n).rawBuf.length + data.length < 32) ∧
    (∃ (m : CMeta) (s : State), MsgTaken m s ∧ s.chainHalf true = true ∧ s.chainNext m.mseq false = false ∧
      serialAfter 8 m.mseq s.twin.chainKnown = true ∧ s.twin.rxMseq ≠ none ∧ s.twin.chainSkipped.contains m.mseq =
      false) ∧
    (∃ (m : CMeta) (r : Nat) (s : State), s.twin.cloverState = 2 ∧ s.blockUp 6 = true ∧ ((m.crcOk = false ∨ m.mseq ≠
      (r + 1) % 256)) ∧ s.twin.rxMseq = some r ∧ s.twin.pairInUse = 1 ∧ s.twin.role = .standby) ∧
    (∃ (m : CMeta) (s : State), MsgTaken m s ∧ s.joinHolds = true ∧ 0 < s.twin.snapParts) ∧
    (∃ (m : CMeta) (s : State), MsgTaken m s ∧ s.chainHalf false = true ∧ s.twin.retained = [] ∧ s.twin.chainWait =
      [] ∧ (∀ n : Fin 20, s.ringReadable n = 0 ∧ (s.chan n).fstarts = [])) ∧
    (∃ (m : CMeta) (s : State), MsgTaken m s ∧ s.chainHalf true = true) :=
  ⟨⟨⟨0, true⟩, true, mirror base .solo, by decide +kernel⟩,
   ⟨⟨0, true⟩, 3, false, mirror base .solo, by decide +kernel⟩,
   ⟨⟨0, true⟩, mirror base .active, by decide +kernel⟩,
   ⟨⟨0, true⟩, 0, 0, mirror (ch0 base (chanAB .slice)) .standby, by decide +kernel⟩,
   ⟨⟨0, true⟩, 12, 63, mirror base .standby, by decide +kernel⟩,
   ⟨⟨0, true⟩, 9, 0, 3, mirror base .standby, by decide +kernel⟩,
   ⟨⟨0, true⟩, 0, 0, pkt0, mirror (ch0 base { chanAB .packet with pkt := some pkt0, wp := { off := 1 } }) .standby,
    by decide +kernel⟩,
   ⟨⟨0, true⟩, 0, 3, 0,
    { mirror (ch0 base (chanAB .packet)) .standby with twin := { (mirror (ch0 base (chanAB .packet)) .standby).twin with ownRefusals := [(0, 3, 0)] } },
    by decide +kernel⟩,
   ⟨⟨0, true⟩, .B, 6, 0, mirror base .standby, by decide +kernel⟩,
   ⟨⟨0, true⟩, .B, 6, 0, ⟨.B, 6, 0, 0⟩,
    { mirror (base) .standby with twin := { (mirror (base) .standby).twin with ownEvents := [⟨.B, 6, 0, 0⟩] } },
    by decide +kernel⟩,
   ⟨⟨0, true⟩, 0, [1, 2], 0,
    mirror (ch0 base { chanAB .raw with cfg := { (chanAB .raw).cfg with producer := .link } }) .standby,
    by decide +kernel⟩,
   ⟨⟨0, true⟩, mirror sendBase .standby, by decide +kernel⟩,
   ⟨⟨0, true⟩, 0, mirror base .joining, by decide +kernel⟩,
   ⟨⟨0, true⟩, List.replicate 256 0,
    { mirror base .standby with twin := { (mirror base .standby).twin with busLow := true } }, by decide +kernel⟩,
   ⟨⟨0, true⟩, [], mirror base .standby, by decide +kernel⟩,
   ⟨⟨0, true⟩, mirror base .active, by decide +kernel⟩,
   ⟨[1], [[2]],
    { mirror base .active with twin := { (mirror base .active).twin with snapOut := [[1], [2]] }, yar := { base.yar with serving := false } },
    by decide +kernel⟩,
   ⟨⟨5, true⟩, 0, [1, 2], 0,
    { chain (ch0 base (chanAB .raw)) true with twin := { (chain (ch0 base (chanAB .raw)) true).twin with rxMseq := some 4, chainKnown := 4 } },
    by decide +kernel⟩,
   ⟨⟨6, true⟩,
    { chain (ch0 base (chanAB .raw)) true with twin := { (chain (ch0 base (chanAB .raw)) true).twin with rxMseq := some 5, chainKnown := 4, chainLost := true } },
    by decide +kernel⟩,
   ⟨⟨200, true⟩, 4, { mirror base .standby with twin := { (mirror base .standby).twin with rxMseq := some 4 } },
    by decide +kernel⟩,
   ⟨⟨0, true⟩, { mirror base .joining with twin := { (mirror base .joining).twin with snapParts := 1 } },
    by decide +kernel⟩,
   ⟨⟨0, true⟩, chain base false, by decide +kernel⟩,
   ⟨⟨0, true⟩, chain base true, by decide +kernel⟩⟩

theorem witness_TwinEvents :
    (∃ (s : State), s.twin.cloverState = 1 ∧ s.blockUp 6 = true ∧ s.pwr.clkSource = 1 ∧ s.twin.pairInUse = 1 ∧
      s.twin.role ≠ .joining) ∧
    (∃ (s : State), s.twin.pairInUse = 1 ∧ s.twin.role = .active) ∧
    (∃ (s : State), s.twin.pairInUse = 1 ∧ s.twin.role = .standby ∧ ((s.twin.releasing = false ∨ s.twin.busLow =
      true))) ∧
    (∃ (s : State), s.twin.pairInUse = 1 ∧ s.twin.role = .standby ∧ s.twin.releasing = true ∧ s.twin.busLow = false ∧
      s.pA.q = [] ∧ s.pB.q = []) ∧
    (∃ (s : State), s.twin.pairInUse = 1 ∧ s.twin.role = .active) ∧
    (∃ (s : State), s.twin.pairInUse = 1 ∧ s.twin.role = .standby ∧ s.twin.busLow = true) ∧
    (∃ (s : State), s.twin.pairInUse = 1 ∧ s.twin.role = .standby ∧ s.twin.busLow = false ∧ s.pA.q = [] ∧ s.pB.q =
      []) ∧
    (∃ (s : State), s.twin.pairInUse = 1 ∧ s.twin.role = .active) ∧
    (∃ (s : State), s.twin.pairInUse = 2 ∧ s.twin.role = .active) ∧
    (∃ (s : State), s.twin.cloverState = 0 ∧ s.blockUp 6 = true ∧ s.pwr.clkSource = 1 ∧ s.twin.rail = true ∧
      s.twin.pairInUse ≠ 0 ∧ s.twin.started = true) ∧
    (∃ (s : State), s.twin.waiting = true ∧ s.twin.role = .solo) ∧
    (∃ (s : State), s.twin.waiting = true ∧ s.twin.role = .solo ∧ s.twin.own = false ∧ s.twin.pairInUse = 0) ∧
    (∃ (s : State), s.twin.waiting = true ∧ s.twin.role = .solo ∧ s.twin.own = false ∧ s.twin.pairInUse = 1) ∧
    (∃ (s : State), s.twin.pairInUse = 1 ∧ s.twin.hbInLost = true ∧ ((s.twin.role = .standby ∨ s.twin.role =
      .joining))) ∧
    (∃ (s : State), s.twin.role = .joining ∧ s.twin.pairInUse = 1 ∧ s.joinBlock = 0) ∧
    (∃ (dt : Nat) (e : OwnEvent) (rest : List OwnEvent) (s : State), s.twin.pairInUse = 1 ∧ s.twin.role = .standby ∧
      s.twin.ownEvents = e :: rest ∧ e.at_ + us 2 ≤ s.now + 1250 * dt) ∧
    (∃ (dt : Nat) (r : Nat × Nat × Nat) (rest : List (Nat × Nat × Nat)) (s : State), s.twin.pairInUse = 1 ∧
      s.twin.role = .standby ∧ s.twin.ownEvents = [] ∧ s.twin.partnerEvents = [] ∧ s.twin.ownRefusals = r :: rest ∧
      r.2.2 + us 2 ≤ s.now + 1250 * dt) ∧
    (∃ (s : State), s.twin.pairInUse = 2) ∧
    (∃ (dt : Nat) (s : State), s.twin.cloverState = 2 ∧ s.blockUp 6 = true ∧ s.twin.statusAt + us 100 ≤ s.now + 1250
      * dt) ∧
    (∃ (dt : Nat) (s : State), s.now + 1250 * dt < s.twin.statusAt + us 100) ∧
    (∃ (dt : Nat) (s : State), s.twin.cloverState = 2 ∧ s.blockUp 6 = true ∧ s.twin.pairInUse = 1 ∧ s.twin.role =
      .standby ∧ s.twin.holdAt + us 10 ≤ s.now + 1250 * dt) ∧
    (∃ (dt : Nat) (s : State), s.twin.cloverState = 2 ∧ s.blockUp 6 = true ∧ s.announces = true ∧ s.twin.timeAt + us
      125 ≤ s.now + 1250 * dt) ∧
    (∃ (dt : Nat) (s : State), s.twin.cloverState = 2 ∧ s.blockUp 6 = true ∧ s.twin.pairInUse = 1 ∧ s.twin.role =
      .joining ∧ s.twin.snapDone = false ∧ s.twin.snapParts = 0 ∧ s.twin.joinAt + ms 1 ≤ s.now + 1250 * dt) ∧
    (∃ (dt : Nat) (s : State), s.twin.cloverState = 2 ∧ s.blockUp 6 = true ∧ s.chainHalf true = true ∧
      s.twin.creditAt + us 10 ≤ s.now + 1250 * dt) ∧
    (∃ (x : Port) (b : Beat) (rpar : BitVec 8) (k : PCmd) (s : State), s.applies = true ∧ s.twin.own = false ∧
      rpar.toNat = beatParity b.data ∧ (s.port x).q = [k] ∧ k.tag = b.tag ∧ k.opc = 0#5 ∧ b.last = true) ∧
    (∃ (b : Beat) (rpar : BitVec 8) (rqs : Bool) (s : State), s.twin.pairInUse = 1 ∧ s.twin.role = .standby ∧
      s.twin.own = false ∧ ((rpar.toNat ≠ beatParity b.data ∨ rqs = false))) :=
  ⟨⟨{ base with twin := { (base).twin with cloverState := 1 } }, by decide +kernel⟩,
   ⟨mirror base .active, by decide +kernel⟩,
   ⟨mirror base .standby, by decide +kernel⟩,
   ⟨{ mirror base .standby with twin := { (mirror base .standby).twin with releasing := true } }, by decide +kernel⟩,
   ⟨mirror base .active, by decide +kernel⟩,
   ⟨{ mirror base .standby with twin := { (mirror base .standby).twin with busLow := true } }, by decide +kernel⟩,
   ⟨mirror base .standby, by decide +kernel⟩,
   ⟨mirror base .active, by decide +kernel⟩,
   ⟨chain base true, by decide +kernel⟩,
   ⟨base, by decide +kernel⟩,
   ⟨{ base with twin := { (base).twin with waiting := true, own := false } }, by decide +kernel⟩,
   ⟨{ base with twin := { (base).twin with waiting := true, own := false, pairInUse := 0 } }, by decide +kernel⟩,
   ⟨{ base with twin := { (base).twin with waiting := true, own := false } }, by decide +kernel⟩,
   ⟨{ mirror base .standby with twin := { (mirror base .standby).twin with hbInLost := true } }, by decide +kernel⟩,
   ⟨joinReady, ⟨by decide +kernel, by decide +kernel, joinReady_joins⟩⟩,
   ⟨1600, ⟨.A, 6, 0, 0⟩, [],
    { mirror (base) .standby with twin := { (mirror (base) .standby).twin with ownEvents := [⟨.A, 6, 0, 0⟩] } },
    by decide +kernel⟩,
   ⟨1600, (0, 3, 0), [],
    { mirror (base) .standby with twin := { (mirror (base) .standby).twin with ownRefusals := [(0, 3, 0)] } },
    by decide +kernel⟩,
   ⟨chain (ch0 base (chanAB .packet)) false, by decide +kernel⟩,
   ⟨80000, mirror base .active, by decide +kernel⟩,
   ⟨79999, mirror base .active, by decide +kernel⟩,
   ⟨8000, mirror base .standby, by decide +kernel⟩,
   ⟨100000, mirror base .active, by decide +kernel⟩,
   ⟨800000, mirror base .joining, by decide +kernel⟩,
   ⟨8000, chain base true, by decide +kernel⟩,
   ⟨.B, ⟨5, true, 0, 0, zeros 32⟩, BitVec.ofNat 8 (beatParity (zeros 32)), cmd 0 0 false,
    (mirror base .standby).modPort .B fun p => { p with q := [(cmd 0 0 false)] }, by decide +kernel⟩,
   ⟨⟨5, true, 0, 0, zeros 32⟩, 0, false, mirror base .standby, by decide +kernel⟩⟩

theorem witness_LoopsAndLevels :
    (∃ (dt : Nat) (s : State), s.loopsRun = true ∧ s.pwr.clkSource = 1 ∧ s.pwr.target = none ∧ ((s.yar.governAt + ms
      10 ≤ s.now + 1250 * dt ∨ s.portStates ≠ s.yar.governPorts))) ∧
    (∃ (dt : Nat) (s : State), s.now + 1250 * dt < s.yar.governAt + ms 10 ∧ s.portStates = s.yar.governPorts) ∧
    (∃ (dt : Nat) (s : State), ((s.now + 1250 * dt < s.yar.capAt + ms 1000 ∨ s.yar.sensed = false))) ∧
    (∃ (dt : Nat) (s : State), s.loopsRun = true ∧ s.yar.capAt + ms 1000 ≤ s.now + 1250 * dt ∧ (4 * s.yar.tjThrottle
      : Int) ≤ s.tj) ∧
    (∃ (dt : Nat) (s : State), s.loopsRun = true ∧ s.yar.capAt + ms 1000 ≤ s.now + 1250 * dt ∧ s.tj ≤ (4 *
      s.yar.tjThrottle : Int) - 20 ∧ 9 ≤ s.pwr.capRise) ∧
    (∃ (l : Nat) (s : State), s.pwr.target = some l ∧ s.pwr.nextLevel = none) ∧
    (∃ (s : State), s.pwr.limitNow = true) ∧
    (∃ (dt : Nat) (a : Nat) (s : State), s.pwr.limitAt = some a ∧ a + ms 1000 ≤ s.now + 1250 * dt) ∧
    (∃ (vin : Nat) (s : State), s.yar.vinMargin ≤ vin) ∧
    (∃ (vin : Nat) (s : State), vin < s.yar.vinMargin) ∧
    (∃ (dt : Nat) (a : Nat) (s : State), s.pwr.marginAt = some a ∧ a + ms 100 ≤ s.now + 1250 * dt) ∧
    (∃ (dt : Nat) (s : State), s.loopsRun = true ∧ s.linkUp = true ∧ s.link.eqAdapt = true ∧ s.link.adaptAt + ms 100
      ≤ s.now + 1250 * dt ∧ s.link.ctleMin ≤ s.link.ctle + 1 ∧ s.link.ctle + 1 ≤ s.link.ctleMax) ∧
    (∃ (dt : Nat) (s : State), s.now + 1250 * dt < s.link.adaptAt + ms 100) ∧
    (∃ (dt : Nat) (s : State), s.yarUp = true ∧ s.yarrowHeld = false ∧ s.blockUp 20 = true ∧ s.pwr.state = .run ∧
      s.yar.sampleAt + ms 1 ≤ s.now + 1250 * dt) ∧
    (∃ (dt : Nat) (s : State), ((s.yarrowHeld = true ∨ s.clocked = false ∨ s.now + 1250 * dt < s.yar.sampleAt + ms
      1))) ∧
    (∃ (dt : Nat) (s : State), s.yar.serving = true ∧ s.yar.railAt + ms 1000 ≤ s.now + 1250 * dt ∧ s.pwr.clkSource =
      1 ∧ s.link.rail = false ∧ s.link.state = .off ∧ s.link.enable = true ∧ s.blockUp 3 = true ∧ s.pwr.state = .run) :=
  ⟨⟨8000000, { base with pwr := { (base).pwr with level := 3 } }, by decide +kernel⟩,
   ⟨7999999, base, by decide +kernel⟩,
   ⟨799999999, { base with yar := { base.yar with temp := [480], tjThrottle := 100 } }, by decide +kernel⟩,
   ⟨800000000, { base with yar := { base.yar with temp := [480], tjThrottle := 100 } }, by decide +kernel⟩,
   ⟨800000000,
    { base with yar := { base.yar with temp := [80], tjThrottle := 100 }, pwr := { base.pwr with capRise := 9, thermalCap := 1 } },
    by decide +kernel⟩,
   ⟨2, { base with pwr := { (base).pwr with target := some 2 } }, by decide +kernel⟩,
   ⟨{ base with pwr := { (base).pwr with limitNow := true } }, by decide +kernel⟩,
   ⟨800000000, 0, { base with pwr := { (base).pwr with limitAt := some 0, limitCap := 1 } }, by decide +kernel⟩,
   ⟨800, base, by decide +kernel⟩,
   ⟨799, { base with pwr := { (base).pwr with level := 3 } }, by decide +kernel⟩,
   ⟨80000000, 0, { base with pwr := { (base).pwr with marginAt := some 0, marginLow := true } }, by decide +kernel⟩,
   ⟨80000000, up base, by decide +kernel⟩,
   ⟨79999999, { base with link := { base.link with state := .up } }, by decide +kernel⟩,
   ⟨800000, ports base, by decide +kernel⟩,
   ⟨800000, { base with pwr := { (base).pwr with state := .doze } }, by decide +kernel⟩,
   ⟨800000000, { base with link := { base.link with rail := false } }, by decide +kernel⟩⟩

theorem witness_SleepStates :
    (∃ (dt : Nat) (s : State), s.pwr.state = .run ∧ s.rst.phase = .running ∧ (s.advance dt).idleFor (us
      s.pwr.dozeIdle) = true) ∧
    (∃ (s : State), s.pwr.state = .doze) ∧
    (∃ (s : State), s.pwr.state = .entering) ∧
    (∃ (dt : Nat) (s : State), s.pwr.state = .run ∧ s.rst.phase = .running ∧ (s.advance dt).idleFor (ms
      s.pwr.offIdle) = true ∧ s.now + 1250 * dt < s.pwr.idleSince + ms s.pwr.offIdle + us 5 ∧ ((s.pwr.retIdle = 0 ∨
      s.pwr.offIdle ≤ s.pwr.retIdle)) ∧ s.quiesced = true) ∧
    (∃ (dt : Nat) (s : State), s.pwr.state = .run ∧ s.rst.phase = .running ∧ (s.advance dt).idleFor (ms
      s.pwr.retIdle) = true ∧ s.coolEnough = true ∧ s.now + 1250 * dt < max (s.pwr.idleSince + ms s.pwr.retIdle)
      s.pwr.coolAt + us 5 ∧ ((s.pwr.offIdle = 0 ∨ max (s.pwr.idleSince + ms s.pwr.retIdle) s.pwr.coolAt <
      s.pwr.idleSince + ms s.pwr.offIdle)) ∧ s.quiesced = true) ∧
    (∃ (dt : Nat) (s : State), s.pwr.state = .entering ∧ s.pwr.step = 1 ∧ s.quiesced = true ∧ s.pwr.entryAt + us 5 ≤
      s.now + 1250 * dt ∧ s.now + 1250 * dt < s.pwr.entryAt + us 55) ∧
    (∃ (dt : Nat) (s : State), s.pwr.state = .entering ∧ s.pwr.entry = 1 ∧ s.quiesced = true ∧ s.pwr.entryAt + us 75
      ≤ s.now + 1250 * dt ∧ s.twin.pairInUse ≠ 1) ∧
    (∃ (dt : Nat) (s : State), s.pwr.state = .entering ∧ s.pwr.entry = 2 ∧ s.quiesced = true ∧ s.pwr.entryAt + us 75
      ≤ s.now + 1250 * dt ∧ s.twin.pairInUse ≠ 1) ∧
    (∃ (dt : Nat) (s : State), s.pwr.state = .entering ∧ s.pwr.step = 1 ∧ s.quiesced = false ∧ s.pwr.entryAt + ms 10
      ≤ s.now + 1250 * dt) ∧
    (∃ (w : WakeSrc) (s : State), s.pwr.state = .retention ∧ s.wakes w = true ∧ w ≠ .rstN) ∧
    (∃ (s : State), s.ycoreRuns = true ∧ s.pwr.clkSource = 0 ∧ s.pwr.state = .run ∧ s.yar.refclk = true ∧
      s.pwr.waking = true ∧ s.yar.loader = false ∧ s.od.mbxReq = none) ∧
    (∃ (bluebell : Bool) (s : State), s.pwr.state = .retention ∧ ((s.pwr.wakeMask.testBit 0 = false ∨ (bluebell =
      false ∧ s.link.wakeAny = false)))) ∧
    (∃ (s : State), s.pwr.state = .retention) ∧
    (∃ (w : WakeSrc) (s : State), s.pwr.state = .off ∧ s.wakes w = true ∧ w ≠ .rstN) ∧
    (∃ (s : State), s.pwr.state = .run ∧ s.linkUp = true ∧ s.link.byeIdle = false) ∧
    (∃ (s : State), s.pwr.state = .retention) ∧
    (∃ (dt : Nat) (a : Nat) (s : State), s.pwr.pwrdn = some a ∧ a + ms 2 ≤ s.now + 1250 * dt ∧ s.pwr.state ≠ .off ∧
      s.heldByReset = false) ∧
    (∃ (dt : Nat) (a : Nat) (s : State), s.pwr.pwrdn = some a ∧ a + ms 2 ≤ s.now + 1250 * dt ∧ s.heldByReset = true) ∧
    (∃ (s : State) (a : Nat), s.pwr.pwrdn = some a ∧ s.heldByReset = false) :=
  ⟨⟨800, { base with pwr := { base.pwr with dozeIdle := 1 } }, by decide +kernel⟩,
   ⟨{ base with pwr := { (base).pwr with state := .doze } }, by decide +kernel⟩,
   ⟨{ base with pwr := { (base).pwr with state := .entering, entry := 1, step := 2 } }, by decide +kernel⟩,
   ⟨800000, { base with pwr := { base.pwr with offIdle := 1 } }, by decide +kernel⟩,
   ⟨800000,
    { { base with yar := { base.yar with temp := [80] } } with pwr := { ({ base with yar := { base.yar with temp := [80] } }).pwr with retIdle := 1 } },
    by decide +kernel⟩,
   ⟨8000, { base with pwr := { (base).pwr with state := .entering, entry := 2, step := 1 } }, by decide +kernel⟩,
   ⟨60000,
    { { (up base) with twin := { (up base).twin with pairInUse := 0 } } with pwr := { ({ (up base) with twin := { (up base).twin with pairInUse := 0 } }).pwr with state := .entering, entry := 1, step := 1 } },
    by decide +kernel⟩,
   ⟨60000,
    { { (up base) with twin := { (up base).twin with pairInUse := 0 } } with pwr := { ({ (up base) with twin := { (up base).twin with pairInUse := 0 } }).pwr with state := .entering, entry := 2, step := 1 } },
    by decide +kernel⟩,
   ⟨8000000,
    { (base.modCh 0 fun c => { c with pkt := some pkt0 }) with pwr := { ((base.modCh 0 fun c => { c with pkt := some pkt0 })).pwr with state := .entering, entry := 2, step := 1 } },
    by decide +kernel⟩,
   ⟨.spi,
    { base with pwr := { base.pwr with state := .retention, clkSource := 0 }, rst := { base.rst with blockReset := 0x3F03FF }, pA := { base.pA with probe := 1 } },
    by decide +kernel⟩,
   ⟨{ base with pwr := { (base).pwr with clkSource := 0, waking := true, savedBlocks := 0 }, yar := { base.yar with serving := false, refclk := true }, rst := { base.rst with blockReset := 0x3FF }, pA := { base.pA with mode := 1 } },
    by decide +kernel⟩,
   ⟨false, { base with pwr := { (base).pwr with state := .retention } }, by decide +kernel⟩,
   ⟨{ base with pwr := { (base).pwr with state := .retention } }, by decide +kernel⟩,
   ⟨.link true,
    { base with pwr := { base.pwr with state := .off, pwrdn := some 0 }, rst := { base.rst with phase := .held } },
    by decide +kernel⟩,
   ⟨up base, by decide +kernel⟩,
   ⟨{ base with pwr := { (base).pwr with state := .retention } }, by decide +kernel⟩,
   ⟨1600000, 0, { base with pwr := { (base).pwr with pwrdn := some 0 } }, by decide +kernel⟩,
   ⟨1600000, 0, { base with pwr := { (base).pwr with pwrdn := some 0 }, rst := { base.rst with phase := .held } },
    by decide +kernel⟩,
   ⟨{ base with pwr := { (base).pwr with pwrdn := some 0, state := .off } }, 0, by decide +kernel⟩⟩

theorem witness_ResetSources :
    (∃ (width : Nat), 1000 ≤ width) ∧
    (∃ (width : Nat), width < 100) ∧
    (∃ (s : State), s.clocked = false) ∧
    (∃ (dt : Nat) (a : Nat) (s : State), s.yar.wdtAt = some a ∧ s.clocked = true ∧ a + us s.yar.wdtPeriod +
      s.pwr.gated ≤ s.now + 1250 * dt ∧ s.yar.loader = false ∧ (s.advance dt).windowOpen = false ∧ s.yarUp = true) ∧
    (∃ (dt : Nat) (a : Nat) (b : Nat) (s : State), s.yar.wdtAt = some a ∧ s.clocked = true ∧ a + us s.yar.wdtPeriod +
      s.pwr.gated ≤ s.now + 1250 * dt ∧ s.yar.loader = false ∧ s.rst.window = some b ∧ s.now + 1250 * dt < b + ms
      60000) ∧
    (∃ (dt : Nat) (a : Nat) (s : State), s.rst.window = some a ∧ a + ms 60000 ≤ s.now + 1250 * dt) ∧
    (∃ (s : State), s.rst.dbgReach = 3 ∧ s.rst.debugHold = 0) ∧
    (∃ (s : State), s.rst.dbgReach = 1 ∧ s.rst.debugHold = 0 ∧ s.yarUp = true) ∧
    (∃ (s : State), s.rst.debugHold ≠ 0) ∧
    (∃ (s : State), ((s.rst.debugHold ≠ 0 ∨ s.now < s.rst.yarUntil))) ∧
    (∃ (s : State), s.rst.debugHold = 3) ∧
    (∃ (s : State), s.pwr.clkfailArmed = true ∧ s.pwr.clkSource = 1) ∧
    (∃ (s : State), s.ycoreRuns = true ∧ s.yarUp = true) :=
  ⟨⟨1000, by decide +kernel⟩,
   ⟨99, by decide +kernel⟩,
   ⟨{ base with pwr := { (base).pwr with state := .doze } }, by decide +kernel⟩,
   ⟨4000000000, 0, { base with yar := { base.yar with wdtAt := some 0 } }, by decide +kernel⟩,
   ⟨4000000000, 0, 0,
    { base with yar := { base.yar with wdtAt := some 0 }, rst := { base.rst with window := some 0 } },
    by decide +kernel⟩,
   ⟨48000000000, 0, { base with rst := { base.rst with window := some 0 } }, by decide +kernel⟩,
   ⟨{ base with rst := { base.rst with dbgReach := 3 } }, by decide +kernel⟩,
   ⟨base, by decide +kernel⟩,
   ⟨{ base with rst := { base.rst with debugHold := 1 } }, by decide +kernel⟩,
   ⟨{ base with rst := { base.rst with yarUntil := 1 } }, by decide +kernel⟩,
   ⟨{ base with rst := { base.rst with debugHold := 3 } }, by decide +kernel⟩,
   ⟨base, by decide +kernel⟩,
   ⟨base, by decide +kernel⟩⟩

theorem witness_StartUp :
    (∃ (s : State), s.rst.phase = .held ∧ s.pwr.state ≠ .off ∧ s.rst.debugHold ≠ 3) ∧
    (∃ (s : State), s.rst.phase = .optionLoad) ∧
    (∃ (u : UpdSt) (s : State), s.yarUp = true ∧ s.rst.yarBooted = false ∧ s.yarrowHeld = false ∧ s.pwr.state = .run
      ∧ ((s.rst.straps.boot = 0#2 ∨ s.rst.straps.boot = 3#2)) ∧ u = s.upd.loadCtl.findImages ∧ s.rst.phase =
      .starting ∧ u.state = .committed ∧ u.check 0 ≠ 0 ∧ u.check 1 ≠ 0) ∧
    (∃ (u : UpdSt) (s : State), s.yarUp = true ∧ s.rst.yarBooted = false ∧ s.yarrowHeld = false ∧ s.pwr.state = .run
      ∧ ((s.rst.straps.boot = 0#2 ∨ s.rst.straps.boot = 3#2)) ∧ u = s.upd.loadCtl.findImages ∧ u.state = .committed ∧
      u.committedSlot < 2 ∧ u.check u.committedSlot = 0) ∧
    (∃ (u : UpdSt) (s : State), s.yarUp = true ∧ s.rst.yarBooted = false ∧ s.yarrowHeld = false ∧ s.pwr.state = .run
      ∧ ((s.rst.straps.boot = 0#2 ∨ s.rst.straps.boot = 3#2)) ∧ u = s.upd.loadCtl.findImages ∧ u.state = .pending ∧
      u.trialSlot < 2 ∧ u.check u.trialSlot = 0) ∧
    (∃ (u : UpdSt) (s : State), s.yarUp = true ∧ s.rst.yarBooted = false ∧ s.yarrowHeld = false ∧ s.pwr.state = .run
      ∧ ((s.rst.straps.boot = 0#2 ∨ s.rst.straps.boot = 3#2)) ∧ u = s.upd.loadCtl.findImages ∧ ((u.state = .trial ∨
      u.state = .expired)) ∧ u.committedSlot < 2 ∧ u.check u.committedSlot = 0) ∧
    (∃ (u : UpdSt) (s : State), s.yarUp = true ∧ s.rst.yarBooted = false ∧ s.yarrowHeld = false ∧ s.pwr.state = .run
      ∧ ((s.rst.straps.boot = 1#2 ∨ s.rst.straps.boot = 2#2)) ∧ u = s.upd.loadCtl.findImages) ∧
    (∃ (s : State), s.ycoreRuns = true ∧ s.pwr.clkSource = 0 ∧ s.pwr.state = .run ∧ s.yar.refclk = true ∧
      s.pwr.waking = false) ∧
    (∃ (s : State), s.yar.refclk = false) ∧
    (∃ (s : State), s.rst.phase = .booted ∧ s.ycoreRuns = true ∧ s.yar.loader = false ∧ s.pwr.clkSource = 1 ∧
      s.sbSourced = false ∧ s.upd.settings s.upd.settingsSlot = {} ∧ s.rst.roleInUse = 2 ∧ s.twin.pairInUse = 1) ∧
    (∃ (s : State), s.ycoreRuns = true ∧ s.yar.serving = false ∧ s.yar.loader = false ∧ s.rst.phase = .running ∧
      s.pwr.state = .run ∧ s.pwr.waking = false ∧ s.sbSourced = false ∧ s.rst.blockReset &&& 0x3FF#32 = 0 ∧
      s.upd.settings s.upd.settingsSlot = {}) ∧
    (∃ (s : State), s.yar.serving = true ∧ s.rst.enableCopy ≠ [] ∧ s.sbSourced = false) ∧
    (∃ (dt : Nat) (s : State), s.upd.state = .trial ∧ s.ycoreRuns = true ∧ s.upd.trialAt + ms (1000 *
      s.upd.trialWindow) ≤ s.now + 1250 * dt) :=
  ⟨⟨State.reset, by decide +kernel⟩,
   ⟨{ State.reset with rst := { State.reset.rst with phase := .optionLoad } }, by decide +kernel⟩,
   ⟨{ State.reset with rst := { State.reset.rst with phase := .starting, straps := ⟨0, 0, true⟩ } }.upd.loadCtl.findImages,
    { State.reset with rst := { State.reset.rst with phase := .starting, straps := ⟨0, 0, true⟩ } },
    ⟨by decide +kernel, by decide +kernel, by decide +kernel, by decide +kernel, by decide +kernel, rfl, by decide +kernel, by decide +kernel, by decide +kernel, by decide +kernel⟩⟩,
   ⟨({ (bootable signedUpd) with rst := { (bootable signedUpd).rst with straps := ⟨3, 3, true⟩ } }).upd.loadCtl.findImages,
    { (bootable signedUpd) with rst := { (bootable signedUpd).rst with straps := ⟨3, 3, true⟩ } },
    ⟨by decide +kernel, by decide +kernel, by decide +kernel, by decide +kernel, by decide +kernel, rfl, by decide +kernel, by decide +kernel, check_of_testImage (by decide +kernel) (by decide +kernel) (by decide +kernel)⟩⟩,
   ⟨(bootable { signedUpd with state := .pending, trialSlot := 0, ctlA := none, ctlB := none }).upd.loadCtl.findImages,
    bootable { signedUpd with state := .pending, trialSlot := 0, ctlA := none, ctlB := none },
    ⟨by decide +kernel, by decide +kernel, by decide +kernel, by decide +kernel, by decide +kernel, rfl, by decide +kernel, by decide +kernel, check_of_testImage (by decide +kernel) (by decide +kernel) (by decide +kernel)⟩⟩,
   ⟨(bootable { signedUpd with state := .expired, ctlA := none, ctlB := none }).upd.loadCtl.findImages,
    bootable { signedUpd with state := .expired, ctlA := none, ctlB := none },
    ⟨by decide +kernel, by decide +kernel, by decide +kernel, by decide +kernel, by decide +kernel, rfl, by decide +kernel, by decide +kernel, check_of_testImage (by decide +kernel) (by decide +kernel) (by decide +kernel)⟩⟩,
   ⟨({ (bootable { signedUpd with state := .expired, ctlA := none, ctlB := none }) with rst := { (bootable { signedUpd with state := .expired, ctlA := none, ctlB := none }).rst with straps := ⟨2, 2, true⟩ } }).upd.loadCtl.findImages,
    { (bootable { signedUpd with state := .expired, ctlA := none, ctlB := none }) with rst := { (bootable { signedUpd with state := .expired, ctlA := none, ctlB := none }).rst with straps := ⟨2, 2, true⟩ } },
    ⟨by decide +kernel, by decide +kernel, by decide +kernel, by decide +kernel, by decide +kernel, rfl⟩⟩,
   ⟨{ base with pwr := State.reset.pwr, yar := { base.yar with refclk := true } }, by decide +kernel⟩,
   ⟨{ base with yar := { base.yar with refclk := false } }, by decide +kernel⟩,
   ⟨{ base with rst := { base.rst with phase := .booted, blockReset := 0x3FF }, yar := { base.yar with serving := false } },
    by decide +kernel⟩,
   ⟨{ base with yar := { base.yar with serving := false } }, by decide +kernel⟩,
   ⟨{ base with rst := { base.rst with blockReset := 0x3FF, enableCopy := List.replicate 20 0 }, pA := { base.pA with mode := 1 } },
    by decide +kernel⟩,
   ⟨1440000000000, { base with upd := { base.upd with state := .trial } }, by decide +kernel⟩⟩

theorem witness_PinStates :
    (∃ (x : Port) (g : PinGroup) (s : State), (s.port x).rail = false ∧ ((g = .portInputs x ∨ g = .portOutputs x ∨ g
      = .portHolds x ∨ g = .attn x))) ∧
    (∃ (g : PinGroup) (s : State), s.pwr.mgmtRail = false ∧ ((g = .busOwn ∨ g = .irq ∨ g = .moduleTwi ∨ g =
      .moduleTxdis ∨ g = .heartbeat ∨ g = .inputs ∨ g = .trst ∨ g = .flash ∨ g = .serialOut))) ∧
    (∃ (x : Port) (s : State), (s.port x).rail = true ∧ s.portPins x = false) ∧
    (∃ (x : Port) (s : State), (s.port x).rail = true ∧ (s.port x).state ≠ .off ∧ s.blockUp (7 + portIdx x) = true ∧
      s.pwr.clamp = false ∧ s.twin.pairInUse ≠ 2) ∧
    (∃ (x : Port) (s : State), (s.port x).rail = true ∧ (s.port x).state ≠ .off ∧ s.blockUp (7 + portIdx x) = true ∧
      s.pwr.clamp = false ∧ s.twin.pairInUse = 2 ∧ s.twin.own = false) ∧
    (∃ (s : State), s.pwr.clamp = true ∧ s.pwr.mgmtRail = true) ∧
    (∃ (x : Port) (s : State), s.portPins x = true ∧ s.pwr.clamp = false ∧ ((s.twin.own = true ∨ s.twin.pairInUse =
      2))) ∧
    (∃ (width : Nat), 1000 ≤ width) :=
  ⟨⟨.A, .attn .A, { base with pA := { base.pA with rail := false } }, by decide +kernel⟩,
   ⟨.inputs, { base with pwr := { (base).pwr with mgmtRail := false } }, by decide +kernel⟩,
   ⟨.B, base, by decide +kernel⟩,
   ⟨.B, ports base, by decide +kernel⟩,
   ⟨.B, { ports base with twin := { base.twin with pairInUse := 2, own := false } }, by decide +kernel⟩,
   ⟨{ base with pwr := { base.pwr with clamp := true } }, by decide +kernel⟩,
   ⟨.B, ports base, by decide +kernel⟩,
   ⟨1000, by decide +kernel⟩⟩

end Sys2Proof.Tests
end

section
/-! A write that a served request from the mailbox makes: what it does, and that nothing but its answer follows it; and the
clears of the counters, which are such writes. -/

namespace Sys2Proof.Machine

open Sys2Proof

/-! ### The objects of the dictionary (R265) -/

/-- A number below the bound names its own index. -/
theorem finOf_val {k : Nat} (i : Fin k) : finOf k i.val = some i := by
  simp [finOf]

/-- Each object is found at its own index (R265). -/
theorem objOf_index (o : Obj) : objOf o.index = some o := by
  have chCfg : ∀ n : Fin 20, objOf (0x2000 + n.val) = some (.chCfg n) := by decide
  have chStat : ∀ n : Fin 20, objOf (0x2100 + n.val) = some (.chStat n) := by decide
  have desc : ∀ m : Fin 6, objOf (0x2400 + m.val) = some (.desc m) := by decide
  have flow : ∀ i : Fin 21, objOf (0x4100 + i.val) = some (.flow i) := by decide
  have policer : ∀ n : Fin 20, objOf (0x4200 + n.val) = some (.policer n) := by decide
  cases o with
  | chCfg n => exact chCfg n
  | chStat n => exact chStat n
  | desc m => exact desc m
  | flow i => exact flow i
  | policer n => exact policer n
  | portCfg x => cases x <;> rfl
  | portStat x => cases x <;> rfl
  | _ => rfl

/-! ### A request from the mailbox that is executed (R247, R248, R253) -/

/-- The sessions and snapshots left idle for 10 s have ended (R260). -/
def State.expired (s : State) : State :=
  s.modOd fun d => { d with link := d.link.expire s.now, mailbox := d.mailbox.expire s.now }

/-- The state in which firmware executes a mailbox request: its arrival is activity (R297), and idle sessions have ended. -/
def State.atRequest (s : State) : State := s.active.expired

/-- The arrival of a request changes the power controller and the dictionary's service alone. -/
@[simp] theorem State.atRequest_frame (s : State) :
    s.atRequest.pending = s.pending ∧ s.atRequest.now = s.now ∧ s.atRequest.freeCtr = s.freeCtr ∧
    s.atRequest.ch = s.ch ∧ s.atRequest.pA = s.pA ∧ s.atRequest.pB = s.pB ∧ s.atRequest.mem = s.mem ∧
    s.atRequest.tansy = s.tansy ∧ s.atRequest.link = s.link ∧ s.atRequest.arq = s.arq ∧
    s.atRequest.time = s.time ∧ s.atRequest.twin = s.twin ∧ s.atRequest.yar = s.yar ∧ s.atRequest.upd = s.upd ∧
    s.atRequest.rst = s.rst := by
  simp [State.atRequest, State.expired]

@[simp] theorem State.atRequest_port (s : State) (x : Port) : s.atRequest.port x = s.port x := by
  simp [State.atRequest, State.expired]

@[simp] theorem State.atRequest_chan (s : State) (n : Fin 20) : s.atRequest.chan n = s.chan n := by
  simp [State.atRequest, State.expired]

@[simp] theorem State.atRequest_task (s : State) : s.atRequest.od.task = s.od.task := by
  simp [State.atRequest, State.expired]

@[simp] theorem State.atRequest_level (s : State) : s.atRequest.pwr.level = s.pwr.level := by
  show s.active.pwr.level = s.pwr.level
  simp only [State.active, State.modPwr_pwr]
  split
  case h_2 => split <;> rfl
  all_goals rfl

/-- What steps 3 to 9 of R247 ask of the state does not change as idle sessions end. -/
theorem State.expired_odCheck (s : State) (p : Path) (k : Nat) (o : OdReq) :
    s.expired.odCheck p k o = s.odCheck p k o := rfl

/-- The mailbox path records `m`, and the response `img` waits in the mailbox (R253, R255). -/
def State.answered (s : State) (m : PathSt) (img : List Byte) : State :=
  s.modOd fun o => { o with mailbox := m, mbxRsp := some img }

/-- An answer changes the dictionary's service alone. -/
@[simp] theorem State.answered_frame (s : State) (m : PathSt) (img : List Byte) :
    (s.answered m img).pending = s.pending ∧ (s.answered m img).now = s.now ∧
    (s.answered m img).freeCtr = s.freeCtr ∧ (s.answered m img).ch = s.ch ∧ (s.answered m img).pA = s.pA ∧
    (s.answered m img).pB = s.pB ∧ (s.answered m img).mem = s.mem ∧ (s.answered m img).tansy = s.tansy ∧
    (s.answered m img).link = s.link ∧ (s.answered m img).arq = s.arq ∧ (s.answered m img).time = s.time ∧
    (s.answered m img).twin = s.twin ∧ (s.answered m img).yar = s.yar ∧ (s.answered m img).upd = s.upd ∧
    (s.answered m img).rst = s.rst ∧ (s.answered m img).pwr = s.pwr := by
  simp [State.answered]

@[simp] theorem State.answered_od (s : State) (m : PathSt) (img : List Byte) :
    (s.answered m img).od = { s.od with mailbox := m, mbxRsp := some img } := rfl

@[simp] theorem State.answered_port (s : State) (m : PathSt) (img : List Byte) (x : Port) :
    (s.answered m img).port x = s.port x := by
  simp [State.answered]

@[simp] theorem State.answered_chan (s : State) (m : PathSt) (img : List Byte) (n : Fin 20) :
    (s.answered m img).chan n = s.chan n := rfl

/-- Where firmware serves and ST_IF runs, completing an executed mailbox request records it and puts its response in the
mailbox, and does nothing else (R253, R255). -/
theorem State.complete_mailbox {s : State} (r : Req) {a : Reply} (data mac : List Byte) (hserve : s.yar.serving = true)
    (hup : s.blockUp 18 = true) (ha : a.abort ≠ abBusy) :
    ∃ m img, s.complete .mailbox r a data mac = s.answered m img ∧ m.last = some r.reqseq ∧ m.lastAbort = a.abort := by
  have hserves : s.servesPath .mailbox = true := by simp [State.servesPath, hserve]
  have hpath : ∀ f, (s.modPath .mailbox f).blockUp 18 = true := fun _ => hup
  simp only [State.complete, hserves, ha, if_true, if_false, State.reply, State.mailboxReply, hpath]
  exact ⟨_, _, rfl, rfl, rfl⟩

/-- Where the mailbox can be reached, ST_IF runs (R255, R290). -/
theorem State.blockUp_of_mailboxUp {s : State} (h : s.mailboxUp = true) : s.blockUp 18 = true := by
  simp only [State.mailboxUp, Bool.and_eq_true] at h
  obtain ⟨⟨⟨-, hst⟩, -⟩, -⟩ := h
  exact hst

/-- What a request from the mailbox carries with it into its execution (R247, R248). -/
def mailboxCtx (s : State) (r : Req) : WCtx :=
  { entering := s.pwr.state == .entering, image := r.image }

/-- A request from the mailbox whose service is free is executed at once, after its place in the sequence is judged
(R248, R252). -/
theorem Attended.odCommand {h : OdHead} {s : State} (ha : Attended h s) (op index sub : Nat) (data : List Byte) :
    s.odCommand h op index sub data =
      s.active.sequence .mailbox (headReq h op index sub data) none fun u =>
        u.odRun (mailboxCtx s (headReq h op index sub data)) .mailbox (headReq h op index sub data)
          { op := op, index := index, sub := sub, flags := h.flags, abort := h.abortField, offset := h.offset,
            crc := h.crcTotal, dlen := data.length, rsv := h.rsv18, data := data } := by
  obtain ⟨hsrc, haddr, hup, hreq, hserve, hload, htask, hqueue⟩ := ha
  have hserves : s.active.servesPath .mailbox = true := by simp [State.servesPath, hserve]
  have haddr' : (headReq h op index sub data).addr = 0 := haddr
  simp only [State.odCommand, State.arrive, hsrc, State.mailboxArrive, hup, hreq, hserves, State.takeMailbox, haddr',
    State.enterRequest, State.active_frame, hqueue, htask, State.serve, hload]
  rfl

/-- A WRITE that passes steps 3 to 9 of R247 has the effect of its entry's write. -/
theorem State.odRun_write {s t : State} {q : WCtx} {p : Path} {r : Req} {o : OdReq} {ob : Obj} {row : Row} {c : Nat}
    (hop : o.op = 2) (hcheck : s.odCheck p r.keysel o = 0) (hob : objOf o.index = some ob)
    (hrow : ob.row o.sub = some row) (hw : s.expired.writeEntry q ob o.sub (row.ty.value o.data) = (c, t)) :
    s.odRun q p r o = (.refuse c, t) := by
  have hcheck' := (s.expired_odCheck p r.keysel o).trans hcheck
  unfold State.expired at hw hcheck'
  simp [State.odRun, hcheck', hob, hrow, hop, hw]

/-- A request that passes steps 3 to 9 of R247 names an entry of its object. -/
theorem State.row_of_odCheck {s : State} {p : Path} {k : Nat} {o : OdReq} {ob : Obj} (hob : objOf o.index = some ob)
    (hcheck : s.odCheck p k o = 0) : ∃ row, ob.row o.sub = some row := by
  cases hrow : ob.row o.sub with
  | some row => exact ⟨row, rfl⟩
  | none =>
    simp only [State.odCheck, hob, hrow] at hcheck
    split at hcheck <;> cases hcheck

/-- A served WRITE from the mailbox that begins no flash or fuse step and leaves firmware serving: its effect on the state at
the request, its abort code recorded, and its response in the mailbox (R247, R253, R255). -/
theorem odWrite_answered {h : OdHead} {index sub : Nat} {data : List Byte} {s t : State} {ob : Obj} {c : Nat}
    (hs : OdServed h 2 index sub data s) (hob : objOf index = some ob)
    (hw : ∀ row, ob.row sub = some row →
      s.atRequest.writeEntry (mailboxCtx s (headReq h 2 index sub data)) ob sub (row.ty.value data) = (c, t))
    (htask : t.od.task = none) (hserve : t.yar.serving = true) (hup : t.blockUp 18 = true) (hc : c ≠ abBusy) :
    ∃ m img, s.odWrite h index sub data = t.answered m img ∧ Recorded h c (t.answered m img) := by
  obtain ⟨hatt, hrun, hcheck⟩ := hs
  simp only [State.checksPass, headReq, beq_iff_eq] at hcheck
  obtain ⟨row, hrow⟩ := State.row_of_odCheck hob hcheck
  have hact : (s.active.od.path .mailbox).judge (headReq h 2 index sub data).reqseq = .run := hrun
  have heffect := State.odRun_write (s := s.active) (p := .mailbox) (r := headReq h 2 index sub data)
    rfl hcheck hob hrow (hw row hrow)
  rw [State.odWrite, hatt.odCommand, State.sequence, hact]
  simp only [heffect, htask]
  obtain ⟨m, img, hx, hlast, habort⟩ :=
    State.complete_mailbox (a := .refuse c) (headReq h 2 index sub data) _ _ hserve hup hc
  exact ⟨m, img, hx, hlast, habort, rfl⟩

/-! ### Counters cleared (R5) -/

/-- The state `t` that a write leaves keeps everything of `s` that would give the write a consequence of its own: what STATUS
reports of it (R204), the flash or fuse step in progress (R248), whether firmware serves, and which blocks run. -/
structure Unnoticed (s t : State) : Prop where
  joinBlock : t.joinBlock = s.joinBlock := by rfl
  planDigest : t.planDigest = s.planDigest := by rfl
  task : t.od.task = s.od.task := by rfl
  serving : t.yar.serving = s.yar.serving := by rfl
  blocks : t.rst.blockReset = s.rst.blockReset := by rfl

/-- No STATUS follows where what it names stands (R204). -/
theorem Unnoticed.statusIfChanged {s t : State} (h : Unnoticed s t) (plan : Bool) : t.statusIfChanged s plan = t := by
  simp [State.statusIfChanged, h.joinBlock, h.planDigest]

/-- What is read of every channel stands where the changed channel reads as before. -/
theorem State.modCh_map {β : Type} (s : State) (n : Fin 20) {f : Chan → Chan} {g : Chan → β}
    (hg : g (f (s.chan n)) = g (s.chan n)) : (s.modCh n f).ch.toList.map g = s.ch.toList.map g := by
  have hget : s.chan n = s.ch.toList[n.val]'(by simp) := by simp [State.chan, Vector.get_eq_getElem]
  have hset : (s.modCh n f).ch.toList = s.ch.toList.set n.val (f (s.chan n)) := Vector.toList_set n.isLt
  rw [hset, List.map_set, hg, hget, ← List.map_set, List.set_getElem_self]

/-- What some channel has, some channel has where the changed channel has it as before. -/
theorem State.modCh_any (s : State) (n : Fin 20) {f : Chan → Chan} {g : Chan → Bool}
    (hg : g (f (s.chan n)) = g (s.chan n)) : (s.modCh n f).ch.toList.any g = s.ch.toList.any g := by
  have h := congrArg (List.any · id) (s.modCh_map n hg)
  simpa [List.any_map] using h

/-- A change of channel `n` that keeps its configuration, its state, its shadow frames and its cuts goes unnoticed (R218). -/
theorem Unnoticed.modCh (s : State) (n : Fin 20) {f : Chan → Chan} (hcfg : (f (s.chan n)).cfg = (s.chan n).cfg)
    (hstate : (f (s.chan n)).state = (s.chan n).state)
    (hshadow : (f (s.chan n)).shadowFrames = (s.chan n).shadowFrames) (hcuts : (f (s.chan n)).cuts = (s.chan n).cuts) :
    Unnoticed s (s.modCh n f) := by
  have hdigest : (s.modCh n f).planDigest = s.planDigest := by
    simp only [State.planDigest, State.digestAs, State.modCh_rst, State.modCh_mem]
    rw [s.modCh_map n (g := fun c => c.cfg.planBytes) (by rw [hcfg])]
  refine ⟨?_, hdigest, rfl, rfl, rfl⟩
  simp only [State.joinBlock, hdigest]
  rw [s.modCh_any n (by simp only [Chan.shadowed, Chan.enabled, hcfg, hstate, hshadow]), s.modCh_any n (by rw [hcuts])]
  rfl

/-- A clear of counters from the mailbox: where its write makes `t` of the state at the request and goes unnoticed, nothing
but `t` and the answer comes of the command, and the request is recorded as accepted. -/
theorem countClear_answered {h : OdHead} {index sub : Nat} {v : Byte} {s : State} {ob : Obj} (t : State)
    (hs : OdServed h 2 index sub [v] s) (hob : objOf index = some ob)
    (hw : ∀ q k, s.atRequest.writeValue q ob sub k = ok t) (ht : Unnoticed s.atRequest t) :
    ∃ m img, exec (.countClear h index sub v) s = .next (t.answered m img) ∧ Recorded h 0 (t.answered m img) := by
  obtain ⟨-, -, hup, -, hserve, -, htask, -⟩ := hs.1
  obtain ⟨m, img, hx, hrec⟩ := odWrite_answered (t := t) (c := 0) hs hob
    (fun _ _ => by simp only [State.writeEntry, hw, ok, ht.statusIfChanged])
    (by rw [ht.task, State.atRequest_task, htask]) (by simpa [ht.serving] using hserve)
    (by simpa [State.blockUp, ht.blocks] using State.blockUp_of_mailboxUp hup) (by decide)
  exact ⟨m, img, congrArg Host.Outcome.next hx, hrec⟩

/-- A clear of a policer's counters keeps MODE, CIR and PIR, so that the check of R190 passes where it held before. -/
theorem State.writePolicer_clear (s : State) (n : Fin 20) (k : Nat)
    (h : (s.chan n).pol.mode ≠ 1 ∨ (s.chan n).pol.cir ≤ (s.chan n).pol.pir) :
    s.writePolicer n 0x14 k = ok (s.modCh n fun c => { c with pol := c.pol.put 0x14 0 }) := by
  have hpass : (!((s.chan n).pol.mode == 1 && decide ((s.chan n).pol.pir < (s.chan n).pol.cir))) = true := by
    simpa [or_iff_not_imp_left] using h
  exact if_pos hpass

/-- The flow of a channel is kept with the channel (R183). -/
theorem State.modFlow_castSucc (s : State) (n : Fin 20) (f : Flow → Flow) :
    s.modFlow n.castSucc f = s.modCh n fun c => { c with flow := f c.flow } := by
  simp [State.modFlow, finOf_val]

/-- The other port is another port. -/
theorem otherPort_ne (x : Port) : otherPort x ≠ x := by
  cases x <;> decide

/-- Settles O33: each clear is a served write that sets its object's counters to 0, and nothing follows it. -/
theorem countersClear : Obligations.CountersClear := by
  unfold Obligations.CountersClear
  refine ⟨?channel, ?port, ?arq, ?link, ?flow, ?mgmtFlow, ?policer, ?time, ?twin, ?reset, ?power, ?sensors, ?access⟩
  case channel =>
    intro h n v s hs
    obtain ⟨m, img, hx, hrec⟩ := countClear_answered (s.atRequest.modCnt n fun c => c.clear 0x1B) hs
      (objOf_index (.chStat n)) (fun _ _ => rfl) (Unnoticed.modCh _ n rfl rfl rfl rfl)
    exact ⟨_, hx, by simp [State.modCnt_chan, ChCounters.clear], hrec⟩
  case port =>
    intro h x v s hs
    obtain ⟨m, img, hx, hrec⟩ := countClear_answered (s.atRequest.writePortStat x 0x18 0) hs
      (ob := .portStat x) (by cases x <;> rfl) (fun _ _ => rfl) (by cases x <;> exact {})
    exact ⟨_, hx, by simp [State.writePortStat],
      by simp [State.writePortStat, State.modPort_port_other, otherPort_ne], hrec⟩
  case arq =>
    intro h v s hs
    obtain ⟨m, img, hx, hrec⟩ := countClear_answered (s.atRequest.modArq fun a => a.put 0x1B 0) hs
      (objOf_index .arq) (fun _ _ => rfl) {}
    exact ⟨_, hx, by simp [ArqSt.put], hrec⟩
  case link =>
    intro h v s hs
    obtain ⟨m, img, hx, hrec⟩ := countClear_answered (s.atRequest.modLink fun l => { l with cnt := {} }) hs
      (objOf_index .linkStat) (fun _ _ => rfl) {}
    exact ⟨_, hx, by simp, hrec⟩
  case flow =>
    intro h n v s hs
    obtain ⟨m, img, hx, hrec⟩ := countClear_answered
      (s.atRequest.modCh n fun c => { c with flow := c.flow.put 6 0 }) hs (objOf_index (.flow n.castSucc))
      (fun _ _ => congrArg ok (State.modFlow_castSucc _ n _)) (Unnoticed.modCh _ n rfl rfl rfl rfl)
    exact ⟨_, hx, by simp [Flow.put], hrec⟩
  case mgmtFlow =>
    intro h v s hs
    obtain ⟨m, img, hx, hrec⟩ := countClear_answered
      (s.atRequest.modLink fun l => { l with mgmtFlow := l.mgmtFlow.put 6 0 }) hs (objOf_index (.flow 20))
      (fun _ _ => rfl) {}
    exact ⟨_, hx, by simp [Flow.put], by simp, hrec⟩
  case policer =>
    intro h n v s hs hpir
    obtain ⟨m, img, hx, hrec⟩ := countClear_answered
      (s.atRequest.modCh n fun c => { c with pol := c.pol.put 0x14 0 }) hs (objOf_index (.policer n))
      (fun _ _ => State.writePolicer_clear _ n _ (by simpa using hpir)) (Unnoticed.modCh _ n rfl rfl rfl rfl)
    exact ⟨_, hx, by simp [Policer.put], hrec⟩
  case time =>
    intro h v s hs
    obtain ⟨m, img, hx, hrec⟩ := countClear_answered (s.atRequest.writeTime 0x1B 0).2 hs (objOf_index .time)
      (fun _ _ => rfl) {}
    exact ⟨_, hx, by simp [State.writeTime, ok], hrec⟩
  case twin =>
    intro h v s hs
    obtain ⟨m, img, hx, hrec⟩ := countClear_answered (s.atRequest.writeTwin 0x2A 0).2 hs (objOf_index .twin)
      (fun _ _ => rfl) {}
    exact ⟨_, hx, rfl, rfl, rfl, rfl, rfl, rfl, rfl, rfl, rfl, rfl, rfl, hrec⟩
  case reset =>
    intro h v s hs
    obtain ⟨m, img, hx, hrec⟩ := countClear_answered (s.atRequest.writeReset 0x0B 0) hs (objOf_index .reset)
      (fun _ _ => rfl) {}
    exact ⟨_, hx, by simp [State.writeReset], hrec⟩
  case power =>
    intro h v s hs
    obtain ⟨m, img, hx, hrec⟩ := countClear_answered (s.atRequest.writePower {} 0x15 0).2 hs (objOf_index .power)
      (fun _ _ => rfl) {}
    exact ⟨_, hx, rfl, rfl, rfl, rfl, rfl, s.atRequest_level, hrec⟩
  case sensors =>
    intro h v s hs
    obtain ⟨m, img, hx, hrec⟩ := countClear_answered (s.atRequest.modYar fun y => y.putSensor 0x0F 0) hs
      (objOf_index .sensors) (fun _ _ => rfl) {}
    exact ⟨_, hx, by simp [YarSt.putSensor], hrec⟩
  case access =>
    intro h v s hs
    obtain ⟨m, img, hx, hrec⟩ := countClear_answered (s.atRequest.writeAccess {} 0x10 0).2 hs (objOf_index .access)
      (fun _ _ => rfl) {}
    exact ⟨_, hx, rfl, rfl, rfl, rfl, rfl, hrec⟩

end Sys2Proof.Machine
end

section
/-! The bytes of a stored word and its lanes: what the code makes of wrong bits (R18), and what a write and a
read-modify-write leave (R19, R20). -/

namespace Sys2Proof.Machine

open Sys2Proof

/-! ### Byte strings and the numbers that they spell (R4) -/

@[simp] theorem leBytes_length (n len : Nat) : (leBytes n len).length = len := by
  induction len generalizing n with
  | zero => rfl
  | succ k ih => simp [leBytes, ih]

@[simp] theorem loadBytes_length (m : List Host.Cell) (a n : Nat) : (loadBytes m a n).length = n := by
  induction n generalizing a with
  | zero => rfl
  | succ k ih => simp [loadBytes, ih]

/-- The bytes of the number that a string spells are the string. -/
theorem leBytes_leNat (bs : List Byte) : leBytes (leNat bs) bs.length = bs := by
  induction bs with
  | nil => rfl
  | cons b t ih =>
    have hb := b.isLt
    have hlow : BitVec.ofNat 8 (b.toNat + 256 * leNat t) = b := by
      apply BitVec.eq_of_toNat_eq
      rw [BitVec.toNat_ofNat]
      omega
    have hhigh : (b.toNat + 256 * leNat t) / 256 = leNat t := by omega
    simp only [leNat, List.length_cons, leBytes, hlow, hhigh, ih]

/-- The number that the bytes of `n` spell is `n`, cut to their count. -/
theorem leNat_leBytes (n len : Nat) : leNat (leBytes n len) = n % 256 ^ len := by
  induction len generalizing n with
  | zero => simp [leBytes, leNat, Nat.mod_one]
  | succ k ih =>
    have hpow : n % 256 ^ (k + 1) = n % 256 + 256 * (n / 256 % 256 ^ k) := by
      rw [Nat.pow_succ', Nat.mod_mul]
    simp [leBytes, leNat, ih, hpow, BitVec.toNat_ofNat]

/-- A whole string of `len` bytes stands as it is. -/
theorem takePad_self {bs : List Byte} {n : Nat} (h : bs.length = n) : takePad n bs = bs := by
  simp [takePad, zeros, ← h]

/-- Two words with the same four lanes are the same. -/
theorem eq_of_lanes {l k : List Byte} (hl : l.length = 32) (hk : k.length = 32)
    (h : ∀ i < 4, (l.drop (8 * i)).take 8 = (k.drop (8 * i)).take 8) : l = k := by
  apply List.ext_getElem (hl.trans hk.symm)
  intro n hn _
  have hlane := congrArg (·[n % 8]?) (h (n / 8) (by omega))
  have hmod : n % 8 < 8 := Nat.mod_lt _ (by omega)
  have hpos : 8 * (n / 8) + n % 8 = n := Nat.div_add_mod n 8
  simpa [List.getElem?_take_of_lt hmod, hpos, hn, hk, hl ▸ hn] using hlane

/-! ### The code of a lane (R18) -/

/-- How many bits a number of one bit has. -/
theorem popBits_one (b w : Nat) : popBits (2 ^ b) w = if b < w then 1 else 0 := by
  induction w with
  | zero => rfl
  | succ w ih =>
    simp only [popBits, ih, Nat.testBit_two_pow]
    split <;> split <;> simp_all [bnat] <;> omega

/-- How many bits a number of two bits has. -/
theorem popBits_two {b c : Nat} (h : b ≠ c) (w : Nat) :
    popBits (2 ^ b ^^^ 2 ^ c) w = (if b < w then 1 else 0) + if c < w then 1 else 0 := by
  induction w with
  | zero => rfl
  | succ w ih =>
    simp only [popBits, ih, Nat.testBit_xor, Nat.testBit_two_pow]
    rcases lt_trichotomy b w with hb | hb | hb <;> rcases lt_trichotomy c w with hc | hc | hc <;>
      simp [bnat] <;> grind


theorem oneBit_toNat (b : Fin 72) : ((1 : BitVec 72) <<< b.val).toNat = 2 ^ b.val := by
  rw [BitVec.toNat_shiftLeft, Nat.shiftLeft_eq]
  simpa using Nat.pow_lt_pow_right (by omega : 1 < 2) b.isLt

theorem popBits_oneBit (b : Fin 72) : popBits ((1 : BitVec 72) <<< b.val).toNat 72 = 1 := by
  rw [oneBit_toNat, popBits_one, if_pos b.isLt]

theorem popBits_twoBits {b c : Fin 72} (h : b ≠ c) :
    popBits ((1 : BitVec 72) <<< b.val ^^^ (1 : BitVec 72) <<< c.val).toNat 72 = 2 := by
  rw [BitVec.toNat_xor, oneBit_toNat, oneBit_toNat, popBits_two (fun e => h (Fin.ext e)), if_pos b.isLt, if_pos c.isLt]

/-- A mask that has a bit is not zero. -/
theorem ne_zero_of_popBits {m : BitVec 72} (h : 0 < popBits m.toNat 72) : m ≠ 0 := by
  rintro rfl
  exact absurd h (by decide)

/-- One wrong bit is found and flipped back. -/
theorem laneDecode_one {m : BitVec 72} (h : popBits m.toNat 72 = 1) : laneDecode m = (.corr, m) := by
  simp only [laneDecode, ne_zero_of_popBits (m := m) (by omega), h, if_false]

/-- Two wrong bits are detected. -/
theorem laneDecode_two {m : BitVec 72} (h : popBits m.toNat 72 = 2) : laneDecode m = (.uncorr, 0) := by
  simp only [laneDecode, ne_zero_of_popBits (m := m) (by omega), h, if_false]

/-- Three or more are detected, or taken for a single one. -/
theorem laneDecode_many {m : BitVec 72} (h : 3 ≤ popBits m.toNat 72) :
    laneDecode m = if Config.multiErrorDetected m then (.uncorr, 0)
      else (.corr, (1 : BitVec 72) <<< (Config.multiErrorFlip m).val) := by
  obtain ⟨k, hk⟩ : ∃ k, popBits m.toNat 72 = k + 3 := ⟨_, (Nat.sub_add_cancel h).symm⟩
  simp only [laneDecode, ne_zero_of_popBits (m := m) (by omega), hk, if_false]

/-- A lane as its code gives it. -/
theorem readLane_eq {m : MemSt} {w i : Nat} {st : LaneSt} {flip : BitVec 72}
    (h : laneDecode (assocGet 0 m.errs (w * 4 + i)) = (st, flip)) :
    readLane m w i = (leBytes (leNat (loadBytes m.cells (w * 32 + 8 * i) 8) ^^^ (flip.toNat % 2 ^ 64)) 8, st) := by
  simp only [readLane, h]

/-- A lane without an error reads as stored. -/
theorem readLane_good {m : MemSt} {w i : Nat} (h : assocGet 0 m.errs (w * 4 + i) = 0) :
    readLane m w i = (loadBytes m.cells (w * 32 + 8 * i) 8, .good) := by
  have hraw := leBytes_leNat (loadBytes m.cells (w * 32 + 8 * i) 8)
  rw [loadBytes_length] at hraw
  rw [readLane_eq (st := .good) (flip := 0) ((congrArg laneDecode h).trans (if_pos rfl))]
  simpa using hraw

@[simp] theorem readLane_length (m : MemSt) (w i : Nat) : (readLane m w i).1.length = 8 := by
  simp [readLane]

/-! ### Words and their lanes (R19, R20) -/

@[simp] theorem readWordAt_length (m : MemSt) (w : Nat) : (readWordAt m w).data.length = 32 := by
  simp [readWordAt]

theorem readWordAt_lane (m : MemSt) (w : Nat) {i : Nat} (h : i < 4) : (readWordAt m w).lane i = (readLane m w i).2 := by
  obtain rfl | rfl | rfl | rfl : i = 0 ∨ i = 1 ∨ i = 2 ∨ i = 3 := by omega
  all_goals rfl

theorem readWordAt_bytes (m : MemSt) (w : Nat) {i : Nat} (h : i < 4) :
    ((readWordAt m w).data.drop (8 * i)).take 8 = (readLane m w i).1 := by
  obtain rfl | rfl | rfl | rfl : i = 0 ∨ i = 1 ∨ i = 2 ∨ i = 3 := by omega
  all_goals simp [readWordAt, List.drop_append, List.drop_of_length_le]

theorem readWordAt_congr {m k : MemSt} {w v : Nat} (h : ∀ i < 4, readLane m w i = readLane k v i) :
    readWordAt m w = readWordAt k v := by
  simp [readWordAt, h]

/-- A word is read from the stored bytes and error masks alone. -/
theorem readWordAt_of_stored {m k : MemSt} (hc : m.cells = k.cells) (he : m.errs = k.errs) (w : Nat) :
    readWordAt m w = readWordAt k w :=
  readWordAt_congr fun i _ => readLane_congr hc he w i

/-- The lanes of a list given fresh check bits and the bytes of `data`, those apart that `keep` names (R20). -/
def storeLanes (m : MemSt) (w : Nat) (data : List Byte) (keep : Nat → Prop) [DecidablePred keep] (is : List Nat) : MemSt :=
  is.foldl (fun m i => if keep i then m else writeLane m w i (data.drop (8 * i))) m

section

variable {m : MemSt} {w : Nat} {data : List Byte} {keep : Nat → Prop} [DecidablePred keep]

theorem readLane_writeLane_same (h : m.canonical) {i : Nat} {bs : List Byte} (hbs : 8 ≤ bs.length) :
    readLane (writeLane m w i bs) w i = (bs.take 8, .good) := by
  have hlen : (bs.take 8).length = 8 := by simpa using hbs
  have hload := loadBytes_store h.1 (w * 32 + 8 * i) (bs.take 8)
  rw [hlen] at hload
  rw [readLane_good (assocGet_set_same _ h.2)]
  exact congrArg (·, LaneSt.good) hload

theorem readLane_storeLanes_outside {is : List Nat} {v j : Nat} (his : ∀ i ∈ is, i < 4) (hj : j < 4)
    (h : ∀ i ∈ is, keep i ∨ ¬(v = w ∧ j = i)) :
    readLane (storeLanes m w data keep is) v j = readLane m v j := by
  induction is generalizing m with
  | nil => rfl
  | cons i t ih =>
    have hstep : readLane (if keep i then m else writeLane m w i (data.drop (8 * i))) v j = readLane m v j := by
      split
      · rfl
      next hk =>
        exact readLane_writeLane_other _ _ _ _ _ _ (his i (by simp)) hj ((h i (by simp)).resolve_left hk)
    exact (ih (fun k hk => his k (by simp [hk])) (fun k hk => h k (by simp [hk]))).trans hstep

theorem readLane_storeLanes_inside {is : List Nat} {j : Nat} (h : m.canonical) (hd : data.length = 32)
    (his : ∀ i ∈ is, i < 4) (hnodup : is.Nodup) (hj : j ∈ is) (hkeep : ¬ keep j) :
    readLane (storeLanes m w data keep is) w j = ((data.drop (8 * j)).take 8, .good) := by
  induction is generalizing m with
  | nil => cases hj
  | cons i t ih =>
    obtain ⟨hi, ht⟩ := List.nodup_cons.mp hnodup
    have ht4 : ∀ k ∈ t, k < 4 := fun k hk => his k (by simp [hk])
    rcases List.mem_cons.mp hj with rfl | hjt
    · have hj4 := his j (by simp)
      have houtside := readLane_storeLanes_outside (m := writeLane m w j (data.drop (8 * j))) (w := w) (data := data)
        (keep := keep) (v := w) ht4 hj4 fun i hit => .inr fun e => hi (e.2 ▸ hit)
      rw [storeLanes, List.foldl_cons, if_neg hkeep]
      exact houtside.trans (readLane_writeLane_same h (by simp only [List.length_drop]; omega))
    · refine ih (m := if keep i then m else writeLane m w i (data.drop (8 * i))) ?_ ht4 ht hjt
      split
      · exact h
      · exact writeLane_canonical h _ _ _

/-- A lane after the lanes of a word have been stored. -/
theorem readLane_storeLanes (h : m.canonical) (hd : data.length = 32) {j : Nat} (hj : j < 4) :
    readLane (storeLanes m w data keep [0, 1, 2, 3]) w j =
      if keep j then readLane m w j else ((data.drop (8 * j)).take 8, .good) := by
  have his : ∀ i ∈ [0, 1, 2, 3], i < 4 := by decide
  split
  next hk =>
    refine readLane_storeLanes_outside his hj fun i _ => ?_
    by_cases e : j = i
    · exact .inl (e ▸ hk)
    · exact .inr fun h => e h.2
  next hk =>
    refine readLane_storeLanes_inside h hd his (by decide) ?_ hk
    simp only [List.mem_cons, List.not_mem_nil]
    omega

end

/-- A write of a whole word stores every lane. -/
theorem readLane_writeWordAt (m : MemSt) (w : Nat) {bs : List Byte} (hbs : bs.length = 32) (v j : Nat) :
    readLane (writeWordAt m w bs) v j = readLane (storeLanes m w bs (fun _ => False) [0, 1, 2, 3]) v j := by
  unfold writeWordAt storeLanes
  simp only [takePad_self hbs, if_false]
  exact readLane_congr (by rfl) (by rfl) v j

/-- A read-modify-write stores every lane that is not uncorrectable. -/
theorem readLane_rewriteLanes (m : MemSt) (w : Nat) (r : WordRd) (data : List Byte) (v j : Nat) :
    readLane (rewriteLanes m w r data) v j =
      readLane (storeLanes m w data (fun i => r.lane i = .uncorr) [0, 1, 2, 3]) v j := by
  unfold rewriteLanes storeLanes
  exact readLane_congr (by rfl) (by rfl) v j

/-- A lane of the word after a read-modify-write. -/
theorem readLane_rewriteLanes_same {m : MemSt} (h : m.canonical) (w : Nat) (r : WordRd) {data : List Byte}
    (hd : data.length = 32) {j : Nat} (hj : j < 4) :
    readLane (rewriteLanes m w r data) w j =
      if r.lane j = .uncorr then readLane m w j else ((data.drop (8 * j)).take 8, .good) := by
  rw [readLane_rewriteLanes, readLane_storeLanes h hd hj]

/-- A read-modify-write of a word leaves every other word as it reads. -/
theorem readWordAt_rewriteLanes_other (m : MemSt) {w v : Nat} (r : WordRd) (data : List Byte) (h : v ≠ w) :
    readWordAt (rewriteLanes m w r data) v = readWordAt m v := by
  refine readWordAt_congr fun j hj => ?_
  rw [readLane_rewriteLanes, readLane_storeLanes_outside (by decide) hj fun _ _ => .inr fun e => h e.1]

/-- A read-modify-write that keeps the bytes of the uncorrectable lanes leaves the word with the bytes given to it. -/
theorem readWordAt_rewriteLanes_data {m : MemSt} (h : m.canonical) (w : Nat) {data : List Byte} (hd : data.length = 32)
    (hkeep : ∀ j < 4, (readWordAt m w).lane j = .uncorr →
      (data.drop (8 * j)).take 8 = ((readWordAt m w).data.drop (8 * j)).take 8) :
    (readWordAt (rewriteLanes m w (readWordAt m w) data) w).data = data := by
  refine eq_of_lanes (by simp) hd fun j hj => ?_
  rw [readWordAt_bytes _ _ hj, readLane_rewriteLanes_same h _ _ hd hj]
  split
  next hun => rw [hkeep j hj hun, readWordAt_bytes _ _ hj]
  · rfl

/-- A read-modify-write leaves a lane uncorrectable or readable as it was. -/
theorem readWordAt_rewriteLanes_lane {m : MemSt} (h : m.canonical) (w : Nat) {data : List Byte} (hd : data.length = 32)
    {j : Nat} (hj : j < 4) :
    (readWordAt (rewriteLanes m w (readWordAt m w) data) w).lane j = .uncorr ↔ (readWordAt m w).lane j = .uncorr := by
  rw [readWordAt_lane _ _ hj, readLane_rewriteLanes_same h _ _ hd hj]
  split
  next hun => rw [← readWordAt_lane _ _ hj]
  next hun => simp [hun]

/-- Where no bank is being copied, a write has no mirror (R317). -/
theorem State.mirrorPhys_of_no_copy {s : State} (h : s.tansy.copy = none) (b row col : Nat) (f : MemSt → Nat → MemSt) :
    s.mirrorPhys b row col f = s := by
  simp [State.mirrorPhys, h]

theorem State.mirrorWrite_of_no_copy {s : State} (h : s.tansy.copy = none) (l : Loc) (f : MemSt → Nat → MemSt) :
    s.mirrorWrite l f = s := State.mirrorPhys_of_no_copy h _ _ _ _

/-- Settles O15: each clause is what the code makes of so many wrong bits. -/
theorem laneErrors : Obligations.LaneErrors := by
  unfold Obligations.LaneErrors
  refine ⟨fun m w i h => readLane_good h, ?one, ?two, ?many, ?alone⟩
  case one =>
    intro m w i b h
    rw [readLane_eq (laneDecode_one (by rw [h, popBits_oneBit])), h, oneBit_toNat]
    exact ⟨rfl, rfl⟩
  case two =>
    intro m w i b c hbc h
    rw [readLane_eq (laneDecode_two (by rw [h, popBits_twoBits hbc]))]
  case many =>
    intro m w i h
    have hcode := laneDecode_many h
    split at hcode
    · exact .inl (by rw [readLane_eq hcode])
    · refine .inr ⟨by rw [readLane_eq hcode], Config.multiErrorFlip (assocGet 0 m.errs (w * 4 + i)), ?_, ?_⟩
      · intro e
        rw [← e, popBits_oneBit] at h
        omega
      · rw [readLane_eq hcode, oneBit_toNat]
  case alone =>
    intro m k w v i j hbytes herrs
    simp only [readLane, hbytes, herrs]

/-- Settles O14: a whole word stored gives each of its lanes fresh check bits, and touches no other word. -/
theorem storedWords : Obligations.StoredWords := by
  unfold Obligations.StoredWords
  intro m w bs hbs hcells herrs
  have hlane : ∀ j < 4, readLane (writeWordAt m w bs) w j = ((bs.drop (8 * j)).take 8, .good) := by
    intro j hj
    rw [readLane_writeWordAt m w hbs, readLane_storeLanes ⟨hcells, herrs⟩ hbs hj, if_neg not_false]
  refine ⟨?_, fun v h => readWordAt_writeWordAt_other m w v bs h⟩
  have hdata : (readWordAt (writeWordAt m w bs) w).data = bs :=
    eq_of_lanes (by simp) hbs fun j hj => by rw [readWordAt_bytes _ _ hj, hlane j hj]
  have hlanes : (readWordAt (writeWordAt m w bs) w).lanes = [.good, .good, .good, .good] := by
    simp [readWordAt, hlane]
  calc readWordAt (writeWordAt m w bs) w
      = ⟨(readWordAt (writeWordAt m w bs) w).data, (readWordAt (writeWordAt m w bs) w).lanes⟩ := rfl
    _ = _ := by rw [hdata, hlanes]

/-- Settles O13: the write-back is the read-modify-write of the word with its own bytes as corrected. -/
theorem writeBackRepairsLanes : Obligations.WriteBackRepairsLanes := by
  unfold Obligations.WriteBackRepairsLanes
  intro bank row col s _ _ hup hcopy hwaits hcells herrs
  have hmirror : ∀ b lr c f, (s.modMem fun m => rewriteLanes m (wordNo bank.val row col)
      (readWordAt s.mem (wordNo bank.val row col)) (readWordAt s.mem (wordNo bank.val row col)).data).mirrorPhys b lr c f =
      s.modMem fun m => rewriteLanes m (wordNo bank.val row col) (readWordAt s.mem (wordNo bank.val row col))
        (readWordAt s.mem (wordNo bank.val row col)).data := fun _ _ _ _ =>
    State.mirrorPhys_of_no_copy (by simpa using hcopy) _ _ _ _
  refine ⟨s.modMem fun m => rewriteLanes m (wordNo bank.val row col) (readWordAt s.mem (wordNo bank.val row col))
    (readWordAt s.mem (wordNo bank.val row col)).data, ?_, ?lanes, ?others, ?done⟩
  · show execEccWriteBack bank row col s = _
    simp only [execEccWriteBack, hup, hwaits, Bool.and_self, if_true, hmirror]
    split <;> rfl
  case lanes =>
    intro i hi hlane
    rw [State.modMem_mem, readLane_rewriteLanes_same ⟨hcells, herrs⟩ _ _ (by simp) hi, if_neg hlane, readWordAt_bytes _ _ hi]
  case others => exact fun w hw => readWordAt_rewriteLanes_other _ _ _ hw
  case done => simp [rewriteLanes]

end Sys2Proof.Machine
end

section
/-! Where a word stands in the array (R14), the arithmetic of pointers (R41), what a bank grants that has one request
(R16), and what a power-on reset leaves. -/

namespace Sys2Proof.Machine

open Sys2Proof

/-! ### Places (R14) -/

/-- The region that alone holds a word is the one found for it. -/
theorem State.regionOf_of_only {s : State} {p : Nat} {n : Fin 20}
    (h : ∀ k : Fin 20, (s.chan k).holdsBlock (p / 128) = true ↔ k = n) : s.regionOf p = some n := by
  have only : ∀ {q : Fin 20 → Bool} {k : Fin 20}, (List.finRange 20).find? q = some k →
      (q k = true → (s.chan k).holdsBlock (p / 128) = true) → k = n := fun hk hq => (h _).mp (hq (List.find?_some hk))
  simp only [State.regionOf]
  split
  next k hk => exact congrArg some (only hk fun hq => (Bool.and_eq_true _ _ ▸ hq).2)
  · cases hfind : (List.finRange 20).find? fun n => (s.chan n).holdsBlock (p / 128) with
    | none => exact absurd ((h n).mpr rfl) (by simpa using List.find?_eq_none.mp hfind n (List.mem_finRange n))
    | some k => exact congrArg some (only hfind id)

/-- Where no region holds a word, none is found for it. -/
theorem State.regionOf_of_none {s : State} {p : Nat} (h : ∀ k : Fin 20, (s.chan k).holdsBlock (p / 128) = false) :
    s.regionOf p = none := by
  have hnone : ∀ q : Fin 20 → Bool, ((List.finRange 20).find? fun n => q n && (s.chan n).holdsBlock (p / 128)) = none :=
    fun q => List.find?_eq_none.mpr fun n _ => by simp [h]
  simp only [State.regionOf, hnone]
  simpa using hnone fun _ => true

/-- The banks, rows, fences and places are found through Tansy's maps, which a change of the memory block leaves. -/
@[simp] theorem State.modMem_physBank (s : State) (f : MemSt → MemSt) (b : Nat) :
    (s.modMem f).physBank b = s.physBank b := rfl
@[simp] theorem State.modMem_physRow (s : State) (f : MemSt → MemSt) (b r c : Nat) :
    (s.modMem f).physRow b r c = s.physRow b r c := rfl
@[simp] theorem State.modMem_phys (s : State) (f : MemSt → MemSt) (l : Loc) : (s.modMem f).phys l = s.phys l := rfl
@[simp] theorem State.modMem_fencedAt (s : State) (f : MemSt → MemSt) (l : Loc) :
    (s.modMem f).fencedAt l = s.fencedAt l := rfl

/-- The place of a word and its skew give the word back (R14). -/
theorem unplace_place {skew p : Nat} (hs : skew < 128) (hp : p < 4194304) : unplace skew (place skew p) = p := by
  simp only [unplace, place]
  omega

/-! ### Pointers (R41) -/

/-- The pointer that `l` steps from the region's start reach. -/
def ptrAt (sz l : Nat) : Ptr := { lap := decide (sz ≤ l), off := l % sz }

theorem lin_lt {sz : Nat} {p : Ptr} (h : p.off < sz) : lin sz p < 2 * sz := by
  obtain ⟨lap, off⟩ := p
  cases lap <;> simp [lin, bnat] at h ⊢ <;> omega

/-- Distance is the difference of the linear positions, around the two laps. -/
theorem dist_eq {sz : Nat} {a b : Ptr} (ha : a.off < sz) (hb : b.off < sz) :
    dist sz a b = if lin sz a ≤ lin sz b then lin sz b - lin sz a else lin sz b + 2 * sz - lin sz a := by
  have hla := lin_lt ha
  have hlb := lin_lt hb
  rw [dist, Nat.mod_eq_of_lt hla]
  split
  · rw [show lin sz b + 2 * sz - lin sz a = lin sz b - lin sz a + 2 * sz by omega, Nat.add_mod_right,
      Nat.mod_eq_of_lt (by omega)]
  · exact Nat.mod_eq_of_lt (by omega)

/-- Pointers at the same linear position are the same. -/
theorem eq_of_lin_eq {sz : Nat} {a b : Ptr} (ha : a.off < sz) (hb : b.off < sz) (h : lin sz a = lin sz b) : a = b := by
  obtain ⟨la, oa⟩ := a
  obtain ⟨lb, ob⟩ := b
  cases la <;> cases lb <;> simp [lin, bnat] at ha hb h ⊢ <;> omega

theorem step1_off_lt {sz : Nat} {p : Ptr} (hz : 0 < sz) (h : p.off < sz) : (step1 sz p).off < sz := by
  unfold step1
  split
  · exact hz
  · show p.off + 1 < sz
    omega

/-- A step moves on by one linear position, and from the last one of the two laps to the first. -/
theorem lin_step1 {sz : Nat} {p : Ptr} (h : p.off < sz) :
    lin sz (step1 sz p) = if lin sz p + 1 = 2 * sz then 0 else lin sz p + 1 := by
  obtain ⟨lap, off⟩ := p
  replace h : off < sz := h
  by_cases hend : off + 1 = sz <;> cases lap <;> simp only [step1, hend, lin, bnat] <;> grind

theorem ptrAt_off_lt {sz l : Nat} (hz : 0 < sz) : (ptrAt sz l).off < sz := Nat.mod_lt _ hz

theorem lin_ptrAt {sz l : Nat} (h : l < 2 * sz) : lin sz (ptrAt sz l) = l := by
  by_cases hl : l < sz
  · simp [lin, ptrAt, bnat, Nat.mod_eq_of_lt hl, Nat.not_le.mpr hl]
  · have hoff : l % sz = l - sz := by rw [Nat.mod_eq_sub_mod (by omega), Nat.mod_eq_of_lt (by omega)]
    simp only [lin, ptrAt, bnat, hoff, Nat.not_lt.mp hl, decide_true, if_true]
    omega

/-- A step from a linear position within the two laps. -/
theorem step1_ptrAt {sz l : Nat} (h : l < 2 * sz) : step1 sz (ptrAt sz l) = ptrAt sz ((l + 1) % (2 * sz)) := by
  have hz : 0 < sz := by omega
  refine eq_of_lin_eq (step1_off_lt hz (ptrAt_off_lt hz)) (ptrAt_off_lt hz) ?_
  rw [lin_step1 (ptrAt_off_lt hz), lin_ptrAt h, lin_ptrAt (Nat.mod_lt _ (by omega))]
  split
  next hl => rw [hl, Nat.mod_self]
  next hl => rw [Nat.mod_eq_of_lt (by omega)]

/-- Settles O16: the skew of a word is that of the one region that holds it; the rest is the arithmetic of places and
pointers. -/
theorem placesAndPointers : Obligations.PlacesAndPointers := by
  unfold Obligations.PlacesAndPointers
  refine ⟨?skewed, ?plain, ?inverse, ?step, ?steps, ?equal⟩
  case skewed =>
    intro p n s harea honly
    simp only [State.placeOf, State.skewOf, harea, State.regionOf_of_only honly]
    rfl
  case plain =>
    intro p s h
    have hskew : s.skewOf p = 0 := by
      rcases h with harea | hnone
      · simp [State.skewOf, harea]
      · simp [State.skewOf, State.regionOf_of_none hnone]
    simp [State.placeOf, hskew, place]
  case inverse =>
    intro skew p hs hp
    exact ⟨unplace_place hs hp, Nat.mod_lt _ (by omega), Nat.mod_lt _ (by omega), Nat.mod_lt _ (by omega)⟩
  case step =>
    intro sz p hz hp
    have hlt := lin_lt hp
    refine ⟨by simp [dist_eq hp hp], step1_off_lt hz hp, ?_⟩
    rw [dist_eq hp (step1_off_lt hz hp), lin_step1 hp]
    grind
  case steps =>
    intro sz p k hz hp
    show ptrAt sz ((lin sz p + (k + 1)) % (2 * sz)) = step1 sz (ptrAt sz ((lin sz p + k) % (2 * sz)))
    rw [step1_ptrAt (Nat.mod_lt _ (by omega)), Nat.mod_add_mod, Nat.add_assoc]
  case equal =>
    intro sz a b hz ha hb h
    have hla := lin_lt ha
    rw [dist_eq ha hb] at h
    refine eq_of_lin_eq ha hb ?_
    split at h <;> omega

/-! ### A bank with one request (R16) -/

/-- One waiting request is what its input presents to the side of the bank that it waits at, and no other side has any. -/
theorem MemSt.presented_single {m : MemSt} {w : Waiting} (h : m.waiting = [w]) (bank : Nat) (wr : Bool) :
    m.presented bank wr = if w.bank = bank ∧ w.wr = wr then [(w.age, w)] else [] := by
  have hrange : List.range 5 = [0, 1, 2, 3, 4] := rfl
  obtain ⟨b, side, ⟨input, src3, row, col, op⟩, age⟩ := w
  unfold MemSt.presented
  by_cases hside : b = bank ∧ side = wr
  · obtain ⟨rfl, rfl⟩ := hside
    fin_cases input <;> simp [h, hrange, leastBy, waitedLongest]
  · have hnone : ∀ i : Nat, (b == bank && side == wr && input.val == i) = false := by grind
    simp [h, hside, hnone, leastBy]

/-- A single request is picked at its own side of the bank. -/
theorem MemSt.pick_single {m : MemSt} {w : Waiting} (h : m.waiting = [w]) (bank : Nat) (wr : Bool) :
    (m.pick bank wr fun _ => true) = if w.bank = bank ∧ w.wr = wr then some (w.age, w) else none := by
  simp only [MemSt.pick, MemSt.presented_single h]
  split <;> simp [leastBy]

/-- A single read is granted. -/
theorem MemSt.pickRead_single {m : MemSt} {w : Waiting} (h : m.waiting = [w]) (hwr : w.wr = false) (hop : w.req.op = .rd) :
    m.pickRead w.bank = some w := by
  simp [MemSt.pickRead, MemSt.pick_single h, hwr, hop, atomicOp]

/-- In one MEMCLK a bank whose sides wait for nothing serves the one read that comes (R16). -/
theorem execBankGrant_read {bank : Fin 130} {q : BankReq} {s : State} (hup : s.blockUp 0 = true) (hop : q.op = .rd)
    (hwaiting : s.mem.waiting = []) (hholding : s.mem.holding = []) :
    execBankGrant bank [q] [] s =
      .next ((s.modMem fun m =>
        { m with waiting := [⟨s.physBank bank.val, false, q, 1⟩],
                 grants := m.grants.filter (·.bank != s.physBank bank.val) }).bankServe
        ⟨s.physBank bank.val, false, q, 1⟩) := by
  generalize hb : s.physBank bank.val = b
  have hread : ∀ m : MemSt, m.waiting = [⟨b, false, q, 1⟩] → m.pickRead b = some ⟨b, false, q, 1⟩ :=
    fun m h => MemSt.pickRead_single h rfl hop
  have hwrite : ∀ m : MemSt, m.waiting = [⟨b, false, q, 1⟩] → (m.pick b true fun _ => true) = none := by
    intro m h
    simp [MemSt.pick_single h]
  simp [execBankGrant, State.modMem, hup, hb, MemSt.ageBank, hwaiting, hholding, hread, hwrite, hop, atomicOp]

/-- A grant moves the queue, the pointer and the rotation, and touches no stored word and no record of grants. -/
@[simp] theorem MemSt.granted_frame (m : MemSt) (w : Waiting) :
    (m.granted w).cells = m.cells ∧ (m.granted w).errs = m.errs ∧ (m.granted w).grants = m.grants := ⟨rfl, rfl, rfl⟩

/-- The grant of the one request that waits leaves none waiting. -/
theorem MemSt.granted_single {m : MemSt} {w : Waiting} (h : m.waiting = [w]) : (m.granted w).waiting = [] := by
  simp [MemSt.granted, MemSt.setPointer, h]

/-- A read that is granted leaves the grant with the word that stands at its place, and nothing else at the bank. -/
theorem State.bankServe_read (s : State) {w : Waiting} (hop : w.req.op = .rd) (hwr : w.wr = false) :
    (s.bankServe w).mem = { s.mem.granted w with
      grants := s.mem.grants ++ [⟨w.bank, false, w.req.input.val,
        (readWordAt s.mem (wordNo w.bank (s.physRow w.bank w.req.row w.req.col) w.req.col)).data,
        (readWordAt s.mem (wordNo w.bank (s.physRow w.bank w.req.row w.req.col) w.req.col)).mask⟩] } := by
  simp [State.bankServe, State.bankDo, hop, hwr, atomicOp]

/-- Settles O12: the one request is picked at its side, and its grant carries the word that stands there. -/
theorem bankGrantsRead : Obligations.BankGrantsRead := by
  unfold Obligations.BankGrantsRead
  intro bank q s hup hop hwaiting hholding
  refine ⟨_, execBankGrant_read hup hop hwaiting hholding, ?_⟩
  beta_reduce
  rw [State.bankServe_read _ hop rfl, State.modMem_physRow]
  refine ⟨⟨_, rfl, rfl, rfl, rfl, ?_, ?_⟩, MemSt.granted_single rfl, rfl, rfl⟩
  · exact congrArg WordRd.data (readWordAt_of_stored (by rfl) (by rfl) _)
  · exact congrArg WordRd.mask (readWordAt_of_stored (by rfl) (by rfl) _)

/-! ### The reset state -/

/-- A lock slot stands at its number (R34). -/
theorem State.slot_eq (s : State) (k : Fin 64) : s.slot k.val = s.mem.locks[k.val] := by
  simp [State.slot, List.getD]

/-- Settles O3: the fields of the reset state, one by one. -/
theorem resetState : Obligations.ResetState := by
  unfold Obligations.ResetState
  have hchan : ∀ n : Fin 20, State.reset.chan n = defaultChan false n.val := by
    intro n
    simp [State.chan, State.reset, Vector.get_eq_getElem]
  have hslot : ∀ k : Fin 64, State.reset.slot k.val = ⟨.free, false⟩ := by
    intro k
    rw [State.slot_eq]
    exact Vector.getElem_replicate k.isLt
  refine ⟨fun n => ?_, fun x => by cases x <;> exact ⟨rfl, rfl, rfl, rfl⟩, rfl, rfl, hslot, rfl, rfl, rfl, rfl, rfl, rfl, rfl⟩
  rw [hchan]
  exact ⟨rfl, rfl, rfl, rfl⟩

/-- Settles O4: no memory of the reset state lists anything, and no queue of it holds anything. -/
theorem resetMemoriesCanonical : Obligations.ResetMemoriesCanonical := by
  unfold Obligations.ResetMemoriesCanonical
  obtain ⟨hcells, herrs⟩ := State.reset_canonical
  exact ⟨⟨hcells, herrs, rfl, rfl⟩, Nat.zero_le _, Nat.zero_le _⟩

end Sys2Proof.Machine
end

section
/-! A read-side command that a port takes and executes at once (R136, R139), and the lock unit (R34 to R36). -/

namespace Sys2Proof.Machine

open Sys2Proof

/-! ### A command of a port that has no other -/

/-- Clover messages and announcements leave which half of a pair drives the buses. -/
@[simp] theorem State.clover_drives (s : State) (type : Nat) (body : List Byte) :
    (s.clover type body).drives = s.drives := by
  have hsent : ∀ t : TwinSt, ∀ now, (t.noteSent type body now).own = t.own ∧
      (t.noteSent type body now).pairInUse = t.pairInUse ∧ (t.noteSent type body now).twinId = t.twinId := by
    intro t now
    unfold TwinSt.noteSent
    split <;> exact ⟨rfl, rfl, rfl⟩
  unfold State.clover
  split
  · split <;> simp [State.drives, State.chainHalf, hsent]
  · rfl

@[simp] theorem State.announce_drives (s : State) (type : Nat) (body : List Byte) :
    (s.announce type body).drives = s.drives := by
  unfold State.announce
  split
  · exact s.clover_drives type body
  · rfl

/-- No port of a device that shadows nothing keeps what it observes for the end of a snapshot (R216). -/
theorem State.joinHolds_of_not_shadows {s : State} (h : s.shadows = false) : s.joinHolds = false := by
  simp only [State.shadows, Bool.and_eq_false_iff, Bool.or_eq_false_iff] at h
  rcases h with h | ⟨-, h⟩ <;> simp [State.joinHolds, h]

/-- Command `k` of opcode `opc` has just been accepted at port `x` of `s`, where no other waits: `u` differs in what the port
records of it, and in the idle timers of the power controller. -/
structure Accepted (x : Port) (opc : BitVec 5) (c : RCmd) (op1 op2 : W32) (k : PCmd) (s u : State) : Prop where
  opcode : k.opc = opc
  cycle : k.c = c
  operand1 : k.op1 = op1
  operand2 : k.op2 = op2
  undecided : k.preset = none
  running : k.waiting = false
  queue : (u.port x).q = [k]
  returned : (u.port x).ret = (s.port x).ret
  expected : (u.port x).expCseq = c.cseq + 1
  channels : u.ch = s.ch
  memory : u.mem = s.mem
  tansy : u.tansy = s.tansy
  twin : u.twin = s.twin
  resets : u.rst = s.rst

/-- A command that passes the decoder and sets no time joins the accepted commands undecided (R136). -/
theorem State.accept_of_passed {u : State} {x : Port} {opc : BitVec 5} {c : RCmd} {op1 op2 : W32}
    (h17 : opc ≠ 17#5) (hpre : u.precheck x opc c op1 op2 = none) (hq : (u.port x).q = []) :
    ∃ k, Accepted x opc c op1 op2 k u (u.accept x opc c op1 op2) := by
  refine ⟨⟨opc, c, op1, op2, u.timeLatch, 0, false, false, none, none⟩, rfl, rfl, rfl, rfl, rfl, rfl, ?_, ?_, ?_, ?_, ?_, ?_,
    ?_, ?_⟩
  all_goals simp [State.accept, hpre, hq, h17, State.modPCnt, State.timeLatch, State.timeValid, State.blockUp]

/-- The decoder judges a command by the same state before and after its cycle has been noted. -/
theorem State.precheck_noted (s : State) (x : Port) (opc : BitVec 5) (c : RCmd) (op1 op2 : W32) :
    (s.noteRclk x).active.precheck x opc c op1 op2 = s.precheck x opc c op1 op2 := by
  have hq : ((s.noteRclk x).port x).q = (s.port x).q := by
    unfold State.noteRclk
    split
    · rfl
    · simp
  simp [State.precheck, PortSt.busy, hq, State.memOpen, State.setAllowed, State.sender, State.blockUp]

/-- What the decoder reads of a port as a command's cycle is noted. -/
theorem State.noteRclk_read (s : State) (x : Port) :
    ((s.noteRclk x).port x).q = (s.port x).q ∧ ((s.noteRclk x).port x).ret = (s.port x).ret ∧
    ((s.noteRclk x).port x).state = (s.port x).state ∧ ((s.noteRclk x).port x).expCseq = (s.port x).expCseq := by
  unfold State.noteRclk
  split
  · exact ⟨rfl, rfl, rfl, rfl⟩
  · simp

/-- The one command of a port may execute (R139). -/
theorem PortSt.next?_single {p : PortSt} {k : PCmd} (hq : p.q = [k]) (hrun : k.waiting = false) : p.next? = some k := by
  simp [PortSt.next?, hq, ready, PCmd.stalled, hrun]

theorem PortSt.next?_none {p : PortSt} (hq : p.q = []) : p.next? = none := by
  simp [PortSt.next?, hq]

/-- A command that is taken is accepted, executed, and followed by nothing else at once. -/
theorem State.command_taken {x : Port} {opc : BitVec 5} {c : RCmd} {op1 op2 : W32} {s : State}
    (h : CmdTaken x opc c op1 op2 s) (h15 : opc ≠ 15#5) (h17 : opc ≠ 17#5) :
    ∃ k u, Accepted x opc c op1 op2 k s u ∧ s.command x opc c op1 op2 = (u.execCmd x k).serviceN x 1 := by
  obtain ⟨hready, hhalf, hshadow, -, hq, hpar, hcseq, hpre⟩ := h
  obtain ⟨hnq, hnret, hnstate, hncseq⟩ := s.noteRclk_read x
  obtain ⟨k, hk⟩ := State.accept_of_passed (u := (s.noteRclk x).active) (x := x) (opc := opc) (c := c) (op1 := op1)
    (op2 := op2) h17 ((s.precheck_noted x opc c op1 op2).trans hpre) (by simpa [hnq] using hq)
  obtain ⟨hopc, hc, ho1, ho2, hundecided, hrun, hqueue, hret, hexp, hch, hmem, htansy, htwin, hrst⟩ := hk
  refine ⟨k, _, ⟨hopc, hc, ho1, ho2, hundecided, hrun, hqueue, by simp [hret, hnret], hexp, by simp [hch], by simp [hmem],
    by simp [htansy], by simp [htwin], by simp [hrst]⟩, ?_⟩
  have hshadow' : ((s.noteRclk x).active.accept x opc c op1 op2).shadows = false := by
    simpa [State.shadows, htwin] using hshadow
  simp [State.command, State.observed, State.joinHolds_of_not_shadows hshadow, hready, hhalf, hpar, h15, hnstate, hncseq,
    hcseq, State.service, hshadow', State.serviceN, hqueue, PortSt.next?_single hqueue hrun]

/-- What the end of an accepted command leaves of its port: its beat, and itself gone from the queue (R137, R143). -/
theorem State.finish_port {v : State} {x : Port} {k : PCmd} (b : Beat) (hdrives : v.drives = true)
    (hq : (v.port x).q = [k]) (hrun : k.waiting = false) (hdec : k.decoder = false) :
    ((v.finish x k b).port x).ret = (v.port x).ret ++ [b] ∧ ((v.finish x k b).port x).q = [] ∧
    ((v.finish x k b).port x).lastCompleted = k.c.cseq ∧
    ((v.finish x k b).port x).expCseq = (v.port x).expCseq := by
  have hgone : (v.port x).without k = [] := by simp [PortSt.without, hq]
  have hdrives' : ∀ f, (v.modPort x f).drives = true := by
    intro f
    simpa [State.drives, State.chainHalf] using hdrives
  have hlaunch : ∀ (w : State), w.drives = true → (w.launch x b).port x = { w.port x with ret := (w.port x).ret ++ [b] } := by
    intro w hw
    cases x <;> simp [State.launch, hw, State.modPort, State.port]
  simp only [State.finish, hrun, hdec, hdrives', Bool.not_true, Bool.or_self, Bool.false_eq_true, if_false,
    State.idleAnew_port]
  rw [hlaunch _ (by simpa [State.drives, State.chainHalf] using hdrives)]
  simp [hgone]

/-- A command whose execution ends in its beat `b`, with the port as it was, is answered by `b`. -/
theorem State.command_answered {x : Port} {opc : BitVec 5} {c : RCmd} {op1 op2 : W32} {s : State} {b : Beat}
    {post : State → Prop} (h : CmdTaken x opc c op1 op2 s) (h15 : opc ≠ 15#5) (h17 : opc ≠ 17#5)
    (hexec : ∀ k u, Accepted x opc c op1 op2 k s u →
      ∃ v : State, u.execCmd x k = v.finish x k b ∧ v.port x = u.port x ∧ v.drives = u.drives ∧ post (v.finish x k b)) :
    ∃ t, s.command x opc c op1 op2 = t ∧ Answers x c b s t ∧ post t := by
  obtain ⟨k, u, hu, hcommand⟩ := State.command_taken h h15 h17
  obtain ⟨v, hv, hport, hdrives, hpost⟩ := hexec k u hu
  have hdriven : v.drives = true := by
    obtain ⟨-, -, -, hs, -⟩ := h
    rw [hdrives, ← hs]
    simp only [State.drives, State.chainHalf, hu.twin]
  have hdec : k.decoder = false := by simpa [PCmd.decoder, hu.opcode] using h15
  obtain ⟨hret, hq, hlast, hexp⟩ := State.finish_port b hdriven (by rw [hport]; exact hu.queue) hu.running hdec
  refine ⟨v.finish x k b, ?_, ⟨?_, hq, ?_, ?_⟩, hpost⟩
  · rw [hcommand, hv, State.serviceN, PortSt.next?_none hq]
  · rw [hret, hport, hu.returned]
  · rw [hlast, hu.cycle]
  · rw [hexp, hport, hu.expected]

/-! ### The lock unit (R34) -/

theorem State.slot_setSlot_same (s : State) (k : Fin 64) (l : LockSlot) : (s.setSlot k.val l).slot k.val = l := by
  simp [State.slot_eq, State.setSlot]

theorem State.slot_setSlot_other (s : State) {j k : Fin 64} (l : LockSlot) (h : j ≠ k) :
    (s.setSlot k.val l).slot j.val = s.slot j.val := by
  have hval : k.val ≠ j.val := fun e => h (Fin.ext e.symm)
  simp [State.slot_eq, State.setSlot, hval]

/-- A slot is read from the memory block alone. -/
theorem State.slot_congr {s t : State} (h : t.mem = s.mem) (k : Nat) : t.slot k = s.slot k := by
  simp only [State.slot, h]

/-- An announcement of a lock or scratch operation reaches only Clover and the power controller (R211). -/
@[simp] theorem State.announceAtomic_frame (s : State) (a b c d e f g h : Nat) :
    (s.announceAtomic a b c d e f g h).ch = s.ch ∧ (s.announceAtomic a b c d e f g h).mem = s.mem ∧
    (s.announceAtomic a b c d e f g h).tansy = s.tansy ∧ (s.announceAtomic a b c d e f g h).od = s.od ∧
    (s.announceAtomic a b c d e f g h).yar = s.yar ∧ (s.announceAtomic a b c d e f g h).rst = s.rst ∧
    (s.announceAtomic a b c d e f g h).drives = s.drives := by
  simp [State.announceAtomic]

@[simp] theorem State.announceAtomic_port (s : State) (a b c d e f g h : Nat) (x : Port) :
    (s.announceAtomic a b c d e f g h).port x = s.port x := by
  simp [State.announceAtomic]

@[simp] theorem State.announceAtomic_slot (s : State) (a b c d e f g h k : Nat) :
    (s.announceAtomic a b c d e f g h).slot k = s.slot k :=
  State.slot_congr (by simp) k

/-- What an operation of the lock unit on slot `k` leaves of `s`: every stored word, every other slot, the ports, and what
else is not the lock unit's. -/
structure LockFrame (k : Fin 64) (s t : State) : Prop where
  port : ∀ x, t.port x = s.port x
  channels : t.ch = s.ch
  od : t.od = s.od
  yar : t.yar = s.yar
  resets : t.rst = s.rst
  drives : t.drives = s.drives
  others : ∀ j : Fin 64, j ≠ k → t.slot j.val = s.slot j.val
  cells : t.mem.cells = s.mem.cells

/-- A lock operation announced changes no more than the operation itself. -/
theorem LockFrame.announced {k : Fin 64} {s t : State} (h : LockFrame k s t) (a b c d e f g i : Nat) :
    LockFrame k s (t.announceAtomic a b c d e f g i) where
  port x := by simp [h.port]
  channels := by simp [h.channels]
  od := by simp [h.od]
  yar := by simp [h.yar]
  resets := by simp [h.resets]
  drives := by simp [h.drives]
  others j hj := by simp [h.others j hj]
  cells := by simp [h.cells]

theorem LockFrame.refl (k : Fin 64) (s : State) : LockFrame k s s :=
  ⟨fun _ => rfl, rfl, rfl, rfl, rfl, rfl, fun _ _ => rfl, rfl⟩

theorem LockFrame.setSlot (k : Fin 64) (s : State) (l : LockSlot) : LockFrame k s (s.setSlot k.val l) :=
  ⟨fun x => s.modMem_port _ x, rfl, rfl, rfl, rfl, rfl, fun _ hj => s.slot_setSlot_other l hj, rfl⟩

theorem LockFrame.setSlot_counted (k : Fin 64) (s : State) (l : LockSlot) (n : Nat → Nat) :
    LockFrame k s ((s.setSlot k.val l).modMem fun m => { m with lockBroken := n m.lockBroken }) := by
  obtain ⟨hport, hch, hod, hyar, hrst, hdrives, hothers, hcells⟩ := LockFrame.setSlot k s l
  exact ⟨fun x => (State.modMem_port _ _ x).trans (hport x), hch, hod, hyar, hrst, hdrives, hothers, hcells⟩

section

variable {s : State} {o : Owner} {k : Nat}

/-- LOCK of a free slot that is not marked gives it to the requester. -/
theorem State.lockSlot_free (h : s.slot k = ⟨.free, false⟩) : s.lockSlot o k = (rsOk, s.setSlot k ⟨o, false⟩) := by
  simp [State.lockSlot, h]

/-- LOCK of a marked slot gives it to the requester, says so, clears the mark and counts. -/
theorem State.lockSlot_marked (h : s.slot k = ⟨.free, true⟩) :
    s.lockSlot o k = (rsBroken, (s.setSlot k ⟨o, false⟩).modMem fun m => { m with lockBroken := inc32 m.lockBroken }) := by
  simp [State.lockSlot, h]

theorem State.lockSlot_own (ho : o ≠ .free) (h : (s.slot k).owner = o) : s.lockSlot o k = (rsOk, s) := by
  simp [State.lockSlot, h, ho]

theorem State.lockSlot_other (hfree : (s.slot k).owner ≠ .free) (h : (s.slot k).owner ≠ o) :
    s.lockSlot o k = (rsBusy, s) := by
  simp [State.lockSlot, h, hfree]

/-- UNLOCK by the owner frees the slot. -/
theorem State.unlockSlot_own (ho : o ≠ .free) (h : (s.slot k).owner = o) :
    s.unlockSlot o k = (rsOk, s.setSlot k ⟨.free, false⟩) := by
  simp [State.unlockSlot, h, ho]

theorem State.unlockSlot_free (h : (s.slot k).owner = .free) : s.unlockSlot o k = (rsOk, s) := by
  simp [State.unlockSlot, h]

theorem State.unlockSlot_other (hfree : (s.slot k).owner ≠ .free) (h : (s.slot k).owner ≠ o) :
    s.unlockSlot o k = (rsAccess, s) := by
  simp [State.unlockSlot, h, hfree]

end

/-- LOCK, or UNLOCK, of a requester is that of the slot, and its announcement. -/
theorem State.lockOp_of_slot {s t : State} {o : Owner} {opc k stat : Nat} (cseq : Nat)
    (h : (if opc = 12 then s.lockSlot o k else s.unlockSlot o k) = (stat, t)) :
    s.lockOp o opc k cseq =
      (stat, t.announceAtomic o.code opc k stat 0 (s.slot k).code (t.slot k).code cseq) := by
  simp only [State.lockOp, h]

/-- What an operation of the lock unit does, told of the operation on the slot: its result, the memory block, and what it
leaves. -/
theorem State.lockOp_done {s t : State} {o : Owner} {opc stat : Nat} {k : Fin 64} (cseq : Nat)
    (h : (if opc = 12 then s.lockSlot o k.val else s.unlockSlot o k.val) = (stat, t)) (hframe : LockFrame k s t) :
    ∃ u, s.lockOp o opc k.val cseq = (stat, u) ∧ u.mem = t.mem ∧ LockFrame k s u :=
  ⟨_, State.lockOp_of_slot cseq h, by simp, hframe.announced ..⟩

/-- The slot that a port's lock operation names (R34). -/
def slotNamed (c : RCmd) : Fin 64 := ⟨c.mod.toNat % 64, Nat.mod_lt _ (by omega)⟩

/-- A port's LOCK or UNLOCK ends with the result of the lock unit. -/
theorem State.execCmd_lockOp {x : Port} {opc : BitVec 5} {c : RCmd} {k : PCmd} {s u v : State} {stat : Nat}
    (hu : Accepted x opc c 0 0 k s u) (hopc : opc = 12#5 ∨ opc = 13#5) (hup : s.blockUp 0 = true)
    (hlock : u.lockOp (portOwner x) opc.toNat (slotNamed c).val c.cseq.toNat = (stat, v)) :
    u.execCmd x k = v.finish x k (statusBeat c.tag.toNat stat) := by
  have hup' : u.blockUp 0 = true := by simpa [State.blockUp, hu.resets] using hup
  have hkind : opc.toNat = 12 ∨ opc.toNat = 13 := hopc.imp (congrArg BitVec.toNat) (congrArg BitVec.toNat)
  rw [slotNamed] at hlock
  rcases hkind with hkind | hkind <;>
    simp [State.execCmd, hu.undecided, hu.opcode, hkind, hup', hu.cycle, hkind ▸ hlock, State.finishStat, PCmd.tag]

/-- A port's LOCK or UNLOCK that is taken is answered with the result of the lock unit, and does to the memory block what the
operation on the slot does. -/
theorem State.command_lockOp {x : Port} {opc : BitVec 5} {c : RCmd} {s : State} {stat : Nat} {m : MemSt}
    (h : CmdTaken x opc c 0 0 s) (hopc : opc = 12#5 ∨ opc = 13#5) (hup : s.blockUp 0 = true)
    (hlock : ∀ u : State, u.mem = s.mem → ∃ v, (if opc.toNat = 12 then u.lockSlot (portOwner x) (slotNamed c).val
      else u.unlockSlot (portOwner x) (slotNamed c).val) = (stat, v) ∧ LockFrame (slotNamed c) u v ∧ v.mem = m) :
    ∃ t, s.command x opc c 0 0 = t ∧ Answers x c (statusBeat c.tag.toNat stat) s t ∧ t.mem = m := by
  refine State.command_answered h (by rintro rfl; simp at hopc) (by rintro rfl; simp at hopc) fun k u hu => ?_
  obtain ⟨v, hslot, hframe, hmem⟩ := hlock u hu.memory
  obtain ⟨w, hop, hwmem, hwframe⟩ := State.lockOp_done c.cseq.toNat hslot hframe
  exact ⟨w, State.execCmd_lockOp hu hopc hup hop, hwframe.port x, hwframe.drives, by simp [hwmem, hmem]⟩

/-- While MEMCTL is held, a lock operation of a port is answered with ISOLATED and touches nothing (R290). -/
theorem State.command_lockOp_isolated {x : Port} {c : RCmd} {s : State} (h : CmdTaken x 12#5 c 0 0 s)
    (hdown : s.blockUp 0 = false) :
    ∃ t, s.command x 12#5 c 0 0 = t ∧ Answers x c (statusBeat c.tag.toNat rsIsolated) s t ∧ t.mem = s.mem := by
  refine State.command_answered h (by decide) (by decide) fun k u hu => ⟨u, ?_, rfl, rfl, by simp [hu.memory]⟩
  have hdown' : u.blockUp 0 = false := by simpa [State.blockUp, hu.resets] using hdown
  simp [State.execCmd, hu.undecided, hu.opcode, hdown', State.finishStat, PCmd.tag, hu.cycle]

/-- What the lock unit answers LOCK and UNLOCK of a requester, and the slot after it: the table of R34. -/
theorem State.lockOp_table {o : Owner} (ho : o ≠ .free) (k : Fin 64) (cseq : Nat) (s : State) :
    (s.slot k.val = ⟨.free, false⟩ →
      (s.lockOp o 12 k.val cseq).1 = 0 ∧ (s.lockOp o 12 k.val cseq).2.slot k.val = ⟨o, false⟩) ∧
    (s.slot k.val = ⟨.free, true⟩ →
      (s.lockOp o 12 k.val cseq).1 = 11 ∧ (s.lockOp o 12 k.val cseq).2.slot k.val = ⟨o, false⟩) ∧
    ((s.slot k.val).owner = o →
      (s.lockOp o 12 k.val cseq).1 = 0 ∧ (s.lockOp o 12 k.val cseq).2.mem = s.mem ∧
      (s.lockOp o 13 k.val cseq).1 = 0 ∧ (s.lockOp o 13 k.val cseq).2.slot k.val = ⟨.free, false⟩) ∧
    ((s.slot k.val).owner ≠ .free → (s.slot k.val).owner ≠ o →
      (s.lockOp o 12 k.val cseq).1 = 10 ∧ (s.lockOp o 12 k.val cseq).2.mem = s.mem ∧
      (s.lockOp o 13 k.val cseq).1 = 4 ∧ (s.lockOp o 13 k.val cseq).2.mem = s.mem) ∧
    ((s.slot k.val).owner = .free →
      (s.lockOp o 13 k.val cseq).1 = 0 ∧ (s.lockOp o 13 k.val cseq).2.mem = s.mem) := by
  have lock : ∀ {stat t}, s.lockSlot o k.val = (stat, t) → (s.lockOp o 12 k.val cseq).1 = stat ∧
      (s.lockOp o 12 k.val cseq).2.mem = t.mem ∧ (s.lockOp o 12 k.val cseq).2.slot k.val = t.slot k.val := by
    intro stat t h
    rw [State.lockOp_of_slot (opc := 12) cseq h]
    simp
  have unlock : ∀ {stat t}, s.unlockSlot o k.val = (stat, t) → (s.lockOp o 13 k.val cseq).1 = stat ∧
      (s.lockOp o 13 k.val cseq).2.mem = t.mem ∧ (s.lockOp o 13 k.val cseq).2.slot k.val = t.slot k.val := by
    intro stat t h
    rw [State.lockOp_of_slot (opc := 13) cseq h]
    simp
  refine ⟨fun h => ?free, fun h => ?marked, fun h => ?own, fun hfree h => ?other, fun h => ?unowned⟩
  case free =>
    obtain ⟨hstat, -, hslot⟩ := lock (State.lockSlot_free h)
    exact ⟨hstat, hslot.trans (s.slot_setSlot_same k _)⟩
  case marked =>
    obtain ⟨hstat, -, hslot⟩ := lock (State.lockSlot_marked h)
    exact ⟨hstat, hslot.trans (s.slot_setSlot_same k _)⟩
  case own =>
    obtain ⟨hl, hlmem, -⟩ := lock (State.lockSlot_own ho h)
    obtain ⟨hun, -, hslot⟩ := unlock (State.unlockSlot_own ho h)
    exact ⟨hl, hlmem, hun, hslot.trans (s.slot_setSlot_same k _)⟩
  case other =>
    obtain ⟨hl, hlmem, -⟩ := lock (State.lockSlot_other hfree h)
    obtain ⟨hun, hunmem, -⟩ := unlock (State.unlockSlot_other hfree h)
    exact ⟨hl, hlmem, hun, hunmem⟩
  case unowned =>
    obtain ⟨hun, hunmem, -⟩ := unlock (State.unlockSlot_free h)
    exact ⟨hun, hunmem⟩

theorem portOwner_ne_free (x : Port) : portOwner x ≠ .free := by
  cases x <;> decide

/-- Settles O18: a port's lock operation is answered with what the lock unit finds at the slot. -/
theorem lockAndUnlock : Obligations.LockAndUnlock := by
  unfold Obligations.LockAndUnlock
  refine ⟨?free, ?marked, ?busy, ?unlock, ?isolated, fun o k cseq s ho => State.lockOp_table ho k cseq s⟩
  case free =>
    intro x c s h hup hslot
    obtain ⟨t, ht, hans, hmem⟩ := State.command_lockOp (m := (s.setSlot (slotNamed c).val ⟨portOwner x, false⟩).mem) h (.inl rfl)
      hup fun u hu => ⟨_, State.lockSlot_free ((State.slot_congr hu _).trans hslot), LockFrame.setSlot _ _ _,
        by simp [State.setSlot, hu]⟩
    refine ⟨t, congrArg _ ht, ?_, hans, by simp [hmem, State.setSlot]⟩
    exact (State.slot_congr hmem _).trans (s.slot_setSlot_same (slotNamed c) _)
  case marked =>
    intro x c s h hup hslot
    obtain ⟨t, ht, hans, hmem⟩ := State.command_lockOp (m := ((s.setSlot (slotNamed c).val ⟨portOwner x, false⟩).modMem fun m =>
      { m with lockBroken := inc32 m.lockBroken }).mem) h (.inl rfl) hup fun u hu =>
        ⟨_, State.lockSlot_marked ((State.slot_congr hu _).trans hslot), LockFrame.setSlot_counted _ _ _ inc32,
          by simp [State.setSlot, hu]⟩
    refine ⟨t, congrArg _ ht, ?_, hans, by simp [hmem, State.setSlot]⟩
    exact (State.slot_congr hmem _).trans (s.slot_setSlot_same (slotNamed c) _)
  case busy =>
    intro x c s h hup hfree hother
    obtain ⟨t, ht, hans, hmem⟩ := State.command_lockOp (m := s.mem) h (.inl rfl) hup fun u hu =>
      have hslot : u.slot (slotNamed c).val = s.slot (c.mod.toNat % 64) := State.slot_congr hu _
      ⟨_, State.lockSlot_other (by rwa [hslot]) (by rwa [hslot]), LockFrame.refl _ _, hu⟩
    exact ⟨t, congrArg _ ht, hmem, hans⟩
  case unlock =>
    intro x c s h hup hown
    obtain ⟨t, ht, hans, hmem⟩ := State.command_lockOp (m := (s.setSlot (slotNamed c).val ⟨.free, false⟩).mem) h (.inr rfl) hup
      fun u hu => ⟨_, State.unlockSlot_own (portOwner_ne_free x) ((congrArg LockSlot.owner (State.slot_congr hu _)).trans hown),
        LockFrame.setSlot _ _ _, by simp [State.setSlot, hu]⟩
    exact ⟨t, congrArg _ ht, (State.slot_congr hmem _).trans (s.slot_setSlot_same (slotNamed c) _), hans⟩
  case isolated =>
    intro x c s h hdown
    obtain ⟨t, ht, hans, hmem⟩ := State.command_lockOp_isolated h hdown
    exact ⟨t, congrArg _ ht, hmem, hans⟩

end Sys2Proof.Machine
end

section
/-! Scratch operations (R29 to R31): what a unit's read-modify-write leaves of its word, of the array and of the maps, and the
answers of a port. -/

namespace Sys2Proof.Machine

open Sys2Proof

/-! ### Bytes replaced within a word -/

/-- The word `l` with `bs` in place of its bytes from `off` on. -/
def patched (l : List Byte) (off : Nat) (bs : List Byte) : List Byte := l.take off ++ bs ++ l.drop (off + bs.length)

section

variable {l bs : List Byte} {off : Nat}

theorem patched_length (h : off + bs.length ≤ l.length) : (patched l off bs).length = l.length := by
  simp only [patched, List.length_append, List.length_take, List.length_drop]
  omega

/-- The bytes put in stand where they were put. -/
theorem patched_same (h : off + bs.length ≤ l.length) : ((patched l off bs).drop off).take bs.length = bs := by
  have hoff : (l.take off).length = off := by simp only [List.length_take]; omega
  rw [patched, List.append_assoc, List.drop_append_of_le_length hoff.ge, List.drop_of_length_le hoff.le, List.nil_append,
    List.take_left]

/-- Bytes before or after those put in stand as they were. -/
theorem patched_other (h : off + bs.length ≤ l.length) {a n : Nat} (ha : a + n ≤ off ∨ off + bs.length ≤ a) :
    ((patched l off bs).drop a).take n = (l.drop a).take n := by
  apply List.ext_getElem?
  intro i
  by_cases hi : i < n
  · simp only [patched, List.getElem?_take_of_lt hi, List.getElem?_drop, List.getElem?_append, List.length_append,
      List.length_take, List.getElem?_take]
    grind
  · simp [hi]

end

theorem leNat_lt (bs : List Byte) : leNat bs < 256 ^ bs.length := by
  have h := leNat_leBytes (leNat bs) bs.length
  rw [leBytes_leNat] at h
  rw [h]
  exact Nat.mod_lt _ (by positivity)

/-- A field of a word is below the bound of its bytes. -/
theorem leField_lt (l : List Byte) (i len : Nat) : leField l i len < 256 ^ len :=
  (leNat_lt _).trans_le (Nat.pow_le_pow_right (by omega) (by simp))

/-! ### The maps of the array -/

/-- The place of every word and the maps of every place are in `t` as they are in `s`: regions, scratch areas, spare banks and
rows, and fences. -/
structure SameMaps (s t : State) : Prop where
  areas : t.mem.areas = s.mem.areas
  placeOf : ∀ p, t.placeOf p = s.placeOf p
  phys : ∀ l, t.phys l = s.phys l
  fencedAt : ∀ l, t.fencedAt l = s.fencedAt l

theorem SameMaps.trans {s t u : State} (h : SameMaps s t) (k : SameMaps t u) : SameMaps s u :=
  ⟨k.areas.trans h.areas, fun p => (k.placeOf p).trans (h.placeOf p), fun l => (k.phys l).trans (h.phys l),
    fun l => (k.fencedAt l).trans (h.fencedAt l)⟩

/-- The place of a word is found from the scratch areas, and from the configuration and state of the channels. -/
theorem State.placeOf_congr {s t : State} (hareas : t.mem.areas = s.mem.areas)
    (hch : ∀ n, (t.chan n).cfg = (s.chan n).cfg ∧ (t.chan n).state = (s.chan n).state) (p : Nat) :
    t.placeOf p = s.placeOf p := by
  have hblock : ∀ n k, (t.chan n).holdsBlock k = (s.chan n).holdsBlock k := fun n k => by
    simp only [Chan.holdsBlock, (hch n).1]
  have hon : ∀ n, (t.chan n).enabled = (s.chan n).enabled := fun n => by simp only [Chan.enabled, (hch n).2]
  have hregion : t.regionOf p = s.regionOf p := by simp only [State.regionOf, hblock, hon]
  have harea : t.inArea p = s.inArea p := by simp only [State.inArea, hareas]
  simp only [State.placeOf, State.skewOf, hregion, harea, (hch _).1]

/-- The physical word of a place is found from Tansy's maps. -/
theorem State.phys_congr {s t : State} (h0 : t.tansy.s0 = s.tansy.s0) (h1 : t.tansy.s1 = s.tansy.s1)
    (hrows : t.tansy.rowMaps = s.tansy.rowMaps) (l : Loc) : t.phys l = s.phys l := by
  simp only [State.phys, State.physBank, State.physRow, h0, h1, hrows]

/-- States that agree in channels and Tansy have the same maps where the scratch areas agree. -/
theorem SameMaps.of_eq {s t : State} (hch : t.ch = s.ch) (htansy : t.tansy = s.tansy) (hareas : t.mem.areas = s.mem.areas) :
    SameMaps s t where
  areas := hareas
  placeOf := State.placeOf_congr hareas fun n => by simp [State.chan, hch]
  phys := State.phys_congr (by rw [htansy]) (by rw [htansy]) (by rw [htansy])
  fencedAt l := by simp only [State.fencedAt, htansy]

/-- What counting a word read leaves as it was: the stored bytes and error masks, the maps and fences, the banks being copied, the
lock slots, and the configuration and state of every channel. -/
structure ReadFrame (s t : State) : Prop where
  cells : t.mem.cells = s.mem.cells
  errs : t.mem.errs = s.mem.errs
  locks : t.mem.locks = s.mem.locks
  copy : t.tansy.copy = s.tansy.copy
  fences : t.tansy.fences = s.tansy.fences
  channels : ∀ n, (t.chan n).cfg = (s.chan n).cfg ∧ (t.chan n).state = (s.chan n).state
  maps : SameMaps s t

theorem ReadFrame.refl (s : State) : ReadFrame s s :=
  ⟨rfl, rfl, rfl, rfl, rfl, fun _ => ⟨rfl, rfl⟩, SameMaps.of_eq rfl rfl rfl⟩

theorem ReadFrame.trans {s t u : State} (h : ReadFrame s t) (k : ReadFrame t u) : ReadFrame s u :=
  ⟨k.cells.trans h.cells, k.errs.trans h.errs, k.locks.trans h.locks, k.copy.trans h.copy, k.fences.trans h.fences,
    fun n => ⟨(k.channels n).1.trans (h.channels n).1, (k.channels n).2.trans (h.channels n).2⟩, h.maps.trans k.maps⟩

/-- A change of the memory block that is to its counters and queues. -/
theorem ReadFrame.modMem (s : State) {f : MemSt → MemSt} (hcells : (f s.mem).cells = s.mem.cells)
    (herrs : (f s.mem).errs = s.mem.errs) (hlocks : (f s.mem).locks = s.mem.locks)
    (hareas : (f s.mem).areas = s.mem.areas) : ReadFrame s (s.modMem f) :=
  ⟨hcells, herrs, hlocks, rfl, rfl, fun _ => ⟨rfl, rfl⟩, SameMaps.of_eq rfl rfl hareas⟩

theorem ReadFrame.modCnt (s : State) (n : Fin 20) (f : ChCounters → ChCounters) : ReadFrame s (s.modCnt n f) := by
  have hch : ∀ m, ((s.modCnt n f).chan m).cfg = (s.chan m).cfg ∧ ((s.modCnt n f).chan m).state = (s.chan m).state := by
    intro m
    rw [State.modCnt_chan]
    split
    next h => exact h ▸ ⟨rfl, rfl⟩
    · exact ⟨rfl, rfl⟩
  exact ⟨rfl, rfl, rfl, rfl, rfl, hch, rfl, State.placeOf_congr rfl hch, State.phys_congr rfl rfl rfl, fun l => rfl⟩

/-- Queueing a row for repair touches no map. -/
theorem ReadFrame.queueRepair (s : State) (b row col : Nat) : ReadFrame s (s.queueRepair b row col) := by
  have hmaps : (s.queueRepair b row col).tansy.s0 = s.tansy.s0 ∧ (s.queueRepair b row col).tansy.s1 = s.tansy.s1 ∧
      (s.queueRepair b row col).tansy.rowMaps = s.tansy.rowMaps ∧
      (s.queueRepair b row col).tansy.fences = s.tansy.fences ∧
      (s.queueRepair b row col).tansy.copy = s.tansy.copy := by
    simp only [State.queueRepair, State.modTansy_tansy]
    split
    · exact ⟨rfl, rfl, rfl, rfl, rfl⟩
    · split <;> exact ⟨rfl, rfl, rfl, rfl, rfl⟩
  obtain ⟨h0, h1, hrows, hfences, hcopy⟩ := hmaps
  exact ⟨rfl, rfl, rfl, hcopy, hfences, fun n => ⟨rfl, rfl⟩, rfl, State.placeOf_congr rfl fun n => ⟨rfl, rfl⟩,
    State.phys_congr h0 h1 hrows, fun l => by simp only [State.fencedAt, hfences]⟩

/-- What ECC notes of a word read (R19). -/
theorem ReadFrame.noteRead (s : State) (l : Loc) (p : Nat) (r : WordRd) : ReadFrame s (s.noteRead l p r) := by
  unfold State.noteRead
  split
  · exact (ReadFrame.modMem s rfl rfl rfl rfl).trans (ReadFrame.queueRepair _ _ _ _)
  · split
    · exact ReadFrame.modMem s rfl rfl rfl rfl
    · exact ReadFrame.refl s

/-- Counting a word read (R19). -/
theorem ReadFrame.countRead (s : State) (l : Loc) (p : Nat) (r : WordRd) : ReadFrame s (s.countRead l p r) := by
  refine (ReadFrame.noteRead s l p r).trans ?_
  unfold State.countRead
  dsimp only
  split
  · exact ReadFrame.modMem _ rfl rfl rfl rfl
  · split
    · split
      · exact (ReadFrame.modMem _ rfl rfl rfl rfl).trans (ReadFrame.modCnt _ _ _)
      · exact ReadFrame.modMem _ rfl rfl rfl rfl
    · exact ReadFrame.refl _

/-! ### A word changed in part (R20) -/

/-- A word changed in part: it is read and counted, and its lanes are written back with `data`, the uncorrectable ones apart. -/
def State.patchWord (s : State) (l : Loc) (p : Nat) (data : List Byte) : State :=
  (s.countRead l p (readWordAt s.mem (s.phys l))).modMem fun m =>
    rewriteLanes m (s.phys l) (readWordAt s.mem (s.phys l)) data

@[simp] theorem State.patchWord_frame (s : State) (l : Loc) (p : Nat) (data : List Byte) :
    (s.patchWord l p data).link = s.link ∧ (s.patchWord l p data).arq = s.arq ∧
    (s.patchWord l p data).time = s.time ∧ (s.patchWord l p data).twin = s.twin ∧
    (s.patchWord l p data).od = s.od ∧ (s.patchWord l p data).yar = s.yar ∧ (s.patchWord l p data).upd = s.upd ∧
    (s.patchWord l p data).rst = s.rst ∧ (s.patchWord l p data).pwr = s.pwr := by
  simp [State.patchWord]

@[simp] theorem State.patchWord_port (s : State) (l : Loc) (p : Nat) (data : List Byte) (x : Port) :
    (s.patchWord l p data).port x = s.port x := by
  simp [State.patchWord]

/-- A read-modify-write touches no scratch area. -/
theorem rewriteLanes_areas (m : MemSt) (w : Nat) (r : WordRd) (data : List Byte) :
    (rewriteLanes m w r data).areas = m.areas := by
  have step : ∀ (k : MemSt) (i : Nat), k.areas = m.areas →
      (if r.lane i = .uncorr then k else writeLane k w i (data.drop (8 * i))).areas = m.areas := by
    intro k i hk
    split <;> exact hk
  exact foldl_keeps (P := fun k => k.areas = m.areas) step [0, 1, 2, 3] rfl

theorem State.patchWord_maps (s : State) (l : Loc) (p : Nat) (data : List Byte) : SameMaps s (s.patchWord l p data) :=
  (ReadFrame.countRead s l p _).maps.trans (SameMaps.of_eq rfl rfl (rewriteLanes_areas _ _ _ _))

/-- A word changed in part, with the bytes of its uncorrectable lanes kept: it holds the bytes given, its lanes are readable as
they were, and every other word reads as before. -/
theorem State.patchWord_stores {s : State} (hcanon : s.mem.canonical) (l : Loc) (p : Nat) {data : List Byte}
    (hd : data.length = 32)
    (hkeep : ∀ j < 4, (readWordAt s.mem (s.phys l)).lane j = .uncorr →
      (data.drop (8 * j)).take 8 = ((readWordAt s.mem (s.phys l)).data.drop (8 * j)).take 8) :
    (readWordAt (s.patchWord l p data).mem (s.phys l)).data = data ∧
    (∀ v, v ≠ s.phys l → readWordAt (s.patchWord l p data).mem v = readWordAt s.mem v) ∧
    ∀ j < 4, (readWordAt (s.patchWord l p data).mem (s.phys l)).lane j = .uncorr ↔
      (readWordAt s.mem (s.phys l)).lane j = .uncorr := by
  set u := s.countRead l p (readWordAt s.mem (s.phys l)) with hu
  have hframe : ReadFrame s u := ReadFrame.countRead s l p _
  have hread : ∀ w, readWordAt s.mem w = readWordAt u.mem w := readWordAt_of_stored hframe.cells.symm hframe.errs.symm
  have hcanon' : u.mem.canonical := State.countRead_canonical hcanon _ _ _
  have hmem : (s.patchWord l p data).mem = rewriteLanes u.mem (s.phys l) (readWordAt u.mem (s.phys l)) data := by
    rw [← hread]
    rfl
  simp only [hread] at hkeep ⊢
  rw [hmem]
  exact ⟨readWordAt_rewriteLanes_data hcanon' _ hd hkeep, fun v hv => readWordAt_rewriteLanes_other _ _ _ hv,
    fun j hj => readWordAt_rewriteLanes_lane hcanon' _ hd hj⟩

/-- Bytes put in place of others of a word, all in lanes that are readable, leave the uncorrectable lanes' bytes. -/
theorem patched_keeps {r : WordRd} {off : Nat} {bs : List Byte} (hr : r.data.length = 32) (hfit : off + bs.length ≤ 32)
    (hlanes : ∀ j < 4, r.lane j = .uncorr → 8 * j + 8 ≤ off ∨ off + bs.length ≤ 8 * j) (j : Nat) (hj : j < 4)
    (hun : r.lane j = .uncorr) :
    ((patched r.data off bs).drop (8 * j)).take 8 = (r.data.drop (8 * j)).take 8 :=
  patched_other (by omega) (hlanes j hj hun)

/-! ### The scratch unit (R29 to R31) -/

/-- The place of the word that holds a scratch unit. -/
def State.unitPlace (s : State) (area unit : Nat) : Loc := s.placeOf (s.scratchWord area unit)

/-- The word that holds a scratch unit. -/
def State.unitWord (s : State) (area unit : Nat) : WordRd := readWordAt s.mem (s.phys (s.unitPlace area unit))

/-- A word with the value `n` in place of a unit. -/
def withUnit (d : List Byte) (unit n : Nat) : List Byte := patched d (4 * (unit % 8)) (leBytes n 4)

section

variable {m : Fin 6} {opc area unit v : Nat} {write : Bool} {s : State}

/-- SRD of a unit that may be reached returns it, and the word is counted as read. -/
theorem State.scratchOp_read (h : ScratchReady m false area unit s) (harea : area < 4) :
    s.scratchOp m 8 area unit v =
      ({ stat := rsOk, value := s.scratchUnit area unit, prior := s.scratchUnit area unit, new := s.scratchUnit area unit },
        false, s.countRead (s.unitPlace area unit) (s.scratchWord area unit) (s.unitWord area unit)) := by
  obtain ⟨-, hon, hunit, hallowed, hfence, hlane⟩ := h
  simp only [State.scratchWord] at hallowed hfence hlane
  have hbounds : ¬(4 ≤ area ∨ areaOn (s.mem.areas.toList.getD area 0) = false ∨
      areaSize (s.mem.areas.toList.getD area 0) * 1024 ≤ unit) := by
    simp only [hon, Bool.true_eq_false, false_or]
    omega
  simp only [State.scratchOp, if_neg hbounds, bne_self_eq_false, hallowed, hfence, hlane, Bool.not_true, Bool.false_eq_true,
    if_false, if_true]
  rfl

/-- SWR, SSET and SCLR of a unit that may be reached change it in its word. -/
theorem State.scratchOp_store (h : ScratchReady m true area unit s) (harea : area < 4) (hopc : opc ≠ 8)
    (hcopy : s.tansy.copy = none) :
    s.scratchOp m opc area unit v =
      ({ stat := rsOk, value := if opc = 9 then 0 else s.scratchUnit area unit, prior := s.scratchUnit area unit,
         new := scrApply opc (s.scratchUnit area unit) v }, false,
        s.patchWord (s.unitPlace area unit) (s.scratchWord area unit)
          (withUnit (s.unitWord area unit).data unit (scrApply opc (s.scratchUnit area unit) v))) := by
  obtain ⟨-, hon, hunit, hallowed, hfence, hlane⟩ := h
  simp only [State.scratchWord] at hallowed hfence hlane
  have hbounds : ¬(4 ≤ area ∨ areaOn (s.mem.areas.toList.getD area 0) = false ∨
      areaSize (s.mem.areas.toList.getD area 0) * 1024 ≤ unit) := by
    simp only [hon, Bool.true_eq_false, false_or]
    omega
  have hwrite : (opc != 8) = true := by simpa using hopc
  have hframe := fun l p r => ReadFrame.countRead s l p r
  simp only [State.scratchOp, if_neg hbounds, hwrite, hallowed, hfence, hlane, Bool.not_true, Bool.false_eq_true,
    if_false, hopc, (hframe _ _ _).maps.phys]
  rw [State.mirrorWrite_of_no_copy (by simpa using ((hframe _ _ _).copy.trans hcopy))]
  simp only [State.patchWord, withUnit, patched, leBytes_length]
  rfl

/-- In a disabled area, and beyond the end of an enabled one, a scratch operation is refused and touches nothing (R30). -/
theorem State.scratchOp_refused (h : areaOn (s.mem.areas.toList.getD area 0) = false ∨
    areaSize (s.mem.areas.toList.getD area 0) * 1024 ≤ unit) : s.scratchOp m opc area unit v = (scrAccess, false, s) := by
  simp only [State.scratchOp, if_pos (Or.inr h)]

end

/-! ### What a scratch operation stores -/

/-- Channels, array and Tansy are the same in both states. -/
structure SameArray (s t : State) : Prop where
  channels : t.ch = s.ch
  memory : t.mem = s.mem
  tansy : t.tansy = s.tansy

theorem SameArray.symm {s t : State} (h : SameArray s t) : SameArray t s :=
  ⟨h.channels.symm, h.memory.symm, h.tansy.symm⟩

theorem SameArray.maps {s t : State} (h : SameArray s t) : SameMaps s t :=
  SameMaps.of_eq h.channels h.tansy (by rw [h.memory])

theorem SameMaps.scratchWord {s t : State} (h : SameMaps s t) (area unit : Nat) :
    t.scratchWord area unit = s.scratchWord area unit := by
  simp only [State.scratchWord, h.areas]

theorem SameMaps.unitPhys {s t : State} (h : SameMaps s t) (area unit : Nat) :
    t.phys (t.unitPlace area unit) = s.phys (s.unitPlace area unit) := by
  simp only [State.unitPlace, h.scratchWord, h.placeOf, h.phys]

theorem SameArray.scratchUnit {s t : State} (h : SameArray s t) (area unit : Nat) :
    t.scratchUnit area unit = s.scratchUnit area unit := by
  show leField (readWordAt t.mem (t.phys (t.unitPlace area unit))).data _ _ = _
  rw [h.maps.unitPhys, h.memory]
  rfl

theorem SameArray.scratchReady {s t : State} (h : SameArray s t) (hrst : t.rst = s.rst) {m : Fin 6} {write : Bool}
    {area unit : Nat} (hs : ScratchReady m write area unit s) : ScratchReady m write area unit t := by
  obtain ⟨hup, hon, hunit, hallowed, hfence, hlane⟩ := hs
  have hword := h.maps.scratchWord area unit
  have hphys := h.maps.unitPhys area unit
  refine ⟨by simpa [State.blockUp, hrst] using hup, by rwa [h.memory], by rwa [h.memory],
    by simpa only [hword, State.allowed, h.memory] using hallowed, ?_, ?_⟩
  · rw [h.maps.fencedAt, hword, h.maps.placeOf]
    exact hfence
  · show (readWordAt t.mem (t.phys (t.unitPlace area unit))).lane _ ≠ _
    rw [hphys, h.memory]
    exact hlane

/-- The unit of `t` holds `n`; every other unit of its word and every other word reads as in `s`, and a lane is readable as it
was (R20, R31). -/
structure UnitStored (area unit n : Nat) (s t : State) : Prop where
  holds : t.scratchUnit area unit = n
  words : ∀ v, v ≠ s.phys (s.unitPlace area unit) → readWordAt t.mem v = readWordAt s.mem v
  units : ∀ a, a < 8 → a ≠ unit % 8 →
    leField (readWordAt t.mem (s.phys (s.unitPlace area unit))).data (4 * a) 4 =
      leField (readWordAt s.mem (s.phys (s.unitPlace area unit))).data (4 * a) 4
  lanes : ∀ i, i < 4 → ((readWordAt t.mem (s.phys (s.unitPlace area unit))).lane i = .uncorr ↔
    (readWordAt s.mem (s.phys (s.unitPlace area unit))).lane i = .uncorr)

theorem UnitStored.congr {area unit n : Nat} {s s' t t' : State} (h : UnitStored area unit n s t) (hs : SameArray s s')
    (ht : SameArray t t') : UnitStored area unit n s' t' := by
  obtain ⟨hunit, hwords, hunits, hlanes⟩ := h
  refine ⟨(ht.scratchUnit _ _).trans hunit, ?_, ?_, ?_⟩ <;> rw [hs.maps.unitPhys, ht.memory, hs.memory] <;> assumption

/-- A unit changed in a word whose lane at the unit is readable. -/
theorem State.patchWord_unit {area unit n : Nat} {s : State} (hcanon : s.mem.canonical) (hn : n < 2 ^ 32)
    (hlane : (s.unitWord area unit).lane (unit % 8 / 2) ≠ .uncorr) :
    UnitStored area unit n s (s.patchWord (s.unitPlace area unit) (s.scratchWord area unit)
      (withUnit (s.unitWord area unit).data unit n)) := by
  have hlen : (s.unitWord area unit).data.length = 32 := readWordAt_length _ _
  have hfit : 4 * (unit % 8) + (leBytes n 4).length ≤ (s.unitWord area unit).data.length := by
    rw [hlen, leBytes_length]
    omega
  obtain ⟨hdata, hwords, hlanes⟩ := State.patchWord_stores hcanon (s.unitPlace area unit) (s.scratchWord area unit)
    (data := withUnit (s.unitWord area unit).data unit n) ((patched_length hfit).trans hlen)
    (patched_keeps hlen (by omega) fun j hj hun => by
      have hne : j ≠ unit % 8 / 2 := fun e => hlane (e ▸ hun)
      rw [leBytes_length]
      omega)
  refine ⟨?_, hwords, fun a ha hne => ?_, hlanes⟩
  · show leField (readWordAt _ ((s.patchWord _ _ _).phys ((s.patchWord _ _ _).unitPlace area unit))).data _ _ = n
    rw [(State.patchWord_maps s _ _ _).unitPhys, hdata, leField, withUnit]
    have hsame := patched_same hfit
    rw [leBytes_length] at hsame
    rw [hsame, leNat_leBytes, Nat.mod_eq_of_lt (hn.trans_eq (by norm_num))]
  · rw [hdata, leField, leField, withUnit, patched_other hfit (by rw [leBytes_length]; omega)]
    rfl

/-- What a scratch operation makes of a unit stays within its 32 bits. -/
theorem scrApply_lt {opc unit v : Nat} (hunit : unit < 2 ^ 32) (hv : v < 2 ^ 32) : scrApply opc unit v < 2 ^ 32 := by
  unfold scrApply
  split
  · exact hv
  · split
    · exact Nat.or_lt_two_pow hunit hv
    · split
      · exact Nat.and_le_left.trans_lt hunit
      · exact hunit

theorem State.scratchUnit_lt (s : State) (area unit : Nat) : s.scratchUnit area unit < 2 ^ 32 :=
  leField_lt _ _ _

/-- SWR, SSET and SCLR of a unit that may be reached store what the operation makes of it. -/
theorem State.scratchOp_stores {m : Fin 6} {opc area unit v : Nat} {s : State} (h : ScratchReady m true area unit s)
    (harea : area < 4) (hopc : opc ≠ 8) (hcopy : s.tansy.copy = none) (hcanon : s.mem.canonical) (hv : v < 2 ^ 32) :
    UnitStored area unit (scrApply opc (s.scratchUnit area unit) v) s (s.scratchOp m opc area unit v).2.2 := by
  rw [State.scratchOp_store h harea hopc hcopy]
  obtain ⟨-, -, -, -, -, hlane⟩ := h
  exact State.patchWord_unit hcanon (scrApply_lt (s.scratchUnit_lt area unit) hv) hlane

/-! ### Scratch operations of a port -/

/-- The beat that answers a scratch operation: the status alone for a refusal and for SWR, otherwise with the value (R31). -/
def scratchBeat (c : RCmd) (opc : Nat) (r : ScrRes) : Beat :=
  if r.stat = rsAccess ∨ opc = 9 then statusBeat c.tag.toNat r.stat else valueBeat c.tag.toNat r.stat r.value

/-- A port's scratch operation ends with what the scratch unit answers, after its announcement. -/
theorem State.execCmd_scratch {x : Port} {opc : BitVec 5} {c : RCmd} {op1 op2 : W32} {k : PCmd} {s u v : State} {r : ScrRes}
    {refused : Bool} (hu : Accepted x opc c op1 op2 k s u) (hlow : 8 ≤ opc.toNat) (hhigh : opc.toNat ≤ 11)
    (hup : s.blockUp 0 = true)
    (hop : u.scratchOp (portMaster x) opc.toNat (c.mod.toNat % 4) op1.toNat op2.toNat = (r, refused, v)) :
    ∃ w, u.execCmd x k = w.finish x k (scratchBeat c opc.toNat r) ∧ w.port x = v.port x ∧ w.drives = v.drives ∧
      SameArray v w := by
  have hup' : u.blockUp 0 = true := by simpa [State.blockUp, hu.resets] using hup
  refine ⟨if opc.toNat = 8 then v else v.announceAtomic (portOwner x).code opc.toNat (c.mod.toNat % 4) r.stat op1.toNat
    r.prior r.new c.cseq.toNat, ?_, ?_, ?_, ?_⟩
  · simp only [State.execCmd, hu.undecided, hu.opcode, hu.cycle, hu.operand1, hu.operand2, State.scratchAnnounced, hop, hup',
      PCmd.tag, State.finishStat, scratchBeat, Bool.true_eq_false, and_false, if_false, hhigh, if_true,
      show ¬opc.toNat = 0 by omega, show ¬opc.toNat ≤ 3 by omega, show ¬opc.toNat ≤ 7 by omega]
    split <;> rfl
  · split <;> simp
  · split <;> simp
  · split
    · exact ⟨rfl, rfl, rfl⟩
    · exact ⟨by simp, by simp, by simp⟩

/-- A port's scratch operation that is taken is answered with what the scratch unit answers, and leaves the array as the unit
leaves it. -/
theorem State.command_scratch {x : Port} {opc : BitVec 5} {c : RCmd} {op1 op2 : W32} {s : State} {r : ScrRes}
    {post : State → Prop} (h : CmdTaken x opc c op1 op2 s) (hlow : 8 ≤ opc.toNat) (hhigh : opc.toNat ≤ 11)
    (hup : s.blockUp 0 = true)
    (hop : ∀ u, SameArray s u → u.rst = s.rst → ∃ refused v,
      u.scratchOp (portMaster x) opc.toNat (c.mod.toNat % 4) op1.toNat op2.toNat = (r, refused, v) ∧
        v.port x = u.port x ∧ v.drives = u.drives ∧ ∀ w, SameArray v w → post w) :
    ∃ t, s.command x opc c op1 op2 = t ∧ Answers x c (scratchBeat c opc.toNat r) s t ∧ post t := by
  refine State.command_answered h (by rintro rfl; simp at hhigh) (by rintro rfl; simp at hhigh) fun k u hu => ?_
  obtain ⟨refused, v, hscratch, hport, hdrives, hpost⟩ := hop u ⟨hu.channels, hu.memory, hu.tansy⟩ hu.resets
  obtain ⟨w, hw, hwport, hwdrives, hsame⟩ := State.execCmd_scratch hu hlow hhigh hup hscratch
  refine ⟨w, hw, hwport.trans hport, hwdrives.trans hdrives, hpost _ ⟨?_, ?_, ?_⟩⟩
  · simp [hsame.channels]
  · simp [hsame.memory]
  · simp [hsame.tansy]

/-- The port's SWR, SSET and SCLR of a unit that may be reached. -/
theorem State.command_scratch_store {x : Port} {opc : BitVec 5} {c : RCmd} {op1 op2 : W32} {s : State}
    (h : CmdTaken x opc c op1 op2 s) (hlow : 9 ≤ opc.toNat) (hhigh : opc.toNat ≤ 11)
    (hready : ScratchReady (portMaster x) true (c.mod.toNat % 4) op1.toNat s) (hcopy : s.tansy.copy = none)
    (hcanon : MemoriesCanonical s) :
    ∃ t, s.command x opc c op1 op2 = t ∧
      Answers x c (if opc.toNat = 9 then statusBeat c.tag.toNat 0
        else valueBeat c.tag.toNat 0 (s.scratchUnit (c.mod.toNat % 4) op1.toNat)) s t ∧
      UnitStored (c.mod.toNat % 4) op1.toNat
        (scrApply opc.toNat (s.scratchUnit (c.mod.toNat % 4) op1.toNat) op2.toNat) s t := by
  obtain ⟨hup, -⟩ := id hready
  obtain ⟨hcells, herrs, -⟩ := hcanon
  have harea : c.mod.toNat % 4 < 4 := Nat.mod_lt _ (by omega)
  set r : ScrRes := { stat := rsOk, value := if opc.toNat = 9 then 0 else s.scratchUnit (c.mod.toNat % 4) op1.toNat,
                      prior := s.scratchUnit (c.mod.toNat % 4) op1.toNat,
                      new := scrApply opc.toNat (s.scratchUnit (c.mod.toNat % 4) op1.toNat) op2.toNat } with hr
  have hbeat : scratchBeat c opc.toNat r = if opc.toNat = 9 then statusBeat c.tag.toNat 0
      else valueBeat c.tag.toNat 0 (s.scratchUnit (c.mod.toNat % 4) op1.toNat) := by
    by_cases h9 : opc.toNat = 9 <;> simp [scratchBeat, hr, h9, rsOk, rsAccess]
  rw [← hbeat]
  refine State.command_scratch h (by omega) hhigh hup fun u hu hrst => ?_
  have hop := State.scratchOp_store (v := op2.toNat) (hu.scratchReady hrst hready) harea
    (show opc.toNat ≠ 8 by omega) (by rw [hu.tansy, hcopy])
  have hstored := State.scratchOp_stores (v := op2.toNat) (hu.scratchReady hrst hready) harea
    (show opc.toNat ≠ 8 by omega) (by rw [hu.tansy, hcopy]) (by rw [hu.memory]; exact ⟨hcells, herrs⟩) op2.isLt
  rw [hop, hu.scratchUnit] at hstored
  rw [hu.scratchUnit] at hop
  exact ⟨_, _, hop, by simp, by simp [State.drives, State.chainHalf], fun w hw => hstored.congr hu.symm hw⟩

/-- The port's SRD of a unit that may be reached. -/
theorem State.command_scratch_read {x : Port} {c : RCmd} {op1 : W32} {s : State} (h : CmdTaken x 8#5 c op1 0 s)
    (hready : ScratchReady (portMaster x) false (c.mod.toNat % 4) op1.toNat s) :
    ∃ t, s.command x 8#5 c op1 0 = t ∧
      Answers x c (valueBeat c.tag.toNat 0 (s.scratchUnit (c.mod.toNat % 4) op1.toNat)) s t ∧
      t.mem.cells = s.mem.cells ∧ t.mem.errs = s.mem.errs := by
  obtain ⟨hup, -⟩ := id hready
  refine State.command_scratch (r := ⟨rsOk, s.scratchUnit (c.mod.toNat % 4) op1.toNat,
    s.scratchUnit (c.mod.toNat % 4) op1.toNat, s.scratchUnit (c.mod.toNat % 4) op1.toNat⟩) h (by decide) (by decide) hup
    fun u hu hrst => ?_
  have hop := State.scratchOp_read (v := (0 : W32).toNat) (hu.scratchReady hrst hready) (Nat.mod_lt _ (by omega))
  rw [hu.scratchUnit] at hop
  refine ⟨_, _, hop, by simp, by simp [State.drives, State.chainHalf], fun w hw => ?_⟩
  have hframe := ReadFrame.countRead u (u.unitPlace (c.mod.toNat % 4) op1.toNat) (u.scratchWord (c.mod.toNat % 4) op1.toNat)
    (u.unitWord (c.mod.toNat % 4) op1.toNat)
  rw [hw.memory, hframe.cells, hframe.errs, hu.memory]
  exact ⟨rfl, rfl⟩

/-- A port's scratch operation outside an enabled area is refused with ACCESS and touches nothing (R30). -/
theorem State.command_scratch_refused {x : Port} {opc : BitVec 5} {c : RCmd} {op1 op2 : W32} {s : State}
    (h : CmdTaken x opc c op1 op2 s) (hlow : 8 ≤ opc.toNat) (hhigh : opc.toNat ≤ 11) (hup : s.blockUp 0 = true)
    (harea : areaOn (s.mem.areas.toList.getD (c.mod.toNat % 4) 0) = false ∨
      areaSize (s.mem.areas.toList.getD (c.mod.toNat % 4) 0) * 1024 ≤ op1.toNat) :
    ∃ t, s.command x opc c op1 op2 = t ∧ Answers x c (statusBeat c.tag.toNat 4) s t ∧ t.mem.cells = s.mem.cells ∧
      t.mem.errs = s.mem.errs := by
  refine State.command_scratch (r := scrAccess) h hlow hhigh hup fun u hu hrst => ?_
  refine ⟨_, _, State.scratchOp_refused (by rwa [hu.memory]), rfl, rfl, fun w hw => ?_⟩
  rw [hw.memory, hu.memory]
  exact ⟨rfl, rfl⟩

/-- A command that makes a state completes with what is known of that state. -/
theorem Completes.of_eq {i : Instr} {s u : State} {post : State → Prop} (he : exec i s = .next u)
    (h : ∃ t, u = t ∧ post t) : Completes i s post := by
  obtain ⟨t, rfl, hpost⟩ := h
  exact ⟨u, he, hpost⟩

/-- Settles O19: a unit that may be reached is read, or changed in its word; any other is refused. -/
theorem scratchOperations : Obligations.ScratchOperations := by
  unfold Obligations.ScratchOperations
  refine ⟨?srd, ?swr, ?sset, ?sclr, ?srdRefused, ?swrRefused, ?ssetRefused, ?sclrRefused⟩
  case srd => exact fun x c op1 s h hready => .of_eq rfl (State.command_scratch_read h hready)
  case swr =>
    exact fun x c op1 op2 s h hready hcopy hcanon => .of_eq rfl <|
      (State.command_scratch_store h (by decide) (by decide) hready hcopy hcanon).imp fun t ⟨ht, hans, hstored⟩ =>
        ⟨ht, hans, hstored.holds, hstored.words, hstored.units, hstored.lanes⟩
  case sset =>
    exact fun x c op1 op2 s h hready hcopy hcanon => .of_eq rfl <|
      (State.command_scratch_store h (by decide) (by decide) hready hcopy hcanon).imp fun t ⟨ht, hans, hstored⟩ =>
        ⟨ht, hans, hstored.holds, hstored.words, hstored.units, hstored.lanes⟩
  case sclr =>
    exact fun x c op1 op2 s h hready hcopy hcanon => .of_eq rfl <|
      (State.command_scratch_store h (by decide) (by decide) hready hcopy hcanon).imp fun t ⟨ht, hans, hstored⟩ =>
        ⟨ht, hans, hstored.holds, hstored.words, hstored.units, hstored.lanes⟩
  case srdRefused =>
    exact fun x c op1 s h hup harea => .of_eq rfl (State.command_scratch_refused h (by decide) (by decide) hup harea)
  case swrRefused =>
    exact fun x c op1 op2 s h hup harea => .of_eq rfl (State.command_scratch_refused h (by decide) (by decide) hup harea)
  case ssetRefused =>
    exact fun x c op1 op2 s h hup harea => .of_eq rfl (State.command_scratch_refused h (by decide) (by decide) hup harea)
  case sclrRefused =>
    exact fun x c op1 op2 s h hup harea => .of_eq rfl (State.command_scratch_refused h (by decide) (by decide) hup harea)

end Sys2Proof.Machine
end

section
/-! The isolation of a port (R147, R149): what the channel engine's work leaves as it was where no channel can fault, and the
clock monitor's verdict (R225). -/

namespace Sys2Proof.Machine

open Sys2Proof

/-! ### What the channel engine leaves -/

/-- The ports, the lock slots, the fences, and the configuration and state of every channel are in `t` as in `s`. -/
structure Steady (s t : State) : Prop where
  port : ∀ x, t.port x = s.port x
  locks : t.mem.locks = s.mem.locks
  fences : t.tansy.fences = s.tansy.fences
  channels : ∀ n, (t.chan n).cfg = (s.chan n).cfg ∧ (t.chan n).state = (s.chan n).state

theorem Steady.refl (s : State) : Steady s s := ⟨fun _ => rfl, rfl, rfl, fun _ => ⟨rfl, rfl⟩⟩

theorem Steady.trans {s t u : State} (h : Steady s t) (k : Steady t u) : Steady s u :=
  ⟨fun x => (k.port x).trans (h.port x), k.locks.trans h.locks, k.fences.trans h.fences,
    fun n => ⟨(k.channels n).1.trans (h.channels n).1, (k.channels n).2.trans (h.channels n).2⟩⟩

theorem Steady.of_ite {s t u : State} {c : Prop} [Decidable c] (ht : c → Steady s t) (hu : ¬c → Steady s u) :
    Steady s (if c then t else u) := by
  split
  next h => exact ht h
  next h => exact hu h

/-- A change of one channel that keeps its configuration and state. -/
theorem Steady.modCh (s : State) (n : Fin 20) {f : Chan → Chan} (hcfg : (f (s.chan n)).cfg = (s.chan n).cfg)
    (hstate : (f (s.chan n)).state = (s.chan n).state) : Steady s (s.modCh n f) := by
  refine ⟨fun x => s.modCh_port n f x, rfl, rfl, fun k => ?_⟩
  rw [State.modCh_chan]
  split
  next h =>
    subst h
    exact ⟨hcfg, hstate⟩
  · exact ⟨rfl, rfl⟩

theorem Steady.modCnt (s : State) (n : Fin 20) (f : ChCounters → ChCounters) : Steady s (s.modCnt n f) :=
  Steady.modCh s n rfl rfl

theorem Steady.modTwin (s : State) (f : TwinSt → TwinSt) : Steady s (s.modTwin f) :=
  ⟨fun x => s.modTwin_port f x, rfl, rfl, fun _ => ⟨rfl, rfl⟩⟩

theorem Steady.modArq (s : State) (f : ArqSt → ArqSt) : Steady s (s.modArq f) :=
  ⟨fun x => s.modArq_port f x, rfl, rfl, fun _ => ⟨rfl, rfl⟩⟩

theorem Steady.clover (s : State) (type : Nat) (body : List Byte) : Steady s (s.clover type body) :=
  ⟨fun x => by simp, by simp, by simp, fun n => by simp⟩

theorem Steady.countRead (s : State) (l : Loc) (p : Nat) (r : WordRd) : Steady s (s.countRead l p r) := by
  have hframe := ReadFrame.countRead s l p r
  exact ⟨fun x => by simp, hframe.locks, hframe.fences, hframe.channels⟩

theorem Steady.roomy {s t : State} (h : Steady s t) {n : Fin 20} (hroomy : Roomy n s) : Roomy n t := by
  have hoffsets : fenceOffsets t.tansy.fences (t.chan n) = fenceOffsets s.tansy.fences (s.chan n) := by
    unfold fenceOffsets Chan.s
    rw [h.fences, (h.channels n).1]
  simpa only [Roomy, hoffsets, Chan.s, (h.channels n).1] using hroomy

/-- A roomy channel keeps its capacity whatever fence entries take effect (R46). -/
theorem State.capacity_of_roomy {s : State} {n : Fin 20} (h : Roomy n s) : 128 ≤ s.capacity n := by
  have hle : s.fencedCount n ≤ (fenceOffsets s.tansy.fences (s.chan n)).length := List.length_filter_le _ _
  simp only [Roomy] at h
  simp only [State.capacity]
  omega

/-! ### The steps of `State.settle` -/

theorem Steady.autoRelease (s : State) (n : Fin 20) : Steady s (s.autoRelease n) := by
  unfold State.autoRelease
  refine .of_ite (fun _ => .refl s) fun _ => .of_ite (fun _ => .modCh s n rfl rfl) fun _ => ?_
  split
  · exact .refl s
  · refine .of_ite (fun _ => .modCh s n rfl rfl) fun _ => .modCh s n ?_ ?_ <;> (unfold Chan.moveLp; split <;> rfl)

theorem Steady.passOver (s : State) (n : Fin 20) : Steady s (s.passOver n) := by
  have hcount : Steady s (s.countCut n) := by
    unfold State.countCut
    exact (Steady.countRead _ _ _ _).trans (Steady.modCnt _ _ _)
  unfold State.passOver
  refine hcount.trans ?_
  dsimp only
  split
  · exact (Steady.modCh _ n (by rfl) (by rfl)).trans (Steady.modArq _ _)
  · refine Steady.modCh _ n ?_ ?_ <;> (unfold Chan.moveLp; split <;> rfl)

theorem Steady.cutHead (s : State) (n : Fin 20) : Steady s (s.cutHead n) := by
  unfold State.cutHead
  exact .of_ite (fun _ => .passOver s n) fun _ => .refl s

theorem Steady.trim {s : State} {n : Fin 20} (h : Roomy n s) : Steady s (s.trim n) := by
  have hmod : Steady s (s.modCh n Chan.trim) := .modCh s n rfl rfl
  have hroom := State.capacity_of_roomy (hmod.roomy h)
  unfold State.trim
  exact .of_ite (fun hlow => absurd hlow.2 (Nat.not_lt.mpr hroom)) fun _ => hmod

theorem Steady.freeSenderRecords (s : State) (n : Fin 20) : Steady s (s.freeSenderRecords n) := by
  have hfold : ∀ (l : List (Fin 3)) (c : Chan), (l.foldl (fun c i =>
      if (c.record i).state = .filling ∧ (c.record i).count ≤ (c.record i).closed ∧
          (dist c.s c.lp (c.record i).lastEnd = 0 ∨ dist c.s c.lp c.wp < dist c.s c.lp (c.record i).lastEnd) then
        c.modRec i fun _ => {} else c) c).cfg = c.cfg ∧ (l.foldl (fun c i =>
      if (c.record i).state = .filling ∧ (c.record i).count ≤ (c.record i).closed ∧
          (dist c.s c.lp (c.record i).lastEnd = 0 ∨ dist c.s c.lp c.wp < dist c.s c.lp (c.record i).lastEnd) then
        c.modRec i fun _ => {} else c) c).state = c.state := by
    intro l
    induction l with
    | nil => exact fun c => ⟨rfl, rfl⟩
    | cons i t ih =>
      intro c
      simp only [List.foldl_cons]
      rw [(ih _).1, (ih _).2]
      split <;> exact ⟨rfl, rfl⟩
  unfold State.freeSenderRecords
  exact .of_ite (fun _ => .refl s) fun _ => .modCh s n (hfold _ _).1 (hfold _ _).2

theorem Steady.setHold (s : State) (n : Fin 20) (h : Bool) : Steady s (s.setHold n h) := by
  unfold State.setHold
  exact .of_ite (fun _ => .refl s) fun _ =>
    (Steady.modCh s n rfl rfl).trans (.of_ite (fun _ => .clover _ _ _) fun _ => .refl _)

theorem Steady.evalCredit (s : State) (n : Fin 20) : Steady s (s.evalCredit n) := by
  have hsend : ∀ u : State, Steady u u.sendCredits := by
    intro u
    unfold State.sendCredits
    exact .of_ite (fun _ => .clover _ _ _) fun _ => .refl u
  unfold State.evalCredit
  exact .of_ite (fun _ => .of_ite (fun _ => .refl s) fun _ => (Steady.modCh s n rfl rfl).trans (hsend _)) fun _ => .refl s

theorem Steady.ridle (s : State) (n : Fin 20) : Steady s (s.ridle n) := by
  unfold State.ridle
  exact .of_ite (fun _ => .modCh s n rfl rfl) fun _ => .of_ite
    (fun _ => .of_ite (fun _ => .modCh s n rfl rfl) fun _ => .refl s) fun _ => .modCh s n rfl rfl

theorem Steady.refreshFlow (s : State) (n : Fin 20) : Steady s (s.refreshFlow n) := by
  unfold State.refreshFlow
  exact .of_ite (fun _ => .refl s) fun _ => .of_ite (fun _ => .modCh s n rfl rfl) fun _ =>
    .of_ite (fun _ => .refl s) fun _ => .modCh s n rfl rfl

/-- The work after a change of a roomy channel faults none. -/
theorem Steady.settle {s : State} {n : Fin 20} (h : Roomy n s) : Steady s (s.settle n) := by
  have hbefore := (Steady.autoRelease s n).trans (Steady.cutHead _ n)
  unfold State.settle State.evalHold
  exact hbefore.trans <| (Steady.trim (hbefore.roomy h)).trans <| (Steady.freeSenderRecords _ n).trans <|
    (Steady.setHold _ n _).trans <| (Steady.evalCredit _ n).trans <| (Steady.ridle _ n).trans (Steady.refreshFlow _ n)

theorem Steady.then_settle {s t : State} {n : Fin 20} (h : Steady s t) (hroomy : Roomy n s) : Steady s (t.settle n) :=
  h.trans (.settle (h.roomy hroomy))

/-! ### The steps of `State.isolate` (R147) -/

theorem Steady.discardOpen {s : State} {n : Fin 20} (h : Roomy n s) : Steady s (s.discardOpen n) := by
  have hdrop : Steady s (s.dropOpen n) := by
    unfold State.dropOpen
    refine .of_ite (fun _ => .refl s) fun _ => (Steady.modCh s n ?_ ?_).trans (Steady.modCnt _ _ _) <;> (split <;> rfl)
  unfold State.discardOpen
  exact .of_ite (fun _ => hdrop.then_settle h) fun _ => .refl s

theorem Steady.flushIfDue {s : State} {n : Fin 20} (h : Roomy n s) : Steady s (s.flushIfDue n) := by
  have hflush : Steady s (s.performFlush n) := by
    unfold State.performFlush
    exact ((Steady.modCh s n (by rfl) (by rfl)).trans (Steady.modCnt _ n _)).then_settle h
  unfold State.flushIfDue
  exact .of_ite (fun _ => hflush) fun _ => .refl s

/-- Passing a slice changes records alone. -/
theorem Chan.passSlice_keeps (c : Chan) (i : Fin 3) :
    (c.passSlice i).cfg = c.cfg ∧ (c.passSlice i).state = c.state := by
  unfold Chan.passSlice
  dsimp only
  split
  · exact ⟨rfl, rfl⟩
  · split <;> exact ⟨rfl, rfl⟩

theorem Steady.observePass {s : State} {n : Fin 20} (h : Roomy n s) (frame : Nat) : Steady s (s.observePass n frame) := by
  unfold State.observePass
  split
  · exact .refl s
  next i _ =>
    have hpass : Steady s (s.passStandin n ((s.chan n).record i).pos frame) := Steady.modTwin s _
    exact (hpass.trans (Steady.modCh _ n (Chan.passSlice_keeps _ i).1 (Chan.passSlice_keeps _ i).2)).then_settle h

theorem Steady.finishPacket {s : State} (h : ∀ n, Roomy n s) (k : PCmd) : Steady s (s.finishPacket k) := by
  unfold State.finishPacket
  split
  · exact .refl s
  next n _ =>
    dsimp only
    split
    · refine .of_ite (fun _ => .refl s) fun _ => .of_ite (fun _ => ?_) fun _ => ?_
      · have hmod : Steady s (s.modCh n fun c => { c with inPkt := none }) := .modCh s n rfl rfl
        exact hmod.trans (.observePass (hmod.roomy (h n)) _)
      · next p _ _ _ =>
        have hmod := Steady.modCh s n (f := fun c =>
          { c with rp := ptrAfter c.s (s.fenced n) (p.total - p.done) c.rp, inPkt := none }) rfl rfl
        exact (hmod.trans (.flushIfDue (hmod.roomy (h n)))).then_settle (h n)
    · exact .refl s

/-- Whatever reads were on their way, their ends leave the channels as configured and in their states. -/
theorem Steady.finishPackets {s : State} (h : ∀ n, Roomy n s) (ks : List PCmd) :
    Steady s (ks.foldl (fun s k => s.finishPacket k) s) := by
  induction ks generalizing s with
  | nil => exact .refl s
  | cons k t ih =>
    have hfirst := Steady.finishPacket h k
    exact hfirst.trans (ih fun n => hfirst.roomy (h n))

theorem Steady.discardAll {s : State} (h : ∀ n, Roomy n s) (x : Port) :
    Steady s (s.forChans fun n s => if (s.chan n).cfg.producer = End.ofPort x then s.discardOpen n else s) :=
  State.forChans_keeps (P := Steady s) (fun n _ hs => hs.trans
    (.of_ite (fun _ => .discardOpen (hs.roomy (h n))) fun _ => .refl _)) (.refl s)

/-- Nothing follows a change by which no channel has entered FAULT (R49). -/
theorem State.serveFaults_of_same {s t : State} (h : ∀ n, (t.chan n).state = (s.chan n).state) : t.serveFaults s = t := by
  simp [State.serveFaults, h]

/-- The news of the port state to the other half of a Chain pair changes no port and no memory. -/
@[simp] theorem State.chainPortAnew_frame (s : State) :
    s.chainPortAnew.ch = s.ch ∧ s.chainPortAnew.mem = s.mem ∧ s.chainPortAnew.tansy = s.tansy := by
  unfold State.chainPortAnew
  dsimp only
  split <;> simp

@[simp] theorem State.chainPortAnew_port (s : State) (x : Port) : s.chainPortAnew.port x = s.port x := by
  unfold State.chainPortAnew
  dsimp only
  split <;> simp

/-- The locks of an owner go free and marked, and no other slot changes (R36). -/
theorem State.freeLocks_slot (s : State) (o : Owner) (k : Fin 64) :
    (s.freeLocks o).slot k.val = if (s.slot k.val).owner = o then ⟨.free, true⟩ else s.slot k.val := by
  simp [State.slot_eq, State.freeLocks]

/-- The reads of a port have ended, the port has changed by `f`, and the open packets of its channels have gone (R147). -/
def State.cutOff (s : State) (x : Port) (f : PortSt → PortSt) : State :=
  (((s.port x).q.filter fun k => !k.decoder).foldl (fun s k => s.finishPacket k) s |>.modPort x f).forChans fun n s =>
    if (s.chan n).cfg.producer = End.ofPort x then s.discardOpen n else s

theorem State.cutOff_keeps {s : State} (hroomy : ∀ n, Roomy n s) (x : Port) (f : PortSt → PortSt) :
    (s.cutOff x f).port x = f (s.port x) ∧ (∀ n, ((s.cutOff x f).chan n).state = (s.chan n).state) ∧
    ∀ k : Fin 64, (s.cutOff x f).slot k.val = s.slot k.val := by
  have hends := Steady.finishPackets hroomy ((s.port x).q.filter fun k => !k.decoder)
  unfold State.cutOff
  generalize (((s.port x).q.filter fun k => !k.decoder).foldl (fun s k => s.finishPacket k) s) = u at hends ⊢
  have hgone := Steady.discardAll (s := u.modPort x f) (fun n => by simpa [Roomy] using hends.roomy (hroomy n)) x
  refine ⟨?_, fun n => ?_, fun k => ?_⟩
  · rw [hgone.port, State.modPort_port_same, hends.port]
  · rw [(hgone.channels n).2, State.modPort_chan, (hends.channels n).2]
  · simp only [State.slot_eq, hgone.locks, State.modPort_mem, hends.locks]

/-- The port itself once isolated, its attention apart: no command, no selection, write refusal, and the isolation counted. -/
structure CutOff (p q : PortSt) : Prop where
  state : q.state = .isolated
  queue : q.q = []
  returned : q.ret = p.ret
  wsel : q.wsel = none
  rsel : q.rsel = none
  refusing : q.writeRefusal = true
  counted : q.cnt.isolations = inc32 p.cnt.isolations

/-- What an isolation leaves, where no channel can fault as the port's reads and open packets end. -/
theorem State.isolate_ready {s : State} {x : Port} (hroomy : ∀ n, Roomy n s) (hready : (s.port x).state = .ready) :
    CutOff (s.port x) ((s.isolate x).port x) ∧ ((s.isolate x).port x).attnCause.getLsbD 13 = true ∧
    ∀ k : Fin 64, (s.isolate x).slot k.val =
      if (s.slot k.val).owner = portOwner x then ⟨.free, true⟩ else s.slot k.val := by
  obtain ⟨f, hf, hisolate⟩ : ∃ f : PortSt → PortSt, CutOff (s.port x) (f (s.port x)) ∧ s.isolate x =
      (((((s.cutOff x f).freeLocks (portOwner x)).attn x 13).portEvt x 6
        ((s.cutOff x f).port x).lastAccepted.toNat).active.serveFaults s).chainPortAnew := by
    refine ⟨_, ?_, rfl⟩
    exact ⟨by simp [hready], rfl, rfl, rfl, rfl, rfl, rfl⟩
  obtain ⟨hport, hstate, hslot⟩ := State.cutOff_keeps hroomy x f
  rw [State.serveFaults_of_same (by simpa using hstate)] at hisolate
  have hcause := ((s.cutOff x f).freeLocks (portOwner x)).attn_set x 13
  have hpt : (s.isolate x).port x = (((s.cutOff x f).freeLocks (portOwner x)).attn x 13).port x := by simp [hisolate]
  refine ⟨?_, by rw [hpt]; exact hcause, fun k => ?_⟩
  · obtain ⟨h1, h2, h3, h4, h5, h6, h7⟩ := hf
    rw [hpt]
    constructor <;> simpa [State.attn, hport]
  · rw [← hslot k, ← State.freeLocks_slot, hisolate]
    exact State.slot_congr (by simp) _

/-- A port with the clock monitor's findings: since when each of its clocks is missing. -/
def clocksFound (wclk rclk : Bool) (now : Nat) (p : PortSt) : PortSt :=
  { p with
    wclkSince := if wclk then none else some (p.wclkSince.getD now)
    rclkSince := if rclk then none else some (p.rclkSince.getD now) }

/-- A READY port found without one of its clocks is isolated. -/
theorem exec_clockAbsent_ready {x : Port} {wclk rclk : Bool} {s : State} (hclock : wclk = true ∨ rclk = true)
    (hready : (s.port x).state = .ready) :
    exec (.clockAbsent x wclk rclk) s = .next ((s.modPort x (clocksFound wclk rclk s.now)).isolate x) := by
  have hany : (wclk || rclk) = true := by simpa using hclock
  show execClockAbsent x wclk rclk s = _
  simp only [execClockAbsent, State.modPort_port_same, hready, hany, beq_self_eq_true, Bool.true_or, Bool.and_self,
    if_true]
  rfl

/-- Settles O29: a port found without a clock is isolated; clocks found present count from that moment. -/
theorem clockAbsentIsolates : Obligations.ClockAbsentIsolates := by
  unfold Obligations.ClockAbsentIsolates
  refine ⟨?absent, ?present⟩
  case absent =>
    intro x wclk rclk s hclock hready hroomy
    let u := s.modPort x (clocksFound wclk rclk s.now)
    have hport : u.port x = clocksFound wclk rclk s.now (s.port x) := State.modPort_port_same ..
    obtain ⟨hcut, hcause, hslots⟩ := State.isolate_ready (s := u) (x := x) (fun n => by simpa [u, Roomy] using hroomy n)
      (by rw [hport]; exact hready)
    rw [hport] at hcut
    have hslot : ∀ k : Fin 64, u.slot k.val = s.slot k.val := fun k => State.slot_congr (by simp [u]) _
    refine ⟨_, exec_clockAbsent_ready hclock hready, hcut.state, hcut.queue, hcut.returned, hcut.wsel, hcut.rsel,
      hcut.refusing, hcause, hcut.counted, fun k hown => ?_, fun k hown => ?_⟩
    · rw [hslots, hslot, if_pos hown]
    · rw [hslots, hslot, if_neg hown]
  case present =>
    intro x s hsince
    refine ⟨_, rfl, ?_⟩
    simp [hsince, State.modPort_port_other _ _ (otherPort_ne x)]

end Sys2Proof.Machine
end

section
/-! Writes of the entries that give and take rights over the memory: descriptors, scratch areas, and LOCK_FORCE. -/

namespace Sys2Proof.Machine

open Sys2Proof

/-! ### A write and what it leaves (R204, R247) -/

/-- STATUS after a change of what it names leaves the memory, the dictionary's service, firmware and the resets (R204). -/
@[simp] theorem State.statusIfChanged_frame (t s : State) (plan : Bool) :
    (t.statusIfChanged s plan).mem = t.mem ∧ (t.statusIfChanged s plan).od = t.od ∧
    (t.statusIfChanged s plan).yar = t.yar ∧ (t.statusIfChanged s plan).rst = t.rst ∧
    (t.statusIfChanged s plan).ch = t.ch := by
  unfold State.statusIfChanged
  split
  · simp
  · simp

/-- A served WRITE whose entry's write makes `t` of the state at the request with abort code `c`: where neither the
dictionary's service nor firmware nor the resets change, the request is recorded with `c` and the memory is that of `t`. -/
theorem odWrite_memory {h : OdHead} {index sub : Nat} {data : List Byte} {s t : State} {ob : Obj} {c : Nat}
    (hs : OdServed h 2 index sub data s) (hob : objOf index = some ob)
    (hw : ∀ row q, ob.row sub = some row → s.atRequest.writeValue q ob sub (row.ty.value data) = (c, t))
    (hod : t.od = s.atRequest.od) (hyar : t.yar = s.yar) (hrst : t.rst = s.rst) (hc : c ≠ abBusy) :
    (s.odWrite h index sub data).mem = t.mem ∧ Recorded h c (s.odWrite h index sub data) := by
  obtain ⟨-, -, hup, -, hserve, -, htask, -⟩ := hs.1
  obtain ⟨m, img, hx, hrec⟩ := odWrite_answered (t := t.statusIfChanged s.atRequest true) (c := c) hs hob
    (fun row hrow => by simp only [State.writeEntry, hw row _ hrow])
    (by simp [hod, htask]) (by simp [hyar, hserve])
    (by simpa [State.blockUp, hrst] using State.blockUp_of_mailboxUp hup) hc
  rw [hx]
  exact ⟨by simp, hrec⟩

/-! ### Descriptors (R27) -/

/-- A word of four bytes is the word that they hold. -/
theorem ofNat_leBytes (v : W32) : BitVec.ofNat 32 (leNat (leBytes v.toNat 4)) = v := by
  rw [leNat_leBytes, Nat.mod_eq_of_lt (show v.toNat < 256 ^ 4 from v.isLt), BitVec.ofNat_toNat, BitVec.setWidth_eq]

/-- The entries of a descriptor object are words. -/
theorem desc_value {m : Fin 6} {sub : Fin 8} {row : Row} (h : (Obj.desc m).row (sub.val + 1) = some row) (v : W32) :
    BitVec.ofNat 32 (row.ty.value (leBytes v.toNat 4)).toNat = v := by
  have hrow : ∀ k : Fin 8, (Obj.desc m).row (k.val + 1) = some ⟨k.val + 1, .uint 4, .rws, 2, .any⟩ := by
    intro k; fin_cases k <;> rfl
  obtain rfl := Option.some.inj ((hrow sub).symm.trans h)
  exact ofNat_leBytes v

/-- The rights of a channel's masters follow its configuration, the descriptors and the Chain half. -/
theorem State.rightsOk_congr {s t : State} {n : Fin 20} (hcfg : (t.chan n).cfg = (s.chan n).cfg)
    (hdesc : t.mem.desc = s.mem.desc) (htwin : t.twin = s.twin) : t.rightsOk n = s.rightsOk n := by
  have hhalf : ∀ b, t.chainHalf b = s.chainHalf b := fun b => by simp only [State.chainHalf, htwin]
  have hholds : ∀ m base size w, t.holds m base size w = s.holds m base size w := fun m base size w => by
    simp only [State.holds, State.allowed, hdesc]
  simp only [State.rightsOk, hcfg, hhalf, hholds]

/-- A descriptor whose range is in order, and which takes no right from an enabled channel, is written (R27). -/
theorem State.writeDesc_ok {s : State} {m : Fin 6} {k : Nat} {v : W32}
    (horder : (v.extractLsb 16 2).toNat ≤ (v.extractLsb 31 17).toNat)
    (hkeep : ∀ n : Fin 20, (s.chan n).enabled = true → s.rightsOk n = true → (s.putDesc m k v).rightsOk n = true) :
    s.writeDesc m k v = (0, s.putDesc m k v) := by
  have hlost : ((List.finRange 20).any fun n =>
      (s.chan n).enabled && s.rightsOk n && !(s.putDesc m k v).rightsOk n) = false := by
    simp only [List.any_eq_false, Bool.and_eq_true, Bool.not_eq_true', not_and, Bool.not_eq_false]
    exact fun n _ h => hkeep n h.1 h.2
  simp only [State.writeDesc, if_neg (Nat.not_lt.mpr horder), guarded, hlost, Bool.not_false, if_true]

/-- A descriptor whose first block lies past its last is refused with RANGE (R27). -/
theorem State.writeDesc_range {s : State} {m : Fin 6} {k : Nat} {v : W32}
    (horder : (v.extractLsb 31 17).toNat < (v.extractLsb 16 2).toNat) : s.writeDesc m k v = (abRange, s) :=
  if_pos horder

/-- A written descriptor holds what was written. -/
theorem State.putDesc_same (s : State) (m : Fin 6) (k : Fin 8) (v : W32) :
    ((s.putDesc m k.val v).mem.desc.get m).get k = v := by
  simp [State.putDesc, Vector.get_eq_getElem]

/-- A written descriptor leaves those of the other masters. -/
theorem State.putDesc_other (s : State) {m j : Fin 6} (k : Nat) (v : W32) (h : j ≠ m) :
    (s.putDesc m k v).mem.desc.get j = s.mem.desc.get j := by
  simp [State.putDesc, Vector.get_eq_getElem, Fin.val_ne_of_ne h.symm]

/-! ### Scratch areas and LOCK_FORCE (R29, R37) -/

/-- The entries of the scratch areas are words. -/
theorem scratch_value {k : Fin 4} {row : Row} (h : Obj.scratch.row (k.val + 1) = some row) (v : W32) :
    BitVec.ofNat 32 (row.ty.value (leBytes v.toNat 4)).toNat = v := by
  have hrow : ∀ k : Fin 4, Obj.scratch.row (k.val + 1) = some ⟨k.val + 1, .uint 4, .rws, 2, .any⟩ := by
    intro k; fin_cases k <;> rfl
  obtain rfl := Option.some.inj ((hrow k).symm.trans h)
  exact ofNat_leBytes v

/-- LOCK_FORCE is a byte. -/
theorem lockForce_value {row : Row} (h : Obj.scratch.row 0x13 = some row) (v : Byte) :
    (row.ty.value [v]).toNat = v.toNat := by
  obtain rfl : (⟨0x13, .uint 1, .wo, 2, .span 0 63⟩ : Row) = row := Option.some.inj h
  simp [OTy.value, leNat]

/-- The first area to be enabled is taken where it has a size, lies in the array and no channel is enabled (R29). -/
theorem State.writeArea_first {s : State} {k : Fin 4} {w : W32} (hmask : w &&& 0x83FFFFFF#32 = w)
    (hsize : 1 ≤ areaSize w ∧ areaSize w ≤ 1024) (hend : areaBase w + areaSize w ≤ 32768)
    (hnone : s.mem.areas = Vector.replicate 4 0) (hoff : ∀ n : Fin 20, (s.chan n).state = .disabled) :
    s.writeArea k.val w = ok (s.modMem fun m => { m with areas := m.areas.setIfInBounds k.val w }) := by
  obtain ⟨hpos, hmax⟩ := hsize
  have hzero : areaOn 0#32 = false := by decide
  have hold : (List.replicate 4 (0 : W32)).getD k.val 0 = 0 := by fin_cases k <;> rfl
  have hothers : (((List.replicate 4 (0 : W32)).zipIdx.filter fun a => a.2 != k.val && areaOn a.1).map (·.1)) = [] := by
    simp [List.zipIdx, hzero]
  have hregion : ((List.finRange 20).any fun n =>
      (s.chan n).enabled && overlaps (areaBase w) (areaSize w) (s.chan n).cfg.base (s.chan n).cfg.size) = false := by
    simp [Chan.enabled, hoff]
  have hsum : (if areaOn w then areaSize w else 0) ≤ 1024 := by split <;> omega
  have hrange : ¬(1024 < areaSize w ∨ 32768 < areaBase w + areaSize w ∨
      1024 < (List.map areaSize []).sum + (if areaOn w then areaSize w else 0)) := by simp; omega
  have hne : (areaSize w == 0) = false := by simp; omega
  simp only [State.writeArea, hmask, hnone, Vector.toList_replicate, hold, hothers, if_neg hrange, hregion, hne]
  simp [hzero]

/-- Settles O32: each is a served write of its entry. -/
theorem memoryRightsWrites : Obligations.MemoryRightsWrites := by
  unfold Obligations.MemoryRightsWrites
  refine ⟨?descriptor, ?outOfOrder, ?area, ?force⟩
  case descriptor =>
    intro h m sub v s hs horder hkeep
    have hkeep' : ∀ n : Fin 20, (s.atRequest.chan n).enabled = true → s.atRequest.rightsOk n = true →
        (s.atRequest.putDesc m sub.val v).rightsOk n = true := fun n he hr => by
      rw [State.rightsOk_congr (s := s) (by simp) (by simp) (by simp)] at hr
      rw [State.rightsOk_congr (s := s.putDesc m sub.val v) (by simp [State.putDesc]) (by simp [State.putDesc])
        (by simp [State.putDesc])]
      exact hkeep n (by simpa using he) hr
    obtain ⟨hmem, hrec⟩ := odWrite_memory (c := 0) (t := s.atRequest.putDesc m sub.val v) hs (objOf_index (.desc m))
      (fun row q hrow => by simp only [State.writeValue, desc_value hrow, Nat.add_sub_cancel, State.writeDesc_ok horder hkeep'])
      rfl rfl rfl (by decide)
    refine ⟨_, rfl, ?_, fun k hk => ?_, hrec⟩
    · rw [hmem, State.putDesc_same]
    · rw [hmem, State.putDesc_other _ _ _ hk]
      simp
  case outOfOrder =>
    intro h m sub v s hs horder
    obtain ⟨hmem, hrec⟩ := odWrite_memory (c := abRange) (t := s.atRequest) hs (objOf_index (.desc m))
      (fun row q hrow => by simp only [State.writeValue, desc_value hrow, Nat.add_sub_cancel, State.writeDesc_range horder])
      rfl (by simp) (by simp) (by decide)
    exact ⟨_, rfl, by simp [hmem], hrec⟩
  case area =>
    intro h k v s hs hmask _ hpos hmax hend hnone hoff
    obtain ⟨hmem, hrec⟩ := odWrite_memory (c := 0)
      (t := s.atRequest.modMem fun m => { m with areas := m.areas.setIfInBounds k.val v }) hs (objOf_index .scratch)
      (fun row q hrow => by
        have hsub : k.val + 1 ≠ 0x13 := by omega
        simp only [State.writeValue, if_neg hsub, scratch_value hrow, Nat.add_sub_cancel]
        exact State.writeArea_first hmask ⟨hpos, hmax⟩ hend (by simpa using hnone) (by simpa using hoff))
      rfl (by simp) (by simp) (by decide)
    exact ⟨_, rfl, by simp [hmem, Vector.get_eq_getElem], hrec⟩
  case force =>
    intro h v s hs hv hheld
    have hslot : (s.atRequest.slot v.toNat).owner ≠ .free := by rwa [State.slot_congr (s := s) (by simp)]
    have hforce : s.atRequest.forceLock v.toNat = s.atRequest.setSlot v.toNat ⟨.free, true⟩ := if_neg hslot
    obtain ⟨hmem, hrec⟩ := odWrite_memory (c := 0) (t := s.atRequest.setSlot v.toNat ⟨.free, true⟩) hs
      (objOf_index .scratch)
      (fun row q hrow => by
        simp only [State.writeValue, if_true, lockForce_value hrow, hforce]
        rfl)
      rfl (by simp [State.setSlot]) (by simp [State.setSlot]) (by decide)
    refine ⟨_, rfl, ?_, hrec⟩
    rw [State.slot_congr hmem]
    exact State.slot_setSlot_same _ ⟨v.toNat, hv⟩ _

end Sys2Proof.Machine
end

section
/-! The SRAM scrubber beside a hold of Yarrow that ends while time passes. -/

namespace Sys2Proof.Machine

open Sys2Proof

/-- Yarrow, started and on running clocks, is held by a source of narrower reach for another picosecond, and its SRAM was
last scrubbed at time 0. -/
def heldForAMoment : State :=
  { State.reset with
    rst := { State.reset.rst with phase := .booted, yarUntil := 1 }
    pwr := { State.reset.pwr with state := .run } }

/-- The hold stands at the start of the second, and has ended where the scrubber looks at it: SRAM is scrubbed. -/
theorem sramScrub_heldForAMoment : heldForAMoment.yarrowHeld = true ∧ ∃ t,
    exec (.sramScrub 800000000 []) heldForAMoment = .next t ∧ t.yar.scrubAt = 1000000000000 := by
  have hruns : ((heldForAMoment.advance 800000000).ysRuns &&
      (heldForAMoment.advance 800000000).due (heldForAMoment.advance 800000000).yar.scrubAt (ms 1000)) = true := by decide
  refine ⟨by decide, _, rfl, ?_⟩
  rw [if_pos hruns]
  decide

/-- Refutes O51: the scrubber asks after the time has passed whether Yarrow is held, so a hold that ends meanwhile does not
keep it from its scrub. -/
theorem not_yarrowAccesses : ¬ Obligations.YarrowAccesses := by
  unfold Obligations.YarrowAccesses
  rintro ⟨-, -, -, -, -, -, -, -, -, -, -, -, -, -, -, hstands⟩
  obtain ⟨hheld, t, hscrub, hat⟩ := sramScrub_heldForAMoment
  obtain ⟨u, hu, hsame⟩ := hstands 800000000 [] heldForAMoment (.inr (.inl hheld))
  obtain rfl : t = u := Host.Outcome.next.inj (hscrub.symm.trans hu)
  have hzero : (heldForAMoment.advance 800000000).yar.scrubAt = 0 := by decide
  rw [hsame, hzero] at hat
  exact absurd hat (by decide)

end Sys2Proof.Machine
end

section
/-! The write of PAIR_MODE on a device whose Clover is up: PLAN_DIGEST changes, since CRC-32C tells two byte strings apart
that differ in one byte, and a STATUS follows. -/

namespace Sys2Proof.Machine

open Sys2Proof

/-! ### CRC-32C loses nothing of its register (R67) -/

/-- The bits of the register move down by one, with the polynomial added where a 1 went out. -/
theorem crcBits_one_bit (c : W32) (i : Nat) :
    (crcBits 1 c).getLsbD i = (c.getLsbD (i + 1) ^^ (c.getLsbD 0 && (0x82F63B78#32).getLsbD i)) := by
  have hshift : (c >>> 1).getLsbD i = c.getLsbD (i + 1) := by rw [BitVec.getLsbD_ushiftRight, Nat.add_comm]
  simp only [crcBits]
  split
  next hlow => simp only [BitVec.getLsbD_xor, hshift, hlow, Bool.true_and]
  next hlow => simp only [hshift, Bool.not_eq_true _ ▸ hlow, Bool.false_and, Bool.xor_false]

/-- Bit 31 of the polynomial is 1, so that bit of the register shows which bit went out. -/
theorem crcBits_one_top (c : W32) : (crcBits 1 c).getLsbD 31 = c.getLsbD 0 := by
  rw [crcBits_one_bit, BitVec.getLsbD_of_ge c 32 (by decide), Bool.false_xor,
    show (0x82F63B78#32).getLsbD 31 = true from rfl, Bool.and_true]

theorem crcBits_one_injective {a b : W32} (h : crcBits 1 a = crcBits 1 b) : a = b := by
  have hlow : a.getLsbD 0 = b.getLsbD 0 := by rw [← crcBits_one_top a, h, crcBits_one_top b]
  refine BitVec.eq_of_getLsbD_eq fun i hi => ?_
  cases i with
  | zero => exact hlow
  | succ j =>
    have hbit : (crcBits 1 a).getLsbD j = (crcBits 1 b).getLsbD j := by rw [h]
    rw [crcBits_one_bit a, crcBits_one_bit b, hlow] at hbit
    exact Bool.xor_left_inj.mp hbit

theorem crcBits_injective (k : Nat) {a b : W32} (h : crcBits k a = crcBits k b) : a = b := by
  induction k generalizing a b with
  | zero => exact h
  | succ k ih => exact crcBits_one_injective (ih h)

/-- The register after a byte shows the register before it. -/
theorem crcByte_register_injective {c d : W32} {b : Byte} (h : crcByte c b = crcByte d b) : c = d :=
  (BitVec.xor_left_inj _).mp (crcBits_injective 8 h)

/-- The register after a byte shows the byte. -/
theorem crcByte_byte_injective {c : W32} {x y : Byte} (h : crcByte c x = crcByte c y) : x = y := by
  have hwide := (BitVec.xor_right_inj _).mp (crcBits_injective 8 h)
  have hback := congrArg (BitVec.setWidth 8) hwide
  simpa using hback

theorem crcRun_cons (c : W32) (b : Byte) (bs : List Byte) : crcRun c (b :: bs) = crcRun (crcByte c b) bs := rfl

theorem crcRun_register_injective {bs : List Byte} {c d : W32} (h : crcRun c bs = crcRun d bs) : c = d := by
  induction bs generalizing c d with
  | nil => exact h
  | cons b bs ih => exact crcByte_register_injective (ih h)

/-- Byte strings that differ in their second byte alone have different check codes. -/
theorem crc32c_second_injective {a x y : Byte} {bs : List Byte} (h : crc32c (a :: x :: bs) = crc32c (a :: y :: bs)) :
    x = y := by
  have hreg := (BitVec.xor_left_inj _).mp (BitVec.eq_of_toNat_eq h)
  simp only [crcRun_cons] at hreg
  exact crcByte_byte_injective (crcRun_register_injective hreg)

/-! ### PLAN_DIGEST (R218) -/

/-- What PLAN_DIGEST covers behind the device role and PAIR_MODE. -/
def State.planBehindPairing (s : State) : List Byte :=
  (s.ch.toList.map fun c => c.cfg.planBytes).flatten ++ takePad 32 s.mem.idlePattern ++
    (s.mem.areas.toList.map fun a => leBytes a.toNat 4).flatten ++
    (s.mem.desc.toList.map fun d => (d.toList.map fun w => leBytes w.toNat 4).flatten).flatten

theorem State.planDigest_eq (s : State) : s.planDigest =
    crc32c (BitVec.ofNat 8 s.rst.roleNext :: BitVec.ofNat 8 s.rst.pairNext :: s.planBehindPairing) := by
  simp [State.planDigest, State.digestAs, State.planBehindPairing, leBytes]

/-- Another PAIR_MODE to come makes another PLAN_DIGEST. -/
theorem State.planDigest_pairNext {s : State} {v : Nat} (h : BitVec.ofNat 8 v ≠ BitVec.ofNat 8 s.rst.pairNext) :
    (s.modRst fun r => { r with pairNext := v }).planDigest ≠ s.planDigest := fun he => by
  rw [State.planDigest_eq, State.planDigest_eq] at he
  exact h (crc32c_second_injective he)

/-! ### STATUS (R204) -/

/-- A STATUS is one more message sent, where Clover is up and its block runs. -/
theorem State.sendStatus_sent {s : State} (hup : s.twin.cloverState = 2) (hblock : s.blockUp 6 = true) :
    (s.sendStatus).twin.sent.length = s.twin.sent.length + 1 := by
  simp [State.sendStatus, State.clover, hup, hblock, TwinSt.noteSent]

/-! ### PAIR_MODE (R222, R264) -/

/-- PAIR_MODE is a byte. -/
theorem pairMode_value {row : Row} (h : Obj.twin.row 1 = some row) (v : Byte) : (row.ty.value [v]).toNat = v.toNat := by
  obtain rfl : (⟨0x01, .uint 1, .rws, 2, .span 0 2⟩ : Row) = row := Option.some.inj h
  simp [OTy.value, leNat]

/-- Another PAIR_MODE written while Clover is up: a STATUS is sent (R204). -/
theorem pairMode_sendsStatus {h : OdHead} {v : Byte} {s : State} (hs : OdServed h 2 0x6000 1 [v] s)
    (hclover : s.twin.cloverState = 2) (hblock : s.blockUp 6 = true) (hnew : v ≠ BitVec.ofNat 8 s.rst.pairNext) :
    ∃ t, exec (.objectWrite h 0x6000 1 [v]) s = .next t ∧ t.twin.sent.length = s.twin.sent.length + 1 := by
  obtain ⟨-, -, hup, -, hserve, -, htask, -⟩ := hs.1
  let u := s.atRequest.modRst fun r => { r with pairNext := v.toNat }
  have htwin : u.twin = s.twin := by simp [u]
  have hblocks : ∀ i, u.blockUp i = s.blockUp i := fun i => by simp [u, State.blockUp]
  have hdigest : u.planDigest ≠ s.atRequest.planDigest := State.planDigest_pairNext (by simpa using hnew)
  have hstatus : u.statusIfChanged s.atRequest true = u.sendStatus :=
    if_pos ⟨by simpa using hclover, by rwa [htwin], by simp [htwin], .inr ⟨rfl, hdigest⟩⟩
  obtain ⟨m, img, hx, -⟩ := odWrite_answered (t := u.sendStatus) (c := 0) hs (objOf_index .twin)
    (fun row hrow => by
      simp only [State.writeEntry, State.writeValue, pairMode_value hrow, State.writeTwin, ok]
      exact congrArg (Prod.mk 0) hstatus)
    (by simp [u, htask]) (by simp [u, hserve])
    (by simpa [State.blockUp, u] using State.blockUp_of_mailboxUp hup) (by decide)
  refine ⟨_, congrArg Host.Outcome.next hx, ?_⟩
  have hanswered : (u.sendStatus.answered m img).twin = u.sendStatus.twin := by simp
  rw [hanswered, State.sendStatus_sent (by rwa [htwin]) (by rwa [hblocks]), htwin]

/-- A device that runs and serves, with Clover up and PAIR_MODE 1. -/
def pairedUp : State :=
  { State.reset with
    rst := { State.reset.rst with phase := .running, blockReset := 0, yarBooted := true }
    yar := { State.reset.yar with serving := true }
    twin := { State.reset.twin with cloverState := 2 } }

/-- The head of a request from the mailbox. -/
def pairHead : OdHead :=
  { src := .mailbox, addr := 0, keysel := 0, reqseq := 1, mac := zeros 8, flags := 0, abortField := 0, offset := 0,
    crcTotal := 0, rsv18 := 0 }

/-- Refutes O43: a write of PAIR_MODE changes PLAN_DIGEST, and the STATUS that follows while Clover is up changes the twin,
beside the entry. -/
theorem not_requestsServed : ¬ Obligations.RequestsServed := by
  unfold Obligations.RequestsServed
  rintro ⟨-, -, hwrite, -⟩
  have hserved : OdServed pairHead 2 0x6000 1 [2#8] pairedUp := by decide
  obtain ⟨t, hexec, hsent⟩ := pairMode_sendsStatus hserved rfl (by decide) (by decide)
  obtain ⟨u, hu, hsame, -⟩ := hwrite pairHead 0x6000 1 [2#8] pairedUp _ hserved rfl
  obtain rfl : t = u := Host.Outcome.next.inj (hexec.symm.trans hu)
  have hkept : t.twin.sent = pairedUp.twin.sent := by rw [hsame]; simp
  rw [hkept] at hsent
  omega

end Sys2Proof.Machine
end

section
/-! How a channel ends (R42, R49): what stops with it, and that ports without a command have none to serve. -/

namespace Sys2Proof.Machine

open Sys2Proof

/-! ### Ports without an accepted command -/

/-- A port without a command has none to execute. -/
theorem State.service_of_idle {s : State} {x : Port} (h : (s.port x).q = []) : s.service x = s := by
  simp [State.service, State.serviceN, PortSt.next?_none h]

theorem State.servicePorts_of_idle {s : State} (hA : s.pA.q = []) (hB : s.pB.q = []) : s.servicePorts = s := by
  rw [State.servicePorts, State.service_of_idle (x := .A) hA, State.service_of_idle (x := .B) hB]

/-- Where no command waits, none is decided. -/
theorem State.presetPending_idle {s : State} (hA : s.pA.q = []) (hB : s.pB.q = []) (n : Fin 20) (stat : Nat) :
    (s.presetPending n stat).pA.q = [] ∧ (s.presetPending n stat).pB.q = [] := by
  simp [State.presetPending, State.modPort, hA, hB]

@[simp] theorem State.presetPending_chan (s : State) (n : Fin 20) (stat : Nat) (k : Fin 20) :
    (s.presetPending n stat).chan k = s.chan k := by
  simp [State.chan]

/-! ### What the parts of a stop leave of the channel -/

/-- The open packet is gone, and the configuration stands (R48). -/
theorem State.dropOpen_chan (s : State) (n : Fin 20) :
    ((s.dropOpen n).chan n).pkt = none ∧ ((s.dropOpen n).chan n).cfg = (s.chan n).cfg := by
  unfold State.dropOpen
  dsimp only
  split
  next hnone =>
    have hpkt : (s.chan n).pkt.isSome = false := by
      simp only [Chan.holdsOpen, Bool.not_eq_true', Bool.or_eq_false_iff] at hnone
      exact hnone.1
    exact ⟨by simpa using hpkt, rfl⟩
  · simp only [State.modCnt, State.modCh_chan_same]
    split
    · exact ⟨rfl, rfl⟩
    next hpkt => exact ⟨by simpa using hpkt, rfl⟩

/-- Of a channel HOLD_REQ alone takes the value (R83). -/
theorem State.setHold_chan (s : State) (n : Fin 20) (h : Bool) :
    (s.setHold n h).chan n = { s.chan n with holdReq := h } := by
  unfold State.setHold
  split
  next hsame => rw [hsame]
  · dsimp only
    split <;> simp

@[simp] theorem State.sendCredits_chan (s : State) (n : Fin 20) : s.sendCredits.chan n = s.chan n := by
  simp [State.chan]

/-- Of a channel its credit alone is evaluated anew (R220). -/
theorem State.evalCredit_chan (s : State) (n : Fin 20) :
    ∃ k, (s.evalCredit n).chan n = { s.chan n with chainCredit := k } := by
  unfold State.evalCredit
  dsimp only
  split
  · split
    · exact ⟨_, rfl⟩
    · exact ⟨s.creditOf n, by simp⟩
  · exact ⟨_, rfl⟩

@[simp] theorem State.stopChannel_mem (s : State) (n : Fin 20) : (s.stopChannel n).mem = s.mem := by
  simp [State.stopChannel]

/-- What a channel that has been stopped holds: no packet, no close, no record, no head frame, and WP back at CP; it is
configured as before. -/
structure Stopped (c d : Chan) : Prop where
  pkt : d.pkt = none
  closing : d.closing = []
  wp : d.wp = d.cp
  head : d.flow.head = none
  records : d.records = Vector.replicate 3 {}
  cfg : d.cfg = c.cfg

theorem State.stopChannel_chan (s : State) (n : Fin 20) : Stopped (s.chan n) ((s.stopChannel n).chan n) := by
  obtain ⟨hpkt, hcfg⟩ := s.dropOpen_chan n
  simp only [State.stopChannel, State.modTwin_chan, State.modArq_chan, State.modCh_chan_same, State.setHold_chan]
  exact ⟨hpkt, rfl, rfl, rfl, rfl, hcfg⟩

/-! ### The class map told to the peer (R162) -/

/-- A new class map reaches the link alone. -/
@[simp] theorem State.mapChanged_frame (s : State) :
    s.mapChanged.ch = s.ch ∧ s.mapChanged.pA = s.pA ∧ s.mapChanged.pB = s.pB ∧ s.mapChanged.mem = s.mem ∧
    s.mapChanged.od = s.od ∧ s.mapChanged.yar = s.yar ∧ s.mapChanged.rst = s.rst ∧ s.mapChanged.tansy = s.tansy := by
  unfold State.mapChanged
  dsimp only
  split <;> simp [State.sendCaps]

@[simp] theorem State.mapChanged_chan (s : State) (n : Fin 20) : s.mapChanged.chan n = s.chan n := by
  simp [State.chan]

/-! ### DISABLED and FAULT (R49) -/

/-- What the disable of a channel leaves, where no port has a command: the channel DISABLED and without a packet; the array and
what answers requests are as before. -/
structure Disabled (n : Fin 20) (s t : State) : Prop where
  state : (t.chan n).state = .disabled
  enable : (t.chan n).cfg.enable = 0
  pkt : (t.chan n).pkt = none
  mem : t.mem = s.mem
  od : t.od = s.od
  yar : t.yar = s.yar
  resets : t.rst = s.rst

theorem State.disableChannel_idle {s : State} (n : Fin 20) (hA : s.pA.q = []) (hB : s.pB.q = []) :
    Disabled n s (s.disableChannel n) := by
  obtain ⟨hpA, hpB⟩ := State.presetPending_idle hA hB n rsFlushed
  unfold State.disableChannel
  dsimp only
  rw [State.servicePorts_of_idle (by simpa using hpA) (by simpa using hpB)]
  have hpkt := ((s.presetPending n rsFlushed).stopChannel_chan n).pkt
  constructor <;> simp [State.evalHold, State.setHold_chan, hpkt]

/-- A channel that is ACTIVE, HELD or DRAINING enters FAULT (R49): stopped, with the cause, and the array as before. -/
theorem State.chFault_enters {s : State} {n : Fin 20} (cause : Nat)
    (h : (s.chan n).state = .active ∨ (s.chan n).state = .held ∨ (s.chan n).state = .draining) :
    Stopped (s.chan n) ((s.chFault n cause).chan n) ∧ ((s.chFault n cause).chan n).state = .fault ∧
    ((s.chFault n cause).chan n).faultCause = cause ∧ (s.chFault n cause).mem = s.mem := by
  unfold State.chFault
  dsimp only
  rw [if_pos h]
  obtain ⟨hpkt, hclosing, hwp, hhead, hrec, hcfg⟩ := (s.presetPending n rsFault).stopChannel_chan n
  rw [State.presetPending_chan] at hcfg
  obtain ⟨k, hk⟩ := (((s.presetPending n rsFault).stopChannel n).modCh n fun c =>
    { c with state := .fault, faultCause := cause }).evalCredit_chan n
  rw [State.attnCh_chan, hk, State.modCh_chan_same]
  exact ⟨⟨hpkt, hclosing, hwp, hhead, hrec, hcfg⟩, rfl, rfl, by simp⟩

/-- A FAULT decides no command where none waits. -/
theorem State.chFault_idle {s : State} (hA : s.pA.q = []) (hB : s.pB.q = []) (n : Fin 20) (cause : Nat) :
    (s.chFault n cause).pA.q = [] ∧ (s.chFault n cause).pB.q = [] := by
  obtain ⟨hpA, hpB⟩ := State.presetPending_idle hA hB n rsFault
  have hattn : ∀ (u : State), (u.attnCh n 12).pA.q = u.pA.q ∧ (u.attnCh n 12).pB.q = u.pB.q := by
    intro u
    unfold State.attnCh
    dsimp only
    split <;> split <;> exact ⟨rfl, rfl⟩
  unfold State.chFault
  dsimp only
  split
  · rw [(hattn _).1, (hattn _).2]
    exact ⟨by simpa using hpA, by simpa using hpB⟩
  · exact ⟨hA, hB⟩

@[simp] theorem State.statusIfChanged_chan (t s : State) (plan : Bool) (n : Fin 20) :
    (t.statusIfChanged s plan).chan n = t.chan n := by
  simp [State.chan]

/-- Settles O26: both endings stop the channel, and with no command at a port nothing follows. -/
theorem channelEndings : Obligations.ChannelEndings := by
  unfold Obligations.ChannelEndings
  refine ⟨?drained, ?broken⟩
  case drained =>
    intro n s hdrained hA hB
    obtain ⟨hstate, henable, hpkt, hmem, -⟩ := State.disableChannel_idle n hA hB
    refine ⟨(s.disableChannel n).statusIfChanged s true, congrArg Host.Outcome.next (if_pos hdrained), ?_⟩
    exact ⟨by simp [hstate], by simp [henable], by simp [hpkt], by simp [hmem]⟩
  case broken =>
    intro n s hactive hA hB
    obtain ⟨⟨hpkt, hclosing, hwp, hhead, hrecords, -⟩, hstate, hcause, hmem⟩ := State.chFault_enters 3 (.inl hactive)
    obtain ⟨hqA, hqB⟩ := State.chFault_idle hA hB n 3
    refine ⟨s.chFault n 3, congrArg Host.Outcome.next (State.servicePorts_of_idle hqA hqB), hstate, hcause, hpkt,
      hclosing, hwp, hhead, fun i => ?_, by rw [hmem]⟩
    rw [Chan.record, hrecords, Vector.get_eq_getElem, Vector.getElem_replicate]

end Sys2Proof.Machine
end

section
/-! Two statements about the write side that ask less of the state than they need: a commit of a closed packet that has been
refused (R211), and a store into a word whose error mask is listed twice. -/

namespace Sys2Proof.Machine

open Sys2Proof

/-- A packet channel whose one closed packet has been refused on the active meanwhile (R211), at its commit. -/
def refusedAtCommit : State :=
  State.reset.modCh 0 fun _ =>
    { wp := { off := 1 }
      closing := [{ slot := {}, endp := { off := 1 }, wseq := 0, slice := 0, kind := 0, frame := 0, len := 4,
                    crcFail := false, refused := true }] }

/-- The commit of a refused packet moves CP and counts nothing. -/
theorem packetCommit_refusedAtCommit : ∃ t, exec (.packetCommit 0) refusedAtCommit = .next t ∧
    (t.chan 0).cp = { off := 1 } ∧ (t.chan 0).cnt.pktCommitted = 0 :=
  ⟨_, rfl, by decide, by decide⟩

/-- Refutes O9: PKT_COMMITTED does not count a closed packet that is marked as refused, which the clause of PACKET_COMMIT does
not exclude. -/
theorem not_packetCyclesAndCommits : ¬ Obligations.PacketCyclesAndCommits := by
  unfold Obligations.PacketCyclesAndCommits
  rintro ⟨-, -, -, -, hcommit, -⟩
  obtain ⟨t, hexec, -, hzero⟩ := packetCommit_refusedAtCommit
  obtain ⟨u, hu, -, -, -, hcounted⟩ := hcommit 0 refusedAtCommit _ [] rfl rfl (by decide)
  obtain rfl : t = u := Host.Outcome.next.inj (hexec.symm.trans hu)
  rw [hzero] at hcounted
  exact absurd hcounted (by decide)

/-- An egress channel that port A writes: word 0 holds the header that the link reads next and is the place of WP, where the
next DATA fills a word. The error masks, which are not in their canonical form, list lane 0 of word 0 twice: with one wrong
bit, which is what the lane reads with, and behind it with two, which are left when fresh check bits take the first mask
away. -/
def laneListedTwice : State :=
  { State.reset.modCh 0 fun _ =>
      { cfg := { producer := .portA, consumer := .link, relmode := .explicit }, state := .active, cp := { off := 1 },
        pkt := some { slot := { off := 1 }, wseq := 0, slice := 0, kind := 0, frame := 0, len := 40, crc := 0,
                      first := zeros 16, buf := zeros 24 } } with
    pA := { State.reset.pA with state := .ready, wsel := some 0 }
    mem := { State.reset.mem with errs := [(0, 1), (0, 3)] }
    link := { State.reset.link with state := .up, rate := 2 } }

/-- The word that DATA stores makes the header unreadable: link egress passes over it, and its row waits for repair (R19,
R74). -/
theorem data_laneListedTwice : ∃ t, exec (.data .A ⟨0, 2#2⟩) laneListedTwice = .next t ∧
    t.tansy.queue ≠ [] :=
  ⟨_, rfl, by decide +kernel⟩

/-- Refutes O11: the clause of DATA takes any list of error masks, and where one is not in canonical form the store can uncover an
error in the header that link egress reads, whose row Tansy queues. -/
theorem not_writeCycleFrame : ¬ Obligations.WriteCycleFrame := by
  unfold Obligations.WriteCycleFrame
  rintro ⟨-, -, hdata, -⟩
  obtain ⟨t, hexec, hqueued⟩ := data_laneListedTwice
  obtain ⟨u, hu, ⟨-, -, -, -, -, -, -, -, -, htansy⟩, -⟩ :=
    hdata .A ⟨0, 2#2⟩ 0 laneListedTwice (by decide) (by decide) (by decide)
  obtain rfl : t = u := Host.Outcome.next.inj (hexec.symm.trans hu)
  exact hqueued (congrArg TansySt.queue htansy)

end Sys2Proof.Machine
end

section
/-! The moves of a channel that a write of ENABLE commands (R49, R52, R53): what `State.settle` leaves of the channel, what each
move makes of it, and the answer to the write. -/

namespace Sys2Proof.Machine

open Sys2Proof

/-! ### The end of `State.settle` -/

theorem State.ridle_chan (s : State) (n : Fin 20) : ∃ r, (s.ridle n).chan n = { s.chan n with ridleStart := r } := by
  unfold State.ridle
  dsimp only
  split
  · exact ⟨_, s.modCh_chan_same n _⟩
  · split
    · split
      · exact ⟨_, s.modCh_chan_same n _⟩
      · exact ⟨_, rfl⟩
    · exact ⟨_, s.modCh_chan_same n _⟩

theorem State.refreshFlow_chan (s : State) (n : Fin 20) : ∃ f, (s.refreshFlow n).chan n = { s.chan n with flow := f } := by
  unfold State.refreshFlow
  dsimp only
  split
  · exact ⟨_, rfl⟩
  · split
    · exact ⟨_, s.modCh_chan_same n _⟩
    · split
      · exact ⟨_, rfl⟩
      · exact ⟨_, s.modCh_chan_same n _⟩

/-- The last steps of `State.settle` evaluate HOLD_REQ, the credit, the read-idle timer and the flow anew, and nothing else of
the channel. -/
theorem State.settleEnd_chan (s : State) (n : Fin 20) :
    ∃ h k r f, ((((s.evalHold n).evalCredit n).ridle n).refreshFlow n).chan n =
      { s.chan n with holdReq := h, chainCredit := k, ridleStart := r, flow := f } := by
  obtain ⟨k, hk⟩ := (s.evalHold n).evalCredit_chan n
  obtain ⟨r, hr⟩ := ((s.evalHold n).evalCredit n).ridle_chan n
  obtain ⟨f, hf⟩ := (((s.evalHold n).evalCredit n).ridle n).refreshFlow_chan n
  exact ⟨s.holdNext n, k, r, f, by rw [hf, hr, hk, State.evalHold, State.setHold_chan]⟩

/-! ### What a producer has under way -/

/-- The channel is configured as before, in its state, with the open packet and the raw bytes that it had. -/
structure SameInput (c d : Chan) : Prop where
  cfg : d.cfg = c.cfg
  state : d.state = c.state
  pkt : d.pkt = c.pkt
  rawBuf : d.rawBuf = c.rawBuf

theorem SameInput.refl (c : Chan) : SameInput c c := ⟨rfl, rfl, rfl, rfl⟩

theorem SameInput.trans {c d e : Chan} (h : SameInput c d) (k : SameInput d e) : SameInput c e :=
  ⟨k.cfg.trans h.cfg, k.state.trans h.state, k.pkt.trans h.pkt, k.rawBuf.trans h.rawBuf⟩

theorem SameInput.modCh (s : State) (n : Fin 20) {f : Chan → Chan} (h : SameInput (s.chan n) (f (s.chan n))) :
    SameInput (s.chan n) ((s.modCh n f).chan n) := by
  rwa [State.modCh_chan_same]

theorem SameInput.modCnt (s : State) (n k : Fin 20) (f : ChCounters → ChCounters) :
    SameInput (s.chan k) ((s.modCnt n f).chan k) := by
  rw [State.modCnt_chan]
  split
  next h =>
    subst h
    exact ⟨rfl, rfl, rfl, rfl⟩
  · exact .refl _

theorem SameInput.moveLp (c : Chan) (p : Ptr) (pseq : Nat) (pos : Option PktPos) : SameInput c (c.moveLp p pseq pos) := by
  unfold Chan.moveLp
  split <;> exact ⟨rfl, rfl, rfl, rfl⟩

theorem SameInput.autoRelease (s : State) (n : Fin 20) : SameInput (s.chan n) ((s.autoRelease n).chan n) := by
  unfold State.autoRelease
  dsimp only
  split
  · exact .refl _
  · split
    · exact .modCh s n ⟨rfl, rfl, rfl, rfl⟩
    · split
      · exact .refl _
      · split
        · exact .modCh s n ⟨rfl, rfl, rfl, rfl⟩
        · exact .modCh s n (.moveLp _ _ _ _)

/-- A word read and counted changes no more than counters of a channel (R19). -/
theorem SameInput.countRead (s : State) (l : Loc) (p : Nat) (r : WordRd) (k : Fin 20) :
    SameInput (s.chan k) ((s.countRead l p r).chan k) := by
  have hnote : (s.noteRead l p r).chan k = s.chan k := by simp [State.chan]
  unfold State.countRead
  dsimp only
  rw [← hnote]
  split
  · exact .refl _
  · split
    · split
      · exact .modCnt ((s.noteRead l p r).modMem _) _ k _
      · exact .refl _
    · exact .refl _

theorem SameInput.passOver (s : State) (n : Fin 20) : SameInput (s.chan n) ((s.passOver n).chan n) := by
  have hcount : SameInput (s.chan n) ((s.countCut n).chan n) := by
    unfold State.countCut
    exact (SameInput.countRead s _ _ _ n).trans (.modCnt _ n n _)
  refine hcount.trans ?_
  unfold State.passOver
  dsimp only
  split
  · simp only [State.modArq_chan, State.modCh_chan_same]
    exact ⟨rfl, rfl, rfl, rfl⟩
  · rw [State.modCh_chan_same]
    unfold Chan.moveLp
    dsimp only
    split <;> exact ⟨rfl, rfl, rfl, rfl⟩

theorem SameInput.cutHead (s : State) (n : Fin 20) : SameInput (s.chan n) ((s.cutHead n).chan n) := by
  unfold State.cutHead
  split
  · exact .passOver s n
  · exact .refl _

/-- A roomy channel loses what lies behind LP, and does not fault by it (R43, R46). -/
theorem State.trim_of_roomy {s : State} {n : Fin 20} (h : Roomy n s) : s.trim n = s.modCh n Chan.trim := by
  have hroom := State.capacity_of_roomy ((Steady.modCh s n (f := Chan.trim) rfl rfl).roomy h)
  simp [State.trim, Nat.not_lt.mpr hroom]

theorem SameInput.freeSenderRecords (s : State) (n : Fin 20) :
    SameInput (s.chan n) ((s.freeSenderRecords n).chan n) := by
  have hfold : ∀ (f : Chan → Fin 3 → Chan), (∀ c i, SameInput c (f c i)) →
      ∀ (l : List (Fin 3)) c, SameInput c (l.foldl f c) := by
    intro f hf l
    induction l with
    | nil => exact .refl
    | cons i t ih => exact fun c => (hf c i).trans (ih _)
  unfold State.freeSenderRecords
  split
  · exact .refl _
  · refine .modCh s n (hfold _ (fun c i => ?_) _ _)
    dsimp only
    split
    · exact ⟨rfl, rfl, rfl, rfl⟩
    · exact .refl c

/-- The work after a change of a roomy channel takes nothing from its producer. -/
theorem SameInput.settle {s : State} {n : Fin 20} (h : Roomy n s) : SameInput (s.chan n) ((s.settle n).chan n) := by
  have hroomy := ((Steady.autoRelease s n).trans (Steady.cutHead _ n)).roomy h
  have hbefore : SameInput (s.chan n) (((((s.autoRelease n).cutHead n).trim n).freeSenderRecords n).chan n) := by
    refine ((SameInput.autoRelease s n).trans (.cutHead _ n)).trans (.trans ?_ (.freeSenderRecords _ n))
    rw [State.trim_of_roomy hroomy]
    exact .modCh _ n ⟨rfl, rfl, rfl, rfl⟩
  unfold State.settle
  dsimp only
  generalize (((s.autoRelease n).cutHead n).trim n).freeSenderRecords n = u at hbefore ⊢
  obtain ⟨h', k, r, f, hend⟩ := u.settleEnd_chan n
  rw [hend]
  exact ⟨hbefore.cfg, hbefore.state, hbefore.pkt, hbefore.rawBuf⟩

/-! ### A channel as it starts (R49, R66) -/

/-- A channel that has just been enabled: in its state, with every pointer at (0, 0) and nothing marked, recorded or
deferred. -/
structure Fresh (g : ChCfg) (st : ChState) (c : Chan) : Prop where
  cfg : c.cfg = g
  state : c.state = st
  wp : c.wp = {}
  cp : c.cp = {}
  rp : c.rp = {}
  mp : c.mp = {}
  lp : c.lp = {}
  mark : c.markValid = false
  records : c.records = Vector.replicate 3 {}
  deferred : c.deferred = []

section
variable {g : ChCfg} {st : ChState}

/-- Without a record the earliest first slice is none, and the pointer stands. -/
theorem Fresh.earliestFirst {c : Chan} (h : Fresh g st c) {q : FrameRec → Bool} (hq : q {} = false) (p : Ptr) :
    c.earliestFirst q p = p := by
  have hnone : c.records.toList.filter q = [] := by simp [h.records, hq]
  rw [Chan.earliestFirst, hnone]
  rfl

theorem Fresh.derive {c : Chan} (h : Fresh g st c) : Fresh g st c.derive := by
  have hrp := h.earliestFirst (q := fun r => r.state == .filling || r.state == .reading) rfl c.cp
  have hlp := h.earliestFirst (q := fun r => r.state == .held) rfl c.cp
  obtain ⟨hcfg, hstate, hwp, hcp, -, -, hl, -, hrec, hdef⟩ := h
  unfold Chan.derive
  dsimp only
  rw [hrp, hlp]
  exact ⟨hcfg, hstate, hwp, hcp, hcp, by split <;> assumption, by split <;> assumption, rfl, hrec, hdef⟩

theorem Fresh.moveLp {c : Chan} (h : Fresh g st c) (pseq : Nat) (pos : Option PktPos) :
    Fresh g st (c.moveLp c.rp pseq pos) := by
  rw [Chan.moveLp, if_neg (by simp [h.mark])]
  exact ⟨h.cfg, h.state, h.wp, h.cp, h.rp, h.rp, h.rp, h.mark, h.records, h.deferred⟩

theorem Fresh.modCh {s : State} {n : Fin 20} {f : Chan → Chan} (h : Fresh g st (f (s.chan n))) :
    Fresh g st ((s.modCh n f).chan n) := by
  rwa [State.modCh_chan_same]

theorem Fresh.autoRelease {s : State} {n : Fin 20} (h : Fresh g st (s.chan n)) : Fresh g st ((s.autoRelease n).chan n) := by
  unfold State.autoRelease
  dsimp only
  split
  · exact h
  · split
    · exact .modCh h.derive
    · split
      · exact h
      · rw [if_neg (by simp [h.mark])]
        exact .modCh (h.moveLp _ _)

/-- Nothing is readable, so no header is cut. -/
theorem Fresh.cutHead {s : State} {n : Fin 20} (h : Fresh g st (s.chan n)) : s.cutHead n = s := by
  have hdist : dist (s.chan n).s {} {} = 0 := by simp [dist, lin, bnat]
  have hempty : s.ringReadable n = 0 := by
    simp only [State.ringReadable, h.rp, h.cp, hdist, Nat.zero_sub]
  have hcut : s.headerCut n = false := by simp [State.headerCut, hempty]
  simp [State.cutHead, hcut]

theorem Fresh.trim {s : State} {n : Fin 20} (h : Fresh g st (s.chan n)) : Fresh g st ((s.trim n).chan n) := by
  rw [State.trim_of_no_deferred s n h.deferred]
  refine .modCh ?_
  obtain ⟨hcfg, hstate, hwp, hcp, hrp, hmp, hlp, hmark, hrec, hdef⟩ := h
  exact ⟨hcfg, hstate, hwp, hcp, hrp, hmp, hlp, hmark, hrec, by simp [Chan.trim, hdef]⟩

theorem Fresh.record {c : Chan} (h : Fresh g st c) (i : Fin 3) : c.record i = {} := by
  rw [Chan.record, h.records, Vector.get_eq_getElem, Vector.getElem_replicate]

/-- No record is FILLING, so none is freed. -/
theorem Fresh.freeSenderRecords {s : State} {n : Fin 20} (h : Fresh g st (s.chan n)) :
    Fresh g st ((s.freeSenderRecords n).chan n) := by
  have hfold : ∀ (f : Chan → Fin 3 → Chan), (∀ c i, Fresh g st c → Fresh g st (f c i)) →
      ∀ (l : List (Fin 3)) c, Fresh g st c → Fresh g st (l.foldl f c) := by
    intro f hf l
    induction l with
    | nil => exact fun _ h => h
    | cons i t ih => exact fun c h => ih _ (hf c i h)
  unfold State.freeSenderRecords
  split
  · exact h
  · refine .modCh (hfold _ (fun c i hc => ?_) _ _ h)
    rw [if_neg (by simp [hc.record i])]
    exact hc

theorem Fresh.settle {s : State} {n : Fin 20} (h : Fresh g st (s.chan n)) : Fresh g st ((s.settle n).chan n) := by
  have hbefore : Fresh g st (((((s.autoRelease n).cutHead n).trim n).freeSenderRecords n).chan n) := by
    have hrel := h.autoRelease
    rw [hrel.cutHead]
    exact hrel.trim.freeSenderRecords
  unfold State.settle
  dsimp only
  generalize (((s.autoRelease n).cutHead n).trim n).freeSenderRecords n = u at hbefore ⊢
  obtain ⟨hcfg, hstate, hwp, hcp, hrp, hmp, hlp, hmark, hrec, hdef⟩ := hbefore
  obtain ⟨h', k, r, f, hend⟩ := u.settleEnd_chan n
  rw [hend]
  exact ⟨hcfg, hstate, hwp, hcp, hrp, hmp, hlp, hmark, hrec, hdef⟩

end

/-- A channel starts fresh, and the work that follows a start leaves it so (R49, R66). -/
theorem State.startChannel_chan (s : State) (n : Fin 20) (st : ChState) (v : Nat) :
    Fresh { (s.chan n).cfg with enable := v } st ((s.startChannel n st v).chan n) := by
  unfold State.startChannel
  dsimp only
  refine Fresh.settle ?_
  rw [State.mapChanged_chan, State.modCh_chan_same]
  exact ⟨rfl, rfl, rfl, rfl, rfl, rfl, rfl, rfl, rfl, rfl⟩

/-! ### The tail commit of a move (R49, R71) -/

/-- Channel `n` is configured as before, in its state and with its open packet; the fences, the dictionary's service, firmware
and the resets stand. -/
structure Undisturbed (n : Fin 20) (s t : State) : Prop where
  cfg : (t.chan n).cfg = (s.chan n).cfg
  state : (t.chan n).state = (s.chan n).state
  pkt : (t.chan n).pkt = (s.chan n).pkt
  fences : t.tansy.fences = s.tansy.fences
  od : t.od = s.od
  yar : t.yar = s.yar
  resets : t.rst = s.rst

theorem Undisturbed.refl (n : Fin 20) (s : State) : Undisturbed n s s := ⟨rfl, rfl, rfl, rfl, rfl, rfl, rfl⟩

theorem Undisturbed.trans {n : Fin 20} {s t u : State} (h : Undisturbed n s t) (k : Undisturbed n t u) : Undisturbed n s u :=
  ⟨k.cfg.trans h.cfg, k.state.trans h.state, k.pkt.trans h.pkt, k.fences.trans h.fences, k.od.trans h.od, k.yar.trans h.yar,
    k.resets.trans h.resets⟩

theorem Undisturbed.roomy {n : Fin 20} {s t : State} (h : Undisturbed n s t) (hroomy : Roomy n s) : Roomy n t := by
  have hoffsets : fenceOffsets t.tansy.fences (t.chan n) = fenceOffsets s.tansy.fences (s.chan n) := by
    unfold fenceOffsets Chan.s
    rw [h.fences, h.cfg]
  simpa only [Roomy, hoffsets, Chan.s, h.cfg] using hroomy

theorem Undisturbed.modCh (s : State) (n : Fin 20) {f : Chan → Chan} (hcfg : (f (s.chan n)).cfg = (s.chan n).cfg)
    (hstate : (f (s.chan n)).state = (s.chan n).state) (hpkt : (f (s.chan n)).pkt = (s.chan n).pkt) :
    Undisturbed n s (s.modCh n f) := by
  constructor <;> simp [*]

theorem Undisturbed.settle {s : State} {n : Fin 20} (h : Roomy n s) : Undisturbed n s (s.settle n) := by
  obtain ⟨hcfg, hstate, hpkt, -⟩ := SameInput.settle h
  exact ⟨hcfg, hstate, hpkt, (Steady.settle h).fences, by simp, by simp, by simp⟩

theorem Undisturbed.then_settle {s t : State} {n : Fin 20} (h : Undisturbed n s t) (hroomy : Roomy n s) :
    Undisturbed n s (t.settle n) :=
  h.trans (.settle (h.roomy hroomy))

theorem Undisturbed.modCnt (s : State) (n : Fin 20) (f : ChCounters → ChCounters) : Undisturbed n s (s.modCnt n f) :=
  .modCh s n rfl rfl rfl

theorem Undisturbed.copyRaw (s : State) (n : Fin 20) (tail : Bool) (bs : List Byte) :
    Undisturbed n s (s.copyRaw n tail bs) := by
  constructor <;> simp

theorem Undisturbed.ridle (s : State) (n : Fin 20) : Undisturbed n s (s.ridle n) := by
  obtain ⟨r, hr⟩ := s.ridle_chan n
  constructor <;> simp [hr]

/-- A mirrored write reaches what Tansy has copied, and no fence (R317). -/
@[simp] theorem State.storeWord_fences (s : State) (l : Loc) (bs : List Byte) :
    (s.storeWord l bs).tansy.fences = s.tansy.fences := by
  unfold State.storeWord State.mirrorWrite State.mirrorPhys
  dsimp only
  split
  · split <;> rfl
  · rfl

theorem Undisturbed.writeWord (s : State) (n : Fin 20) (bs : List Byte) : Undisturbed n s (s.writeWord n bs) := by
  unfold State.writeWord
  constructor <;> simp

/-- The tail commit that a move makes takes raw bytes alone (R49, R71). -/
theorem Undisturbed.tailCommit {s : State} {n : Fin 20} (h : Roomy n s) : Undisturbed n s (s.tailCommit n none true) := by
  unfold State.tailCommit
  dsimp only
  split
  · exact .modCh s n rfl rfl rfl
  · rw [if_neg (by simp)]
    split
    · exact (Undisturbed.modCh s n rfl rfl rfl).trans (.ridle _ n)
    · refine Undisturbed.then_settle (.trans (.trans (.trans (.writeWord s n _) (.modCh _ n ?_ ?_ ?_)) (.modCnt _ n _))
        (.copyRaw _ n _ _)) h <;> rfl

theorem Undisturbed.tailAtHold {s : State} {n : Fin 20} (h : Roomy n s) : Undisturbed n s (s.tailAtHold n) := by
  unfold State.tailAtHold
  split
  · exact .tailCommit h
  · exact .refl n s

/-! ### What each move makes of the channel (R49) -/

/-- What answers requests stands: the dictionary's service, firmware, and the resets. -/
structure Answering (s t : State) : Prop where
  od : t.od = s.od
  yar : t.yar = s.yar
  resets : t.rst = s.rst

/-- Channel `n` in a state that ENABLE has commanded, before the work that follows (R49). -/
def State.enters (s : State) (n : Fin 20) (st : ChState) (v : Nat) : State :=
  s.modCh n fun c => { c with state := st, cfg := { c.cfg with enable := v } }

theorem State.enters_chan (s : State) (n : Fin 20) (st : ChState) (v : Nat) :
    (s.enters n st v).chan n = { s.chan n with state := st, cfg := { (s.chan n).cfg with enable := v } } :=
  s.modCh_chan_same n _

/-- Roominess does not ask for ENABLE. -/
theorem State.enters_roomy {s : State} {n : Fin 20} (h : Roomy n s) (st : ChState) (v : Nat) : Roomy n (s.enters n st v) := by
  unfold Roomy
  rw [State.enters_chan]
  exact h

/-- Channel `n` has moved to `st` under ENABLE `v`, with the packet that was open. -/
structure Moved (n : Fin 20) (st : ChState) (v : Nat) (s t : State) : Prop where
  state : (t.chan n).state = st
  enable : (t.chan n).cfg.enable = v
  pkt : (t.chan n).pkt = (s.chan n).pkt
  answering : Answering s t

theorem Undisturbed.moved {s t : State} {n : Fin 20} {st : ChState} {v : Nat} (h : Undisturbed n (s.enters n st v) t) :
    Moved n st v s t := by
  obtain ⟨hcfg, hstate, hpkt, -, hod, hyar, hrst⟩ := h
  rw [State.enters_chan] at hcfg hstate hpkt
  exact ⟨hstate, by rw [hcfg], hpkt, hod, hyar, hrst⟩

theorem State.holdChannel_moved {s : State} {n : Fin 20} (h : Roomy n s)
    (hstate : (s.chan n).state = .active ∨ (s.chan n).state = .draining) : Moved n .held 2 s (s.holdChannel n) := by
  have hroomy := State.enters_roomy h .held 2
  rw [State.holdChannel, if_pos hstate]
  refine Undisturbed.moved (.then_settle ?_ hroomy)
  split
  · exact .tailAtHold hroomy
  · exact .refl n _

/-- Raw bytes gathered in DRAINING stay (R49). -/
theorem State.holdChannel_rawBuf {s : State} {n : Fin 20} (h : Roomy n s) (hstate : (s.chan n).state = .draining) :
    ((s.holdChannel n).chan n).rawBuf = (s.chan n).rawBuf := by
  have hkept := (SameInput.settle (State.enters_roomy h .held 2)).rawBuf
  rw [State.enters_chan] at hkept
  rw [State.holdChannel, if_pos (.inr hstate)]
  dsimp only
  rw [if_neg (by simp [hstate])]
  exact hkept

theorem State.drainChannel_moved {s : State} {n : Fin 20} (h : Roomy n s)
    (hstate : (s.chan n).state = .active ∨ (s.chan n).state = .held) : Moved n .draining 3 s (s.drainChannel n) := by
  have hroomy := State.enters_roomy h .draining 3
  rw [State.drainChannel, if_pos hstate]
  exact Undisturbed.moved ((Undisturbed.tailAtHold hroomy).then_settle hroomy)

theorem State.startChannel_answering (s : State) (n : Fin 20) (st : ChState) (v : Nat) :
    Answering s (s.startChannel n st v) := by
  unfold State.startChannel
  dsimp only
  constructor <;> simp

/-! ### The move that a value of ENABLE commands (R49, R53) -/

theorem State.moveEnable_unreadable {s : State} (n : Fin 20) (hup : s.blockUp 1 = true) (h : s.unreadable = true) :
    s.moveEnable n 1 = s.refuseEnable n 10 := by
  simp [State.moveEnable, hup, h]

/-- ENABLE := 01h to a DISABLED channel starts it where every check passes, and is refused with the code of the check that
fails (R53). -/
theorem State.moveEnable_start {s : State} {n : Fin 20} (hup : s.blockUp 1 = true) (hread : s.unreadable = false)
    (h : (s.chan n).state = .disabled) :
    s.moveEnable n 1 =
      if s.enableCheck n 1 ≠ 0 then s.refuseEnable n (s.enableCheck n 1) else (0, s.startChannel n .active 1) := by
  simp [State.moveEnable, hup, hread, h]

theorem State.moveEnable_hold {s : State} {n : Fin 20} (hup : s.blockUp 1 = true)
    (h : (s.chan n).state = .active ∨ (s.chan n).state = .draining) : s.moveEnable n 2 = (0, s.holdChannel n) := by
  rcases h with h | h <;> simp [State.moveEnable, hup, h]

theorem State.moveEnable_drain {s : State} {n : Fin 20} (hup : s.blockUp 1 = true) (hread : s.unreadable = false)
    (h : (s.chan n).state = .active ∨ (s.chan n).state = .held) : s.moveEnable n 3 = (0, s.drainChannel n) := by
  rcases h with h | h <;> simp [State.moveEnable, hup, hread, h]

theorem State.moveEnable_disable {s : State} {n : Fin 20} (hup : s.blockUp 1 = true) (h : (s.chan n).state ≠ .disabled) :
    s.moveEnable n 0 = (0, s.disableChannel n) := by
  cases hst : (s.chan n).state with
  | disabled => exact absurd hst h
  | _ => simp [State.moveEnable, hup, hst]

/-! ### The answer to the write (R247) -/

/-- A move also goes into firmware's copy of ENABLE where there is one, and otherwise is the whole write (R291). -/
theorem State.writeEnable_of_move {s t : State} {n : Fin 20} {v c : Nat} (h : s.moveEnable n v = (c, t)) :
    ∃ f : RstSt → RstSt, (f t.rst).blockReset = t.rst.blockReset ∧ s.writeEnable n v = (c, t.modRst f) := by
  unfold State.writeEnable
  rw [h]
  dsimp only
  split
  · exact ⟨id, rfl, rfl⟩
  · exact ⟨_, rfl, rfl⟩

/-- ENABLE is a byte. -/
theorem enable_value {n : Fin 20} {row : Row} (h : (Obj.chCfg n).row 0x13 = some row) (v : Byte) :
    (row.ty.value [v]).toNat = v.toNat := by
  obtain rfl : (⟨0x13, .uint 1, .rws, 1, .span 0 3⟩ : Row) = row := Option.some.inj h
  simp [OTy.value, leNat]

/-- A served WRITE of ENABLE leaves the channel as its move does, and is recorded with the move's abort code. -/
theorem enable_answered {h : OdHead} {n : Fin 20} {v : Byte} {s t : State} {c : Nat}
    (hs : OdServed h 2 (0x2000 + n.val) 0x13 [v] s) (hmove : s.atRequest.moveEnable n v.toNat = (c, t))
    (hanswer : Answering s.atRequest t) (hc : c ≠ abBusy) :
    (s.odWrite h (0x2000 + n.val) 0x13 [v]).chan n = t.chan n ∧
      Recorded h c (s.odWrite h (0x2000 + n.val) 0x13 [v]) := by
  obtain ⟨-, -, hup, -, hserve, -, htask, -⟩ := hs.1
  obtain ⟨hod, hyar, hrst⟩ := hanswer
  obtain ⟨f, hblocks, hwrite⟩ := State.writeEnable_of_move hmove
  have hkept : (f s.rst).blockReset = s.rst.blockReset := by simpa [hrst] using hblocks
  obtain ⟨m, img, hx, hrec⟩ := odWrite_answered (t := (t.modRst f).statusIfChanged s.atRequest true) (c := c) hs
    (objOf_index (.chCfg n))
    (fun row hrow => by
      simp only [State.writeEntry, State.writeValue, State.writeChCfg, if_true, enable_value hrow, hwrite])
    (by simp [hod, htask]) (by simp [hyar, hserve])
    (by simpa [State.blockUp, hrst, hkept] using State.blockUp_of_mailboxUp hup) hc
  rw [hx]
  exact ⟨by simp, hrec⟩

/-- A refused WRITE of ENABLE leaves the channel in its state, with the code, and is recorded with STATE. -/
theorem enable_refused {h : OdHead} {n : Fin 20} {v : Byte} {s : State} {code : Nat}
    (hs : OdServed h 2 (0x2000 + n.val) 0x13 [v] s)
    (hmove : s.atRequest.moveEnable n v.toNat = s.atRequest.refuseEnable n code) :
    ((s.odWrite h (0x2000 + n.val) 0x13 [v]).chan n).state = (s.chan n).state ∧
      ((s.odWrite h (0x2000 + n.val) 0x13 [v]).chan n).enableRefusal = code ∧
      Recorded h abState (s.odWrite h (0x2000 + n.val) 0x13 [v]) := by
  obtain ⟨hchan, hrec⟩ := enable_answered hs hmove ⟨rfl, rfl, rfl⟩ (by decide)
  rw [hchan, State.modCh_chan_same]
  exact ⟨rfl, rfl, hrec⟩

/-- Settles O31: each value of ENABLE makes its move of the channel as the request finds it. -/
theorem enableMoves : Obligations.EnableMoves := by
  unfold Obligations.EnableMoves
  refine ⟨?start, ?check, ?unreadable, ?hold, ?drain, ?disable⟩
  case start =>
    intro h n s hs hstate hup hread hcheck
    have hmove : s.atRequest.moveEnable n 1 = (0, s.atRequest.startChannel n .active 1) := by
      rw [State.moveEnable_start (s := s.atRequest) hup hread hstate]
      exact if_neg (not_not.mpr hcheck)
    obtain ⟨hchan, hrec⟩ := enable_answered hs hmove (State.startChannel_answering _ _ _ _) (by decide)
    have hfresh := s.atRequest.startChannel_chan n .active 1
    rw [← hchan] at hfresh
    exact ⟨_, rfl, hfresh.state, by rw [hfresh.cfg], hfresh.wp, hfresh.cp, hfresh.rp, hfresh.mp, hfresh.lp, hfresh.mark,
      hfresh.record, hrec⟩
  case check =>
    intro h n s hs hstate hup hread hcheck
    have hmove : s.atRequest.moveEnable n 1 = s.atRequest.refuseEnable n (s.enableCheck n 1) := by
      rw [State.moveEnable_start (s := s.atRequest) hup hread hstate]
      exact if_pos hcheck
    obtain ⟨hst, hcode, hrec⟩ := enable_refused hs hmove
    exact ⟨_, rfl, hst.trans hstate, hcode, hrec⟩
  case unreadable =>
    intro h n s hs hstate hup hread
    obtain ⟨hst, hcode, hrec⟩ := enable_refused hs (State.moveEnable_unreadable (s := s.atRequest) n hup hread)
    exact ⟨_, rfl, hst.trans hstate, hcode, hrec⟩
  case hold =>
    intro h n s hs hup hroomy hstate
    obtain ⟨hst, henable, hpkt, hanswer⟩ := State.holdChannel_moved (s := s.atRequest) hroomy hstate
    obtain ⟨hchan, hrec⟩ := enable_answered hs (State.moveEnable_hold (s := s.atRequest) hup hstate) hanswer (by decide)
    have hraw := State.holdChannel_rawBuf (s := s.atRequest) hroomy
    rw [← hchan] at hst henable hpkt hraw
    exact ⟨_, rfl, hst, henable, hpkt, hrec, hraw⟩
  case drain =>
    intro h n s hs hup hread hroomy hstate
    obtain ⟨hst, henable, hpkt, hanswer⟩ := State.drainChannel_moved (s := s.atRequest) hroomy hstate
    obtain ⟨hchan, hrec⟩ := enable_answered hs (State.moveEnable_drain (s := s.atRequest) hup hread hstate) hanswer
      (by decide)
    rw [← hchan] at hst henable hpkt
    exact ⟨_, rfl, hst, henable, hpkt, hrec⟩
  case disable =>
    intro h n s hs hup hstate hA hB
    obtain ⟨hst, henable, hpkt, -, hod, hyar, hrst⟩ := State.disableChannel_idle (s := s.atRequest) n hA hB
    obtain ⟨hchan, hrec⟩ := enable_answered hs (State.moveEnable_disable (s := s.atRequest) hup hstate)
      ⟨hod, hyar, hrst⟩ (by decide)
    rw [← hchan] at hst henable hpkt
    exact ⟨_, rfl, hst, henable, hpkt, hrec⟩

end Sys2Proof.Machine
end

section
/-! Two statements about reads that ask less of the state than they need: words delivered where the pointer invariant of R42 does
not hold, and counters that stand while the transmitter of a Chain pair may read (R220). -/

namespace Sys2Proof.Machine

open Sys2Proof

/-- A raw channel of 256 words from port A to port B whose CP stands 257 words after RP: one more than the region has, which
the invariant of R42 does not allow. The words at offsets 0 and 128 are fenced. READABLE takes each of them off once, and a
reader meets the first of them twice. -/
def lapAndOneWord : State :=
  { State.reset.modCh 0 fun _ =>
      { cfg := { cls := .raw, producer := .portA, consumer := .portB, relmode := .explicit, size := 2 }, state := .active,
        wp := { lap := true, off := 1 }, cp := { lap := true, off := 1 } } with
    mem := { State.reset.mem with clearState := 2 }
    tansy := { State.reset.tansy with fences := [⟨0, 0, 0, 0, 1⟩] }
    pB := { State.reset.pB with state := .ready }
    twin := { State.reset.twin with own := true } }

/-- READ of 255 words of channel 0. -/
def read255 : RCmd := { tag := 5, ch := 0, cseq := 0, mod := 0, par := 4, complete := true }

/-- All 255 words that the READ asks for are READABLE, but behind 254 of them none is any more, and the READ waits. -/
theorem read_lapAndOneWord : lapAndOneWord.ringReadable 0 = 255 ∧
    ∃ t, exec (.read .B read255 254) lapAndOneWord = .next t ∧ t.pB.q ≠ [] :=
  ⟨by decide +kernel, _, rfl, by decide +kernel⟩

/-- Refutes O21: the clause of READ on a raw channel takes any pointers, and where CP stands more than a region ahead of RP a fenced
word lies in the way twice, so that fewer words can be delivered than are READABLE. -/
theorem not_readsDeliverStoredWords : ¬ Obligations.ReadsDeliverStoredWords := by
  unfold Obligations.ReadsDeliverStoredWords
  rintro ⟨-, -, -, hwords, -⟩
  obtain ⟨hreadable, t, hexec, hwaits⟩ := read_lapAndOneWord
  obtain ⟨u, hu, ⟨-, hretired, -⟩, -⟩ := hwords .B read255 254 0 lapAndOneWord (by decide +kernel) (by decide +kernel) rfl
    (by decide) (by rw [hreadable]; decide) rfl rfl (by decide +kernel) rfl
  obtain rfl : t = u := Host.Outcome.next.inj (hexec.symm.trans hu)
  exact hwaits hretired

/-- The producer half of a Chain pair with Clover up. Its raw channel is full, a tail commit waits for room, and device 1 has
credit for one word: the word at RP, which is uncorrectable. The read-idle period has passed. -/
def fullAtProducerHalf : State :=
  { State.reset.modCh 0 fun _ =>
      { cfg := { cls := .raw, producer := .portA, consumer := .portB }, state := .active, wp := { lap := true },
        cp := { lap := true }, rawBuf := [1], tailPending := true, ridleStart := some 0, chainCredit := 1 } with
    mem := { State.reset.mem with errs := [(0, 3)] }
    pwr := { State.reset.pwr with timeclk := us 1000 }
    twin := { State.reset.twin with pairInUse := 2, twinId := false, cloverState := 2 } }

/-- The read-idle time-out lets the chain take the readable word, whose delivery counts in UE_DELIVERED (R58, R220). -/
theorem readIdle_fullAtProducerHalf : ∃ t, exec (.readIdleTimeout 0 0) fullAtProducerHalf = .next t ∧
    (t.chan 0).cnt.ueDelivered = 1 :=
  ⟨_, rfl, by decide +kernel⟩

/-- Refutes O27: the clause of a tail commit that goes on waiting takes the producer half of a Chain pair too, whose transmitter may
deliver a word of the channel in the same step and count it. -/
theorem not_waitingReadsAndIdle : ¬ Obligations.WaitingReadsAndIdle := by
  unfold Obligations.WaitingReadsAndIdle
  rintro ⟨-, -, -, -, hwaits, -⟩
  obtain ⟨t, hexec, hcounted⟩ := readIdle_fullAtProducerHalf
  obtain ⟨u, hu, -, -, -, hcnt⟩ := hwaits 0 0 fullAtProducerHalf 0 rfl (by decide) rfl (by decide) rfl (by decide) rfl
    (by decide +kernel)
  obtain rfl : t = u := Host.Outcome.next.inj (hexec.symm.trans hu)
  rw [hcnt] at hcounted
  exact absurd hcounted (by decide)

end Sys2Proof.Machine
end

section
/-! OPEN on an active channel of the port (R61, R86, R87): what `State.settle` leaves of the write side of a channel, and the two
ends of the space check. -/

namespace Sys2Proof.Machine

open Sys2Proof

/-! ### What `State.settle` leaves of the write side -/

/-- The channel without what its read side and its release move: the read pointers, the records, what waits behind LP, the flags,
and the counts of words read. -/
def Chan.writeSide (c : Chan) : Chan :=
  { c with rp := {}, mp := {}, lp := {}, markValid := false, markPseq := 0, markPkt := none, inPkt := none, tails := [],
           skip := none, deferred := [], records := Vector.replicate 3 {}, holdReq := false, chainCredit := 0,
           ridleStart := none, flow := {}, cnt := { c.cnt with ce := 0, ueDelivered := 0 } }

/-- Channel `n` has the same write side in `t` as in `s`. -/
def SameWriteSide (n : Fin 20) (s t : State) : Prop := (t.chan n).writeSide = (s.chan n).writeSide

theorem SameWriteSide.refl (n : Fin 20) (s : State) : SameWriteSide n s s := rfl

theorem SameWriteSide.trans {n : Fin 20} {s t u : State} (h : SameWriteSide n s t) (k : SameWriteSide n t u) :
    SameWriteSide n s u :=
  Eq.trans k h

theorem SameWriteSide.modCh (s : State) (n : Fin 20) {f : Chan → Chan} (h : (f (s.chan n)).writeSide = (s.chan n).writeSide) :
    SameWriteSide n s (s.modCh n f) := by
  rwa [SameWriteSide, State.modCh_chan_same]

/-- Counting what has been read, of whatever channel, touches no write side. -/
theorem SameWriteSide.modCnt (n : Fin 20) (s : State) (k : Fin 20) {f : ChCounters → ChCounters}
    (h : ∀ m, { f m with ce := 0, ueDelivered := 0 } = { m with ce := 0, ueDelivered := 0 }) :
    SameWriteSide n s (s.modCnt k f) := by
  unfold SameWriteSide
  rw [State.modCnt_chan]
  split
  next hk =>
    subst hk
    simp only [Chan.writeSide, h]
  · rfl

theorem Chan.moveLp_writeSide (c : Chan) (p : Ptr) (pseq : Nat) (pos : Option PktPos) :
    (c.moveLp p pseq pos).writeSide = c.writeSide := by
  unfold Chan.moveLp
  split <;> rfl

theorem SameWriteSide.autoRelease (s : State) (n : Fin 20) : SameWriteSide n s (s.autoRelease n) := by
  unfold State.autoRelease
  dsimp only
  split
  · exact .refl n s
  · split
    · exact .modCh s n rfl
    · split
      · exact .refl n s
      · split
        · exact .modCh s n rfl
        · exact .modCh s n (Chan.moveLp_writeSide _ _ _ _)

theorem SameWriteSide.countRead (n : Fin 20) (s : State) (l : Loc) (p : Nat) (r : WordRd) :
    SameWriteSide n s (s.countRead l p r) := by
  have hnote : SameWriteSide n s (s.noteRead l p r) := by simp [SameWriteSide, State.chan]
  refine hnote.trans ?_
  unfold State.countRead
  dsimp only
  split
  · exact .refl n _
  · split
    · split
      · exact .modCnt n ((s.noteRead l p r).modMem _) _ fun _ => rfl
      · exact .refl n _
    · exact .refl n _

theorem SameWriteSide.passOver (s : State) (n : Fin 20) : SameWriteSide n s (s.passOver n) := by
  have hcount : SameWriteSide n s (s.countCut n) := by
    unfold State.countCut
    exact (SameWriteSide.countRead n s _ _ _).trans (.modCnt n _ n fun _ => rfl)
  refine hcount.trans ?_
  unfold State.passOver
  dsimp only
  split
  · simp only [SameWriteSide, State.modArq_chan, State.modCh_chan_same]
    rfl
  · rw [SameWriteSide, State.modCh_chan_same, Chan.moveLp_writeSide]
    rfl

theorem SameWriteSide.cutHead (s : State) (n : Fin 20) : SameWriteSide n s (s.cutHead n) := by
  unfold State.cutHead
  split
  · exact .passOver s n
  · exact .refl n s

theorem SameWriteSide.freeSenderRecords (s : State) (n : Fin 20) : SameWriteSide n s (s.freeSenderRecords n) := by
  have hfold : ∀ (f : Chan → Fin 3 → Chan), (∀ c i, (f c i).writeSide = c.writeSide) →
      ∀ (l : List (Fin 3)) c, (l.foldl f c).writeSide = c.writeSide := by
    intro f hf l
    induction l with
    | nil => exact fun _ => rfl
    | cons i t ih => exact fun c => (ih _).trans (hf c i)
  unfold State.freeSenderRecords
  split
  · exact .refl n s
  · refine .modCh s n (hfold _ (fun c i => ?_) _ _)
    dsimp only
    split <;> rfl

/-- What LP passes is no part of the write side. -/
theorem Chan.trim_writeSide (c : Chan) : c.trim.writeSide = c.writeSide := rfl

theorem SameWriteSide.settleEnd (s : State) (n : Fin 20) :
    SameWriteSide n s ((((s.evalHold n).evalCredit n).ridle n).refreshFlow n) := by
  obtain ⟨h, k, r, f, hend⟩ := s.settleEnd_chan n
  rw [SameWriteSide, hend]
  rfl

/-- The work after a change of a roomy channel leaves its write side. -/
theorem SameWriteSide.settle {s : State} {n : Fin 20} (h : Roomy n s) : SameWriteSide n s (s.settle n) := by
  have hroomy := ((Steady.autoRelease s n).trans (Steady.cutHead _ n)).roomy h
  have hreleased := (SameWriteSide.autoRelease s n).trans (.cutHead _ n)
  unfold State.settle
  dsimp only
  rw [State.trim_of_roomy hroomy]
  exact hreleased.trans <| (SameWriteSide.modCh _ n (Chan.trim_writeSide _)).trans <|
    (SameWriteSide.freeSenderRecords _ n).trans (.settleEnd _ n)

section
variable {n : Fin 20} {s t : State}

theorem SameWriteSide.pkt (h : SameWriteSide n s t) : (t.chan n).pkt = (s.chan n).pkt := (congrArg (·.pkt) h :)

theorem SameWriteSide.wp (h : SameWriteSide n s t) : (t.chan n).wp = (s.chan n).wp := (congrArg (·.wp) h :)

theorem SameWriteSide.cp (h : SameWriteSide n s t) : (t.chan n).cp = (s.chan n).cp := (congrArg (·.cp) h :)

theorem SameWriteSide.refusing (h : SameWriteSide n s t) : (t.chan n).refusing = (s.chan n).refusing :=
  (congrArg (·.refusing) h :)

theorem SameWriteSide.overflowRefused (h : SameWriteSide n s t) :
    (t.chan n).cnt.overflowRefused = (s.chan n).cnt.overflowRefused :=
  (congrArg (·.cnt.overflowRefused) h :)

end

/-! ### The space check of OPEN (R61, R86, R87) -/

/-- Room and the place of the next word ask only for the fences, and for WP, LP, the configuration and the deferred entries of the
channel. -/
structure SameRoom (n : Fin 20) (s t : State) : Prop where
  fences : t.tansy.fences = s.tansy.fences
  cfg : (t.chan n).cfg = (s.chan n).cfg
  wp : (t.chan n).wp = (s.chan n).wp
  lp : (t.chan n).lp = (s.chan n).lp
  deferred : (t.chan n).deferred = (s.chan n).deferred

section
variable {n : Fin 20} {s t : State}

theorem SameRoom.fenced (h : SameRoom n s t) : t.fenced n = s.fenced n := by
  unfold State.fenced fenceOffsets Chan.s
  rw [h.fences, h.cfg, h.deferred]

theorem SameRoom.free (h : SameRoom n s t) : t.free n = s.free n := by
  simp only [State.free, h.fenced, Chan.s, h.cfg, h.wp, h.lp]

theorem SameRoom.writeSlot (h : SameRoom n s t) : t.writeSlot n = s.writeSlot n := by
  simp only [State.writeSlot, h.fenced, Chan.s, h.cfg, h.wp]

end

/-- Roominess asks only for the fences and the configuration of the channel. -/
theorem roomy_of_same {n : Fin 20} {s t : State} (hfences : t.tansy.fences = s.tansy.fences)
    (hcfg : (t.chan n).cfg = (s.chan n).cfg) (h : Roomy n s) : Roomy n t := by
  have hoffsets : fenceOffsets t.tansy.fences (t.chan n) = fenceOffsets s.tansy.fences (s.chan n) := by
    unfold fenceOffsets Chan.s
    rw [hfences, hcfg]
  simpa only [Roomy, hoffsets, Chan.s, hcfg] using h

/-- Where the region has room, or no held frame can make any, none is dropped (R86). -/
theorem State.makeRoom_none {s : State} {n : Fin 20} (h : s.free n ≠ 0 ∨ (s.chan n).cfg.relmode ≠ .framehold) :
    s.makeRoom n = s := by
  rw [State.makeRoom, if_neg (by tauto)]

/-- The packet that an OPEN with these operands opens, its header word in `slot` (R61). -/
def openedPkt (slot : Ptr) (wseq slice kind frame : Nat) : OpenPkt :=
  { slot := slot, wseq := wseq, slice := slice, kind := kind, frame := frame, len := 0, crc := crcInit, first := [], buf := [] }

/-- Packet `p` has opened on channel `n`: its header word takes the next slot, and CP, every configuration and every state
stand. -/
structure PacketOpened (n : Fin 20) (p : OpenPkt) (s t : State) : Prop where
  pkt : (t.chan n).pkt = some p
  wp : (t.chan n).wp = step1 (s.chan n).s (s.writeSlot n)
  cp : (t.chan n).cp = (s.chan n).cp
  steady : Steady s t

/-- Where the region has room, OPEN opens the packet. -/
theorem State.startPacket_opens {s : State} {n : Fin 20} (hroomy : Roomy n s) (hstate : (s.chan n).state = .active)
    (hfree : s.free n ≠ 0) (x : Option Port) (wseq slice kind frame : Nat) :
    PacketOpened n (openedPkt (s.writeSlot n) wseq slice kind frame) s (s.startPacket n x wseq slice kind frame) := by
  obtain ⟨f, hf, hopened⟩ : ∃ f : Chan → Chan, (f (s.chan n) =
      { s.chan n with wp := step1 (s.chan n).s (s.writeSlot n), refusing := false,
                      pkt := some (openedPkt (s.writeSlot n) wseq slice kind frame) }) ∧
      s.startPacket n x wseq slice kind frame = (s.modCh n f).settle n :=
    ⟨fun c => { c with wp := step1 c.s (s.writeSlot n), refusing := false,
                       pkt := some (openedPkt (s.writeSlot n) wseq slice kind frame) }, rfl,
      by simp [State.startPacket, State.makeRoom_none (.inl hfree), hstate, hfree, openedPkt]⟩
  have hsteady : Steady s (s.modCh n f) := .modCh s n (by rw [hf]) (by rw [hf])
  have hside := SameWriteSide.settle (hsteady.roomy hroomy)
  have hchan : (s.modCh n f).chan n = _ := (s.modCh_chan_same n f).trans hf
  rw [hopened]
  exact ⟨by rw [hside.pkt, hchan], by rw [hside.wp, hchan], by rw [hside.cp, hchan], hsteady.then_settle hroomy⟩

/-- A channel event sets its cause at the port that produces the channel (R89, R90). -/
theorem State.attnCh_producer {s : State} {n : Fin 20} {x : Port} (h : (s.chan n).cfg.producer = End.ofPort x) (bit : Fin 32) :
    ((s.attnCh n bit.val).port x).attnCause.getLsbD bit.val = true := by
  cases x <;> simp only [State.attnCh, h, End.ofPort, true_or, if_true] <;> split <;>
    simp [State.attnChAt, State.modPort, State.port]

/-- The refusal of a packet for want of space, without the work that follows it (R87). -/
def State.refused (s : State) (n : Fin 20) (wseq slice frame : Nat) : State :=
  let s := s.modCh n fun c =>
    let c := { c with wp := c.writeBase, pkt := none, refusing := true }
    if c.cfg.cls = .slice then c.setMiss frame slice 3 else c
  let s := s.modCnt n fun k => { k with overflowRefused := inc32 k.overflowRefused }
  let s := (s.attnCh n 0).announceRefusal n wseq 1
  if (s.chan n).portShadowed && s.twin.pairInUse == 1 && s.twin.role == .standby
  then s.modTwin fun t => { t with ownRefusals := t.ownRefusals ++ [(n.val, wseq, s.now)] } else s

theorem State.refusePacket_eq (s : State) (n : Fin 20) (wseq slice frame : Nat) :
    s.refusePacket n wseq slice frame = (s.refused n wseq slice frame).settle n := rfl

section
variable {s : State} {n : Fin 20} (hcls : (s.chan n).cfg.cls ≠ .slice) (wseq slice frame : Nat)
include hcls

theorem State.refused_chan : (s.refused n wseq slice frame).chan n =
    { s.chan n with wp := (s.chan n).writeBase, pkt := none, refusing := true,
                    cnt := { (s.chan n).cnt with overflowRefused := inc32 (s.chan n).cnt.overflowRefused } } := by
  unfold State.refused
  dsimp only
  split <;> simp [State.modCnt_chan, hcls]

theorem State.refused_state (k : Fin 20) : ((s.refused n wseq slice frame).chan k).state = (s.chan k).state := by
  by_cases hk : k = n
  · subst hk
    rw [State.refused_chan hcls]
  · unfold State.refused
    dsimp only
    split <;> simp [State.modCnt_chan, State.modCh_chan, hk]

theorem State.refused_told {x : Port} (hprod : (s.chan n).cfg.producer = End.ofPort x) :
    ((s.refused n wseq slice frame).port x).attnCause.getLsbD 0 = true := by
  unfold State.refused
  dsimp only
  split <;> simp only [State.modTwin_port, State.announceRefusal_port] <;>
    exact State.attnCh_producer (by simp [State.modCnt_chan, hcls, hprod]) 0

end

@[simp] theorem State.refused_tansy (s : State) (n : Fin 20) (wseq slice frame : Nat) :
    (s.refused n wseq slice frame).tansy = s.tansy := by
  unfold State.refused
  dsimp only
  split <;> simp

/-- A packet for channel `n`, which port `x` writes, has been refused for want of space; no channel has changed its state. -/
structure PacketRefused (n : Fin 20) (x : Port) (s t : State) : Prop where
  pkt : (t.chan n).pkt = none
  refusing : (t.chan n).refusing = true
  counted : (t.chan n).cnt.overflowRefused = inc32 (s.chan n).cnt.overflowRefused
  told : (t.port x).attnCause.getLsbD 0 = true
  state : ∀ k, (t.chan k).state = (s.chan k).state

theorem State.refusePacket_refuses {s : State} {n : Fin 20} {x : Port} (hroomy : Roomy n s)
    (hcls : (s.chan n).cfg.cls ≠ .slice) (hprod : (s.chan n).cfg.producer = End.ofPort x) (wseq slice frame : Nat) :
    PacketRefused n x s (s.refusePacket n wseq slice frame) := by
  have hchan := State.refused_chan hcls wseq slice frame
  have hroom : Roomy n (s.refused n wseq slice frame) := roomy_of_same (by simp) (by rw [hchan]) hroomy
  have hsteady := Steady.settle hroom
  have hside := SameWriteSide.settle hroom
  rw [State.refusePacket_eq]
  exact ⟨by rw [hside.pkt, hchan], by rw [hside.refusing, hchan], by rw [hside.overflowRefused, hchan],
    by rw [hsteady.port]; exact State.refused_told hcls wseq slice frame hprod,
    fun k => (hsteady.channels k).2.trans (State.refused_state hcls wseq slice frame k)⟩

/-! ### The OPEN of the channel's own port (R50, R61, R63) -/

/-- What an OPEN of the producer leaves before the space check, where no packet is open: no refusal is in force. -/
theorem State.prodOpen_own {s : State} {n : Fin 20} (hstate : (s.chan n).state = .active) (hpkt : (s.chan n).pkt = none)
    (hshadow : s.shadows = false) (x : Option Port) (wseq slice kind frame : Nat) :
    ∃ u, s.prodOpen n x true wseq slice kind frame = u.startPacket n x wseq slice kind frame ∧ SameRoom n s u ∧
      Steady s u ∧ (u.chan n).cp = (s.chan n).cp ∧ (u.chan n).cnt = (s.chan n).cnt := by
  have hdrop : s.discardPacket n = s.modCh n Chan.dropCut := by simp [State.discardPacket, hpkt]
  have hnone := hshadow
  simp only [State.shadows] at hnone
  refine ⟨((s.modCh n Chan.dropCut).modCh n fun c => { c.dropCut with refusing := false }).modTwin fun t =>
    { t with refusals := t.refusals.filter fun r => !(r.1 == n.val && r.2.1 == wseq) }, ?_, ?_⟩
  · simp [State.prodOpen, hdrop, State.shadows, hnone, Chan.dropCut, hstate]
  · refine ⟨⟨rfl, ?_, ?_, ?_, ?_⟩, ((Steady.modCh s n rfl rfl).trans (.modCh _ n rfl rfl)).trans (.modTwin _ _), ?_, ?_⟩ <;>
      simp [Chan.dropCut]

/-- The port and the idle timers alone have changed, by an OPEN with the expected WSEQ that has been sampled (R133). -/
structure OpenSampled (x : Port) (s u : State) : Prop where
  channels : u.ch = s.ch
  tansy : u.tansy = s.tansy
  twin : u.twin = s.twin
  expected : (u.port x).expWseq = (s.port x).expWseq + 1

@[simp] theorem State.chainPortAnew_chan (s : State) (n : Fin 20) : s.chainPortAnew.chan n = s.chan n := by
  simp [State.chan]

/-- What the sampling of a cycle reads and leaves of its port. -/
theorem State.sampled_port (s : State) (x : Port) (wctl : BitVec 5) (c : WCyc) :
    ∃ since l, ((s.noteWclk x).active.sample x wctl c).port x = { s.port x with wclkSince := since, sampled := l } := by
  unfold State.noteWclk State.sample
  split
  · exact ⟨_, _, by simp; exact ⟨rfl, rfl⟩⟩
  · exact ⟨_, _, by simp; exact ⟨rfl, rfl⟩⟩

/-- An OPEN with the expected WSEQ acts on the selected channel. -/
theorem State.openCycle_taken {x : Port} {c : WCyc} {n : Fin 20} {s : State} (h : WriteTaken x 17#5 c n s)
    (hwseq : BitVec.ofNat 8 (c.field 0 8) = (s.port x).expWseq) :
    ∃ u, OpenSampled x s u ∧ s.openCycle x c = ((u.cycleOpen x n c).serveFaults s).chainPortAnew := by
  obtain ⟨⟨hon, hjoin⟩, hpar, hrefusal, -, hfirst, hsel⟩ := h
  obtain ⟨since, l, hport⟩ := s.sampled_port x 17#5 c
  have hon' : (s.noteWclk x).writeOn x = true := by
    have : ((s.noteWclk x).port x).state = (s.port x).state := by
      unfold State.noteWclk
      split <;> simp
    simpa [State.writeOn, this, State.chainHalf] using hon
  refine ⟨((s.noteWclk x).active.sample x 17#5 c).modPort x fun p => { p with expWseq := p.expWseq + 1, joinSkip := false },
    ⟨by simp, by simp, by simp, by simp [hport]⟩, ?_⟩
  simp [State.openCycle, State.observed, hjoin, hon', hpar, State.dropFirst, hport, hfirst, hrefusal, hwseq, hsel]

/-- What an OPEN that reaches the channel leaves where no packet is open, up to the space check. -/
theorem State.openCycle_own {x : Port} {c : WCyc} {n : Fin 20} {s : State} (h : WriteTaken x 17#5 c n s)
    (hwseq : BitVec.ofNat 8 (c.field 0 8) = (s.port x).expWseq) (hcls : (s.chan n).cfg.cls ≠ .raw)
    (hprod : (s.chan n).cfg.producer = End.ofPort x) (hstate : (s.chan n).state = .active) (hpkt : (s.chan n).pkt = none)
    (hshadow : s.shadows = false) :
    ∃ u, s.openCycle x c = ((u.startPacket n (some x) (c.field 0 8) (c.field 8 12) (c.field 20 4) (c.field 32 32)).serveFaults
        s).chainPortAnew ∧ SameRoom n s u ∧ (u.port x).expWseq = (s.port x).expWseq + 1 ∧
      (∀ k, (u.chan k).state = (s.chan k).state) ∧ (u.chan n).cp = (s.chan n).cp ∧ (u.chan n).cnt = (s.chan n).cnt := by
  obtain ⟨v, ⟨hch, htansy, htwin, hexp⟩, hcycle⟩ := State.openCycle_taken h hwseq
  have hchan : ∀ k, v.chan k = s.chan k := fun k => by rw [State.chan, hch, State.chan]
  obtain ⟨u, hopen, hroom, hsteady, hcp, hcnt⟩ := State.prodOpen_own (s := v) (n := n) (by rw [hchan, hstate])
    (by rw [hchan, hpkt]) (by rw [← hshadow, State.shadows, State.shadows, htwin]) (some x) (c.field 0 8) (c.field 8 12)
    (c.field 20 4) (c.field 32 32)
  obtain ⟨hfences, hcfg, hwp, hlp, hdef⟩ := hroom
  rw [hchan] at hcfg hwp hlp hdef hcp hcnt
  refine ⟨u, ?_, ⟨hfences.trans (by rw [htansy]), hcfg, hwp, hlp, hdef⟩, by rw [hsteady.port, hexp],
    fun k => by rw [(hsteady.channels k).2, hchan], hcp, hcnt⟩
  rw [hcycle, State.cycleOpen, hchan, if_neg hcls]
  simp only [hprod, beq_self_eq_true, if_true, hopen]

/-- Settles O8: an OPEN that its channel takes passes or fails the space check. -/
theorem openPacketOpens : Obligations.OpenPacketOpens := by
  unfold Obligations.OpenPacketOpens
  refine ⟨?room, ?full⟩
  case room =>
    intro x c n s htaken hwseq hcls hprod hstate hpkt hshadow hroomy hfree
    obtain ⟨u, hcycle, hroom, hexp, hstates, hcp, -⟩ := State.openCycle_own htaken hwseq hcls hprod hstate hpkt hshadow
    obtain ⟨hopened, hwp, hcp', hsteady⟩ := State.startPacket_opens (roomy_of_same hroom.fences hroom.cfg hroomy)
      ((hstates n).trans hstate) (by rwa [hroom.free]) (some x) (c.field 0 8) (c.field 8 12) (c.field 20 4) (c.field 32 32)
    rw [State.serveFaults_of_same fun k => (hsteady.channels k).2.trans (hstates k)] at hcycle
    refine ⟨_, congrArg Host.Outcome.next hcycle, ?_, ?_, ?_, ?_⟩
    · rw [State.chainPortAnew_port, hsteady.port, hexp]
    · rw [State.chainPortAnew_chan, hopened, hroom.writeSlot, openedPkt]
    · rw [State.chainPortAnew_chan, hwp, hroom.writeSlot, Chan.s, hroom.cfg, Chan.s]
    · rw [State.chainPortAnew_chan, hcp', hcp]
  case full =>
    intro x c n s htaken hwseq hcls hprod hstate hpkt hrel hshadow hroomy hfull
    obtain ⟨u, hcycle, hroom, -, hstates, -, hcnt⟩ := State.openCycle_own htaken hwseq (by simp [hcls]) hprod hstate hpkt
      hshadow
    have hrefuse : u.startPacket n (some x) (c.field 0 8) (c.field 8 12) (c.field 20 4) (c.field 32 32) =
        u.refusePacket n (c.field 0 8) (c.field 8 12) (c.field 32 32) := by
      simp [State.startPacket, State.makeRoom_none (s := u) (n := n) (.inr (by rwa [hroom.cfg])), hstates, hstate, hroom.free,
        hfull]
    obtain ⟨hnone, hrefusing, hcounted, htold, hsame⟩ := State.refusePacket_refuses (n := n) (x := x)
      (roomy_of_same hroom.fences hroom.cfg hroomy) (by simp [hroom.cfg, hcls]) (by rw [hroom.cfg, hprod]) (c.field 0 8)
      (c.field 8 12) (c.field 32 32)
    rw [hrefuse, State.serveFaults_of_same fun k => (hsame k).trans (hstates k)] at hcycle
    refine ⟨_, congrArg Host.Outcome.next hcycle, ?_, ?_, ?_, ?_⟩
    · rw [State.chainPortAnew_chan, hnone]
    · rw [State.chainPortAnew_chan, hrefusing]
    · rw [State.chainPortAnew_chan, hcounted, hcnt]
    · rw [State.chainPortAnew_port, htold]

end Sys2Proof.Machine
end

section
/-! The levels of the pins (R292, R304, R328): what each group of a port shows, and the pins in a Device reset. -/

namespace Sys2Proof.Machine

open Sys2Proof

/-! ### The groups of a port -/

section
variable (s : State) (x : Port)

theorem State.pinState_portInputs : s.pinState (.portInputs x) =
    if (s.port x).rail = false then .highZ else if s.portPins x then .terminated else .pullUp := by
  simp [State.pinState, PinGroup.onMgmtRail]

theorem State.pinState_portOutputs : s.pinState (.portOutputs x) = s.outputPin x s.drives := by
  simp [State.pinState, PinGroup.onMgmtRail]

theorem State.pinState_portHolds : s.pinState (.portHolds x) =
    s.outputPin x (if s.twin.pairInUse = 2 then s.chainHalf false else s.twin.own) := by
  simp [State.pinState, PinGroup.onMgmtRail]

theorem State.pinState_attn : s.pinState (.attn x) =
    if (s.port x).rail = false then .highZ else openDrain (s.attnLow x) := by
  simp [State.pinState, PinGroup.onMgmtRail]

end

section
variable {s : State} {x : Port}

theorem State.outputPin_noRail (h : (s.port x).rail = false) (drives : Bool) : s.outputPin x drives = .highZ := by
  simp [State.outputPin, h]

/-- Under the clamp, and where the pins are not in use, an output is left to its pull-up (R292, R304). -/
theorem State.outputPin_pullUp (hrail : (s.port x).rail = true) (h : s.pwr.clamp = true ∨ s.portPins x = false)
    (drives : Bool) : s.outputPin x drives = .pullUp := by
  simp [State.outputPin, hrail, h]

/-- Pins in use show whether this device drives them (R206, R219). -/
theorem State.outputPin_inUse (hrail : (s.port x).rail = true) (huse : s.portPins x = true) (hclamp : s.pwr.clamp = false)
    (drives : Bool) : s.outputPin x drives = if drives then .driven else .highZ := by
  simp [State.outputPin, hrail, huse, hclamp]

/-- The clamp, and pins not in use, release ATTN_x_N (R292, R304). -/
theorem State.attnLow_released (h : s.pwr.clamp = true ∨ s.portPins x = false) : s.attnLow x = false := by
  rcases h with h | h <;> simp [State.attnLow, h]

/-- The pins of a port that has its rail, runs and has left OFF are in use. -/
theorem State.portPins_inUse (hrail : (s.port x).rail = true) (hstate : (s.port x).state ≠ .off)
    (hup : s.blockUp (7 + portIdx x) = true) : s.portPins x = true := by
  simp [State.portPins, hrail, hstate, hup]

/-- The pins of a port that is OFF are not in use. -/
theorem State.portPins_off (h : (s.port x).state = .off) : s.portPins x = false := by
  simp [State.portPins, h]

/-- Pins that are released or not in use, with their rail: pull-ups at the outputs, ATTN_x_N released. -/
theorem State.pinState_idle (hrail : (s.port x).rail = true) (h : s.pwr.clamp = true ∨ s.portPins x = false) :
    s.pinState (.attn x) = .released ∧ s.pinState (.portOutputs x) = .pullUp ∧ s.pinState (.portHolds x) = .pullUp := by
  simp [State.pinState_attn, State.pinState_portOutputs, State.pinState_portHolds, State.outputPin_pullUp hrail h,
    State.attnLow_released h, hrail, openDrain]

end

/-! ### A group without its rail, and a Device reset -/

/-- Without VDDIO_M the groups that it feeds are high impedance (R328). -/
theorem State.pinState_noMgmtRail {s : State} (h : s.pwr.mgmtRail = false) {g : PinGroup} (hg : g.onMgmtRail = true) :
    s.pinState g = .highZ := by
  simp [State.pinState, h, hg]

/-- A low pulse on RST_N of 1 µs or more resets the device; out of a sleep state LAST_WAKE says so (R278, R282, R302). -/
theorem execPin_resets {width : Nat} (h : 1000 ≤ width) (s : State) :
    ∃ wake, execPin width s = .next ((s.raiseDevice 2).modPwr fun p => { p with lastWake := wake }) := by
  have hlong : ¬ width < 100 := by omega
  simp only [execPin, hlong, h, if_true, if_false]
  split
  · exact ⟨_, rfl⟩
  · exact ⟨_, rfl⟩

/-- Settles O60: each group shows what its rail, its owner, the clamp and the resets make of it. -/
theorem pinStates : Obligations.PinStates := by
  unfold Obligations.PinStates
  refine ⟨?noRail, ?noMgmtRail, ?notInUse, ?owner, ?chain, ?clamp, ?attention, ?idleInterfaces, ?deviceReset⟩
  case noRail =>
    rintro x g s hrail (rfl | rfl | rfl | rfl)
    · rw [State.pinState_portInputs, if_pos hrail]
    · rw [State.pinState_portOutputs, State.outputPin_noRail hrail]
    · rw [State.pinState_portHolds, State.outputPin_noRail hrail]
    · rw [State.pinState_attn, if_pos hrail]
  case noMgmtRail =>
    intro g s hrail hg
    refine State.pinState_noMgmtRail hrail ?_
    rcases hg with rfl | rfl | rfl | rfl | rfl | rfl | rfl | rfl | rfl <;> rfl
  case notInUse =>
    intro x s hrail huse
    obtain ⟨hattn, hout, hhold⟩ := State.pinState_idle hrail (.inr huse)
    exact ⟨by simp [State.pinState_portInputs, hrail, huse], hout, hhold, hattn⟩
  case owner =>
    intro x s hrail hstate hup hclamp hpair
    have huse := State.portPins_inUse hrail hstate hup
    refine ⟨by simp [State.pinState_portInputs, hrail, huse], ?_, ?_⟩
    · simp [State.pinState_portOutputs, State.outputPin_inUse hrail huse hclamp, State.drives, State.chainHalf, hpair]
    · simp [State.pinState_portHolds, State.outputPin_inUse hrail huse hclamp, hpair]
  case chain =>
    intro x s hrail hstate hup hclamp hpair hown
    have huse := State.portPins_inUse hrail hstate hup
    refine ⟨by simp [State.pinState_portInputs, hrail, huse], ?_, ?_⟩
    · simp [State.pinState_portOutputs, State.outputPin_inUse hrail huse hclamp, State.drives, State.chainHalf, hpair, hown]
    · cases hid : s.twin.twinId <;>
        simp [State.pinState_portHolds, State.outputPin_inUse hrail huse hclamp, State.chainHalf, hpair, hid]
  case clamp =>
    intro s hclamp hmgmt
    refine ⟨fun x hrail => State.pinState_idle hrail (.inl hclamp), ?_⟩
    simp [State.pinState, hmgmt, State.irqLow, openDrain, hclamp]
  case attention =>
    intro x s huse hclamp hdrives
    have hrail : (s.port x).rail = true := by
      simp only [State.portPins, Bool.and_eq_true] at huse
      obtain ⟨⟨hrail, -⟩, -⟩ := huse
      exact hrail
    have hlow : s.attnLow x = ((s.port x).attnCause &&& (s.port x).attnMask != 0) := by
      simp [State.attnLow, hclamp, huse, hdrives]
    simp [State.pinState_attn, hrail, hlow, openDrain]
  case idleInterfaces =>
    intro s
    refine ⟨?_, ?_, ?_, ?_⟩ <;> intros <;> simp [State.pinState, PinGroup.onMgmtRail, *]
  case deviceReset =>
    intro width s hwidth
    obtain ⟨wake, hexec⟩ := execPin_resets hwidth s
    refine ⟨_, hexec, fun hmgmt => ?_, fun hrail => ?_, fun x hrail => ?_⟩
    · rw [State.pinState, State.pinState, hmgmt]
      exact ⟨rfl, rfl⟩
    · simp only [State.pinState, PinGroup.onMgmtRail, Bool.and_false, Bool.false_eq_true, if_false, hrail]
      rfl
    · obtain ⟨hattn, hout, -⟩ := State.pinState_idle hrail (.inr (State.portPins_off (by cases x <;> rfl)))
      exact ⟨hout, hattn⟩

end Sys2Proof.Machine
end

section
/-! A segment that leaves just ahead of a header that cannot be trusted (R74, R103). -/

namespace Sys2Proof.Machine

open Sys2Proof

/-- An egress channel with two committed packets: one of a single word, whose frame is the head of the channel's flow, and
one of two words behind it, whose header has two wrong bits in lane 0. The link is UP and the transmitter is free. -/
def headerCutBehind : State :=
  { State.reset.modCh 0 fun _ =>
      { cfg := { producer := .portA, consumer := .link, relmode := .explicit }, state := .active, wp := { off := 3 },
        cp := { off := 3 }, flow := { head := some ⟨0, 52, .segment {} 0 32 16 true true⟩ } } with
    mem := { State.reset.mem with clearState := 2, cells := [(0, 16), (1081344, 48)], errs := [(135168, 3)] }
    link := { State.reset.link with state := .up, rate := 2 }
    rst := { State.reset.rst with blockReset := 0 }
    pwr := { State.reset.pwr with clkSource := 1 } }

/-- The frame leaves, and in the same step RP passes over the header behind it and the packets up to CP (R74). -/
theorem frameTxChoice_headerCutBehind : ∃ t, exec .frameTxChoice headerCutBehind = .next t ∧
    (t.chan 0).rp = { off := 3 } :=
  ⟨_, rfl, by decide +kernel⟩

/-- Refutes O50: where the header behind a segment cannot be trusted, RP does not stay at the segment's end, as the clause of
a segment says, but passes over that header to CP in the same step. -/
theorem not_transmitter : ¬ Obligations.Transmitter := by
  unfold Obligations.Transmitter
  rintro ⟨-, -, -, hsegment, -⟩
  obtain ⟨t, hexec, hcut⟩ := frameTxChoice_headerCutBehind
  obtain ⟨u, hu, -, hrp, -⟩ := hsegment headerCutBehind 0 ⟨0, 52, .segment {} 0 32 16 true true⟩ {} 0 32 16 true true
    (by decide) rfl rfl (by decide +kernel) rfl (by decide) (by decide +kernel) (by decide)
  obtain rfl : t = u := Host.Outcome.next.inj (hexec.symm.trans hu)
  rw [hcut] at hrp
  exact absurd hrp (by decide)

end Sys2Proof.Machine
end

section
/-! What the channel engine and the service of the ports leave of the other blocks: the time, the reset block and the
transmitter's window but for where its entries end. A frame received may put a channel in FAULT, and the ports' commands
then run (R49); nothing of what the link's own rules say of the window is touched by that. -/

namespace Sys2Proof.Machine

open Sys2Proof

/-- What the ARQ knows a window entry by: its number and when it was last sent again. -/
def WinEntry.place (e : WinEntry) : Nat × Option Nat := (e.seq, e.retxAt)

/-- Time, reset state and the ARQ stand in `t` as in `s`, but for the ends of the window's entries, and an idle period goes on
or begins anew. -/
structure Confined (s t : State) : Prop where
  now : t.now = s.now
  time : t.time = s.time
  rst : t.rst = s.rst
  arq : t.arq = { s.arq with window := t.arq.window }
  places : t.arq.window.map WinEntry.place = s.arq.window.map WinEntry.place
  idle : t.pwr.idleSince = s.pwr.idleSince ∨ t.pwr.idleSince = s.now

theorem Confined.refl (s : State) : Confined s s := ⟨rfl, rfl, rfl, rfl, rfl, .inl rfl⟩

theorem Confined.trans {s t u : State} (h : Confined s t) (k : Confined t u) : Confined s u where
  now := k.now.trans h.now
  time := k.time.trans h.time
  rst := k.rst.trans h.rst
  arq := by rw [k.arq, h.arq]
  places := k.places.trans h.places
  idle := by
    rcases k.idle with hk | hk
    · rw [hk]
      exact h.idle
    · exact .inr (hk.trans h.now)

theorem Confined.of_ite {s t u : State} {c : Prop} [Decidable c] (ht : Confined s t) (hu : Confined s u) :
    Confined s (if c then t else u) := by
  split
  · exact ht
  · exact hu

/-- The state that comes with an answer. -/
theorem Confined.pair {α : Type} {s t : State} {a : α} (h : Confined s t) : Confined s (a, t).2 := h

/-- A change of none of these blocks. -/
theorem Confined.of_same {s t : State} (hnow : t.now = s.now := by simp) (htime : t.time = s.time := by simp)
    (hrst : t.rst = s.rst := by simp) (harq : t.arq = s.arq := by simp) (hpwr : t.pwr = s.pwr := by simp) : Confined s t :=
  ⟨hnow, htime, hrst, by rw [harq], by rw [harq], .inl (by rw [hpwr])⟩

theorem Confined.modCh (s : State) (n : Fin 20) (f : Chan → Chan) : Confined s (s.modCh n f) := .of_same

theorem Confined.modCnt (s : State) (n : Fin 20) (f : ChCounters → ChCounters) : Confined s (s.modCnt n f) := .of_same

theorem Confined.modPort (s : State) (x : Port) (f : PortSt → PortSt) : Confined s (s.modPort x f) := .of_same

theorem Confined.modMem (s : State) (f : MemSt → MemSt) : Confined s (s.modMem f) := .of_same

theorem Confined.modTwin (s : State) (f : TwinSt → TwinSt) : Confined s (s.modTwin f) := .of_same

theorem Confined.attnCh (s : State) (n : Fin 20) (bit : Nat) : Confined s (s.attnCh n bit) := .of_same

theorem Confined.active (s : State) : Confined s s.active := by
  refine ⟨by simp, by simp, by simp, by simp, by simp, ?_⟩
  simp only [State.active, State.modPwr]
  split
  · exact .inr rfl
  · split
    · exact .inl rfl
    · exact .inr rfl
  · exact .inr rfl
  · exact .inl rfl
  · exact .inl rfl

theorem Confined.idleAnew (s : State) : Confined s s.idleAnew :=
  ⟨by simp, by simp, by simp, by simp, by simp, .inr rfl⟩

theorem Confined.clover (s : State) (type : Nat) (body : List Byte) : Confined s (s.clover type body) := by
  unfold State.clover
  exact .of_ite (.trans (.of_ite (.refl s) (.active s)) (.modTwin _ _)) (.refl s)

theorem Confined.announce (s : State) (type : Nat) (body : List Byte) : Confined s (s.announce type body) := by
  unfold State.announce
  exact .of_ite (.clover _ _ _) (.refl s)

/-- A change of the window that keeps its entries' places. -/
theorem Confined.modWindow (s : State) {f : WinEntry → WinEntry} (h : ∀ e, (f e).place = e.place) :
    Confined s (s.modArq fun a => { a with window := a.window.map f }) := by
  refine ⟨rfl, rfl, rfl, rfl, ?_, .inl rfl⟩
  simp [State.modArq, Function.comp_def, h]

/-! ### The channel engine -/

theorem Confined.autoRelease (s : State) (n : Fin 20) : Confined s (s.autoRelease n) := .of_same

theorem Confined.freeSenderRecords (s : State) (n : Fin 20) : Confined s (s.freeSenderRecords n) := .of_same

theorem Confined.ridle (s : State) (n : Fin 20) : Confined s (s.ridle n) := .of_same

theorem Confined.passOver (s : State) (n : Fin 20) : Confined s (s.passOver n) := by
  have hcount : Confined s (s.countCut n) := .of_same
  unfold State.passOver
  dsimp only
  split
  · refine (hcount.trans (.modCh _ n _)).trans (.modWindow _ fun e => ?_)
    split <;> rfl
  · exact hcount.trans (.modCh _ n _)

theorem Confined.cutHead (s : State) (n : Fin 20) : Confined s (s.cutHead n) := by
  unfold State.cutHead
  exact .of_ite (.passOver s n) (.refl s)

theorem Confined.setHold (s : State) (n : Fin 20) (h : Bool) : Confined s (s.setHold n h) := by
  unfold State.setHold
  exact .of_ite (.refl s) (.trans (.modCh s n _) (.of_ite (.clover _ _ _) (.refl _)))

theorem Confined.evalHold (s : State) (n : Fin 20) : Confined s (s.evalHold n) := .setHold s n _

theorem Confined.sendCredits (s : State) : Confined s s.sendCredits := by
  unfold State.sendCredits
  exact .of_ite (.clover _ _ _) (.refl s)

theorem Confined.evalCredit (s : State) (n : Fin 20) : Confined s (s.evalCredit n) := by
  unfold State.evalCredit
  exact .of_ite (.of_ite (.refl s) (.trans (.modCh s n _) (.sendCredits _))) (.refl s)

theorem Confined.refreshFlow (s : State) (n : Fin 20) : Confined s (s.refreshFlow n) := by
  unfold State.refreshFlow
  exact .of_ite (.refl s) (.of_ite (.modCh s n _) (.of_ite (.refl s) (.modCh s n _)))

/-- A channel that stops moves no entry of the window (R42). -/
theorem Confined.stopChannel (s : State) (n : Fin 20) : Confined s (s.stopChannel n) := by
  have hdrop : Confined s (s.dropOpen n) := .of_same
  unfold State.stopChannel
  refine (((hdrop.trans (.setHold _ n false)).trans (.modCh _ n _)).trans
    (.modWindow _ fun e => ?_)).trans (.modTwin _ _)
  split <;> rfl

theorem Confined.chFault (s : State) (n : Fin 20) (cause : Nat) : Confined s (s.chFault n cause) := by
  have hpreset : Confined s (s.presetPending n rsFault) := .of_same
  unfold State.chFault
  exact .of_ite ((((hpreset.trans (.stopChannel _ n)).trans (.modCh _ n _)).trans (.evalCredit _ n)).trans
    (.attnCh _ n 12)) (.refl s)

theorem Confined.trim (s : State) (n : Fin 20) : Confined s (s.trim n) := by
  have hmod : Confined s (s.modCh n Chan.trim) := .of_same
  unfold State.trim
  exact .of_ite (hmod.trans (.chFault _ n 1)) hmod

theorem Confined.settle (s : State) (n : Fin 20) : Confined s (s.settle n) := by
  have htrim := ((Confined.autoRelease s n).trans (.cutHead _ n)).trans (.trim _ n)
  have hhold := (htrim.trans (.freeSenderRecords _ n)).trans (.evalHold _ n)
  exact ((hhold.trans (.evalCredit _ n)).trans (.ridle _ n)).trans (.refreshFlow _ n)

theorem Confined.then_settle {s t : State} (h : Confined s t) (n : Fin 20) : Confined s (t.settle n) := h.trans (.settle t n)

theorem Confined.performFlush (s : State) (n : Fin 20) : Confined s (s.performFlush n) := by
  unfold State.performFlush
  exact .then_settle (.trans (.modCh s n _) (.modCnt _ n _)) n

theorem Confined.flushIfDue (s : State) (n : Fin 20) : Confined s (s.flushIfDue n) := by
  unfold State.flushIfDue
  exact .of_ite (.performFlush s n) (.refl s)

/-! ### Reads of the directory and of the array -/

theorem Confined.readDir (s : State) (n : Fin 20) (flips : Nat) : Confined s (s.readDir n flips).2 := by
  unfold State.readDir
  split
  · exact .refl s
  · split
    · exact .of_same
    · exact .trans (.modMem s _) (.chFault _ n 2)

theorem Confined.readLen (s : State) (n : Fin 20) (p : Ptr) : Confined s (s.readLen n p).2 := by
  unfold State.readLen
  split
  · exact .readDir s n _
  · exact .refl s

theorem Confined.readDirEntry (s : State) (n : Fin 20) (r : FrameRec) (k : Nat) : Confined s (s.readDirEntry n r k).2 := by
  unfold State.readDirEntry
  split
  · exact .readDir s n _
  · exact .refl s

theorem Confined.readHistory (s : State) (n : Fin 20) (r : FrameRec) (k : Nat) : Confined s (s.readHistory n r k).2 := by
  unfold State.readHistory
  split
  · exact .readDir s n _
  · exact .refl s

theorem Confined.cutAll (s : State) (n : Fin 20) : Confined s (s.cutAll n) := by
  unfold State.cutAll
  exact (Confined.modCh s n _).trans (.of_ite (.performFlush _ n) (.then_settle (.modCh _ n _) n))

theorem Confined.countUe (s : State) (n : Fin 20) : Confined s (s.countUe n) := by
  unfold State.countUe
  exact .of_same

theorem Confined.assignPseq (s : State) (n : Fin 20) (frame : Nat) : Confined s (s.assignPseq n frame) := by
  unfold State.assignPseq
  exact .of_same

theorem Confined.countRead (s : State) (l : Loc) (p : Nat) (r : WordRd) : Confined s (s.countRead l p r) := .of_same

theorem Confined.passStandin (s : State) (n : Fin 20) (slice frame : Nat) : Confined s (s.passStandin n slice frame) :=
  .modTwin s _

/-- A word read and, where it counts, counted. -/
theorem Confined.wordCounted (s : State) (n : Fin 20) (count : Bool) (l : Loc) (p : Nat) (r : WordRd) :
    Confined s (if count && r.bad then (if count then s.countRead l p r else s).countUe n
      else if count then s.countRead l p r else s) := by
  have hread : Confined s (if count then s.countRead l p r else s) := .of_ite (.countRead s l p r) (.refl s)
  exact .of_ite (hread.trans (.countUe _ n)) hread

/-- A word of the ring taken, with the rest of what its channel's engine does then. -/
theorem Confined.wordTaken {s t : State} (h : Confined s t) (n : Fin 20) (f : Chan → Chan) :
    Confined s (((t.modCh n f).flushIfDue n).settle n) :=
  ((h.trans (.modCh t n f)).trans (.flushIfDue _ n)).then_settle n

theorem Confined.ringWordAs (s : State) (n : Fin 20) (counts : Bool) : Confined s (s.ringWordAs n counts).2 := by
  have hcount := fun t l p r => Confined.wordCounted t n counts l p r
  unfold State.ringWordAs
  split
  · exact .refl s
  · dsimp only
    generalize skipFenced (s.chan n).s (s.fenced n) (s.fenced n).length (s.chan n).rp = p
    generalize (s.chan n).locAt p.off = l
    generalize (s.chan n).addr p.off = a
    generalize readWordAt s.mem (s.phys l) = r
    split
    · split
      next t _ =>
        have hdir := Confined.readDir s n t.flips
        split
        · exact hdir
        · exact .pair (.wordTaken (hdir.trans (hcount _ l a r)) n _)
      · exact .pair (.wordTaken (hcount s l a r) n _)
    · split
      · exact .pair (.wordTaken (hcount s l a r) n _)
      · have hlen := Confined.readLen s n p
        split
        · exact hlen
        · split
          · exact .pair ((hlen.trans (hcount _ l a r)).trans (.cutAll _ n))
          · exact .pair (.wordTaken ((hlen.trans (hcount _ l a r)).trans (.assignPseq _ n _)) n _)

theorem Confined.ringWord (s : State) (n : Fin 20) : Confined s (s.ringWord n).2 := .ringWordAs s n true

theorem Confined.takeRing (s : State) (n : Fin 20) (pkt : Bool) (fuel want : Nat) :
    Confined s (s.takeRing n pkt fuel want).2.2 := by
  induction fuel generalizing s want with
  | zero => exact .refl s
  | succ fuel ih =>
    have hword := Confined.ringWord s n
    unfold State.takeRing
    split
    next t hring =>
      rw [hring] at hword
      exact hword
    next w t hring =>
      rw [hring] at hword
      by_cases hlast : (w.cut || (if pkt then w.last else want == 1)) = true
      · rw [if_pos hlast]
        exact hword
      · rw [if_neg hlast]
        exact hword.trans (ih t (want - 1))

/-- What a trial leaves in the array and the repair queue, and counts of its channel. -/
theorem Confined.adopt (s t : State) (n : Fin 20) (f : ChCounters → ChCounters) :
    Confined s (({ s with mem := t.mem, tansy := t.tansy } : State).modCnt n f) := .of_same

theorem Confined.peekRing (s : State) (n : Fin 20) (past fuel : Nat) : Confined s (s.peekRing n past fuel).2.2 := by
  unfold State.peekRing
  dsimp only
  generalize (fun c : Chan =>
    ({ c with flushArmed := false, cfg := { (s.chan n).cfg with relmode := .explicit } } : Chan)) = f
  split
  · exact .pair ((((Confined.modCh s n f).trans (.modCh _ n _)).trans (.takeRing _ n true _ 0)).trans (.modCh _ n _))
  · exact .pair (.adopt s _ n _)

/-! ### Slices -/

theorem Confined.sliceWords (s : State) (n : Fin 20) (count : Bool) (len total fuel i : Nat) (p : Ptr) :
    Confined s (s.sliceWords n count len total fuel i p).2 := by
  induction fuel generalizing s i p with
  | zero => exact .refl s
  | succ fuel ih =>
    exact (Confined.wordCounted s n count _ _ _).trans (ih _ _ _)

theorem Confined.noteWords (s : State) (n : Fin 20) (k : Nat) (p : Ptr) : Confined s (s.noteWords n k p) := by
  induction k generalizing s p with
  | zero => exact .refl s
  | succ k ih =>
    have hnote : ∀ (l : Loc) (a : Nat) (r : WordRd), Confined s (s.noteRead l a r) := fun l a r => .of_same
    exact (hnote _ _ _).trans (ih _ _)

theorem Confined.beginFrame (s : State) (n : Fin 20) (i : Fin 3) : Confined s (s.beginFrame n i) := by
  unfold State.beginFrame
  exact .of_ite (.refl s) (.trans (.modCh s n _) (.modCnt _ n _))

theorem Confined.standinWords (s : State) (n : Fin 20) (i : Fin 3) (k : Nat) (hist : Option SliceEntry) (cause : Nat)
    (count : Bool) : Confined s (s.standinWords n i k hist cause count).2 := by
  unfold State.standinWords
  dsimp only
  split
  · exact .pair (.sliceWords s n count _ _ _ _ _)
  · exact .refl s

theorem Confined.storedWords (s : State) (n : Fin 20) (i : Fin 3) (e : SliceEntry) (count : Bool) :
    Confined s (s.storedWords n i e count).2 :=
  .pair (.sliceWords s n count e.len (pktWords e.len) (pktWords e.len) 0 e.start)

theorem Confined.announceStandin (s : State) (n : Fin 20) (history : Bool) (cause slice frame : Nat) :
    Confined s (s.announceStandin n history cause slice frame) := by
  unfold State.announceStandin
  exact .of_ite (.trans (.clover s _ _) (.modTwin _ _)) (.refl s)

/-- A slice passed, with what its channel's engine does then. -/
theorem Confined.slicePassed {s t : State} (h : Confined s t) (n : Fin 20) (i : Fin 3) :
    Confined s ((t.modCh n fun c => c.passSlice i).settle n) := (h.trans (.modCh t n _)).then_settle n

theorem Confined.takeAnnounced (s : State) (n : Fin 20) (i : Fin 3) (k : Nat) (a : Bool × Nat) :
    Confined s (s.takeAnnounced n i k a).2 := by
  have hread : Confined s (if a.1 then s.readHistory n ((s.chan n).record i) k else (true, s)).2 := by
    split
    · exact .readHistory s n _ k
    · exact .refl s
  unfold State.takeAnnounced
  dsimp only
  generalize (if a.1 then s.readHistory n ((s.chan n).record i) k else (true, s)) = v at hread ⊢
  split
  · exact hread
  · exact .pair ((((hread.trans (.standinWords _ n i k _ a.2 true)).trans (.assignPseq _ n _)).trans
      (.passStandin _ n k _)).slicePassed n i)

theorem Confined.takeSlice (s : State) (n : Fin 20) : Confined s (s.takeSlice n).2 := by
  unfold State.takeSlice
  split
  · exact .refl s
  next i k _ =>
    have hbegin := Confined.beginFrame s n i
    dsimp only
    generalize s.beginFrame n i = t at hbegin ⊢
    have hentry := hbegin.trans (.readDirEntry t n ((t.chan n).record i) k)
    generalize t.readDirEntry n ((t.chan n).record i) k = u at hentry ⊢
    split
    · exact hentry
    · split
      next a _ => exact hentry.trans (.takeAnnounced u.2 n i k a)
      · split
        next e _ => exact .pair (((hentry.trans (.storedWords u.2 n i e true)).trans (.assignPseq _ n _)).slicePassed n i)
        · have hread : Confined s (if u.2.timeValid ∧ ((t.chan n).record i).d ≤ (u.2.time.wall : Int) then
              u.2.readHistory n ((t.chan n).record i) k else (true, u.2)).2 := by
            split
            · exact hentry.trans (.readHistory u.2 n _ k)
            · exact hentry
          generalize (if u.2.timeValid ∧ ((t.chan n).record i).d ≤ (u.2.time.wall : Int) then
            u.2.readHistory n ((t.chan n).record i) k else (true, u.2)) = v at hread ⊢
          split
          · exact hread
          · split
            · exact .pair ((((((hread.trans (.announceStandin v.2 n _ _ _ _)).trans (.standinWords _ n i k _ _ true)).trans
                (.assignPseq _ n _)).trans (.modCnt _ n _)).trans (.attnCh _ n 6)).slicePassed n i)
            · exact hread

theorem Confined.peekSlice (s : State) (n : Fin 20) (past : Nat) : Confined s (s.peekSlice n past).2 := by
  have hnote : ∀ e : Option SliceEntry, Confined s ((e.map fun e => s.noteEntry n e past).getD s) := by
    intro e
    cases e with
    | none => exact .refl s
    | some e => exact .noteWords s n _ _
  unfold State.peekSlice
  split
  · exact .refl s
  next i k _ =>
    dsimp only
    split
    · exact .pair (.readDirEntry s n _ k)
    · split
      · split
        · exact .pair (.readHistory s n _ k)
        · exact .pair (hnote _)
      · split
        · exact .pair (hnote _)
        · split
          · split
            · exact .pair (.readHistory s n _ k)
            · exact .pair (hnote _)
          · exact .refl s

/-! ### The service of the ports -/

theorem Confined.takeWords (s : State) (n : Fin 20) (k : PCmd) : Confined s (s.takeWords n k).2.2 := by
  unfold State.takeWords
  split
  · exact .refl s
  · split
    · dsimp only
      split
      · exact .peekSlice s n _
      · exact .takeSlice s n
    · split
      · exact .peekRing s n _ _
      · split
        · exact .takeRing s n true _ _
        · exact .takeRing s n false _ _

theorem Confined.launch (s : State) (x : Port) (b : Beat) : Confined s (s.launch x b) := .of_same

theorem Confined.updCmd (s : State) (x : Port) (k k' : PCmd) : Confined s (s.updCmd x k k') := .of_same

theorem Confined.finish (s : State) (x : Port) (k : PCmd) (b : Beat) : Confined s (s.finish x k b) := by
  unfold State.finish
  have hq : Confined s (s.modPort x fun p => { p with q := p.without k }) := .modPort s x _
  have hstall := hq.trans (.of_ite (c := k.waiting = true) (.modPort _ x fun p => { p with stallStart := none }) (.refl _))
  exact ((hstall.trans (.of_ite (.refl _) (.modPort _ x _))).trans (.launch _ x b)).trans (.idleAnew _)

theorem Confined.finishStat (s : State) (x : Port) (k : PCmd) (stat : Nat) : Confined s (s.finishStat x k stat) :=
  .finish s x k _

theorem Confined.then_finish {s t : State} (h : Confined s t) (x : Port) (k : PCmd) (b : Beat) : Confined s (t.finish x k b) :=
  h.trans (.finish t x k b)

theorem Confined.attnUncorr (s : State) (x : Port) (k : PCmd) (w : RWord) : Confined s (s.attnUncorr x k w) := by
  have hattn : Confined s (s.attn x 11) := .of_same
  unfold State.attnUncorr
  exact .of_ite hattn (.refl s)

theorem Confined.emitWords (s : State) (x : Port) (k : PCmd) (fin : Bool) (ws : List RWord) :
    Confined s (s.emitWords x k fin ws) := by
  induction ws generalizing s with
  | nil => exact .refl s
  | cons w t ih =>
    have hattn := Confined.attnUncorr s x k w
    cases t with
    | nil => exact .of_ite (hattn.then_finish x k _) (hattn.trans (.launch _ x _))
    | cons v t => exact (hattn.trans (.launch _ x _)).trans (ih _)

theorem Confined.readCompleted (s : State) (n : Fin 20) : Confined s (s.readCompleted n) := by
  unfold State.readCompleted
  exact .trans (.modCh s n _) (.ridle _ n)

theorem Confined.serveRead (s : State) (x : Port) (n : Fin 20) (k : PCmd) : Confined s (s.serveRead x n k) := by
  have htake := Confined.takeWords s n k
  unfold State.serveRead
  generalize s.takeWords n k = r at htake ⊢
  obtain ⟨ws, done, t⟩ := r
  dsimp only at htake ⊢
  generalize ((t.port x).q.find? (fun j => j.tag == k.tag && !j.decoder)).getD k = cur
  have hemit : ∀ k' fin, Confined s ((t.updCmd x cur k').emitWords x k' fin ws) :=
    fun k' fin => (htake.trans (.updCmd t x cur k')).trans (.emitWords _ x k' fin ws)
  have hend : ∀ k' b, Confined s (((t.updCmd x cur k').finish x k' b).readCompleted n) :=
    fun k' b => ((htake.trans (.updCmd t x cur k')).then_finish x k' b).trans (.readCompleted _ n)
  split
  · exact hemit _ false
  · split
    · exact (hemit _ true).trans (.readCompleted _ n)
    · split
      · exact hend _ _
      · split
        · exact hend _ _
        · have hwait : ∀ k', Confined s (if k.waiting = true
              then ((t.updCmd x cur k').emitWords x k' false ws).updCmd x k' { k' with waiting := true }
              else (((t.updCmd x cur k').emitWords x k' false ws).updCmd x k' { k' with waiting := true }).sendCredits) :=
            fun k' => ((hemit k' false).trans (.updCmd _ x k' _)).trans (.of_ite (.refl _) (.sendCredits _))
          exact .of_ite (hwait _) ((hwait _).trans (.modPort _ x _))

theorem Confined.retryWaiting (s : State) (x : Port) (n : Fin 20) : Confined s (s.retryWaiting x n) := by
  unfold State.retryWaiting
  split
  · exact .serveRead s x n _
  · exact .refl s

theorem Confined.chCmd (s : State) (n : Fin 20) (opc : Nat) (target : Bool) : Confined s (s.chCmd n opc target) := by
  have hmod : ∀ (t : State) (f : Chan → Chan), Confined t ((t.modCh n f).settle n) :=
    fun t f => (Confined.modCh t n f).then_settle n
  unfold State.chCmd
  refine .of_ite (.of_ite (.refl s) ?_) (.of_ite (hmod s _) (.of_ite (hmod s _) (.of_ite (.of_ite (hmod s _) (hmod s _))
    ((Confined.modCh s n _).trans (.flushIfDue _ n)))))
  dsimp only
  split
  · exact (hmod s _).trans (hmod _ _)
  · exact (Confined.settle s n).trans (hmod _ _)

theorem Confined.scratchOp (s : State) (m : Fin 6) (opc area unit v : Nat) :
    Confined s (s.scratchOp m opc area unit v).2.2 := by
  unfold State.scratchOp
  dsimp only
  split
  · exact .refl s
  · split
    · exact .of_same
    · generalize s.placeOf (areaBase (s.mem.areas.toList.getD area 0) * 128 + unit / 8) = l
      generalize (if s.fencedAt l = true then fencedWord else readWordAt s.mem (s.phys l)) = r
      have hread : Confined s (if s.fencedAt l = true then s
          else s.countRead l (areaBase (s.mem.areas.toList.getD area 0) * 128 + unit / 8) r) :=
        .of_ite (.refl s) (.countRead s l _ r)
      have hmirror : ∀ (t : State) (f : MemSt → Nat → MemSt), Confined t (t.mirrorWrite l f) := fun t f => .of_same
      split
      · exact hread
      · split
        · exact hread
        · exact .pair ((hread.trans (.modMem _ _)).trans (hmirror _ _))

theorem Confined.scratchAnnounced (s : State) (m : Fin 6) (o : Owner) (opc area unit v cseq : Nat) :
    Confined s (s.scratchAnnounced m o opc area unit v cseq).2.2 := by
  have hop := Confined.scratchOp s m opc area unit v
  unfold State.scratchAnnounced
  exact .pair (.of_ite hop (hop.trans (.announce _ _ _)))

theorem Confined.setSlot (s : State) (k : Nat) (l : LockSlot) : Confined s (s.setSlot k l) := .modMem s _

theorem Confined.lockOp (s : State) (o : Owner) (opc slot cseq : Nat) : Confined s (s.lockOp o opc slot cseq).2 := by
  have hlock : Confined s (s.lockSlot o slot).2 := by
    unfold State.lockSlot
    dsimp only
    split
    · split
      · exact .pair (.trans (.setSlot s slot _) (.modMem _ _))
      · exact .setSlot s slot _
    · split <;> exact .refl s
  have hunlock : Confined s (s.unlockSlot o slot).2 := by
    unfold State.unlockSlot
    dsimp only
    split
    · exact .refl s
    · split
      · exact .setSlot s slot _
      · exact .refl s
  have hslot : Confined s (if opc = 12 then s.lockSlot o slot else s.unlockSlot o slot).2 := by
    split
    · exact hlock
    · exact hunlock
  exact hslot.trans (.announce _ _ _)

theorem Confined.emitTrain (s : State) (x : Port) (k : PCmd) (ws : List (List Byte)) : Confined s (s.emitTrain x k ws) := by
  induction ws generalizing s with
  | nil => exact .finishStat s x k _
  | cons w t ih =>
    cases t with
    | nil => exact .finish s x k _
    | cons v t => exact (Confined.launch s x _).trans (ih _)

/-- A STATUS command that has a page changes its port at most. -/
theorem Confined.statusCmd {s t : State} {x : Port} {k : PCmd} {page : List Byte} (h : s.statusCmd x k = some (page, t)) :
    Confined s t := by
  have hclear : ∀ (c : Prop) [Decidable c] f, Confined s (if c then s.modPort x f else s) :=
    fun c _ f => .of_ite (.modPort s x f) (.refl s)
  unfold State.statusCmd at h
  dsimp only at h
  split at h
  · cases h
    exact hclear _ _
  · split at h
    · split at h
      · split at h
        · cases h
        · cases h
          exact .modPort s x _
      · cases h
        exact .refl s
    · split at h
      · cases h
      · split at h
        · cases h
          exact .refl s
        · split at h
          · cases h
            exact .refl s
          · split at h
            · cases h
              exact .refl s
            · split at h
              · obtain ⟨n, -, hn⟩ := Option.map_eq_some_iff.mp h
                cases hn
                exact .refl s
              · cases h

theorem Confined.execCmd (s : State) (x : Port) (k : PCmd) : Confined s (s.execCmd x k) := by
  unfold State.execCmd
  split
  · exact .finishStat s x k _
  · refine .of_ite (.finishStat s x k _) (.of_ite ?read (.of_ite ?chCmd (.of_ite (.finishStat s x k _)
      (.of_ite ?scratch (.of_ite ?lock (.of_ite ?status (.of_ite (.emitTrain s x k _)
        (.of_ite (.finish s x k _) (.finishStat s x k _)))))))))
    case read =>
      split
      · exact .finishStat s x k _
      · split
        · exact .finishStat s x k _
        · exact .of_ite (.serveRead s x _ k) (.finishStat s x k _)
    case chCmd =>
      split
      · exact .finishStat s x k _
      · split
        · exact .finishStat s x k _
        next n _ =>
          have hcmd := (Confined.chCmd s n k.opc.toNat (k.c.mod.getLsbD 0)).trans (.finishStat _ x k rsOk)
          exact .of_ite (.of_ite (hcmd.trans (.retryWaiting _ x n)) hcmd) (.finishStat s x k _)
    case scratch =>
      have hop := Confined.scratchAnnounced s (portMaster x) (portOwner x) k.opc.toNat (k.c.mod.toNat % 4) k.op1.toNat
        k.op2.toNat k.c.cseq.toNat
      exact .of_ite (hop.trans (.finishStat _ x k _)) (hop.then_finish x k _)
    case lock =>
      have hop := Confined.lockOp s (portOwner x) k.opc.toNat (k.c.mod.toNat % 64) k.c.cseq.toNat
      exact hop.trans (.finishStat _ x k _)
    case status =>
      split
      next hpage => exact (Confined.statusCmd hpage).then_finish x k _
      · exact .finishStat s x k _

theorem Confined.serviceN (s : State) (x : Port) (fuel : Nat) : Confined s (s.serviceN x fuel) := by
  induction fuel generalizing s with
  | zero => exact .refl s
  | succ fuel ih =>
    unfold State.serviceN
    split
    · exact (Confined.execCmd s x _).trans (ih _)
    · exact .refl s

theorem Confined.service (s : State) (x : Port) : Confined s (s.service x) := by
  unfold State.service
  exact .of_ite (.refl s) (.serviceN s x _)

/-- The commands that a channel's FAULT completes touch none of these blocks (R49). -/
theorem Confined.serveFaults (s s0 : State) : Confined s (s.serveFaults s0) := by
  unfold State.serveFaults
  exact .of_ite ((Confined.service s .A).trans (.service _ .B)) (.refl s)

/-! ### The link's release and rewind, and the gates -/

theorem Confined.forChans {s : State} {f : Fin 20 → State → State} (h : ∀ n t, Confined t (f n t)) :
    Confined s (s.forChans f) :=
  State.forChans_keeps (P := Confined s) (fun n t ht => ht.trans (h n t)) (.refl s)

theorem Confined.refreshFlows (s : State) : Confined s s.refreshFlows := by
  have hmgmt : ∀ t : State, Confined t t.refreshMgmt := fun t => .of_same
  exact (Confined.forChans fun n t => .refreshFlow t n).trans (hmgmt _)

theorem Confined.releaseEntry (s : State) (e : WinEntry) : Confined s (s.releaseEntry e) := by
  unfold State.releaseEntry
  split
  · exact .refl s
  · split
    · exact .refl s
    · exact .of_ite (.refl s) (.trans (.of_ite (.modCh s _ _) (.refl s)) (.modCh _ _ _))

theorem Confined.releaseEntries (s : State) (es : List WinEntry) : Confined s (s.releaseEntries es) := by
  have hfold : Confined s (es.foldl (fun s e => s.releaseEntry e) s) := by
    induction es generalizing s with
    | nil => exact .refl s
    | cons e es ih => exact (Confined.releaseEntry s e).trans (ih _)
  unfold State.releaseEntries
  exact hfold.trans (.forChans fun n t => .of_ite (.settle t n) (.refl t))

theorem Confined.rewindLink (s : State) (n : Fin 20) : Confined s (s.rewindLink n) := by
  unfold State.rewindLink
  exact .of_ite (.refl s) (.modCh s n _)

theorem Confined.lateFrame (s : State) (n : Fin 20) (i : Fin 3) : Confined s (s.lateFrame n i) := by
  unfold State.lateFrame
  exact .trans (.modCh s n _) (.modCnt _ n _)

/-- One record's turn in the cycle of an epoch change. -/
theorem Confined.moveGates (s : State) (n : Fin 20) (change : Bool) (theta : Int) (l : List (Fin 3)) :
    Confined s (l.foldl (fun s i =>
      let r := (s.chan n).record i
      if r.state = .free then s
      else if r.gateOpen then s.modCh n fun c => c.modRec i fun r => { r with d := r.d + theta }
      else if change ∧ r.state = .filling ∧ r.epoch ≠ s.time.epoch then s.lateFrame n i
      else s) s) := by
  induction l generalizing s with
  | nil => exact .refl s
  | cons i l ih =>
    exact .trans (.of_ite (.refl s) (.of_ite (.modCh s n _) (.of_ite (.lateFrame s n i) (.refl s)))) (ih _)

theorem Confined.chengStep (s : State) (change : Bool) (theta : Int) : Confined s (s.chengStep change theta) := by
  unfold State.chengStep
  exact .forChans fun n t => .of_ite ((Confined.moveGates t n change theta _).then_settle n) (.refl t)

end Sys2Proof.Machine
end

section
/-! What an acknowledgement and a rewind leave where no channel can fault by them (R43, R46, R103): the array, the fences, and
every channel's configuration and state. -/

namespace Sys2Proof.Machine

open Sys2Proof

/-- The channel is configured as before, in its state, and awaits no fence entry that it did not await. -/
structure Alike (c d : Chan) : Prop where
  cfg : d.cfg = c.cfg
  state : d.state = c.state
  deferred : c.deferred = [] → d.deferred = []

theorem Alike.refl (c : Chan) : Alike c c := ⟨rfl, rfl, id⟩

theorem Alike.trans {c d e : Chan} (h : Alike c d) (k : Alike d e) : Alike c e :=
  ⟨k.cfg.trans h.cfg, k.state.trans h.state, fun hc => k.deferred (h.deferred hc)⟩

/-- A change of none of these. -/
theorem Alike.of_same {c d : Chan} (hcfg : d.cfg = c.cfg := by rfl) (hstate : d.state = c.state := by rfl)
    (hdeferred : d.deferred = c.deferred := by rfl) : Alike c d := ⟨hcfg, hstate, fun h => hdeferred.trans h⟩

theorem Alike.moveLp (c : Chan) (p : Ptr) (pseq : Nat) (pos : Option PktPos) : Alike c (c.moveLp p pseq pos) := by
  unfold Chan.moveLp
  split <;> exact .of_same

theorem Alike.passSkip (c : Chan) : Alike c c.passSkip := by
  unfold Chan.passSkip
  split
  · split <;> exact .of_same
  · exact .refl c

theorem Alike.trim (c : Chan) : Alike c c.trim := ⟨rfl, rfl, fun h => by simp [Chan.trim, h]⟩

/-- The array's data and the fences stand, and every channel is alike. -/
structure Calm (s t : State) : Prop where
  cells : t.mem.cells = s.mem.cells
  fences : t.tansy.fences = s.tansy.fences
  chan : ∀ n, Alike (s.chan n) (t.chan n)

theorem Calm.refl (s : State) : Calm s s := ⟨rfl, rfl, fun _ => .refl _⟩

theorem Calm.trans {s t u : State} (h : Calm s t) (k : Calm t u) : Calm s u :=
  ⟨k.cells.trans h.cells, k.fences.trans h.fences, fun n => (h.chan n).trans (k.chan n)⟩

theorem Calm.of_ite {s t u : State} {c : Prop} [Decidable c] (ht : Calm s t) (hu : Calm s u) :
    Calm s (if c then t else u) := by
  split
  · exact ht
  · exact hu

theorem Calm.modCh (s : State) (n : Fin 20) {f : Chan → Chan} (h : Alike (s.chan n) (f (s.chan n))) :
    Calm s (s.modCh n f) := by
  refine ⟨rfl, rfl, fun k => ?_⟩
  rw [State.modCh_chan]
  split
  next hk => exact hk ▸ h
  · exact .refl _

theorem Calm.modCnt (s : State) (n : Fin 20) (f : ChCounters → ChCounters) : Calm s (s.modCnt n f) := .modCh s n .of_same

/-- A change of neither the channels nor the array nor the fences. -/
theorem Calm.of_same {s t : State} (hch : t.ch = s.ch := by simp) (hmem : t.mem = s.mem := by simp)
    (htansy : t.tansy = s.tansy := by simp) : Calm s t := by
  have hchan : ∀ n, t.chan n = s.chan n := fun n => by simp only [State.chan, hch]
  exact ⟨by rw [hmem], by rw [htansy], fun n => by rw [hchan n]; exact .refl _⟩

theorem Calm.clover (s : State) (type : Nat) (body : List Byte) : Calm s (s.clover type body) := .of_same

/-- Room is kept. -/
theorem Calm.roomy {s t : State} (h : Calm s t) {n : Fin 20} (hroomy : (s.chan n).deferred = [] ∨ Roomy n s) :
    (t.chan n).deferred = [] ∨ Roomy n t := by
  refine hroomy.imp (h.chan n).deferred fun hs => ?_
  have hoffsets : fenceOffsets t.tansy.fences (t.chan n) = fenceOffsets s.tansy.fences (s.chan n) := by
    unfold fenceOffsets Chan.s
    rw [h.fences, (h.chan n).cfg]
  simpa only [Roomy, hoffsets, Chan.s, (h.chan n).cfg] using hs

/-- Where every channel is in the state it was in, no fault follows. -/
theorem Calm.serveFaults {s t : State} (h : Calm s t) : t.serveFaults s = t :=
  State.serveFaults_of_same fun n => (h.chan n).state

/-! ### The steps of `State.settle` -/

theorem Calm.autoRelease (s : State) (n : Fin 20) : Calm s (s.autoRelease n) := by
  unfold State.autoRelease
  refine .of_ite (.refl s) (.of_ite (.modCh s n .of_same) ?_)
  split
  · exact .refl s
  · exact .of_ite (.modCh s n .of_same) (.modCh s n (.moveLp _ _ _ _))

theorem Calm.countRead (s : State) (l : Loc) (p : Nat) (r : WordRd) : Calm s (s.countRead l p r) := by
  have hframe := ReadFrame.countRead s l p r
  have hnote : ∀ k, (s.noteRead l p r).chan k = s.chan k := fun k => by simp [State.chan]
  have hch : ∀ k, ∃ m, (s.countRead l p r).chan k = { s.chan k with cnt := m } := by
    intro k
    unfold State.countRead
    dsimp only
    split
    · exact ⟨_, hnote k⟩
    · split
      · split
        next n _ =>
          rw [State.modCnt_chan]
          split
          next hk =>
            subst hk
            exact ⟨_, by rw [State.modMem_chan, hnote]⟩
          · exact ⟨_, by rw [State.modMem_chan, hnote]⟩
        · exact ⟨_, hnote k⟩
      · exact ⟨_, hnote k⟩
  refine ⟨hframe.cells, hframe.fences, fun k => ?_⟩
  obtain ⟨m, hm⟩ := hch k
  rw [hm]
  exact .of_same

theorem Calm.passOver (s : State) (n : Fin 20) : Calm s (s.passOver n) := by
  have hcount : Calm s (s.countCut n) := by
    unfold State.countCut
    exact (Calm.countRead s _ _ _).trans (.modCnt _ n _)
  have hwindow : ∀ (t : State) (f : ArqSt → ArqSt), Calm t (t.modArq f) := fun t f => .of_same
  unfold State.passOver
  refine hcount.trans ?_
  dsimp only
  split
  · exact .trans (.modCh _ n .of_same) (hwindow _ _)
  · exact .modCh _ n (.trans .of_same (.moveLp _ _ _ _))

theorem Calm.cutHead (s : State) (n : Fin 20) : Calm s (s.cutHead n) := by
  unfold State.cutHead
  exact .of_ite (.passOver s n) (.refl s)

theorem Calm.trim {s : State} {n : Fin 20} (h : (s.chan n).deferred = [] ∨ Roomy n s) : Calm s (s.trim n) := by
  have htrim : s.trim n = s.modCh n Chan.trim := h.elim (s.trim_of_no_deferred n) State.trim_of_roomy
  rw [htrim]
  exact .modCh s n (.trim _)

theorem Calm.freeSenderRecords (s : State) (n : Fin 20) : Calm s (s.freeSenderRecords n) := by
  have hfold : ∀ (f : Chan → Fin 3 → Chan), (∀ c i, Alike c (f c i)) →
      ∀ (l : List (Fin 3)) c, Alike c (l.foldl f c) := by
    intro f hf l
    induction l with
    | nil => exact .refl
    | cons i t ih => exact fun c => (hf c i).trans (ih _)
  unfold State.freeSenderRecords
  refine .of_ite (.refl s) (.modCh s n (hfold _ (fun c i => ?_) _ _))
  dsimp only
  split
  · exact .of_same
  · exact .refl c

theorem Calm.evalHold (s : State) (n : Fin 20) : Calm s (s.evalHold n) := by
  unfold State.evalHold State.setHold
  exact .of_ite (.refl s) (.trans (.modCh s n .of_same) (.of_ite (.clover _ _ _) (.refl _)))

theorem Calm.evalCredit (s : State) (n : Fin 20) : Calm s (s.evalCredit n) := by
  unfold State.evalCredit State.sendCredits
  exact .of_ite (.of_ite (.refl s) (.trans (.modCh s n .of_same) (.of_ite (.clover _ _ _) (.refl _)))) (.refl s)

theorem Calm.ridle (s : State) (n : Fin 20) : Calm s (s.ridle n) := by
  unfold State.ridle
  exact .of_ite (.modCh s n .of_same) (.of_ite (.of_ite (.modCh s n .of_same) (.refl s)) (.modCh s n .of_same))

theorem Calm.refreshFlow (s : State) (n : Fin 20) : Calm s (s.refreshFlow n) := by
  unfold State.refreshFlow
  exact .of_ite (.refl s) (.of_ite (.modCh s n .of_same) (.of_ite (.refl s) (.modCh s n .of_same)))

theorem Calm.settle {s : State} {n : Fin 20} (h : (s.chan n).deferred = [] ∨ Roomy n s) : Calm s (s.settle n) := by
  have hbefore := (Calm.autoRelease s n).trans (.cutHead _ n)
  have htrim := hbefore.trans (.trim (hbefore.roomy h))
  exact ((((htrim.trans (.freeSenderRecords _ n)).trans (.evalHold _ n)).trans (.evalCredit _ n)).trans (.ridle _ n)).trans
    (.refreshFlow _ n)

/-! ### Release and rewind (R103) -/

theorem Calm.refreshFlows (s : State) : Calm s s.refreshFlows := by
  have hmgmt : ∀ t : State, Calm t t.refreshMgmt := fun t => .of_same
  exact (State.forChans_keeps (P := Calm s) (fun n t ht => ht.trans (.refreshFlow t n)) (.refl s)).trans (hmgmt _)

theorem Calm.releaseEntry (s : State) (e : WinEntry) : Calm s (s.releaseEntry e) := by
  unfold State.releaseEntry
  split
  · exact .refl s
  · split
    · exact .refl s
    next n _ =>
      exact .of_ite (.refl s) (.trans (.of_ite (.modCh s n .of_same) (.refl s))
        (.modCh _ n (.trans (.moveLp _ _ _ _) (.passSkip _))))

theorem Calm.releaseEntries {s : State} (h : AllRoomy s) (es : List WinEntry) : Calm s (s.releaseEntries es) := by
  have hfold : ∀ t, Calm t (es.foldl (fun s e => s.releaseEntry e) t) := by
    induction es with
    | nil => exact .refl
    | cons e es ih => exact fun t => (Calm.releaseEntry t e).trans (ih _)
  unfold State.releaseEntries
  exact State.forChans_keeps (P := Calm s)
    (fun n t ht => ht.trans (.of_ite (.settle (ht.roomy (h n))) (.refl t))) (hfold s)

theorem Calm.rewindLink (s : State) (n : Fin 20) : Calm s (s.rewindLink n) := by
  unfold State.rewindLink
  exact .of_ite (.refl s) (.modCh s n (.trans .of_same (.passSkip _)))

end Sys2Proof.Machine
end

section
/-! Frames received, acknowledgement and retransmission (R103, R155, R164, R166, R167). -/

namespace Sys2Proof.Machine

open Sys2Proof

/-! ### Frames received (R155) -/

/-- A frame that passes the checks is heard and acts. -/
theorem State.received_taken {m : RxMeta} {blen : Nat} {s : State} (h : FrameTaken m blen s) (act : State → State) :
    s.received m blen act = (act s.heard).serveFaults s := by
  obtain ⟨hhears, hdelimited, hlength, hcrc, hblen⟩ := h
  simp only [State.received, hhears, hdelimited, hlength, hcrc, Nat.not_lt.mpr hblen, Bool.not_true, Bool.false_eq_true,
    Bool.or_self, decide_false, if_false]
  rfl

/-- A frame that arrives while UP and passes the checks is heard and acts. -/
theorem State.receivedUp_taken {m : RxMeta} {blen : Nat} {s : State} (h : RxTaken m blen s) (act : State → State) :
    s.receivedUp m blen act = (act s.heard).serveFaults s := by
  have hup : s.heard.linkUp = true := h.2
  rw [State.receivedUp, State.received_taken h.1, if_pos hup]

/-- A frame that is cut, or of a wrong length, is counted alone. -/
theorem State.received_bad {m : RxMeta} {blen : Nat} {s : State} (hhears : s.linkHears = true)
    (hbad : m.delimited = false ∨ m.lengthOk = false) (act : State → State) :
    s.received m blen act = s.modLinkCnt fun c => { c with badFrame := inc32 c.badFrame } := by
  have hcheck : (!m.delimited || !m.lengthOk || decide (9216 < blen)) = true := by
    rcases hbad with h | h <;> simp [h]
  simp only [State.received, hhears, hcheck, Bool.not_true, Bool.false_eq_true, if_false, if_true]

/-- A frame taken while UP completes with its effect, and with what its faults complete. -/
theorem Completes.of_rxTaken {i : Instr} {m : RxMeta} {blen : Nat} {s : State} {act : State → State} {post : State → Prop}
    (he : exec i s = .next (s.receivedUp m blen act)) (h : RxTaken m blen s)
    (hpost : post ((act s.heard).serveFaults s)) : Completes i s post :=
  ⟨_, he.trans (by rw [State.receivedUp_taken h]), hpost⟩

/-- A frame whose effect faults no channel completes with that effect. -/
theorem Completes.of_rxQuiet {i : Instr} {m : RxMeta} {blen : Nat} {s t : State} {act : State → State} {post : State → Prop}
    (he : exec i s = .next (s.receivedUp m blen act)) (h : RxTaken m blen s) (hact : act s.heard = t) (hquiet : Calm s t)
    (hpost : post t) : Completes i s post :=
  .of_rxTaken he h (by rwa [hact, hquiet.serveFaults])

theorem Completes.of_rxGives {i : Instr} {m : RxMeta} {blen : Nat} {s u : State} {act : State → State}
    (he : exec i s = .next (s.receivedUp m blen act)) (h : RxTaken m blen s) (hact : act s.heard = u) (hquiet : Calm s u) :
    Completes i s fun t => t = u :=
  .of_rxQuiet he h hact hquiet rfl

theorem Calm.heard (s : State) : Calm s s.heard := .of_same rfl rfl rfl

theorem Confined.heard (s : State) : Confined s s.heard := .of_same rfl rfl rfl rfl rfl

theorem AllRoomy.heard {s : State} (h : AllRoomy s) : AllRoomy s.heard := fun n => (Calm.heard s).roomy (h n)

/-! ### The acknowledged entries (R164, R167) -/

theorem seqDist_self (k : Nat) : seqDist k k = 0 := by
  have h := Nat.mod_add_div k 65536
  unfold seqDist
  omega

theorem ackedPrefix_cons (f : WinEntry) (w : List WinEntry) (next k : Nat) :
    ackedPrefix (f :: w) next k =
      if seqDist f.seq k < seqDist f.seq next then (f :: w).takeWhile fun e => decide (seqDist f.seq e.seq ≤ seqDist f.seq k)
      else [] := rfl

/-- The entries acknowledged are those up to the number, in a window in the order of its numbers. -/
theorem ackedPrefix_append {f : WinEntry} {a b : List WinEntry} {next k : Nat}
    (hin : seqDist f.seq k < seqDist f.seq next) (ha : ∀ e ∈ a, seqDist f.seq e.seq ≤ seqDist f.seq k)
    (hb : b.head?.all (fun e => decide (seqDist f.seq k < seqDist f.seq e.seq)) = true) :
    ackedPrefix ((f :: a) ++ b) next k = f :: a := by
  have hgone : ∀ e ∈ f :: a, decide (seqDist f.seq e.seq ≤ seqDist f.seq k) = true := by
    intro e he
    rcases List.mem_cons.mp he with rfl | he
    · exact decide_eq_true (by rw [seqDist_self]; exact Nat.zero_le _)
    · exact decide_eq_true (ha e he)
  have hrest : b.takeWhile (fun e => decide (seqDist f.seq e.seq ≤ seqDist f.seq k)) = [] := by
    cases b with
    | nil => rfl
    | cons e b =>
      rw [List.head?_cons, Option.all_some] at hb
      exact List.takeWhile_cons_of_neg fun hle => absurd (of_decide_eq_true hle) (Nat.not_le.mpr (of_decide_eq_true hb))
  rw [List.cons_append, ackedPrefix_cons, if_pos hin, ← List.cons_append, List.takeWhile_append_of_pos hgone, hrest,
    List.append_nil]

/-- A number outside the window acknowledges nothing. -/
theorem ackedPrefix_outside {w : List WinEntry} {next k : Nat}
    (h : w.head?.all (fun f => decide (seqDist f.seq next ≤ seqDist f.seq k)) = true) : ackedPrefix w next k = [] := by
  cases w with
  | nil => rfl
  | cons f w =>
    rw [List.head?_cons, Option.all_some] at h
    rw [ackedPrefix_cons, if_neg (Nat.not_lt.mpr (of_decide_eq_true h))]

/-- The window without its first entries, which are `gone`: no timeout is counted, and none of them waits to be sent again. -/
def State.dequeued (s : State) (gone : List WinEntry) : State :=
  s.modArq fun a =>
    { a with window := a.window.drop gone.length, timeouts := 0,
             retx := a.retx.filter fun q => !(gone.any fun e => e.seq == q) }

theorem State.acknowledge_outside {s : State} {k : Nat}
    (h : s.arq.window.head?.all (fun f => decide (seqDist f.seq s.arq.nextSeq ≤ seqDist f.seq k)) = true) :
    s.acknowledge k = s := by
  simp [State.acknowledge, ackedPrefix_outside h]

theorem State.acknowledge_acked {s : State} {k : Nat} {gone : List WinEntry}
    (h : ackedPrefix s.arq.window s.arq.nextSeq k = gone) (hsome : gone ≠ []) :
    s.acknowledge k =
      if (((s.dequeued gone).releaseEntries gone).refreshFlows).arq.window.isEmpty
      then (((s.dequeued gone).releaseEntries gone).refreshFlows).idleAnew
      else ((s.dequeued gone).releaseEntries gone).refreshFlows := by
  unfold State.acknowledge State.dequeued
  dsimp only
  rw [h, if_neg (by simpa using hsome)]

/-- What an acknowledgement of `gone` leaves of the window, the time and the resets. -/
theorem Confined.acknowledge {s : State} {k : Nat} {gone : List WinEntry}
    (h : ackedPrefix s.arq.window s.arq.nextSeq k = gone) (hsome : gone ≠ []) :
    Confined (s.dequeued gone) (s.acknowledge k) := by
  rw [State.acknowledge_acked h hsome]
  have hfree := (Confined.releaseEntries (s.dequeued gone) gone).trans (.refreshFlows _)
  exact .of_ite (hfree.trans (.idleAnew _)) hfree

theorem Calm.idleAnew (s : State) : Calm s s.idleAnew := .of_same

theorem Calm.modArq (s : State) (f : ArqSt → ArqSt) : Calm s (s.modArq f) := .of_same

/-- Where no channel can fault, an acknowledgement stores nothing and faults none. -/
theorem Calm.acknowledge {s : State} (hroomy : AllRoomy s) {k : Nat} {gone : List WinEntry}
    (h : ackedPrefix s.arq.window s.arq.nextSeq k = gone) (hsome : gone ≠ []) : Calm s (s.acknowledge k) := by
  rw [State.acknowledge_acked h hsome]
  have hgone : Calm s (s.dequeued gone) := .modArq s _
  have hfree := (hgone.trans (.releaseEntries (fun n => hgone.roomy (hroomy n)) gone)).trans (.refreshFlows _)
  exact .of_ite (hfree.trans (.idleAnew _)) hfree

/-- An acknowledgement that empties the window begins an idle period. -/
theorem State.acknowledge_idle {s : State} {k : Nat} {gone : List WinEntry}
    (h : ackedPrefix s.arq.window s.arq.nextSeq k = gone) (hsome : gone ≠ []) (hall : s.arq.window = gone) :
    (s.acknowledge k).pwr.idleSince = s.now := by
  have hfree := (Confined.releaseEntries (s.dequeued gone) gone).trans (.refreshFlows _)
  rw [State.acknowledge_acked h hsome]
  generalize ((s.dequeued gone).releaseEntries gone).refreshFlows = t at hfree ⊢
  have hempty : t.arq.window = [] := by
    have hplaces : t.arq.window.map WinEntry.place = (s.arq.window.drop gone.length).map WinEntry.place := hfree.places
    rw [hall, List.drop_length] at hplaces
    exact List.map_eq_nil_iff.mp hplaces
  rw [hempty]
  exact hfree.now

theorem Confined.seqs {s t : State} (h : Confined s t) : t.arq.window.map (·.seq) = s.arq.window.map (·.seq) := by
  simpa [WinEntry.place, Function.comp_def] using congrArg (List.map Prod.fst) h.places

/-! ### Retransmission (R103, R166, R167) -/

/-- The part of a NAK behind its acknowledgement: the retransmission from a number, unless its entry waits for that already or
was sent again within the last RTO (R166, R167). -/
def State.sendAgain (s : State) (k : Nat) : State :=
  let again := (entryFrom s.arq.window k).any fun i => (s.arq.window[i]?).any fun e =>
    s.arq.retx.contains e.seq || e.retxAt.any fun t => decide (s.now < t + us s.arq.rto)
  if again then s else s.retransmitFrom k

/-- The rewind that the retransmission of an entry asks for. -/
def State.rewindEntry (s : State) (e : WinEntry) : State :=
  if e.type = 2 ∧ e.stale = false then
    match chanOf e.ch with
    | some n => s.rewindLink n
    | none => s
  else s

theorem State.retransmitFrom_at {s : State} {k i : Nat} (h : entryFrom s.arq.window k = some i) :
    s.retransmitFrom k = ((s.arq.window.drop i).foldl State.rewindEntry
      (s.modArq fun a => { a with retx := (s.arq.window.drop i).map (·.seq) })).refreshFlows := by
  rw [State.retransmitFrom, h]
  rfl

/-- What every rewind keeps, the rewinds of a list of entries keep. -/
theorem State.rewindEntries_keep {P : State → Prop} (hP : ∀ t n, P t → P (t.rewindLink n)) (es : List WinEntry)
    {s : State} (h : P s) : P (es.foldl State.rewindEntry s) := by
  induction es generalizing s with
  | nil => exact h
  | cons e es ih =>
    refine ih ?_
    unfold State.rewindEntry
    split
    · split
      · exact hP _ _ h
      · exact h
    · exact h

/-- Where the window begins at the number or behind it, its entry neither waiting to be sent again nor just sent again, the
whole window is. -/
theorem State.sendAgain_first {s : State} {k : Nat} {e : WinEntry} {b : List WinEntry}
    (hplaces : s.arq.window.map WinEntry.place = (e :: b).map WinEntry.place)
    (hfrom : e.seq = k ∨ serialAfter 16 e.seq k = true) (hretx : s.arq.retx.contains e.seq = false) (hat : e.retxAt = none) :
    Confined (s.modArq fun a => { a with retx := (e :: b).map (·.seq) }) (s.sendAgain k) ∧ Calm s (s.sendAgain k) := by
  obtain ⟨f, w, hwindow, hplace, hrest⟩ := List.map_eq_cons_iff.mp hplaces
  obtain ⟨hseq, hnone⟩ : f.seq = e.seq ∧ f.retxAt = e.retxAt := Prod.mk.inj hplace
  have hfirst : entryFrom s.arq.window k = some 0 := by
    have hf : (f.seq == k || serialAfter 16 f.seq k) = true := by simpa [hseq] using hfrom
    simp [entryFrom, hwindow, List.findIdx?_cons, hf]
  have hseqs : s.arq.window.map (·.seq) = (e :: b).map (·.seq) := by
    simpa [WinEntry.place, Function.comp_def] using congrArg (List.map Prod.fst) hplaces
  have hgo : s.sendAgain k = s.retransmitFrom k := by
    have hmem : e.seq ∉ s.arq.retx := by simpa using hretx
    rw [State.sendAgain, hfirst]
    simp [hwindow, hseq, hnone, hat, hmem]
  rw [hgo, State.retransmitFrom_at hfirst, List.drop_zero, hseqs]
  exact ⟨(State.rewindEntries_keep (P := Confined _) (fun t n h => h.trans (.rewindLink t n)) _ (.refl _)).trans
      (.refreshFlows _),
    (State.rewindEntries_keep (P := Calm s) (fun t n h => h.trans (.rewindLink t n)) _ (.modArq s _)).trans (.refreshFlows _)⟩

/-! ### ACK and NAK -/

theorem exec_ack {m : RxMeta} {k : Nat} {f : WinEntry} {a b : List WinEntry} {s : State} (hrx : RxTaken m 0 s)
    (hwindow : s.arq.window = (f :: a) ++ b) (hin : seqDist f.seq k < seqDist f.seq s.arq.nextSeq)
    (ha : ∀ e ∈ a, seqDist f.seq e.seq ≤ seqDist f.seq k)
    (hb : b.head?.all (fun e => decide (seqDist f.seq k < seqDist f.seq e.seq)) = true) :
    Completes (.ack m k) s fun t =>
      t.arq.window.map (·.seq) = b.map (·.seq) ∧ t.arq.timeouts = 0 ∧ t.arq.nextSeq = s.arq.nextSeq ∧
      (AllRoomy s → t.mem.cells = s.mem.cells) ∧ (b = [] → t.pwr.idleSince = s.now) := by
  have hgone : ackedPrefix s.heard.arq.window s.heard.arq.nextSeq k = f :: a := by
    show ackedPrefix s.arq.window s.arq.nextSeq k = f :: a
    rw [hwindow]
    exact ackedPrefix_append hin ha hb
  have hack := Confined.acknowledge hgone (List.cons_ne_nil f a)
  have hserved := hack.trans (.serveFaults _ s)
  have hdrop : (s.heard.dequeued (f :: a)).arq.window = b := by
    show s.arq.window.drop (f :: a).length = b
    rw [hwindow, List.drop_left]
  refine .of_rxTaken rfl hrx ⟨?_, ?_, ?_, fun hroomy => ?_, fun hb => ?_⟩
  · rw [hserved.seqs, hdrop]
  · rw [hserved.arq]
    rfl
  · rw [hserved.arq]
    rfl
  · have hcalm := (Calm.heard s).trans (.acknowledge (AllRoomy.heard hroomy) hgone (List.cons_ne_nil f a))
    rw [hcalm.serveFaults]
    exact hcalm.cells
  · have hidle := State.acknowledge_idle hgone (List.cons_ne_nil f a) (by
      show s.arq.window = f :: a
      rw [hwindow, hb, List.append_nil])
    rcases (Confined.serveFaults (s.heard.acknowledge k) s).idle with h | h
    · exact h.trans hidle
    · exact h.trans hack.now

/-- A NAK that acknowledges nothing. -/
theorem exec_nak_all {m : RxMeta} {k : Nat} {e : WinEntry} {b : List WinEntry} {s : State} (hrx : RxTaken m 0 s)
    (hwindow : s.arq.window = e :: b) (hout : seqDist e.seq s.arq.nextSeq ≤ seqDist e.seq (seqPred k))
    (hfrom : e.seq = k ∨ serialAfter 16 e.seq k = true) (hretx : s.arq.retx.contains e.seq = false) (hat : e.retxAt = none) :
    Completes (.nak m k) s fun t =>
      t.arq.retx = (e :: b).map (·.seq) ∧ t.arq.window.map (·.seq) = s.arq.window.map (·.seq) ∧
      t.arq.nakRx = inc32 s.arq.nakRx ∧ t.mem.cells = s.mem.cells := by
  have hnone : ((s.heard.modArq fun a => { a with nakRx := inc32 a.nakRx }).acknowledge (seqPred k)) =
      s.heard.modArq fun a => { a with nakRx := inc32 a.nakRx } := by
    refine State.acknowledge_outside ?_
    show s.arq.window.head?.all (fun f => decide (seqDist f.seq s.arq.nextSeq ≤ seqDist f.seq (seqPred k))) = true
    rw [hwindow, List.head?_cons, Option.all_some]
    exact decide_eq_true hout
  obtain ⟨hconf, hcalm⟩ := State.sendAgain_first (s := s.heard.modArq fun a => { a with nakRx := inc32 a.nakRx }) (b := b)
    (congrArg _ hwindow) hfrom hretx hat
  have hquiet := ((Calm.heard s).trans (.modArq _ _)).trans hcalm
  rw [← hnone] at hconf hquiet
  refine .of_rxQuiet (act := fun s => ((s.modArq fun a => { a with nakRx := inc32 a.nakRx }).acknowledge
    (seqPred k)).sendAgain k) rfl hrx rfl hquiet ⟨?_, ?_, ?_, hquiet.cells⟩
  · rw [hconf.arq]
    rfl
  · rw [hconf.seqs, hnone]
    rfl
  · rw [hconf.arq, hnone]
    rfl

/-- A NAK that acknowledges the entries before its number. -/
theorem exec_nak_acked {m : RxMeta} {k : Nat} {f e : WinEntry} {a b : List WinEntry} {s : State} (hrx : RxTaken m 0 s)
    (hwindow : s.arq.window = (f :: a) ++ e :: b) (hin : seqDist f.seq (seqPred k) < seqDist f.seq s.arq.nextSeq)
    (ha : ∀ x ∈ a, seqDist f.seq x.seq ≤ seqDist f.seq (seqPred k)) (hb : seqDist f.seq (seqPred k) < seqDist f.seq e.seq)
    (hfrom : e.seq = k ∨ serialAfter 16 e.seq k = true) (hretx : s.arq.retx.contains e.seq = false) (hat : e.retxAt = none) :
    Completes (.nak m k) s fun t =>
      t.arq.retx = (e :: b).map (·.seq) ∧ t.arq.window.map (·.seq) = (e :: b).map (·.seq) ∧
      t.arq.nakRx = inc32 s.arq.nakRx ∧ (AllRoomy s → t.mem.cells = s.mem.cells) := by
  have hgone : ackedPrefix (s.heard.modArq fun a => { a with nakRx := inc32 a.nakRx }).arq.window
      (s.heard.modArq fun a => { a with nakRx := inc32 a.nakRx }).arq.nextSeq (seqPred k) = f :: a := by
    show ackedPrefix s.arq.window s.arq.nextSeq (seqPred k) = f :: a
    rw [hwindow]
    refine ackedPrefix_append hin ha ?_
    rw [List.head?_cons, Option.all_some]
    exact decide_eq_true hb
  have hack := Confined.acknowledge hgone (List.cons_ne_nil f a)
  have hcounted : Calm s (s.heard.modArq fun a => { a with nakRx := inc32 a.nakRx }) := (Calm.heard s).trans (.modArq _ _)
  have hcalmAck : AllRoomy s → Calm s _ := fun hroomy =>
    hcounted.trans (.acknowledge (fun n => hcounted.roomy (hroomy n)) hgone (List.cons_ne_nil f a))
  generalize hv : (s.heard.modArq fun a => { a with nakRx := inc32 a.nakRx }).acknowledge (seqPred k) = v at hack hcalmAck
  have hplaces : v.arq.window.map WinEntry.place = (e :: b).map WinEntry.place := by
    refine hack.places.trans (congrArg _ ?_)
    show s.arq.window.drop (f :: a).length = e :: b
    rw [hwindow, List.drop_left]
  have hwaits : v.arq.retx.contains e.seq = false := by
    rw [hack.arq]
    show (s.arq.retx.filter _).contains e.seq = false
    simp only [List.contains_eq_mem, decide_eq_false_iff_not] at hretx ⊢
    exact fun hmem => hretx (List.mem_of_mem_filter hmem)
  obtain ⟨hconf, hcalm⟩ := State.sendAgain_first hplaces hfrom hwaits hat
  have hserved := hconf.trans (.serveFaults _ s)
  refine .of_rxTaken (act := fun s => ((s.modArq fun a => { a with nakRx := inc32 a.nakRx }).acknowledge
    (seqPred k)).sendAgain k) rfl hrx ?_
  rw [hv]
  refine ⟨?_, ?_, ?_, fun hroomy => ?_⟩
  · rw [hserved.arq]
    rfl
  · rw [hserved.seqs]
    simpa [WinEntry.place, Function.comp_def] using congrArg (List.map Prod.fst) hplaces
  · rw [hserved.arq]
    show v.arq.nakRx = _
    rw [hack.arq]
    rfl
  · have hquiet := (hcalmAck hroomy).trans hcalm
    rw [hquiet.serveFaults]
    exact hquiet.cells

end Sys2Proof.Machine
end

section
/-! The control frames that the channels, the clock and the requests of the mailbox wait for (R85, R168, R189, R196, R249). -/

namespace Sys2Proof.Machine

open Sys2Proof

/-! ### A walk over the channels -/

/-- Where each channel's turn changes that channel alone, and by `P`, the walk changes every channel by `P`. -/
theorem State.forChans_each {P : Fin 20 → Chan → Chan → Prop} {f : Fin 20 → State → State}
    (hself : ∀ n s, P n (s.chan n) ((f n s).chan n)) (hother : ∀ n k s, k ≠ n → (f n s).chan k = s.chan k) (s : State)
    (n : Fin 20) : P n (s.chan n) ((s.forChans f).chan n) := by
  have hnot : ∀ l : List (Fin 20), n ∉ l → ∀ t : State, (l.foldl (fun s k => f k s) t).chan n = t.chan n := by
    intro l
    induction l with
    | nil => exact fun _ t => rfl
    | cons k l ih =>
      intro hn t
      obtain ⟨hk, hl⟩ := not_or.mp (mt List.mem_cons.mpr hn)
      exact (ih hl (f k t)).trans (hother k n t hk)
  have hall : ∀ l : List (Fin 20), l.Nodup → n ∈ l →
      ∀ t : State, P n (t.chan n) ((l.foldl (fun s k => f k s) t).chan n) := by
    intro l
    induction l with
    | nil => exact fun _ hn => absurd hn List.not_mem_nil
    | cons k l ih =>
      intro hnodup hn t
      obtain ⟨hk, hl⟩ := List.nodup_cons.mp hnodup
      rw [List.foldl_cons]
      by_cases hkn : n = k
      · subst hkn
        rw [hnot l hk]
        exact hself n t
      · have hrest := ih hl ((List.mem_cons.mp hn).resolve_left hkn) (f k t)
        rwa [hother k n t hkn] at hrest
  exact hall _ (List.nodup_finRange 20) (List.mem_finRange n) s

/-! ### PAUSE (R85, R179) -/

theorem State.refreshFlow_paused (s : State) (n k : Fin 20) : ((s.refreshFlow n).chan k).paused = (s.chan k).paused := by
  have hmod : ∀ f : Chan → Chan, (f (s.chan n)).paused = (s.chan n).paused →
      ((s.modCh n f).chan k).paused = (s.chan k).paused := by
    intro f hf
    rw [State.modCh_chan]
    split
    next h => rw [h, hf]
    · rfl
  unfold State.refreshFlow
  dsimp only
  split
  · rfl
  · split
    · exact hmod _ rfl
    · split
      · rfl
      · exact hmod _ rfl

/-- The heads of the flows are fixed anew: no channel is paused or resumed by that, and the link keeps when a PAUSE last
came. -/
theorem State.refreshFlows_keeps (s : State) :
    (∀ n, (s.refreshFlows.chan n).paused = (s.chan n).paused) ∧ s.refreshFlows.link.pauseRxAt = s.link.pauseRxAt := by
  have hmgmt : ∀ t : State, t.refreshMgmt.link.pauseRxAt = t.link.pauseRxAt := by
    intro t
    unfold State.refreshMgmt
    dsimp only
    split
    · rfl
    · split <;> rfl
  obtain ⟨hpaused, hlink⟩ := State.forChans_keeps (f := fun n s => s.refreshFlow n)
    (P := fun t => (∀ n, (t.chan n).paused = (s.chan n).paused) ∧ t.link.pauseRxAt = s.link.pauseRxAt)
    (fun n t ht => ⟨fun k => (t.refreshFlow_paused n k).trans (ht.1 k), by simpa using ht.2⟩)
    ⟨fun _ => rfl, rfl⟩
  rw [State.refreshFlows]
  exact ⟨fun n => by rw [State.refreshMgmt_chan]; exact hpaused n, (hmgmt _).trans hlink⟩

/-- A PAUSE's turn at a channel: PAUSED follows its bit where the consumer is the link (R85). -/
def State.pauseChan (bitmap : W32) (n : Fin 20) (s : State) : State :=
  if (s.chan n).cfg.consumer ≠ .link then s
  else
    let on := bitmap.getLsbD n.val
    let event := on && !(s.chan n).paused && s.flowData n
    s.modCh n fun c =>
      { c with paused := on,
               flow := { c.flow with pausedEvents := if event then inc32 c.flow.pausedEvents else c.flow.pausedEvents } }

theorem Calm.pauseChan (bitmap : W32) (n : Fin 20) (s : State) : Calm s (s.pauseChan bitmap n) := by
  unfold State.pauseChan
  exact .of_ite (.refl s) (.modCh s n .of_same)

theorem State.pauseChan_paused (bitmap : W32) (n : Fin 20) (s : State) :
    ((s.pauseChan bitmap n).chan n).paused =
      if (s.chan n).cfg.consumer = .link then bitmap.getLsbD n.val else (s.chan n).paused := by
  unfold State.pauseChan
  by_cases h : (s.chan n).cfg.consumer = .link
  · rw [if_neg (not_not.mpr h), if_pos h, State.modCh_chan_same]
  · rw [if_pos h, if_neg h]

theorem State.pauseChan_other (bitmap : W32) (n k : Fin 20) (s : State) (h : k ≠ n) :
    (s.pauseChan bitmap n).chan k = s.chan k := by
  unfold State.pauseChan
  split
  · rfl
  · exact s.modCh_chan_other _ h

theorem State.pauseChan_link (bitmap : W32) (n : Fin 20) (s : State) : (s.pauseChan bitmap n).link = s.link := by
  unfold State.pauseChan
  split <;> rfl

/-- A PAUSE at a sender: every channel's turn, and the heads of the flows fixed anew. -/
def State.pauseAll (s : State) (bitmap : W32) : State :=
  ((s.modLink fun l => { l with pauseRxAt := s.now }).forChans (State.pauseChan bitmap)).refreshFlows

theorem State.pauseAll_paused (s : State) (bitmap : W32) (n : Fin 20) :
    ((s.pauseAll bitmap).chan n).paused =
      if (s.chan n).cfg.consumer = .link then bitmap.getLsbD n.val else (s.chan n).paused :=
  ((State.refreshFlows_keeps _).1 n).trans <|
    State.forChans_each (P := fun n c d => d.paused = if c.cfg.consumer = .link then bitmap.getLsbD n.val else c.paused)
      (State.pauseChan_paused bitmap) (State.pauseChan_other bitmap) (s.modLink fun l => { l with pauseRxAt := s.now }) n

theorem State.pauseAll_at (s : State) (bitmap : W32) : (s.pauseAll bitmap).link.pauseRxAt = s.now := by
  rw [State.pauseAll, (State.refreshFlows_keeps _).2]
  exact State.forChans_keeps (P := fun t => t.link.pauseRxAt = s.now)
    (fun n t ht => by rw [State.pauseChan_link]; exact ht) rfl

theorem Calm.pauseAll (s : State) (bitmap : W32) : Calm s (s.pauseAll bitmap) := by
  have hnoted : Calm s (s.modLink fun l => { l with pauseRxAt := s.now }) := .of_same
  exact (State.forChans_keeps (P := Calm s) (fun n t ht => ht.trans (.pauseChan bitmap n t)) hnoted).trans (.refreshFlows _)

theorem exec_pause_sender {m : RxMeta} {bitmap : W32} {s : State} (hrx : RxTaken m 0 s) (hsender : s.sender = true) :
    Completes (.pause m bitmap) s fun t =>
      (∀ n : Fin 20, (t.chan n).paused =
        if (s.chan n).cfg.consumer = .link then bitmap.getLsbD n.val else (s.chan n).paused) ∧
      t.link.pauseRxAt = s.now ∧ t.mem.cells = s.mem.cells := by
  have hact : (if !s.heard.sender then s.heard else s.heard.pauseAll bitmap) = s.heard.pauseAll bitmap := by
    have h : s.heard.sender = true := hsender
    rw [if_neg (by simp [h])]
  have hquiet := (Calm.heard s).trans (.pauseAll s.heard bitmap)
  exact .of_rxQuiet (act := fun s => if !s.sender then s else s.pauseAll bitmap) rfl hrx hact hquiet
    ⟨s.heard.pauseAll_paused bitmap, s.heard.pauseAll_at bitmap, hquiet.cells⟩

/-! ### RXREPORT (R189) -/

/-- A report's turn at a channel: the PEER values are those reported. -/
def State.reportChan (counts : List (Nat × Nat × Nat)) (n : Fin 20) (s : State) : State :=
  s.modCh n fun c =>
    let (y, r, o) := counts.getD n.val (0, 0, 0)
    { c with pol := { c.pol with peerYellow := y, peerRed := r, peerOverflow := o } }

/-- The reports of every channel taken, and the report counted. -/
def State.reported (s : State) (no : Nat) (counts : List (Nat × Nat × Nat)) : State :=
  (s.forChans (State.reportChan counts)).modLink fun l =>
    { l with rxreportRx := inc32 l.rxreportRx, lastReportNo := no, firstReport := false }

theorem State.reported_peer (s : State) (no : Nat) (counts : List (Nat × Nat × Nat)) (n : Fin 20) :
    ((s.reported no counts).chan n).pol.peerYellow = (counts.getD n.val (0, 0, 0)).1 ∧
    ((s.reported no counts).chan n).pol.peerRed = (counts.getD n.val (0, 0, 0)).2.1 ∧
    ((s.reported no counts).chan n).pol.peerOverflow = (counts.getD n.val (0, 0, 0)).2.2 := by
  rw [State.reported, State.modLink_chan]
  have hself : ∀ (n : Fin 20) (s : State),
      ((s.reportChan counts n).chan n).pol.peerYellow = (counts.getD n.val (0, 0, 0)).1 ∧
      ((s.reportChan counts n).chan n).pol.peerRed = (counts.getD n.val (0, 0, 0)).2.1 ∧
      ((s.reportChan counts n).chan n).pol.peerOverflow = (counts.getD n.val (0, 0, 0)).2.2 := by
    intro n s
    rw [State.reportChan, State.modCh_chan_same]
    exact ⟨rfl, rfl, rfl⟩
  exact State.forChans_each (f := State.reportChan counts)
    (P := fun n _ d => d.pol.peerYellow = (counts.getD n.val (0, 0, 0)).1 ∧
      d.pol.peerRed = (counts.getD n.val (0, 0, 0)).2.1 ∧ d.pol.peerOverflow = (counts.getD n.val (0, 0, 0)).2.2)
    hself (fun n k s h => s.modCh_chan_other _ h) s n

/-- A report changes the channels, and of the link what counts reports. -/
theorem State.reported_keeps (s : State) (no : Nat) (counts : List (Nat × Nat × Nat)) :
    Calm s (s.reported no counts) ∧ (s.reported no counts).link.lastReportNo = no ∧
    (s.reported no counts).link.rxreportRx = inc32 s.link.rxreportRx ∧ (s.reported no counts).mem = s.mem ∧
    (s.reported no counts).arq = s.arq := by
  obtain ⟨hcalm, hlink, hmem, harq⟩ := State.forChans_keeps (f := State.reportChan counts) (s := s)
    (P := fun t => Calm s t ∧ t.link = s.link ∧ t.mem = s.mem ∧ t.arq = s.arq)
    (fun n _ ht => ⟨ht.1.trans (.modCh _ n .of_same), ht.2⟩) ⟨.refl s, rfl, rfl, rfl⟩
  unfold State.reported
  generalize s.forChans (State.reportChan counts) = t at hcalm hlink hmem harq ⊢
  exact ⟨hcalm.trans .of_same, rfl, by rw [State.modLink_link, hlink], hmem, harq⟩

theorem exec_rxreport_new {m : RxMeta} {no : Nat} {counts : List (Nat × Nat × Nat)} {s : State} (hrx : RxTaken m 240 s)
    (hsender : s.sender = true) (hnew : s.link.firstReport = true ∨ serialAfter 32 no s.link.lastReportNo = true) :
    Completes (.rxreport m no counts) s fun t =>
      (∀ n : Fin 20, (t.chan n).pol.peerYellow = (counts.getD n.val (0, 0, 0)).1 ∧
        (t.chan n).pol.peerRed = (counts.getD n.val (0, 0, 0)).2.1 ∧
        (t.chan n).pol.peerOverflow = (counts.getD n.val (0, 0, 0)).2.2) ∧
      t.link.lastReportNo = no ∧ t.link.rxreportRx = inc32 s.link.rxreportRx ∧ t.mem = s.mem ∧ t.arq = s.arq := by
  have hact : (if !s.heard.sender || !(s.heard.link.firstReport || serialAfter 32 no s.heard.link.lastReportNo) then s.heard
      else s.heard.reported no counts) = s.heard.reported no counts := by
    have hfresh : (s.heard.link.firstReport || serialAfter 32 no s.heard.link.lastReportNo) = true := by
      rw [Bool.or_eq_true]
      exact hnew
    have h : s.heard.sender = true := hsender
    rw [if_neg (by simp only [hfresh, h]; decide)]
  obtain ⟨hcalm, hno, hcount, hmem, harq⟩ := s.heard.reported_keeps no counts
  exact .of_rxQuiet (act := fun s => if !s.sender || !(s.link.firstReport || serialAfter 32 no s.link.lastReportNo) then s
    else s.reported no counts) rfl hrx hact ((Calm.heard s).trans hcalm)
    ⟨s.heard.reported_peer no counts, hno, hcount, hmem, harq⟩

/-! ### SYNC (R196, R197) -/

/-- The wall time, its validity and its epoch, and the counts of SYNC, stand in `t` as in `s`. -/
structure SameClock (s t : State) : Prop where
  valid : t.time.valid = s.time.valid
  wall : t.time.wall = s.time.wall
  epoch : t.time.epoch = s.time.epoch
  changes : t.time.epochChanges = s.time.epochChanges
  used : t.time.syncRx = s.time.syncRx
  aon : t.rst.aonEpoch = s.rst.aonEpoch

theorem SameClock.refl (s : State) : SameClock s s := ⟨rfl, rfl, rfl, rfl, rfl, rfl⟩

theorem SameClock.trans {s t u : State} (h : SameClock s t) (k : SameClock t u) : SameClock s u :=
  ⟨k.valid.trans h.valid, k.wall.trans h.wall, k.epoch.trans h.epoch, k.changes.trans h.changes, k.used.trans h.used,
    k.aon.trans h.aon⟩

theorem Confined.clock {s t : State} (h : Confined s t) : SameClock s t := by
  obtain ⟨-, htime, hrst, -, -, -⟩ := h
  constructor <;> simp [htime, hrst]

/-- A change of the clock's other fields. -/
theorem SameClock.modTime (s : State) {f : TimeSt → TimeSt} (hvalid : (f s.time).valid = s.time.valid)
    (hwall : (f s.time).wall = s.time.wall) (hepoch : (f s.time).epoch = s.time.epoch)
    (hchanges : (f s.time).epochChanges = s.time.epochChanges) (hused : (f s.time).syncRx = s.time.syncRx) :
    SameClock s (s.modTime f) := ⟨hvalid, hwall, hepoch, hchanges, hused, rfl⟩

theorem SameClock.of_ite {s t u : State} {c : Prop} [Decidable c] (ht : SameClock s t) (hu : SameClock s u) :
    SameClock s (if c then t else u) := by
  split
  · exact ht
  · exact hu

theorem SameClock.endLock (s : State) : SameClock s s.endLock := by
  unfold State.endLock
  split
  · constructor <;> simp
  · exact .refl s

theorem SameClock.gainLock (s : State) : SameClock s s.gainLock := by
  unfold State.gainLock
  split
  · constructor <;> simp
  · exact .refl s

theorem SameClock.useSync (s : State) (th p : Rat) : SameClock s (s.useSync th p) := by
  unfold State.useSync
  exact .trans (.trans (.modTime s rfl rfl rfl rfl rfl) (.of_ite (.endLock _) (.refl _))) (.gainLock _)

/-- A receiver gives nothing up at an epoch change (R195). -/
theorem State.giveUpEpoch_receiver {s : State} (h : s.sender = false) : s.giveUpEpoch = s := by
  simp [State.giveUpEpoch, State.giveUp, h]

/-- A SYNC of the epoch in force makes time valid by a step (R196). -/
theorem State.servo_first {s : State} (h : s.time.valid = false) (rx t : Stamp) (dfwd : Int) :
    (s.servo rx t s.time.epoch dfwd).1 = true ∧
    SameClock (s.modTime fun c => { c with wall := wallAdd c.wall (thetaUnits (theta rx t dfwd)), valid := true })
      (s.servo rx t s.time.epoch dfwd).2 := by
  unfold State.servo
  dsimp only
  rw [if_neg (not_not.mpr rfl), if_pos h]
  refine ⟨rfl, ?_⟩
  dsimp only
  exact (Confined.chengStep _ false _).clock.trans (.useSync _ _ _)

/-- A SYNC of another epoch steps the time into it (R196, R197). -/
theorem State.servo_epoch {s : State} (hsender : s.sender = false) {epoch : Nat} (h : epoch ≠ s.time.epoch) (rx t : Stamp)
    (dfwd : Int) :
    (s.servo rx t epoch dfwd).1 = true ∧
    SameClock
      ((s.modTime fun c => { c with wall := wallAdd c.wall (thetaUnits (theta rx t dfwd)), valid := true }).setEpoch epoch)
      (s.servo rx t epoch dfwd).2 := by
  unfold State.servo
  dsimp only
  rw [if_pos h]
  have hstep := Confined.chengStep ((s.modTime fun c =>
    { c with wall := wallAdd c.wall (thetaUnits (theta rx t dfwd)), valid := true }).setEpoch epoch) true
    (thetaUnits (theta rx t dfwd))
  refine ⟨rfl, ?_⟩
  dsimp only
  rw [State.giveUpEpoch_receiver]
  · exact (hstep.clock.trans (.endLock _)).trans (.useSync _ _ _)
  · rw [State.sender, hstep.rst]
    exact hsender

end Sys2Proof.Machine
end

section
/-! SYNC, echoes, and the responses to requests sent on (R168, R196, R197, R238, R249). -/

namespace Sys2Proof.Machine

open Sys2Proof

/-! ### SYNC -/

/-- What a SYNC that was used leaves of the clock, whatever faults the moved deadlines bring. -/
theorem exec_sync_used {m : RxMeta} {x : Stamp} {epoch : Nat} {s u : State} (hrx : RxTaken m 4 s) (hreceiver : s.sender = false)
    (hup : s.blockUp 2 = true)
    (hservo : (s.heard.servo s.heard.linkStamp x epoch ((s.heard.link.cableDelay : Int) + s.heard.time.asymmetry)).1 = true ∧
      SameClock u (s.heard.servo s.heard.linkStamp x epoch ((s.heard.link.cableDelay : Int) + s.heard.time.asymmetry)).2) :
    Completes (.sync m x epoch true) s fun t => SameClock (u.modTime fun c => { c with syncRx := inc32 c.syncRx }) t := by
  obtain ⟨hused, hclock⟩ := hservo
  have hreach : ¬(s.heard.sender || !s.heard.blockUp 2) = true := by
    have hs : s.heard.sender = false := hreceiver
    have hb : s.heard.blockUp 2 = true := hup
    simp [hs, hb]
  refine .of_rxTaken rfl hrx ?_
  dsimp only
  rw [if_neg hreach, if_neg (by simp), if_pos hused]
  refine .trans ?_ (Confined.serveFaults _ s).clock
  generalize (s.heard.servo s.heard.linkStamp x epoch ((s.heard.link.cableDelay : Int) + s.heard.time.asymmetry)).2 = v
    at hclock ⊢
  obtain ⟨hvalid, hwall, hepoch, hchanges, hcount, haon⟩ := hclock
  exact ⟨hvalid, hwall, hepoch, hchanges, congrArg inc32 hcount, haon⟩

theorem exec_sync_invalid {m : RxMeta} {x : Stamp} {epoch : Nat} {s : State} (hrx : RxTaken m 4 s)
    (hreceiver : s.sender = false) (hup : s.blockUp 2 = true) :
    Completes (.sync m x epoch false) s fun t =>
      t = { s.heard with time := { s.time with syncIgnored := inc32 s.time.syncIgnored } } := by
  have hreach : ¬(s.heard.sender || !s.heard.blockUp 2) = true := by
    have hs : s.heard.sender = false := hreceiver
    have hb : s.heard.blockUp 2 = true := hup
    simp [hs, hb]
  refine .of_rxGives rfl hrx ?_ ((Calm.heard s).trans (.of_same rfl rfl rfl))
  dsimp only
  rw [if_neg hreach, if_pos (by simp)]
  rfl

theorem exec_sync_first {m : RxMeta} {x : Stamp} {s : State} (hrx : RxTaken m 4 s) (hreceiver : s.sender = false)
    (hup : s.blockUp 2 = true) (hinvalid : s.time.valid = false) :
    Completes (.sync m x s.time.epoch true) s fun t =>
      t.time.valid = true ∧ t.time.epoch = s.time.epoch ∧ t.time.syncRx = inc32 s.time.syncRx ∧
      t.time.wall =
        wallAdd s.time.wall (thetaUnits (theta s.linkStamp x ((s.link.cableDelay : Int) + s.time.asymmetry))) := by
  obtain ⟨t, ht, hclock⟩ := exec_sync_used hrx hreceiver hup (State.servo_first (s := s.heard) hinvalid _ _ _)
  obtain ⟨hvalid, hwall, hepoch, -, hcount, -⟩ := hclock
  exact ⟨t, ht, hvalid, hepoch, hcount, hwall⟩

theorem exec_sync_epoch {m : RxMeta} {x : Stamp} {epoch : Nat} {s : State} (hrx : RxTaken m 4 s) (hreceiver : s.sender = false)
    (hup : s.blockUp 2 = true) (hbyte : epoch < 256) (hnew : epoch ≠ s.time.epoch) :
    Completes (.sync m x epoch true) s fun t =>
      t.time.valid = true ∧ t.time.epoch = epoch ∧ t.time.epochChanges = inc32 s.time.epochChanges ∧
      t.rst.aonEpoch = epoch := by
  obtain ⟨t, ht, hclock⟩ := exec_sync_used hrx hreceiver hup (State.servo_epoch (s := s.heard) hreceiver hnew _ _ _)
  obtain ⟨hvalid, -, hepoch, hchanges, -, haon⟩ := hclock
  simp [State.setEpoch, Nat.mod_eq_of_lt hbyte] at hvalid hepoch hchanges haon
  exact ⟨t, ht, hvalid, hepoch, hchanges, haon⟩

/-! ### Echoes (R168) -/

theorem exec_echoReq_sender {m : RxMeta} {id : Nat} {t1 : Stamp} {s : State} (hrx : RxTaken m 10 s)
    (hsender : s.sender = true) :
    Completes (.echoReq m id t1) s fun t =>
      t = { s.heard with link := { s.heard.link with strict := s.link.strict ++
        [⟨4, plainFrame 9 (leBytes id 2) (stampBytes t1 ++ stampBytes s.linkStamp ++ zeros 10)⟩] } } := by
  have h : s.heard.sender = true := hsender
  refine .of_rxGives rfl hrx ?_ ((Calm.heard s).trans (.of_same rfl rfl rfl))
  dsimp only
  rw [if_pos h]
  rfl

theorem Calm.sendEcho (s : State) : Calm s s.sendEcho := by
  unfold State.sendEcho
  split
  · exact .refl s
  · exact .of_same

/-- The set goes on with its next echo. -/
def State.echoesOn (s : State) (e : EchoSet) (sum : Rat) : State :=
  (s.modLink fun l => { l with echo := some { e with done := e.done + 1, sum := sum } }).sendEcho

theorem State.sendEcho_link (s : State) : s.sendEcho = { s with link := s.sendEcho.link } := by
  unfold State.sendEcho
  split <;> rfl

theorem State.echoesOn_link (s : State) (e : EchoSet) (sum : Rat) :
    s.echoesOn e sum = { s with link := (s.echoesOn e sum).link } := by
  unfold State.echoesOn
  rw [State.sendEcho_link]
  rfl

theorem State.echoesOn_echo (s : State) (e : EchoSet) (sum : Rat) :
    ∃ d, (s.echoesOn e sum).link.echo = some d ∧ d.done = e.done + 1 ∧ d.sum = sum := ⟨_, rfl, rfl, rfl⟩

theorem Calm.echoesOn (s : State) (e : EchoSet) (sum : Rat) : Calm s (s.echoesOn e sum) := by
  have hset : Calm s (s.modLink fun l => { l with echo := some { e with done := e.done + 1, sum := sum } }) := .of_same
  exact hset.trans (.sendEcho _)

/-- A round trip that is not the last of its set: the next echo goes out. -/
theorem exec_echoRsp_more {m : RxMeta} {t1 t2 t3 : Stamp} {s : State} {e : EchoSet} (hrx : RxTaken m 30 s)
    (hecho : s.link.echo = some e) (hmore : e.done + 1 ≠ 256) :
    Completes (.echoRsp m e.id t1 t2 t3) s fun t =>
      t = { s with link := t.link } ∧
      ∃ d, t.link.echo = some d ∧ d.done = e.done + 1 ∧
        d.sum = e.sum + (stampPs s.linkStamp - stampPs t1) - (stampPs t3 - stampPs t2) := by
  have h : s.heard.link.echo = some e := hecho
  have hlink := s.heard.echoesOn_link e (e.sum + (stampPs s.linkStamp - stampPs t1) - (stampPs t3 - stampPs t2))
  have hset := s.heard.echoesOn_echo e (e.sum + (stampPs s.linkStamp - stampPs t1) - (stampPs t3 - stampPs t2))
  refine .of_rxQuiet rfl hrx ?_ ((Calm.heard s).trans (.echoesOn _ e _)) ⟨hlink, hset⟩
  dsimp only
  rw [h]
  dsimp only
  rw [if_neg (not_not.mpr rfl), if_neg hmore]
  rfl

/-- The last round trip of a set gives the cable's delay; no set follows at once with the period at 0. -/
theorem State.finishEchoes_once {s : State} (h : s.link.echoPeriod = 0) (sum : Rat) :
    Calm s (s.finishEchoes sum) ∧ (s.finishEchoes sum).link.echo = none ∧
    (s.finishEchoes sum).link.cnt.echoSets = inc32 s.link.cnt.echoSets ∧
    (s.finishEchoes sum).link.cableDelay = (Config.round (sum / 512)).toNat := by
  have hgain : ∀ u : State, Calm u u.gainLock ∧ u.gainLock.link = u.link := by
    intro u
    unfold State.gainLock
    split
    · exact ⟨.of_same, by simp⟩
    · exact ⟨.refl u, rfl⟩
  unfold State.finishEchoes
  dsimp only
  generalize hu : State.modLink s _ = u
  obtain ⟨hcalm, hlink⟩ := hgain u
  have hset : Calm s u := by
    rw [← hu]
    exact .of_same
  have hperiod : ¬(u.gainLock.link.echoPeriod ≠ 0 ∧
      u.gainLock.link.echoStart + ms u.gainLock.link.echoPeriod ≤ u.gainLock.now) := by
    rw [hlink, ← hu]
    exact fun hset => hset.1 h
  rw [if_neg hperiod, hlink, ← hu]
  exact ⟨hu ▸ hset.trans hcalm, rfl, rfl, rfl⟩

theorem exec_echoRsp_last {m : RxMeta} {t1 t2 t3 : Stamp} {s : State} {e : EchoSet} (hrx : RxTaken m 30 s)
    (hecho : s.link.echo = some e) (hlast : e.done + 1 = 256) (hperiod : s.link.echoPeriod = 0) :
    Completes (.echoRsp m e.id t1 t2 t3) s fun t =>
      t.link.echo = none ∧ t.link.cnt.echoSets = inc32 s.link.cnt.echoSets ∧
      t.link.cableDelay = (Config.round
        ((e.sum + (stampPs s.linkStamp - stampPs t1) - (stampPs t3 - stampPs t2)) / 512)).toNat := by
  have h : s.heard.link.echo = some e := hecho
  obtain ⟨hcalm, hset⟩ := State.finishEchoes_once (s := s.heard) hperiod
    (e.sum + (stampPs s.linkStamp - stampPs t1) - (stampPs t3 - stampPs t2))
  refine .of_rxQuiet rfl hrx ?_ ((Calm.heard s).trans hcalm) hset
  dsimp only
  rw [h]
  dsimp only
  rw [if_neg (not_not.mpr rfl), if_pos hlast]
  rfl

/-! ### Reliable frames in sequence (R165) -/

theorem State.noteAccepted_eq (s : State) :
    ∃ a q, s.noteAccepted = { s with arq := a, link := { s.link with strict := q } } ∧ a.exp = s.arq.exp := by
  unfold State.noteAccepted
  dsimp only
  split
  · exact ⟨_, _, rfl, rfl⟩
  · exact ⟨_, _, rfl, rfl⟩

theorem ArqSt.skipGot_of_none {a : ArqSt} (h : a.rxGot = []) (fuel : Nat) : a.skipGot fuel = a := by
  cases fuel with
  | zero => rfl
  | succ fuel => simp [ArqSt.skipGot, h]

theorem serialAfter_self (w a : Nat) : serialAfter w a a = false := by
  have hdist : (a + 2 ^ w - a % 2 ^ w) % 2 ^ w = 0 := by
    have h : a + 2 ^ w - a % 2 ^ w = 2 ^ w * (a / 2 ^ w + 1) := by
      have := Nat.mod_add_div a (2 ^ w)
      rw [Nat.mul_add]
      omega
    rw [h, Nat.mul_mod_right]
  simp [serialAfter, hdist]

/-- What a reliable frame leaves before its effect: the idle period has ended, and the ARQ has accepted it. -/
def State.accepted (s : State) (p : PwrSt) (a : ArqSt) (q : List StrictItem) : State :=
  { s with pwr := p, arq := a, link := { s.link with lastRx := s.now, strict := q } }

@[simp] theorem State.accepted_frame (s : State) (p : PwrSt) (a : ArqSt) (q : List StrictItem) :
    (s.accepted p a q).ch = s.ch ∧ (s.accepted p a q).mem = s.mem ∧ (s.accepted p a q).arq = a := ⟨rfl, rfl, rfl⟩

theorem Calm.accepted (s : State) (p : PwrSt) (a : ArqSt) (q : List StrictItem) : Calm s (s.accepted p a q) :=
  .of_same rfl rfl rfl

/-- A frame in sequence is accepted, and acts. -/
theorem State.arqReceive_inSequence {seq wlow : Nat} {s : State} (h : InSequence seq wlow s) (early : State → Bool)
    (act : State → State) :
    ∃ p a q, s.heard.active.arqReceive seq wlow early act = act (s.accepted p a q) ∧ a.exp = (s.arq.exp + 1) % 65536 := by
  obtain ⟨rfl, -, hwlow, hgot⟩ := h
  obtain ⟨p, hp⟩ : ∃ p, s.heard.active = { s.heard with pwr := p } := ⟨_, rfl⟩
  generalize s.heard.active = u at hp ⊢
  have hexp : u.arq = s.arq := by
    rw [hp]
    rfl
  have hstay : u.arqWlow wlow = u := by
    rw [State.arqWlow, hexp, if_neg (by simp [hwlow])]
  have hskip : (u.modArq fun a => ({ a with exp := (a.exp + 1) % 65536 } : ArqSt).skipGot 1024) =
      u.modArq fun a => { a with exp := (a.exp + 1) % 65536 } := by
    rw [State.modArq, State.modArq, ArqSt.skipGot_of_none]
    rw [hexp]
    exact hgot
  obtain ⟨a, q, hnote, hnext⟩ := (u.modArq fun a => { a with exp := (a.exp + 1) % 65536 }).noteAccepted_eq
  refine ⟨p, a, q, ?_, ?_⟩
  · unfold State.arqReceive
    dsimp only
    rw [hstay, hskip, hnote, hexp, if_neg (by simp [serialAfter_self, hgot]), if_pos rfl, hp]
    rfl
  · rw [hnext, State.modArq_arq, hexp]

end Sys2Proof.Machine
end

section
/-! Responses to the requests that the device sent on or made itself, and every control frame (R155, R166 to R168, R238,
R249). -/

namespace Sys2Proof.Machine

open Sys2Proof

/-! ### Fields of byte strings -/

theorem leField_append_left {l r : List Byte} {i n : Nat} (h : i + n ≤ l.length) : leField (l ++ r) i n = leField l i n := by
  have hdrop : i - l.length = 0 := by omega
  have htake : n - (l.length - i) = 0 := by omega
  rw [leField, leField, List.drop_append, List.take_append, List.length_drop, hdrop, htake, List.take_zero, List.append_nil]

theorem leField_append_right {l r : List Byte} {i n : Nat} (h : l.length ≤ i) :
    leField (l ++ r) i n = leField r (i - l.length) n := by
  rw [leField, leField, List.drop_append, List.drop_eq_nil_of_le h, List.nil_append]

theorem leField_leBytes (v n : Nat) : leField (leBytes v n) 0 n = v % 256 ^ n := by
  rw [leField, List.drop_zero, List.take_of_length_le (by simp), leNat_leBytes]

theorem takePad_length (n : Nat) (bs : List Byte) : (takePad n bs).length = n := by
  simp only [takePad, zeros, List.length_append, List.length_take, List.length_replicate]
  omega

/-- The place and the abort code that the image of a refusal under service 01h gives (R170, R245). -/
theorem refusalImage_fields {b : List Byte} (hb : b.length = 1) (reqseq keysel abort : Nat) (req mac : List Byte)
    (habort : abort < 65536) :
    leField (leBytes 1 1 ++ b ++ leBytes reqseq 2 ++ zeros 4 ++ refusalData 1 keysel abort req ++ mac) 0 1 = 1 ∧
    leField (leBytes 1 1 ++ b ++ leBytes reqseq 2 ++ zeros 4 ++ refusalData 1 keysel abort req ++ mac) 14 2 = abort := by
  have hdata : refusalData 1 keysel abort req =
      (takePad 5 (req.take 5) ++ [0#8]) ++ (leBytes abort 2 ++ takePad 12 (req.drop 8 |>.take 4)) := by
    simp [refusalData]
  have hhead : (leBytes 1 1 ++ b ++ leBytes reqseq 2 ++ zeros 4).length = 8 := by simp [hb, zeros]
  have hfront : (takePad 5 (req.take 5) ++ [0#8]).length = 6 := by simp [takePad_length]
  rw [hdata]
  constructor
  · simp only [List.append_assoc]
    rw [leField_append_left (by simp), leField_leBytes]
    exact Nat.mod_eq_of_lt (by decide)
  · rw [List.append_assoc _ _ mac, leField_append_right (by omega), hhead, List.append_assoc,
      leField_append_right (by omega), hfront, List.append_assoc, leField_append_left (by simp), leField_leBytes]
    exact Nat.mod_eq_of_lt habort

/-! ### Responses -/

/-- A response that fails its check is answered with AUTH under the forwarder's own MAC, where the mailbox takes it (R249,
R255). -/
theorem State.forwardFailed_answers {s : State} {f : FwdReq} (hsvc : f.svc = 1) (hup : s.blockUp 18 = true) :
    (s.forwardFailed f).link = s.link ∧ (s.forwardFailed f).ch = s.ch ∧ (s.forwardFailed f).mem = s.mem ∧
    (s.forwardFailed f).tansy = s.tansy ∧
    ∃ img, (s.forwardFailed f).od.mbxRsp = some img ∧ leField img 0 1 = 1 ∧ leField img 14 2 = abAuth := by
  unfold State.forwardFailed
  dsimp only
  generalize hu : State.log _ 0x8002 0 8 (0x02000000 + f.reqseq % 65536) = u
  have hrst : u.blockUp 18 = true := by
    rw [← hu, State.blockUp, (State.log_frame _ _ _ _ _).2.2.2.2.2.2.2.2.2.2.2.2.2.2.1]
    exact hup
  refine ⟨by simp [← hu], by simp [← hu], by simp [← hu], by simp [← hu], ?_⟩
  simp only [State.forwardAbort, State.mailboxReply, hrst, if_true, hsvc]
  exact ⟨_, rfl, refusalImage_fields (by simp) _ _ _ _ _ (by decide)⟩

/-- The response to a forwarded request of service 01h is taken once. -/
theorem State.takeResponse_answered {s : State} {f : FwdReq} {reqseq : Nat} (hfwd : s.link.forwarded = [f]) (hsvc : f.svc = 1)
    (hreq : f.reqseq = reqseq) (data mac : List Byte) :
    s.takeResponse 0x81 reqseq data mac =
      if f.own then
        if leField data 6 2 = 0 ∧ 24 ≤ data.length then
          (s.modLink fun l => { l with forwarded := [] }).modLink fun l => { l with peerBootNonce := some (leField data 20 4) }
        else s.modLink fun l => { l with forwarded := [] }
      else if (s.modLink fun l => { l with forwarded := [] }).forwardOk f data mac then
        (s.modLink fun l => { l with forwarded := [] }).mailboxReply 1 1 reqseq data mac
      else (s.modLink fun l => { l with forwarded := [] }).forwardFailed f := by
  have hfind : (s.link.forwarded.find? fun g => g.svc == 0x81 % 128 && g.reqseq == reqseq) = some f := by
    simp [hfwd, hsvc, hreq]
  have herase : (s.modLink fun l => { l with forwarded := l.forwarded.erase f }) =
      s.modLink fun l => { l with forwarded := [] } := by
    simp [State.modLink, hfwd]
  unfold State.takeResponse
  dsimp only
  rw [hfind]
  dsimp only
  rw [herase]

theorem exec_mgmtResponse_own {m : RxMeta} {seq wlow reqseq : Nat} {data mac : List Byte} {f : FwdReq} {s : State}
    (hrx : RxTaken m (data.length + 8) s) (hseq : InSequence seq wlow s) (hserving : s.yar.serving = true)
    (hfwd : s.link.forwarded = [f]) (hsvc : f.svc = 1) (hreq : f.reqseq = reqseq) (hown : f.own = true)
    (habort : leField data 6 2 = 0) (hlength : 24 ≤ data.length) :
    Completes (.mgmtResponse m seq wlow 0x81 reqseq data mac) s fun t =>
      t.link.peerBootNonce = some (leField data 20 4) ∧ t.link.forwarded = [] ∧ t.arq.exp = (s.arq.exp + 1) % 65536 ∧
      t.ch = s.ch ∧ t.mem = s.mem := by
  obtain ⟨p, a, q, hact, hexp⟩ := State.arqReceive_inSequence hseq (fun _ => false) fun s =>
    if s.yar.serving then s.takeResponse 0x81 reqseq data mac
    else s.modYar fun y => { y with mgmtUnserved := inc32 y.mgmtUnserved }
  have hserves : (s.accepted p a q).yar.serving = true := hserving
  rw [if_pos hserves, State.takeResponse_answered (s := s.accepted p a q) hfwd hsvc hreq, if_pos hown,
    if_pos ⟨habort, hlength⟩] at hact
  exact .of_rxQuiet rfl hrx hact ((Calm.accepted s p a q).trans .of_same)
    ⟨by simp, by simp, by simpa using hexp, by simp, by simp⟩

theorem exec_mgmtResponse_forwarded {m : RxMeta} {seq wlow reqseq : Nat} {data mac k : List Byte} {nonce : Nat} {f : FwdReq}
    {s : State} (hrx : RxTaken m (data.length + 8) s) (hseq : InSequence seq wlow s) (hserving : s.yar.serving = true)
    (hup : s.blockUp 18 = true) (hfwd : s.link.forwarded = [f]) (hsvc : f.svc = 1) (hreq : f.reqseq = reqseq)
    (hown : f.own = false) (hauth : f.unauth = false) (hkey : s.keyOf f.keysel = some k)
    (hnonce : s.link.peerBootNonce = some nonce) :
    Completes (.mgmtResponse m seq wlow 0x81 reqseq data mac) s fun t =>
      t.link.forwarded = [] ∧
      ((hmac k (macMessage s.link.upSerial nonce 0x81 reqseq data)).take 8 = mac →
        t.od.mbxRsp = some (leBytes 1 1 ++ leBytes 0x81 1 ++ leBytes reqseq 2 ++ zeros 4 ++ data ++ mac)) ∧
      ((hmac k (macMessage s.link.upSerial nonce 0x81 reqseq data)).take 8 ≠ mac →
        ∃ img, t.od.mbxRsp = some img ∧ leField img 0 1 = 1 ∧ leField img 14 2 = abAuth) := by
  obtain ⟨p, a, q, hact, -⟩ := State.arqReceive_inSequence hseq (fun _ => false) fun s =>
    if s.yar.serving then s.takeResponse 0x81 reqseq data mac
    else s.modYar fun y => { y with mgmtUnserved := inc32 y.mgmtUnserved }
  have hserves : (s.accepted p a q).yar.serving = true := hserving
  rw [if_pos hserves, State.takeResponse_answered (s := s.accepted p a q) hfwd hsvc hreq, if_neg (by simp [hown])] at hact
  have hcalm : Calm s ((s.accepted p a q).modLink fun l => { l with forwarded := [] }) := (Calm.accepted s p a q).trans .of_same
  have hverified : ((s.accepted p a q).modLink fun l => { l with forwarded := [] }).forwardOk f data mac =
      ((hmac k (macMessage s.link.upSerial nonce 0x81 reqseq data)).take 8 == mac) := by
    have hkey' : ((s.accepted p a q).modLink fun l => { l with forwarded := [] }).keyOf f.keysel = some k := hkey
    have hnonce' : ((s.accepted p a q).modLink fun l => { l with forwarded := [] }).link.peerBootNonce = some nonce := hnonce
    rw [State.forwardOk, hauth, hkey', hnonce', hsvc, hreq, Bool.false_or]
    rfl
  have hmailbox : ((s.accepted p a q).modLink fun l => { l with forwarded := [] }).blockUp 18 = true := hup
  have hlink : ((s.accepted p a q).modLink fun l => { l with forwarded := [] }).link.forwarded = [] := rfl
  rw [hverified] at hact
  generalize (s.accepted p a q).modLink (fun l => { l with forwarded := [] }) = u at hact hcalm hmailbox hlink
  by_cases hmac : (hmac k (macMessage s.link.upSerial nonce 0x81 reqseq data)).take 8 = mac
  · rw [if_pos (by simp [hmac])] at hact
    refine .of_rxQuiet rfl hrx hact (hcalm.trans .of_same) ⟨by simp [hlink], fun _ => ?_, fun hne => absurd hmac hne⟩
    simp only [State.mailboxReply, hmailbox, if_true]
    rfl
  · rw [if_neg (by simp [hmac])] at hact
    obtain ⟨hkeep, hch, hmem, htansy, himage⟩ := State.forwardFailed_answers hsvc hmailbox
    exact .of_rxQuiet rfl hrx hact (hcalm.trans (.of_same hch hmem htansy))
      ⟨by rw [hkeep, hlink], fun heq => absurd heq hmac, fun _ => himage⟩

theorem exec_mgmtResponse_unserved {m : RxMeta} {seq wlow svc reqseq : Nat} {data mac : List Byte} {s : State}
    (hrx : RxTaken m (data.length + 8) s) (hseq : InSequence seq wlow s) (hserving : s.yar.serving = false) :
    Completes (.mgmtResponse m seq wlow svc reqseq data mac) s fun t =>
      t.yar = { s.yar with mgmtUnserved := inc32 s.yar.mgmtUnserved } ∧ t.arq.exp = (s.arq.exp + 1) % 65536 ∧
      t.od = s.od := by
  obtain ⟨p, a, q, hact, hexp⟩ := State.arqReceive_inSequence hseq (fun _ => false) fun s =>
    if s.yar.serving then s.takeResponse svc reqseq data mac
    else s.modYar fun y => { y with mgmtUnserved := inc32 y.mgmtUnserved }
  have hserves : ¬(s.accepted p a q).yar.serving = true := by
    show ¬s.yar.serving = true
    rw [hserving]
    decide
  rw [if_neg hserves] at hact
  exact .of_rxQuiet rfl hrx hact ((Calm.accepted s p a q).trans .of_same) ⟨rfl, hexp, rfl⟩

/-! ### Every control frame -/

theorem exec_idleFrame_idle {m : RxMeta} {type : Byte} {s : State} (h : FrameTaken m 0 s) (htype : type.toNat ≤ 13) :
    Completes (.idleFrame m type) s fun t => t = s.heard := by
  have hframe : FrameTaken { m with delimited := m.delimited && decide (type.toNat ≤ 13) } 0 s := by
    obtain ⟨hhears, hdelimited, hlength, hcrc, hblen⟩ := h
    exact ⟨hhears, by simp [hdelimited, htype], hlength, hcrc, hblen⟩
  refine ⟨_, rfl, ?_⟩
  rw [State.received_taken hframe]
  exact (Calm.heard s).serveFaults

theorem exec_idleFrame_bad {m : RxMeta} {type : Byte} {s : State} (hhears : s.linkHears = true)
    (hbad : 13 < type.toNat ∨ m.delimited = false ∨ m.lengthOk = false) :
    Completes (.idleFrame m type) s fun t =>
      t = { s with link := { s.link with cnt := { s.link.cnt with badFrame := inc32 s.link.cnt.badFrame } } } := by
  have hcheck : (m.delimited && decide (type.toNat ≤ 13)) = false ∨ m.lengthOk = false := by
    rcases hbad with htype | hdelimited | hlength
    · exact .inl (by simp [htype])
    · exact .inl (by simp [hdelimited])
    · exact .inr hlength
  refine ⟨_, rfl, ?_⟩
  rw [State.received_bad hhears hcheck]
  rfl

theorem exec_ack_crc {m : RxMeta} {k : Nat} {s : State} (hhears : s.linkHears = true) (hdelimited : m.delimited = true)
    (hlength : m.lengthOk = true) (hcrc : m.crcOk = false) :
    Completes (.ack m k) s fun t =>
      t = { s with link := { s.link with cnt := { s.link.cnt with crcErr := inc32 s.link.cnt.crcErr } } } := by
  refine ⟨_, rfl, ?_⟩
  simp [State.receivedUp, State.received, hhears, hdelimited, hlength, hcrc, State.modLinkCnt]

theorem exec_ack_outside {m : RxMeta} {k : Nat} {s : State} (hrx : RxTaken m 0 s)
    (hout : s.arq.window.head?.all (fun f => decide (seqDist f.seq s.arq.nextSeq ≤ seqDist f.seq k)) = true) :
    Completes (.ack m k) s fun t => t = s.heard :=
  .of_rxGives rfl hrx (State.acknowledge_outside (s := s.heard) hout) (.heard s)

theorem exec_pause_receiver {m : RxMeta} {bitmap : W32} {s : State} (hrx : RxTaken m 0 s) (hreceiver : s.sender = false) :
    Completes (.pause m bitmap) s fun t => t = s.heard := by
  have h : s.heard.sender = false := hreceiver
  refine .of_rxGives rfl hrx ?_ (.heard s)
  dsimp only
  rw [if_pos (by simp [h])]

/-- Settles O48: what each control frame does follows from the rules of acknowledgement, retransmission, the servo and the
forwarded requests; where a fault follows, the commands it completes touch neither the window, nor the clock, nor the resets. -/
theorem controlFrames : Obligations.ControlFrames := by
  unfold Obligations.ControlFrames
  exact ⟨fun _ _ _ => exec_idleFrame_idle, fun _ _ _ => exec_idleFrame_bad, fun _ _ _ => exec_ack_crc,
    fun _ _ _ _ _ _ => exec_ack, fun _ _ _ => exec_ack_outside, fun _ _ _ _ _ => exec_nak_all,
    fun _ _ _ _ _ _ _ => exec_nak_acked, fun _ _ _ => exec_pause_sender, fun _ _ _ => exec_pause_receiver,
    fun _ _ _ _ => exec_sync_invalid, fun _ _ _ => exec_sync_first, fun _ _ _ _ => exec_sync_epoch,
    fun _ _ _ _ => exec_echoReq_sender, fun _ _ _ _ _ _ => exec_echoRsp_more, fun _ _ _ _ _ _ => exec_echoRsp_last,
    fun _ _ _ _ => exec_rxreport_new, fun _ _ _ _ _ _ _ _ => exec_mgmtResponse_own,
    fun _ _ _ _ _ _ _ _ _ _ => exec_mgmtResponse_forwarded, fun _ _ _ _ _ _ _ _ => exec_mgmtResponse_unserved⟩

end Sys2Proof.Machine
end

section
/-! MARK, REWIND, RELEASE and FLUSH on a ring-read channel that a port consumes (R96 to R101, R109, R110): what `State.settle`
leaves of what these commands move, the answer to each, the flush that a packet's last word performs, and the RELEASE by which
the channel enters FAULT (R46). -/

namespace Sys2Proof.Machine

open Sys2Proof

/-! ### The half of a pair and the role of the device -/

/-- Which half of a pair the device is, whether it owns the buses, and its link role are in `t` as in `s`. -/
structure SameRole (s t : State) : Prop where
  own : t.twin.own = s.twin.own
  pair : t.twin.pairInUse = s.twin.pairInUse
  half : t.twin.twinId = s.twin.twinId
  resets : t.rst = s.rst

theorem SameRole.refl (s : State) : SameRole s s := ⟨rfl, rfl, rfl, rfl⟩

theorem SameRole.trans {s t u : State} (h : SameRole s t) (k : SameRole t u) : SameRole s u :=
  ⟨k.own.trans h.own, k.pair.trans h.pair, k.half.trans h.half, k.resets.trans h.resets⟩

theorem SameRole.of_ite {s t u : State} {c : Prop} [Decidable c] (ht : SameRole s t) (hu : SameRole s u) :
    SameRole s (if c then t else u) := by
  split
  · exact ht
  · exact hu

theorem SameRole.of_twin {s t : State} (htwin : t.twin = s.twin := by simp) (hrst : t.rst = s.rst := by simp) :
    SameRole s t := by
  constructor <;> simp [htwin, hrst]

theorem SameRole.drives {s t : State} (h : SameRole s t) : t.drives = s.drives := by
  simp only [State.drives, State.chainHalf, h.own, h.pair, h.half]

theorem SameRole.chainHalf {s t : State} (h : SameRole s t) (b : Bool) : t.chainHalf b = s.chainHalf b := by
  simp only [State.chainHalf, h.pair, h.half]

theorem SameRole.modCh (s : State) (n : Fin 20) (f : Chan → Chan) : SameRole s (s.modCh n f) := .of_twin

theorem SameRole.clover (s : State) (type : Nat) (body : List Byte) : SameRole s (s.clover type body) := by
  have hsent : ∀ (t : TwinSt) (now : Nat), (t.noteSent type body now).own = t.own ∧
      (t.noteSent type body now).pairInUse = t.pairInUse ∧ (t.noteSent type body now).twinId = t.twinId := by
    intro t now
    unfold TwinSt.noteSent
    split <;> exact ⟨rfl, rfl, rfl⟩
  unfold State.clover
  split
  · split <;> constructor <;> simp [hsent]
  · exact .refl s

theorem SameRole.setHold (s : State) (n : Fin 20) (h : Bool) : SameRole s (s.setHold n h) := by
  unfold State.setHold
  exact .of_ite (.refl s) ((SameRole.modCh s n _).trans (.of_ite (.clover _ _ _) (.refl _)))

theorem SameRole.evalCredit (s : State) (n : Fin 20) : SameRole s (s.evalCredit n) := by
  have hsend : ∀ u : State, SameRole u u.sendCredits := by
    intro u
    unfold State.sendCredits
    exact .of_ite (.clover _ _ _) (.refl u)
  unfold State.evalCredit
  exact .of_ite (.of_ite (.refl s) ((SameRole.modCh s n _).trans (hsend _))) (.refl s)

theorem SameRole.stopChannel (s : State) (n : Fin 20) : SameRole s (s.stopChannel n) := by
  have hheld : SameRole s ((s.dropOpen n).setHold n false) := (SameRole.of_twin (t := s.dropOpen n)).trans (.setHold _ n false)
  unfold State.stopChannel
  exact hheld.trans ⟨rfl, rfl, rfl, rfl⟩

theorem SameRole.attnCh (s : State) (n : Fin 20) (bit : Nat) : SameRole s (s.attnCh n bit) := .of_twin

theorem SameRole.chFault (s : State) (n : Fin 20) (cause : Nat) : SameRole s (s.chFault n cause) := by
  have hstopped : SameRole s ((s.presetPending n rsFault).stopChannel n) :=
    (SameRole.of_twin (t := s.presetPending n rsFault)).trans (.stopChannel _ n)
  unfold State.chFault
  exact .of_ite (hstopped.trans <| (SameRole.modCh _ n _).trans <| (SameRole.evalCredit _ n).trans <| .attnCh _ n 12)
    (.refl s)

theorem SameRole.trim (s : State) (n : Fin 20) : SameRole s (s.trim n) := by
  unfold State.trim
  exact .of_ite ((SameRole.modCh s n _).trans (.chFault _ n 1)) (.modCh s n _)

theorem SameRole.ridle (s : State) (n : Fin 20) : SameRole s (s.ridle n) := .of_twin

theorem SameRole.settle (s : State) (n : Fin 20) : SameRole s (s.settle n) := by
  have hreleased : SameRole s ((s.autoRelease n).cutHead n) := .of_twin
  have hrecords : ∀ u : State, SameRole u (u.freeSenderRecords n) := fun _ => .of_twin
  have hflow : ∀ u : State, SameRole u (u.refreshFlow n) := fun _ => .of_twin
  unfold State.settle State.evalHold
  exact hreleased.trans <| (SameRole.trim _ n).trans <| (hrecords _).trans <| (SameRole.setHold _ n _).trans <|
    (SameRole.evalCredit _ n).trans <| (SameRole.ridle _ n).trans (hflow _)

/-! ### What the commands move of a channel -/

/-- What MARK, REWIND, RELEASE and FLUSH move of a channel, and CP: the pointers with their records, the armed flush and the
count of flushes (R41, R58, R96 to R100, R109). -/
structure ReadView where
  cp : Ptr
  rp : Ptr
  mp : Ptr
  lp : Ptr
  markValid : Bool
  markPseq : Nat
  markPkt : Option PktPos
  nextPseq : Nat
  inPkt : Option PktPos
  flushArmed : Bool
  flushes : Nat

/-- The view of a channel. -/
def Chan.readView (c : Chan) : ReadView :=
  ⟨c.cp, c.rp, c.mp, c.lp, c.markValid, c.markPseq, c.markPkt, c.nextPseq, c.inPkt, c.flushArmed, c.cnt.flushes⟩

/-- Each field of a channel's view is the channel's own. -/
theorem Chan.fields_of_view {c : Chan} {v : ReadView} (h : c.readView = v) :
    c.rp = v.rp ∧ c.mp = v.mp ∧ c.lp = v.lp ∧ c.markValid = v.markValid ∧ c.markPseq = v.markPseq ∧
    c.nextPseq = v.nextPseq ∧ c.inPkt = v.inPkt ∧ c.flushArmed = v.flushArmed ∧ c.cnt.flushes = v.flushes := by
  subst h
  exact ⟨rfl, rfl, rfl, rfl, rfl, rfl, rfl, rfl, rfl⟩

/-- LP follows MP while a mark is valid, and RP otherwise, with MP and its records at RP; in EXPLICIT nothing moves (R99 to
R101). -/
def ReadView.released (v : ReadView) (m : RelMode) : ReadView :=
  if m = .explicit then v
  else if v.markValid then { v with lp := v.mp }
  else { v with lp := v.rp, mp := v.rp, markPseq := v.nextPseq, markPkt := v.inPkt }

/-- A channel that a port consumes ring-read, in a state in which its engine works, at a device that is not the producer half of
a Chain pair (R49, R93, R219). -/
structure RingRead (n : Fin 20) (s : State) : Prop where
  half : s.chainHalf false = false
  ring : s.dirRead n = false
  works : (s.chan n).state = .active ∨ (s.chan n).state = .held ∨ (s.chan n).state = .draining
  consumer : (s.chan n).cfg.consumer ≠ .link

theorem RingRead.of_same {n : Fin 20} {s t : State} (h : RingRead n s) (hcfg : (t.chan n).cfg = (s.chan n).cfg)
    (hstate : (t.chan n).state = (s.chan n).state) (hr : SameRole s t) : RingRead n t := by
  refine ⟨by rw [hr.chainHalf, h.half], ?_, by rw [hstate]; exact h.works, by rw [hcfg]; exact h.consumer⟩
  rw [← h.ring]
  simp only [State.dirRead, State.sender, hcfg, hr.chainHalf, hr.resets]

theorem RingRead.of_steady {n : Fin 20} {s t : State} (h : RingRead n s) (hs : Steady s t) (hr : SameRole s t) :
    RingRead n t :=
  h.of_same (hs.channels n).1 (hs.channels n).2 hr

theorem State.autoRelease_view {n : Fin 20} {s : State} (h : RingRead n s) :
    ((s.autoRelease n).chan n).readView = (s.chan n).readView.released (s.chan n).cfg.relmode := by
  obtain ⟨hhalf, hring, hworks, -⟩ := h
  have hon : ¬((s.chan n).state = .disabled ∨ (s.chan n).state = .fault ∨ s.chainHalf false = true) := by
    rw [hhalf]
    rcases hworks with h | h | h <;> simp [h]
  unfold State.autoRelease ReadView.released
  dsimp only
  rw [if_neg hon, hring]
  cases hmode : (s.chan n).cfg.relmode <;> cases hmark : (s.chan n).markValid <;>
    simp [Chan.readView, Chan.moveLp, hmark]

/-- Link egress passes over no header of a channel that a port consumes. -/
theorem State.cutHead_of_port {n : Fin 20} {s : State} (h : (s.chan n).cfg.consumer ≠ .link) : s.cutHead n = s := by
  simp [State.cutHead, h]

theorem State.freeSenderRecords_chan (s : State) (n : Fin 20) :
    ∃ l, (s.freeSenderRecords n).chan n = { s.chan n with records := l } := by
  have hfold : ∀ (f : Chan → Fin 3 → Chan), (∀ c i, ∃ l, f c i = { c with records := l }) →
      ∀ (is : List (Fin 3)) c, ∃ l, is.foldl f c = { c with records := l } := by
    intro f hf is
    induction is with
    | nil => exact fun c => ⟨_, rfl⟩
    | cons i t ih =>
      intro c
      obtain ⟨l, hl⟩ := hf c i
      obtain ⟨l', hl'⟩ := ih (f c i)
      exact ⟨l', by rw [List.foldl_cons, hl', hl]⟩
  unfold State.freeSenderRecords
  split
  · exact ⟨_, rfl⟩
  · rw [State.modCh_chan_same]
    refine hfold _ (fun c i => ?_) _ _
    dsimp only
    split <;> exact ⟨_, rfl⟩

/-- What `State.settle` does after LP has moved. -/
def State.settleRest (s : State) (n : Fin 20) : State :=
  ((((s.freeSenderRecords n).evalHold n).evalCredit n).ridle n).refreshFlow n

theorem State.settle_of_port {n : Fin 20} {s : State} (h : (s.chan n).cfg.consumer ≠ .link) :
    s.settle n = ((s.autoRelease n).trim n).settleRest n := by
  have hconsumer : ((s.autoRelease n).chan n).cfg.consumer ≠ .link := by
    rwa [((Steady.autoRelease s n).channels n).1]
  rw [State.settle, State.cutHead_of_port hconsumer]
  rfl

theorem State.settleRest_chan (s : State) (n : Fin 20) : ∃ l h k r f, (s.settleRest n).chan n =
    { s.chan n with records := l, holdReq := h, chainCredit := k, ridleStart := r, flow := f } := by
  obtain ⟨l, hl⟩ := s.freeSenderRecords_chan n
  obtain ⟨h, k, r, f, hend⟩ := (s.freeSenderRecords n).settleEnd_chan n
  exact ⟨l, h, k, r, f, by rw [State.settleRest, hend, hl]⟩

@[simp] theorem State.settleRest_port (s : State) (n : Fin 20) (x : Port) : (s.settleRest n).port x = s.port x := by
  simp [State.settleRest]

/-- After a change of a roomy channel LP is released, and nothing else moves of what the commands move. -/
theorem State.settle_view {n : Fin 20} {s : State} (h : RingRead n s) (hroomy : Roomy n s) :
    ((s.settle n).chan n).readView = (s.chan n).readView.released (s.chan n).cfg.relmode := by
  have hroom := (Steady.autoRelease s n).roomy hroomy
  obtain ⟨l, hd, k, r, f, hrest⟩ := ((s.autoRelease n).trim n).settleRest_chan n
  rw [State.settle_of_port h.consumer, hrest, ← State.autoRelease_view h, State.trim_of_roomy hroom, State.modCh_chan_same]
  rfl

/-- The channel engine has made `v` of what the commands move of channel `n`; the ports, the fences, every configuration, every
state and the role stand. -/
structure Performed (n : Fin 20) (v : ReadView) (s t : State) : Prop where
  view : (t.chan n).readView = v
  steady : Steady s t
  role : SameRole s t

theorem Performed.after {n : Fin 20} {v : ReadView} {s t u : State} (h : Performed n v t u) (hs : Steady s t)
    (hr : SameRole s t) : Performed n v s u :=
  ⟨h.view, hs.trans h.steady, hr.trans h.role⟩

theorem RingRead.settle {n : Fin 20} {s : State} (h : RingRead n s) (hroomy : Roomy n s) :
    Performed n ((s.chan n).readView.released (s.chan n).cfg.relmode) s (s.settle n) :=
  ⟨State.settle_view h hroomy, .settle hroomy, .settle s n⟩

/-- A change that keeps configuration and state, with the work that follows it. -/
theorem RingRead.modCh_settle {n : Fin 20} {s : State} (h : RingRead n s) (hroomy : Roomy n s) {f : Chan → Chan}
    {v : ReadView} (hview : (f (s.chan n)).readView = v := by rfl) (hcfg : (f (s.chan n)).cfg = (s.chan n).cfg := by rfl)
    (hstate : (f (s.chan n)).state = (s.chan n).state := by rfl) :
    Performed n (v.released (s.chan n).cfg.relmode) s ((s.modCh n f).settle n) := by
  have hsteady := Steady.modCh s n hcfg hstate
  have hdone := (h.of_steady hsteady (.modCh s n f)).settle (hsteady.roomy hroomy)
  rw [State.modCh_chan_same, hcfg, hview] at hdone
  exact hdone.after hsteady (.modCh s n f)

/-- Two changes of one channel are one. -/
theorem State.modCh_modCh (s : State) (n : Fin 20) (f g : Chan → Chan) :
    (s.modCh n f).modCh n g = s.modCh n fun c => g (f c) := by
  simp [State.modCh, Vector.get_eq_getElem]

/-! ### The effect of each command (R96 to R98, R110) -/

/-- MARK (R96). -/
def ReadView.marked (v : ReadView) : ReadView :=
  { v with mp := v.rp, markValid := true, markPseq := v.nextPseq, markPkt := v.inPkt }

/-- REWIND (R97). -/
def ReadView.rewound (v : ReadView) : ReadView :=
  { v with rp := v.mp, nextPseq := v.markPseq, inPkt := v.markPkt, flushArmed := false }

/-- RELEASE with TARGET 0 (R98). -/
def ReadView.releasedToRp (v : ReadView) : ReadView :=
  { v with lp := v.rp, mp := v.rp, markValid := false, markPseq := v.nextPseq, markPkt := v.inPkt }

/-- RELEASE with TARGET 1 (R98). -/
def ReadView.releasedToMp (v : ReadView) : ReadView := { v with lp := v.mp }

/-- A flush performed (R110). -/
def ReadView.flushed (v : ReadView) : ReadView :=
  { v with rp := v.cp, mp := v.cp, lp := v.cp, markValid := false, markPseq := v.nextPseq, markPkt := none, inPkt := none,
           flushArmed := false, flushes := inc32 v.flushes }

section
variable (v : ReadView) (m : RelMode)

theorem ReadView.marked_released :
    v.marked.released m = { v.marked with lp := if m = .explicit then v.lp else v.rp } := by
  unfold ReadView.released ReadView.marked
  split <;> simp [*]

theorem ReadView.rewound_released :
    v.rewound.released m = { v.rewound with lp := if m = .explicit then v.lp else v.mp } := by
  unfold ReadView.released ReadView.rewound
  split
  · simp [*]
  · split <;> simp [*]

theorem ReadView.releasedToRp_released : v.releasedToRp.released m = v.releasedToRp := by
  simp [ReadView.released, ReadView.releasedToRp]

theorem ReadView.releasedToMp_released {v : ReadView} {m : RelMode} (h : m = .explicit ∨ v.markValid = true) :
    v.releasedToMp.released m = v.releasedToMp := by
  unfold ReadView.released ReadView.releasedToMp
  rcases h with h | h <;> simp [h]

/-- Without a mark the release is to RP, where RELEASE is not needed at all (R99). -/
theorem ReadView.releasedToMp_unmarked {v : ReadView} {m : RelMode} (hm : m ≠ .explicit) (hv : v.markValid = false) :
    v.releasedToMp.released m = v.releasedToRp := by
  simp [ReadView.released, ReadView.releasedToMp, ReadView.releasedToRp, hm, hv]

theorem ReadView.flushed_released : v.flushed.released m = v.flushed := by
  simp [ReadView.released, ReadView.flushed]

end

section
variable {n : Fin 20} {s : State} (h : RingRead n s) (hroomy : Roomy n s)
include h hroomy

theorem State.chCmd_mark (target : Bool) :
    Performed n ((s.chan n).readView.marked.released (s.chan n).cfg.relmode) s (s.chCmd n 4 target) := by
  unfold State.chCmd
  rw [if_neg (by simp [h.ring]), if_pos rfl]
  exact h.modCh_settle hroomy

theorem State.chCmd_rewind (target : Bool) :
    Performed n ((s.chan n).readView.rewound.released (s.chan n).cfg.relmode) s (s.chCmd n 5 target) := by
  unfold State.chCmd
  rw [if_neg (by simp [h.ring]), if_neg (by decide), if_pos rfl]
  exact h.modCh_settle hroomy

theorem State.chCmd_releaseToRp : Performed n (s.chan n).readView.releasedToRp s (s.chCmd n 6 false) := by
  unfold State.chCmd
  rw [if_neg (by simp [h.ring]), if_neg (by decide), if_neg (by decide), if_pos rfl, if_neg (by decide),
    ← ReadView.releasedToRp_released _ (s.chan n).cfg.relmode]
  exact h.modCh_settle hroomy

theorem State.chCmd_releaseToMp :
    Performed n ((s.chan n).readView.releasedToMp.released (s.chan n).cfg.relmode) s (s.chCmd n 6 true) := by
  unfold State.chCmd
  rw [if_neg (by simp [h.ring]), if_neg (by decide), if_neg (by decide), if_pos rfl, if_pos rfl]
  exact h.modCh_settle hroomy

theorem State.performFlush_flushes : Performed n (s.chan n).readView.flushed s (s.performFlush n) := by
  rw [← ReadView.flushed_released _ (s.chan n).cfg.relmode, State.performFlush, State.modCnt, State.modCh_modCh]
  exact h.modCh_settle hroomy

/-- An armed flush at a packet boundary is performed (R110). -/
theorem State.flushIfDue_boundary (harmed : (s.chan n).flushArmed = true) (hpkt : (s.chan n).inPkt = none) :
    Performed n (s.chan n).readView.flushed s (s.flushIfDue n) := by
  rw [State.flushIfDue, if_pos (by simp [Chan.atBoundary, harmed, hpkt])]
  exact State.performFlush_flushes h hroomy

/-- FLUSH at a packet boundary is performed at once. -/
theorem State.chCmd_flush_boundary (target : Bool) (hpkt : (s.chan n).inPkt = none) :
    Performed n (s.chan n).readView.flushed s (s.chCmd n 7 target) := by
  unfold State.chCmd
  rw [if_neg (by simp [h.ring]), if_neg (by decide), if_neg (by decide), if_neg (by decide)]
  have hsteady : Steady s (s.modCh n fun c => { c with flushArmed := true }) := .modCh s n rfl rfl
  have hdone := State.flushIfDue_boundary (h.of_steady hsteady (.modCh s n _)) (hsteady.roomy hroomy) (by simp)
    (by simpa using hpkt)
  rw [State.modCh_chan_same] at hdone
  exact hdone.after hsteady (.modCh s n _)

end

/-- FLUSH inside a packet is armed. -/
theorem State.chCmd_flush_inside {n : Fin 20} {s : State} (h : s.dirRead n = false) (target : Bool)
    (hpkt : (s.chan n).inPkt.isSome = true) :
    s.chCmd n 7 target = s.modCh n fun c => { c with flushArmed := true } := by
  have hnone : (s.chan n).inPkt ≠ none := by
    rintro heq
    simp [heq] at hpkt
  simp [State.chCmd, h, State.flushIfDue, Chan.atBoundary, hnone]

/-! ### The answer to a channel command (R50, R95, R101) -/

section
variable {x : Port} {opc : BitVec 5} {c : RCmd} {n : Fin 20} {k : PCmd} {s u : State}

theorem Accepted.chan {op1 op2 : W32} (hu : Accepted x opc c op1 op2 k s u) (n : Fin 20) : u.chan n = s.chan n := by
  simp only [State.chan, hu.channels]

theorem Accepted.role {op1 op2 : W32} (hu : Accepted x opc c op1 op2 k s u) : SameRole s u :=
  .of_twin hu.twin hu.resets

theorem State.chCheck_none (hn : chanOf c.ch.toNat = some n) (hconsumer : (s.chan n).cfg.consumer = End.ofPort x)
    (hstate : (s.chan n).state = .active ∨ (s.chan n).state = .held ∨ (s.chan n).state = .draining) :
    s.chCheck x c.ch = none := by
  rcases hstate with h | h | h <;> simp [State.chCheck, hn, hconsumer, h]

theorem State.chCheck_stopped (hn : chanOf c.ch.toNat = some n) (hconsumer : (s.chan n).cfg.consumer = End.ofPort x)
    (hstate : (s.chan n).state = .disabled ∨ (s.chan n).state = .fault) :
    s.chCheck x c.ch = some (if (s.chan n).state = .fault then rsFault else rsBadop) := by
  rcases hstate with h | h <;> simp [State.chCheck, hn, hconsumer, h]

/-- A channel command that fails the checks of its channel is answered with the status of the first that fails. -/
theorem State.execCmd_refused {stat : Nat} (hu : Accepted x opc c 0 0 k s u) (hlow : 4 ≤ opc.toNat) (hhigh : opc.toNat ≤ 7)
    (hcheck : u.chCheck x c.ch = some stat) : u.execCmd x k = u.finish x k (statusBeat c.tag.toNat stat) := by
  simp only [State.execCmd, hu.undecided, hu.opcode, hu.cycle, State.finishStat, PCmd.tag, hhigh, if_true, hcheck,
    show ¬opc.toNat = 0 by omega, show ¬opc.toNat ≤ 3 by omega, if_false]

/-- A channel command that passes them acts where the channel's kind and release mode allow it, and a REWIND is followed by the
read that waits (R101, R107). -/
theorem State.execCmd_commanded (hu : Accepted x opc c 0 0 k s u) (hlow : 4 ≤ opc.toNat) (hhigh : opc.toNat ≤ 7)
    (hcheck : u.chCheck x c.ch = none) (hn : chanOf c.ch.toNat = some n) :
    u.execCmd x k =
      if u.chCmdAllowed n opc.toNat (c.mod.getLsbD 0) then
        if opc.toNat = 5 then
          ((u.chCmd n opc.toNat (c.mod.getLsbD 0)).finish x k (statusBeat c.tag.toNat rsOk)).retryWaiting x n
        else (u.chCmd n opc.toNat (c.mod.getLsbD 0)).finish x k (statusBeat c.tag.toNat rsOk)
      else u.finish x k (statusBeat c.tag.toNat rsBadop) := by
  simp only [State.execCmd, hu.undecided, hu.opcode, hu.cycle, State.finishStat, PCmd.tag, hhigh, if_true, hcheck, hn,
    show ¬opc.toNat = 0 by omega, show ¬opc.toNat ≤ 3 by omega, if_false]

/-- No read waits where the port has no command. -/
theorem State.retryWaiting_of_idle (h : (s.port x).q = []) : s.retryWaiting x n = s := by
  simp [State.retryWaiting, h]

end

/-- A command is answered by the beat `b` at its port, where no other waits, and is retired. -/
structure Retired (x : Port) (c : RCmd) (b : Beat) (u t : State) : Prop where
  returned : (t.port x).ret = (u.port x).ret ++ [b]
  queue : (t.port x).q = []
  completed : (t.port x).lastCompleted = c.cseq
  expected : (t.port x).expCseq = (u.port x).expCseq

/-- A command is retired from its port as it stands there, decided meanwhile or not. -/
theorem Retired.finish {x : Port} {k : PCmd} {u v : State} (b : Beat) (hdrives : v.drives = true)
    (hgone : (v.port x).without k = []) (hrun : k.waiting = false) (hdec : k.decoder = false)
    (hret : (v.port x).ret = (u.port x).ret) (hexp : (v.port x).expCseq = (u.port x).expCseq) :
    Retired x k.c b u (v.finish x k b) := by
  have halone : v.finish x k b = (v.modPort x fun p => { p with q := [k] }).finish x k b := by
    have hsame : (v.modPort x fun p => { p with q := p.without k }) =
        (v.modPort x fun p => { p with q := [k] }).modPort x fun p => { p with q := p.without k } := by
      have hnone : ∀ p : PortSt, ({ p with q := [k] } : PortSt).without k = [] := fun p => by simp [PortSt.without]
      cases x <;> simp only [State.port] at hgone <;> simp only [State.modPort, hnone, hgone]
    unfold State.finish
    rw [hsame]
  obtain ⟨hr, hq, hlast, he⟩ := State.finish_port (x := x) (v := v.modPort x fun p => { p with q := [k] }) (k := k) b
    (by simpa [State.drives, State.chainHalf] using hdrives) (by simp) hrun hdec
  rw [halone]
  exact ⟨by rw [hr, ← hret]; simp, hq, hlast, by rw [he, ← hexp]; simp⟩

/-- A command whose execution retires it is answered, and nothing follows. -/
theorem State.command_retired {x : Port} {opc : BitVec 5} {c : RCmd} {op1 op2 : W32} {s : State} {b : Beat}
    {post : State → Prop} (h : CmdTaken x opc c op1 op2 s) (h15 : opc ≠ 15#5) (h17 : opc ≠ 17#5)
    (hexec : ∀ k u, Accepted x opc c op1 op2 k s u → Retired x c b u (u.execCmd x k) ∧ post (u.execCmd x k)) :
    ∃ t, s.command x opc c op1 op2 = t ∧ Answers x c b s t ∧ post t := by
  obtain ⟨k, u, hu, hcommand⟩ := State.command_taken h h15 h17
  obtain ⟨⟨hret, hq, hlast, hexp⟩, hpost⟩ := hexec k u hu
  exact ⟨u.execCmd x k, by rw [hcommand, State.serviceN, PortSt.next?_none hq], ⟨by rw [hret, hu.returned], hq, hlast,
    by rw [hexp, hu.expected]⟩, hpost⟩

section
variable {x : Port} {opc : BitVec 5} {c : RCmd} {n : Fin 20} {s : State}

/-- A command that is taken finds its channel's engine at work at a device that drives the bus. -/
theorem CmdTaken.ringRead {op1 op2 : W32} (h : CmdTaken x opc c op1 op2 s)
    (hconsumer : (s.chan n).cfg.consumer = End.ofPort x)
    (hworks : (s.chan n).state = .active ∨ (s.chan n).state = .held ∨ (s.chan n).state = .draining)
    (hring : s.dirRead n = false) : RingRead n s := by
  obtain ⟨-, hhalf, -⟩ := h
  exact ⟨hhalf, hring, hworks, by rw [hconsumer]; cases x <;> decide⟩

section
variable {op1 op2 : W32} {k : PCmd} {u : State} (hu : Accepted x opc c op1 op2 k s u)
include hu

theorem Accepted.drives (h : CmdTaken x opc c op1 op2 s) : u.drives = true := by
  obtain ⟨-, -, -, hdrives, -⟩ := h
  rw [hu.role.drives, hdrives]

theorem Accepted.ringRead (h : RingRead n s) : RingRead n u :=
  h.of_same (by rw [hu.chan]) (by rw [hu.chan]) hu.role

theorem Accepted.roomy (h : Roomy n s) : Roomy n u := roomy_of_same (by rw [hu.tansy]) (by rw [hu.chan]) h

theorem Accepted.chCheck_none (hn : chanOf c.ch.toNat = some n) (hconsumer : (s.chan n).cfg.consumer = End.ofPort x)
    (hworks : (s.chan n).state = .active ∨ (s.chan n).state = .held ∨ (s.chan n).state = .draining) :
    u.chCheck x c.ch = none :=
  State.chCheck_none hn (by rw [hu.chan]; exact hconsumer) (by rw [hu.chan]; exact hworks)

/-- RP reaches the same stored word, and READABLE is the same. -/
theorem Accepted.atRp (n : Fin 20) : u.wordAtRp n = s.wordAtRp n ∧ u.ringReadable n = s.ringReadable n := by
  have hfenced : u.fenced n = s.fenced n := by simp only [State.fenced, hu.chan, hu.tansy]
  have hphys := State.phys_congr (s := s) (t := u) (by rw [hu.tansy]) (by rw [hu.tansy]) (by rw [hu.tansy])
  exact ⟨by simp only [State.wordAtRp, State.atRp, hu.chan, hfenced, hu.memory, hphys],
    by simp only [State.ringReadable, hu.chan, hfenced]⟩

end

/-- A channel command that its channel allows is answered with OK, where its effect leaves the port and the role of the device;
the effect is that on the accepted state. -/
theorem State.command_chCmd {post : Chan → Prop} (h : CmdTaken x opc c 0 0 s) (hc : Commands x c n s)
    (hlow : 4 ≤ opc.toNat) (hhigh : opc.toNat ≤ 7) (hallowed : opc.toNat ≠ 7 ∨ (s.chan n).cfg.compat = true)
    (hact : ∀ u, u.chan n = s.chan n → RingRead n u → Roomy n u →
      Steady u (u.chCmd n opc.toNat (c.mod.getLsbD 0)) ∧ SameRole u (u.chCmd n opc.toNat (c.mod.getLsbD 0)) ∧
      post ((u.chCmd n opc.toNat (c.mod.getLsbD 0)).chan n)) :
    ∃ t, s.command x opc c 0 0 = t ∧ Answers x c (statusBeat c.tag.toNat 0) s t ∧ post (t.chan n) := by
  obtain ⟨hn, hconsumer, hworks, hring, hroomy⟩ := hc
  refine State.command_answered h (by rintro rfl; simp at hhigh) (by rintro rfl; simp at hhigh) fun k u hu => ?_
  have hringU := hu.ringRead (CmdTaken.ringRead h hconsumer hworks hring)
  obtain ⟨hsteady, hrole, hpost⟩ := hact u (hu.chan n) hringU (hu.roomy hroomy)
  have hok : u.chCmdAllowed n opc.toNat (c.mod.getLsbD 0) = true := by
    rw [State.chCmdAllowed, if_neg (by simp [hringU.ring])]
    split
    next h7 => rw [hu.chan, hallowed.resolve_left (not_not.mpr h7)]
    · rfl
  refine ⟨u.chCmd n opc.toNat (c.mod.getLsbD 0), ?_, hsteady.port x, hrole.drives, by simpa [State.chan] using hpost⟩
  rw [State.execCmd_commanded hu hlow hhigh (hu.chCheck_none hn hconsumer hworks) hn, if_pos hok]
  split
  · have hdec : k.decoder = false := by
      rw [PCmd.decoder, hu.opcode]
      exact beq_false_of_ne (by rintro rfl; simp at hhigh)
    obtain ⟨-, hidle, -⟩ := State.finish_port (statusBeat c.tag.toNat rsOk) (hrole.drives.trans (hu.drives h))
      (by rw [hsteady.port]; exact hu.queue) hu.running hdec
    exact State.retryWaiting_of_idle hidle
  · rfl

/-- The same where the engine makes a known view of the channel. -/
theorem State.command_performed {v : Chan → ReadView} (h : CmdTaken x opc c 0 0 s) (hc : Commands x c n s)
    (hlow : 4 ≤ opc.toNat) (hhigh : opc.toNat ≤ 7) (hallowed : opc.toNat ≠ 7 ∨ (s.chan n).cfg.compat = true)
    (hact : ∀ u, u.chan n = s.chan n → RingRead n u → Roomy n u →
      Performed n (v (u.chan n)) u (u.chCmd n opc.toNat (c.mod.getLsbD 0))) :
    ∃ t, s.command x opc c 0 0 = t ∧ Answers x c (statusBeat c.tag.toNat 0) s t ∧
      (t.chan n).readView = v (s.chan n) :=
  State.command_chCmd (post := fun d => d.readView = v (s.chan n)) h hc hlow hhigh hallowed fun u hu hring hroomy =>
    have hdone := hact u hu hring hroomy
    ⟨hdone.steady, hdone.role, hdone.view.trans (by rw [hu])⟩

/-- A channel command on a DISABLED channel or one in FAULT touches no channel (R50). -/
theorem exec_stopped {i : Instr} (he : exec i s = .next (s.command x opc c 0 0)) (h : CmdTaken x opc c 0 0 s)
    (hlow : 4 ≤ opc.toNat) (hhigh : opc.toNat ≤ 7) (hn : chanOf c.ch.toNat = some n)
    (hconsumer : (s.chan n).cfg.consumer = End.ofPort x)
    (hstate : (s.chan n).state = .disabled ∨ (s.chan n).state = .fault) :
    Completes i s fun t => t.ch = s.ch ∧
      Answers x c (statusBeat c.tag.toNat (if (s.chan n).state = .fault then rsFault else rsBadop)) s t := by
  have hcheck : ∀ k u, Accepted x opc c 0 0 k s u →
      u.chCheck x c.ch = some (if (s.chan n).state = .fault then rsFault else rsBadop) := by
    intro k u hu
    rw [State.chCheck_stopped hn (by rw [hu.chan]; exact hconsumer) (by rw [hu.chan]; exact hstate), hu.chan]
  obtain ⟨t, ht, hans, hch⟩ := State.command_answered (post := fun t => t.ch = s.ch) h
    (by rintro rfl; simp at hhigh) (by rintro rfl; simp at hhigh) fun k u hu =>
      ⟨u, State.execCmd_refused hu hlow hhigh (hcheck k u hu), rfl, rfl, by simp [hu.channels]⟩
  exact .of_eq he ⟨t, ht, hch, hans⟩

/-- FLUSH on a channel without COMPAT touches no channel (R109). -/
theorem State.command_flush_incompatible (h : CmdTaken x 7#5 c 0 0 s) (hc : Commands x c n s)
    (hcompat : (s.chan n).cfg.compat = false) :
    ∃ t, s.command x 7#5 c 0 0 = t ∧ Answers x c (statusBeat c.tag.toNat rsBadop) s t ∧ t.ch = s.ch := by
  obtain ⟨hn, hconsumer, hworks, hring, -⟩ := hc
  refine State.command_answered h (by decide) (by decide) fun k u hu => ⟨u, ?_, rfl, rfl, by simp [hu.channels]⟩
  have hringU := hu.ringRead (CmdTaken.ringRead h hconsumer hworks hring)
  have hrefused : ¬u.chCmdAllowed n 7 (c.mod.getLsbD 0) = true := by
    simp [State.chCmdAllowed, hringU.ring, hu.chan, hcompat]
  rw [State.execCmd_commanded hu (by decide) (by decide) (hu.chCheck_none hn hconsumer hworks) hn]
  exact if_neg hrefused

end

/-! ### The flush that a packet's last word performs (R73, R110) -/

theorem State.countRead_view (s : State) (l : Loc) (p : Nat) (r : WordRd) (n : Fin 20) :
    ((s.countRead l p r).chan n).readView = (s.chan n).readView := by
  have hnote : (s.noteRead l p r).chan n = s.chan n := by simp [State.chan]
  unfold State.countRead
  dsimp only
  rw [← hnote]
  split
  · rfl
  · split
    · split
      · rw [State.modCnt_chan]
        split
        next h => subst h; rfl
        · rfl
      · rfl
    · rfl

/-- The word at RP has been read and counted as the last of its packet: RP stands behind it, and inside no packet. -/
def State.passedLast (s : State) (n : Fin 20) : State :=
  (s.countRead ((s.chan n).locAt (s.atRp n).off) ((s.chan n).addr (s.atRp n).off) (s.wordAtRp n)).modCh n fun c =>
    { c with rp := step1 (s.chan n).s (s.atRp n), inPkt := none }

theorem SameRole.passedLast (s : State) (n : Fin 20) : SameRole s (s.passedLast n) := by
  unfold State.passedLast
  exact .of_twin

theorem Steady.passedLast (s : State) (n : Fin 20) : Steady s (s.passedLast n) := by
  unfold State.passedLast
  exact (Steady.countRead s _ _ _).trans (.modCh _ n rfl rfl)

theorem State.passedLast_view (s : State) (n : Fin 20) : ((s.passedLast n).chan n).readView =
    { (s.chan n).readView with rp := step1 (s.chan n).s (s.atRp n), inPkt := none } := by
  rw [State.passedLast, State.modCh_chan_same, ← s.countRead_view]
  rfl

section
variable {n : Fin 20} {s : State} {j : PktPos}

/-- The last word of the packet in which RP stands, as it is delivered (R69). -/
def State.lastWord (s : State) (n : Fin 20) (j : PktPos) : RWord :=
  { data := (s.wordAtRp n).data, vb := (16 + j.len) % 32, stat := rsOk, cut := false, last := true }

theorem State.ringWord_last (hcls : (s.chan n).cfg.cls = .packet) (hpkt : (s.chan n).inPkt = some j)
    (hlast : j.total = j.done + 1) (hreadable : s.ringReadable n ≠ 0) (hgood : (s.wordAtRp n).bad = false) :
    s.ringWord n = (some (s.lastWord n j), ((s.passedLast n).flushIfDue n).settle n) := by
  simp only [State.wordAtRp, State.atRp] at hgood
  simp [State.ringWord, State.ringWordAs, hreadable, hcls, hpkt, hlast, vbOf, hgood, State.lastWord, State.passedLast,
    State.wordAtRp, State.atRp]

/-- READP inside a packet of which one word is left takes that word. -/
theorem State.takeWords_last {k : PCmd} (hopc : k.opc = 2#5) (hring : s.dirRead n = false)
    (hheld : (s.chan n).state ≠ .held) (hcls : (s.chan n).cfg.cls = .packet) (hpkt : (s.chan n).inPkt = some j)
    (hlast : j.total = j.done + 1) (hreadable : s.ringReadable n ≠ 0) (hgood : (s.wordAtRp n).bad = false) :
    s.takeWords n k = ([s.lastWord n j], true, ((s.passedLast n).flushIfDue n).settle n) := by
  obtain ⟨fuel, hfuel⟩ := Nat.exists_eq_succ_of_ne_zero hreadable
  simp [State.takeWords, hheld, hring, hopc, hfuel, State.takeRing,
    State.ringWord_last hcls hpkt hlast hreadable hgood, State.lastWord]

/-- An armed flush is performed as the packet's last word passes. -/
theorem State.passedLast_flushes (h : RingRead n s) (hroomy : Roomy n s) (harmed : (s.chan n).flushArmed = true) :
    Performed n (s.chan n).readView.flushed s (((s.passedLast n).flushIfDue n).settle n) := by
  have hsteady := Steady.passedLast s n
  have hview := s.passedLast_view n
  have hdone := (State.flushIfDue_boundary (h.of_steady hsteady (.passedLast s n)) (hsteady.roomy hroomy)
    ((congrArg ReadView.flushArmed hview).trans harmed) (congrArg ReadView.inPkt hview)).after hsteady (.passedLast s n)
  have hsettled := (h.of_steady hdone.steady hdone.role).settle (hdone.steady.roomy hroomy)
  rw [hdone.view, hview, ReadView.flushed_released] at hsettled
  exact hsettled.after hdone.steady hdone.role

end

/-- A read command that has delivered `m` more words. -/
def PCmd.delivering (k : PCmd) (m : Nat) : PCmd := { k with delivered := k.delivered + m, acted := true }

/-- A read that one good word completes. -/
theorem State.serveRead_word {x : Port} {n : Fin 20} {k : PCmd} {w : RWord} {s t : State}
    (htake : s.takeWords n k = ([w], true, t)) (hq : (t.port x).q = [k]) (hundecided : k.preset = none)
    (hdec : k.decoder = false) (hok : w.stat = rsOk) :
    s.serveRead x n k = (((t.updCmd x k (k.delivering 1)).finish x (k.delivering 1)
      { tag := k.tag, last := true, stat := rsOk, vb := w.vb, data := w.data }).readCompleted n) := by
  simp [State.serveRead, htake, hq, hundecided, hdec, State.emitWords, State.attnUncorr, hok, PCmd.delivering, PCmd.tag,
    rsOk, rsUncorr]

/-- The end of a read command restarts the read-idle timer, and moves nothing (R79). -/
theorem State.readCompleted_view (s : State) (n : Fin 20) :
    ((s.readCompleted n).chan n).readView = (s.chan n).readView := by
  obtain ⟨r, hr⟩ := (s.modCh n fun c => { c with ridleStart := none, ridleFired := false }).ridle_chan n
  rw [State.readCompleted, hr, State.modCh_chan_same]
  rfl

@[simp] theorem State.readCompleted_port (s : State) (n : Fin 20) (x : Port) : (s.readCompleted n).port x = s.port x := by
  simp [State.readCompleted]

theorem Retired.readCompleted {x : Port} {c : RCmd} {b : Beat} {u t : State} (h : Retired x c b u t) (n : Fin 20) :
    Retired x c b u (t.readCompleted n) := by
  obtain ⟨hret, hq, hlast, hexp⟩ := h
  constructor <;> rwa [State.readCompleted_port]

/-- A read that one good word completes is answered by the word, and the channel stands as the word leaves it. -/
theorem State.serveRead_retires {x : Port} {n : Fin 20} {k : PCmd} {w : RWord} {u t : State}
    (htake : u.takeWords n k = ([w], true, t)) (hport : t.port x = u.port x) (hdrives : t.drives = true)
    (hq : (u.port x).q = [k]) (hundecided : k.preset = none) (hrun : k.waiting = false) (hdec : k.decoder = false)
    (hok : w.stat = rsOk) :
    Retired x k.c { tag := k.tag, last := true, stat := rsOk, vb := w.vb, data := w.data } u (u.serveRead x n k) ∧
    ((u.serveRead x n k).chan n).readView = (t.chan n).readView := by
  have hupdated : (t.updCmd x k (k.delivering 1)).port x = { u.port x with q := [k.delivering 1] } := by
    simp [State.updCmd, hport, hq]
  rw [State.serveRead_word htake (by rw [hport]; exact hq) hundecided hdec hok]
  constructor
  · exact (Retired.finish (k := k.delivering 1) _
      ((SameRole.of_twin (s := t) (t := t.updCmd x k (k.delivering 1))).drives.trans hdrives)
      (by rw [hupdated]; simp [PortSt.without]) hrun hdec (by rw [hupdated]) (by rw [hupdated])).readCompleted n
  · rw [State.readCompleted_view]
    simp [State.chan]

/-- READP of the last word of a packet behind which a flush is armed delivers the word and performs the flush. -/
theorem State.command_readp_flushes {x : Port} {c : RCmd} {n : Fin 20} {s : State} {j : PktPos} (h : CmdTaken x 2#5 c 0 0 s)
    (hc : Consumes x c n s) (hcls : (s.chan n).cfg.cls = .packet) (harmed : (s.chan n).flushArmed = true)
    (hpkt : (s.chan n).inPkt = some j) (hlast : j.total = j.done + 1) (hreadable : s.ringReadable n ≠ 0)
    (hgood : (s.wordAtRp n).bad = false) :
    ∃ t, s.command x 2#5 c 0 0 = t ∧
      Answers x c { tag := c.tag.toNat, last := true, stat := 0, vb := (16 + j.len) % 32, data := (s.wordAtRp n).data } s t ∧
      (t.chan n).readView = (s.chan n).readView.flushed := by
  obtain ⟨hn, hconsumer, hactive, hring, hroomy⟩ := hc
  refine State.command_retired h (by decide) (by decide) fun k u hu => ?_
  obtain ⟨hword, hsame⟩ := hu.atRp n
  rw [← hword] at hgood ⊢
  rw [← hsame] at hreadable
  have hcheck := hu.chCheck_none hn hconsumer (.inl hactive)
  have hringU := hu.ringRead (CmdTaken.ringRead h hconsumer (.inl hactive) hring)
  rw [← hu.chan] at hcls harmed hpkt hactive ⊢
  have hdone := State.passedLast_flushes hringU (hu.roomy hroomy) harmed
  have htake := State.takeWords_last (k := k) hu.opcode hringU.ring (by rw [hactive]; decide) hcls hpkt hlast hreadable hgood
  obtain ⟨hretired, hview⟩ := State.serveRead_retires htake (hdone.steady.port x) (hdone.role.drives.trans (hu.drives h))
    hu.queue hu.undecided hu.running (by simp [PCmd.decoder, hu.opcode]) rfl
  have hexec : u.execCmd x k = u.serveRead x n k := by
    simp [State.execCmd, hu.undecided, hu.opcode, hu.cycle, hcheck, hn, hcls, readAllowed]
  rw [PCmd.tag, hu.cycle] at hretired
  rw [hexec]
  exact ⟨hretired, hview.trans hdone.view⟩

/-! ### The RELEASE that leaves too few words (R43, R46, R49) -/

theorem dist_self (sz : Nat) (p : Ptr) : dist sz p p = 0 := by
  have hmod := Nat.div_add_mod (lin sz p) (2 * sz)
  have hsub : lin sz p + 2 * sz - lin sz p % (2 * sz) = 2 * sz * (lin sz p / (2 * sz) + 1) := by
    rw [Nat.mul_add]
    omega
  rw [dist, hsub, Nat.mul_mod_right]

/-- A channel event sets its cause at the port that consumes the channel, and touches no more of that port than its attention
(R89, R90). -/
theorem State.attnCh_consumer {s : State} {n : Fin 20} {x : Port} (h : (s.chan n).cfg.consumer = End.ofPort x) (bit : Nat) :
    (s.attnCh n bit).port x =
      { s.port x with attnCause := (s.port x).attnCause ||| (1#32 <<< bit),
                      attnChannels := (s.port x).attnChannels ||| (1#32 <<< n.val) } := by
  cases x <;> simp only [State.attnCh, h, End.ofPort, or_true, if_true, reduceCtorEq, or_false] <;> split <;> rfl

/-- The commands of channel `n` that nothing has decided are decided (R49). -/
theorem State.presetPending_port (s : State) (n : Fin 20) (stat : Nat) (x : Port) :
    (s.presetPending n stat).port x =
      { s.port x with q := (s.port x).q.map fun k =>
          if k.onChannel && k.c.ch.toNat == n.val && k.preset.isNone then { k with preset := some stat } else k } := by
  cases x <;> rfl

theorem State.dropOpen_lp (s : State) (n : Fin 20) : ((s.dropOpen n).chan n).lp = (s.chan n).lp := by
  unfold State.dropOpen
  dsimp only
  split
  · rfl
  · rw [State.modCnt_chan, if_pos rfl, State.modCh_chan_same]
    split <;> rfl

/-- A FAULT leaves LP where it is. -/
theorem State.chFault_lp (s : State) (n : Fin 20) (cause : Nat) : ((s.chFault n cause).chan n).lp = (s.chan n).lp := by
  have hstop : ∀ u : State, ((u.stopChannel n).chan n).lp = (u.chan n).lp := by
    intro u
    rw [← u.dropOpen_lp]
    simp only [State.stopChannel, State.modTwin_chan, State.modArq_chan, State.modCh_chan_same, State.setHold_chan]
    rfl
  unfold State.chFault
  dsimp only
  split
  · obtain ⟨k, hk⟩ := (((s.presetPending n rsFault).stopChannel n).modCh n fun c =>
      { c with state := .fault, faultCause := cause }).evalCredit_chan n
    rw [State.attnCh_chan, hk, State.modCh_chan_same]
    exact (hstop _).trans (by rw [State.presetPending_chan])
  · rfl

/-- What a FAULT makes of the port that consumes the channel: its commands are decided, and the cause FAULT stands. -/
theorem State.chFault_port {s : State} {n : Fin 20} {x : Port} (hconsumer : (s.chan n).cfg.consumer = End.ofPort x)
    (hworks : (s.chan n).state = .active ∨ (s.chan n).state = .held ∨ (s.chan n).state = .draining) (cause : Nat) :
    (s.chFault n cause).port x =
      { (s.presetPending n rsFault).port x with
        attnCause := (s.port x).attnCause ||| (1#32 <<< 12)
        attnChannels := (s.port x).attnChannels ||| (1#32 <<< n.val) } := by
  have hcfg := ((s.presetPending n rsFault).stopChannel_chan n).cfg
  unfold State.chFault
  dsimp only
  rw [if_pos hworks]
  obtain ⟨k, hk⟩ := (((s.presetPending n rsFault).stopChannel n).modCh n fun c =>
    { c with state := .fault, faultCause := cause }).evalCredit_chan n
  rw [State.attnCh_consumer (x := x) (by rw [hk, State.modCh_chan_same]; simp [hcfg, hconsumer])]
  simp [State.presetPending_port]

theorem State.autoRelease_explicit {s : State} {n : Fin 20} (hring : s.dirRead n = false)
    (hmode : (s.chan n).cfg.relmode = .explicit) : s.autoRelease n = s := by
  simp [State.autoRelease, hring, hmode]

/-- LP at WP leaves no deferred entry, and where the entries that take effect leave too few words the channel faults. -/
theorem State.trim_faults {s : State} {n : Fin 20} (hlp : (s.chan n).lp = (s.chan n).wp) (hdeferred : (s.chan n).deferred ≠ [])
    (hlow : (s.chan n).s < 128 + (fenceOffsets s.tansy.fences (s.chan n)).length) :
    s.trim n = (s.modCh n Chan.trim).chFault n 1 := by
  have hnone : ((s.modCh n Chan.trim).chan n).deferred = [] := by
    simp [Chan.trim, hlp, dist_self]
  have hcapacity : (s.modCh n Chan.trim).capacity n < 128 := by
    have hoffsets : fenceOffsets s.tansy.fences (s.chan n).trim = fenceOffsets s.tansy.fences (s.chan n) := rfl
    have hsize : (s.chan n).trim.s = (s.chan n).s := rfl
    rw [State.modCh_chan_same] at hnone
    simp only [State.capacity, State.fencedCount, State.fenced, State.modCh_chan_same, State.modCh_tansy, hnone, hoffsets,
      hsize, List.contains_nil, Bool.not_false, List.filter_true]
    omega
  rw [State.trim, if_pos ⟨by rw [hnone]; exact List.length_pos_iff.mpr hdeferred, hcapacity⟩]

/-- What a RELEASE leaves by which its channel has entered FAULT with cause CAPACITY: LP is at RP, and of the port the commands
are decided and the cause FAULT stands. -/
structure ReleaseFaulted (x : Port) (n : Fin 20) (s t : State) : Prop where
  state : (t.chan n).state = .fault
  cause : (t.chan n).faultCause = 1
  lp : (t.chan n).lp = (s.chan n).rp
  role : SameRole s t
  port : t.port x = { (s.presetPending n rsFault).port x with
    attnCause := (s.port x).attnCause ||| (1#32 <<< 12)
    attnChannels := (s.port x).attnChannels ||| (1#32 <<< n.val) }

theorem State.chCmd_releaseToRp_faults {x : Port} {n : Fin 20} {s : State} (h : RingRead n s)
    (hconsumer : (s.chan n).cfg.consumer = End.ofPort x) (hmode : (s.chan n).cfg.relmode = .explicit)
    (hrp : (s.chan n).rp = (s.chan n).wp) (hdeferred : (s.chan n).deferred ≠ [])
    (hlow : (s.chan n).s < 128 + (fenceOffsets s.tansy.fences (s.chan n)).length) :
    ReleaseFaulted x n s (s.chCmd n 6 false) := by
  obtain ⟨f, hf, hcmd⟩ : ∃ f : Chan → Chan, (f (s.chan n) = { s.chan n with
      lp := (s.chan n).rp, mp := (s.chan n).rp, markValid := false, markPseq := (s.chan n).nextPseq,
      markPkt := (s.chan n).inPkt }) ∧ s.chCmd n 6 false = (s.modCh n f).settle n :=
    ⟨fun c => { c with lp := c.rp, mp := c.rp, markValid := false, markPseq := c.nextPseq, markPkt := c.inPkt }, rfl,
      by simp [State.chCmd, h.ring]⟩
  have hchan : (s.modCh n f).chan n = _ := (s.modCh_chan_same n f).trans hf
  have hring := (h.of_same (by rw [hchan]) (by rw [hchan]) (.modCh s n f)).ring
  have hworks : (((s.modCh n f).modCh n Chan.trim).chan n).state = .active ∨
      (((s.modCh n f).modCh n Chan.trim).chan n).state = .held ∨
      (((s.modCh n f).modCh n Chan.trim).chan n).state = .draining := by
    rw [State.modCh_chan_same, hchan]
    exact h.works
  have htrim : (s.modCh n f).trim n = ((s.modCh n f).modCh n Chan.trim).chFault n 1 :=
    State.trim_faults (by rw [hchan]; exact hrp) (by rw [hchan]; exact hdeferred) (by rw [hchan]; exact hlow)
  have hsettle : (s.modCh n f).settle n = (((s.modCh n f).modCh n Chan.trim).chFault n 1).settleRest n := by
    rw [State.settle_of_port (by rw [hchan]; exact h.consumer), State.autoRelease_explicit hring (by rw [hchan]; exact hmode),
      htrim]
  obtain ⟨-, hstate, hcause, -⟩ := State.chFault_enters 1 hworks
  obtain ⟨l, hd, k, r, fl, hrest⟩ := (((s.modCh n f).modCh n Chan.trim).chFault n 1).settleRest_chan n
  rw [hcmd, hsettle]
  refine ⟨by rw [hrest]; exact hstate, by rw [hrest]; exact hcause, ?_, ?_, ?_⟩
  · rw [hrest]
    exact (State.chFault_lp _ n 1).trans (by rw [State.modCh_chan_same, hchan]; rfl)
  · rw [← hsettle]
    exact (SameRole.modCh s n f).trans (.settle _ n)
  · rw [State.settleRest_port, State.chFault_port (by rw [State.modCh_chan_same, hchan]; exact hconsumer) hworks]
    simp [State.presetPending_port]

/-- A command that a FAULT has decided meanwhile is gone from its queue once. -/
theorem PortSt.without_decided {p : PortSt} {k : PCmd} {d : Option Nat} (hq : p.q = [{ k with preset := d }]) :
    p.without k = [] := by
  unfold PortSt.without
  rw [hq]
  split
  next h =>
    have heq : k = { k with preset := d } := by simpa using h
    rw [← heq]
    simp
  · simp

@[simp] theorem State.finish_chan (s : State) (x : Port) (k : PCmd) (b : Beat) (n : Fin 20) :
    (s.finish x k b).chan n = s.chan n := by
  simp [State.chan]

/-- The end of a command leaves the attention of its port. -/
theorem State.finish_attnCause (s : State) (x : Port) (k : PCmd) (b : Beat) :
    ((s.finish x k b).port x).attnCause = (s.port x).attnCause := by
  have hlaunch : ∀ u : State, ((u.launch x b).port x).attnCause = (u.port x).attnCause := by
    intro u
    unfold State.launch
    split <;> simp
  unfold State.finish
  rw [State.idleAnew_port, hlaunch]
  split <;> split <;> simp

/-- A RELEASE by which its channel enters FAULT completes with OK all the same (R46). -/
theorem State.command_release_faults {x : Port} {c : RCmd} {n : Fin 20} {s : State} (h : CmdTaken x 6#5 c 0 0 s)
    (hn : chanOf c.ch.toNat = some n) (hconsumer : (s.chan n).cfg.consumer = End.ofPort x)
    (hactive : (s.chan n).state = .active) (hring : s.dirRead n = false) (htarget : c.mod.getLsbD 0 = false)
    (hmode : (s.chan n).cfg.relmode = .explicit) (hrp : (s.chan n).rp = (s.chan n).wp) (hdeferred : (s.chan n).deferred ≠ [])
    (hlow : (s.chan n).s < 128 + (fenceOffsets s.tansy.fences (s.chan n)).length) :
    ∃ t, s.command x 6#5 c 0 0 = t ∧ Answers x c (statusBeat c.tag.toNat 0) s t ∧ (t.chan n).state = .fault ∧
      (t.chan n).faultCause = 1 ∧ (t.chan n).lp = (s.chan n).rp ∧ (t.port x).attnCause.getLsbD 12 = true := by
  refine State.command_retired h (by decide) (by decide) fun k u hu => ?_
  have hcheck := hu.chCheck_none hn hconsumer (.inl hactive)
  have hringU := hu.ringRead (CmdTaken.ringRead h hconsumer (.inl hactive) hring)
  rw [← hu.chan] at hconsumer hmode hrp hdeferred hlow ⊢
  rw [← hu.tansy] at hlow
  obtain ⟨hstate, hcause, hlp, hrole, hport⟩ := State.chCmd_releaseToRp_faults hringU hconsumer hmode hrp hdeferred hlow
  have hexec : u.execCmd x k = (u.chCmd n 6 false).finish x k (statusBeat c.tag.toNat 0) := by
    rw [State.execCmd_commanded hu (by decide) (by decide) hcheck hn, htarget]
    exact if_pos (by simp [State.chCmdAllowed, hringU.ring])
  have hqueue : ((u.chCmd n 6 false).port x).q = [{ k with preset := some rsFault }] := by
    have hval : c.ch.toNat = n.val := by
      unfold chanOf at hn
      split at hn
      · exact congrArg Fin.val (Option.some.inj hn)
      · cases hn
    rw [hport, State.presetPending_port]
    simp [hu.queue, PCmd.onChannel, hu.opcode, hu.cycle, hval, hu.undecided]
  have hretired := Retired.finish (u := u) (statusBeat c.tag.toNat 0) (hrole.drives.trans (hu.drives h))
    (PortSt.without_decided hqueue) hu.running (by simp [PCmd.decoder, hu.opcode])
    (by rw [hport, State.presetPending_port]) (by rw [hport, State.presetPending_port])
  rw [hu.cycle, ← hexec] at hretired
  refine ⟨hretired, ?_⟩
  rw [hexec, State.finish_attnCause, State.finish_chan, hstate, hcause, hlp, hport]
  exact ⟨rfl, rfl, rfl, by simp⟩

/-! ### The commands (R50, R96 to R101, R109, R110) -/

/-- Settles O20: the work that follows a command on a roomy ring-read channel moves LP alone, by the release mode; a flush inside
a packet waits for its last word, and a RELEASE past deferred fence entries may put its channel in FAULT. -/
theorem channelCommands : Obligations.ChannelCommands := by
  unfold Obligations.ChannelCommands
  refine ⟨?mark, ?rewind, ?releaseToRp, ?releaseToMp, ?releaseUnmarked, ?flush, ?flushInside, ?flushAtEnd, ?incompatible,
    ?markStopped, ?rewindStopped, ?releaseToRpStopped, ?releaseToMpStopped, ?flushStopped, ?releaseFaults⟩
  case mark =>
    intro x c n s h hc
    obtain ⟨t, ht, hans, hview⟩ := State.command_performed h hc (by decide) (by decide) (.inl (by decide))
      (v := fun d => d.readView.marked.released d.cfg.relmode) fun u _ hring hroomy => State.chCmd_mark hring hroomy _
    rw [ReadView.marked_released] at hview
    obtain ⟨hrp, hmp, hlp, hmark, hpseq, -, -, harmed, -⟩ := Chan.fields_of_view hview
    exact .of_eq rfl ⟨t, ht, hmp, hmark, hpseq, hrp, hlp, harmed, hans⟩
  case rewind =>
    intro x c n s h hc
    obtain ⟨t, ht, hans, hview⟩ := State.command_performed h hc (by decide) (by decide) (.inl (by decide))
      (v := fun d => d.readView.rewound.released d.cfg.relmode) fun u _ hring hroomy => State.chCmd_rewind hring hroomy _
    rw [ReadView.rewound_released] at hview
    obtain ⟨hrp, -, hlp, hmark, -, hnext, -, harmed, hflushes⟩ := Chan.fields_of_view hview
    exact .of_eq rfl ⟨t, ht, hrp, hnext, harmed, hflushes, hlp, hmark, hans⟩
  case releaseToRp =>
    intro x c n s h hc hmod
    obtain ⟨t, ht, hans, hview⟩ := State.command_performed h hc (by decide) (by decide) (.inl (by decide))
      (v := fun d => d.readView.releasedToRp) fun u _ hring hroomy => by
        rw [hmod]
        exact State.chCmd_releaseToRp hring hroomy
    obtain ⟨hrp, hmp, hlp, hmark, -, -, -, harmed, -⟩ := Chan.fields_of_view hview
    exact .of_eq rfl ⟨t, ht, hlp, hmp, hmark, hrp, harmed, hans⟩
  case releaseToMp =>
    intro x c n s h hc hmod hmode
    obtain ⟨t, ht, hans, hview⟩ := State.command_performed h hc (by decide) (by decide) (.inl (by decide))
      (v := fun d => d.readView.releasedToMp.released d.cfg.relmode) fun u _ hring hroomy => by
        rw [hmod]
        exact State.chCmd_releaseToMp hring hroomy
    rw [ReadView.releasedToMp_released hmode] at hview
    obtain ⟨hrp, hmp, hlp, hmark, -⟩ := Chan.fields_of_view hview
    exact .of_eq rfl ⟨t, ht, hlp, hmp, hrp, hmark, hans⟩
  case releaseUnmarked =>
    intro x c n s h hc hmod hmode hunmarked
    obtain ⟨t, ht, hans, hview⟩ := State.command_performed h hc (by decide) (by decide) (.inl (by decide))
      (v := fun d => d.readView.releasedToMp.released d.cfg.relmode) fun u _ hring hroomy => by
        rw [hmod]
        exact State.chCmd_releaseToMp hring hroomy
    rw [ReadView.releasedToMp_unmarked hmode hunmarked] at hview
    obtain ⟨hrp, hmp, hlp, hmark, -⟩ := Chan.fields_of_view hview
    exact .of_eq rfl ⟨t, ht, hlp, hmp, hrp, hmark, hans⟩
  case flush =>
    intro x c n s h hc hcompat hpkt
    obtain ⟨t, ht, hans, hview⟩ := State.command_performed h hc (by decide) (by decide) (.inr hcompat)
      (v := fun d => d.readView.flushed) fun u hu hring hroomy =>
        State.chCmd_flush_boundary hring hroomy _ (by rw [hu]; exact hpkt)
    obtain ⟨hrp, hmp, hlp, hmark, -, hnext, -, harmed, hflushes⟩ := Chan.fields_of_view hview
    exact .of_eq rfl ⟨t, ht, hrp, hlp, hmp, hmark, harmed, hflushes, hnext, hans⟩
  case flushInside =>
    intro x c n s h hc hcompat hpkt
    obtain ⟨t, ht, hans, hchan⟩ := State.command_chCmd (post := fun d => d = { s.chan n with flushArmed := true }) h hc
      (by decide) (by decide) (.inr hcompat) fun u hu hring _ => by
        rw [show (7#5).toNat = 7 from rfl, State.chCmd_flush_inside hring.ring _ (by rw [hu]; exact hpkt)]
        exact ⟨.modCh u n rfl rfl, .modCh u n _, by rw [State.modCh_chan_same, hu]⟩
    exact .of_eq rfl ⟨t, ht, hchan, hans⟩
  case flushAtEnd =>
    intro x c n s k h hc hcls harmed hpkt hlast hreadable hgood
    obtain ⟨t, ht, hans, hview⟩ := State.command_readp_flushes h hc hcls harmed hpkt hlast hreadable hgood
    obtain ⟨hrp, hmp, hlp, hmark, -, -, hinside, hunarmed, hflushes⟩ := Chan.fields_of_view hview
    exact .of_eq rfl ⟨t, ht, hans, hrp, hlp, hmp, hmark, hinside, hunarmed, hflushes⟩
  case incompatible =>
    intro x c n s h hc hcompat
    obtain ⟨t, ht, hans, hch⟩ := State.command_flush_incompatible h hc hcompat
    exact .of_eq rfl ⟨t, ht, hch, hans⟩
  case markStopped =>
    exact fun x c n s h hn hconsumer hstate => exec_stopped rfl h (by decide) (by decide) hn hconsumer hstate
  case rewindStopped =>
    exact fun x c n s h hn hconsumer hstate => exec_stopped rfl h (by decide) (by decide) hn hconsumer hstate
  case releaseToRpStopped =>
    exact fun x c n s h hn hconsumer hstate _ => exec_stopped rfl h (by decide) (by decide) hn hconsumer hstate
  case releaseToMpStopped =>
    exact fun x c n s h hn hconsumer hstate _ => exec_stopped rfl h (by decide) (by decide) hn hconsumer hstate
  case flushStopped =>
    exact fun x c n s h hn hconsumer hstate => exec_stopped rfl h (by decide) (by decide) hn hconsumer hstate
  case releaseFaults =>
    intro x c n s h hn hconsumer hactive hring hmod hmode hrp hdeferred hlow
    obtain ⟨t, ht, hans, hstate, hcause, hlp, hattn⟩ := State.command_release_faults h hn hconsumer hactive hring
      (by rw [hmod]; rfl) hmode hrp hdeferred hlow
    exact .of_eq rfl ⟨t, ht, hstate, hcause, hlp, hattn, hans⟩

end Sys2Proof.Machine
end

section
/-! A raw frame by which LP moves: what the channel keeps of the frame where a deferred fence entry takes effect by it (R43, R46). -/

namespace Sys2Proof.Machine

open Sys2Proof

/-- A raw channel of 128 words from the link to port A on a link that is UP. The word at offset 0 is fenced, and its entry is
deferred. RP has passed that word, and in AUTO mode LP follows with the next change of the channel (R43, R99). -/
def fenceBehindRp : State :=
  { State.reset.modCh 0 fun _ =>
      { cfg := { cls := .raw, producer := .link, consumer := .portA, size := 1 }, state := .active, wp := { off := 1 },
        cp := { off := 1 }, rp := { off := 1 }, deferred := [0] } with
    tansy := { State.reset.tansy with fences := [⟨0, 0, 0, 0, 0⟩] }
    link := { State.reset.link with state := .up }
    pwr := { State.reset.pwr with clkSource := 1 }
    rst := { State.reset.rst with blockReset := 0 } }

/-- LP passes the fenced word, 127 words are left, and the FAULT takes the byte of the frame (R46, R49). -/
theorem slice_fenceBehindRp : (fenceBehindRp.chan 0).invariant = true ∧
    ∃ t, exec (.slice ⟨true, true, true⟩ 0 0 0 4 0 [1]) fenceBehindRp = .next t ∧ (t.chan 0).state = .fault ∧
      (t.chan 0).rawBuf = [] :=
  ⟨by decide +kernel, _, rfl, by decide +kernel, by decide +kernel⟩

/-- Refutes O49: the clause of raw bytes on an unpoliced channel does not exclude a deferred fence entry, and where one takes effect
as the bytes arrive and leaves fewer than 128 words, the channel enters FAULT and keeps none of them. -/
theorem not_channelFrames : ¬ Obligations.ChannelFrames := by
  unfold Obligations.ChannelFrames
  rintro ⟨-, -, hraw, -⟩
  obtain ⟨-, t, hexec, -, hnone⟩ := slice_fenceBehindRp
  obtain ⟨u, hu, hkept, -⟩ := hraw ⟨true, true, true⟩ 0 0 0 0 [1] fenceBehindRp 0 (by decide +kernel) (by decide +kernel) rfl
    (by decide +kernel) rfl rfl rfl rfl rfl (by decide)
  obtain rfl : t = u := Host.Outcome.next.inj (hexec.symm.trans hu)
  rw [hnone] at hkept
  exact absurd hkept (by decide)

end Sys2Proof.Machine
end

section
/-! The cycles of the write side that a port takes (R112, R130 to R133, R216): what the sampling of a cycle leaves, which cycle
reaches the selected channel, and the errors of the port. -/

namespace Sys2Proof.Machine

open Sys2Proof

/-! ### What precedes the effect of a cycle (R130, R145) -/

/-- Port `x` has sampled a cycle; the clock monitor has noted its edges, and the idle timers start anew (R145, R297). -/
def State.cycleSampled (s : State) (x : Port) (wctl : BitVec 5) (c : WCyc) : State := (s.noteWclk x).active.sample x wctl c

@[simp] theorem State.cycleSampled_frame (s : State) (x : Port) (wctl : BitVec 5) (c : WCyc) :
    (s.cycleSampled x wctl c).ch = s.ch ∧ (s.cycleSampled x wctl c).mem = s.mem ∧
    (s.cycleSampled x wctl c).tansy = s.tansy ∧ (s.cycleSampled x wctl c).twin = s.twin ∧
    (s.cycleSampled x wctl c).time = s.time ∧ (s.cycleSampled x wctl c).rst = s.rst := by
  simp [State.cycleSampled]

@[simp] theorem State.cycleSampled_chan (s : State) (x : Port) (wctl : BitVec 5) (c : WCyc) (n : Fin 20) :
    (s.cycleSampled x wctl c).chan n = s.chan n := by
  simp [State.cycleSampled]

/-- Of its port the sampling changes the note of the clock and the cycles kept for TRAIN. -/
theorem State.cycleSampled_port (s : State) (x : Port) (wctl : BitVec 5) (c : WCyc) : ∃ since l,
    (s.cycleSampled x wctl c).port x = { s.port x with wclkSince := since, sampled := l } :=
  s.sampled_port x wctl c

/-- The port does not ask whether the idle timers start anew with the cycle. -/
theorem State.sample_noteWclk_port (s : State) (x : Port) (wctl : BitVec 5) (c : WCyc) :
    ((s.noteWclk x).sample x wctl c).port x = (s.cycleSampled x wctl c).port x := by
  simp [State.cycleSampled, State.sample]

/-- The clock monitor's note leaves a port that takes cycles as one that takes them. -/
theorem State.noteWclk_writeOn (s : State) (x : Port) : (s.noteWclk x).writeOn x = s.writeOn x := by
  have hstate : ((s.noteWclk x).port x).state = (s.port x).state := by
    unfold State.noteWclk
    split <;> simp
  simp [State.writeOn, hstate, State.chainHalf]

/-! ### Which cycles reach the selected channel (R131 to R133, R216) -/

section
variable {x : Port} {wctl : BitVec 5} {c : WCyc} {s : State}

/-- A cycle of good parity acts on the selected channel where the port refuses nothing, no FRAME cycle waits that it would drop, and
no snapshot leaves it aside. -/
theorem State.cycle_reaches {n : Fin 20} (h : Sampling x s) (hpar : c.parityOk wctl = true)
    (hrefusal : (s.port x).writeRefusal = false) (hsel : (s.port x).wsel = some n)
    (hfirst : (s.port x).frameFirst = none ∨ wctl = 20#5)
    (hkeep : (s.port x).joinSkip = false ∨ (s.chan n).cutOpen x wctl = true) (act : Fin 20 → State → State) :
    s.cycle x wctl c act = ((act n (s.cycleSampled x wctl c)).serveFaults s).chainPortAnew := by
  obtain ⟨hon, hjoin⟩ := h
  have hon' := (s.noteWclk_writeOn x).trans hon
  obtain ⟨since, l, hport⟩ := s.cycleSampled_port x wctl c
  rw [State.cycleSampled] at hport
  have hdrop : (if wctl = 20#5 then s.cycleSampled x wctl c else (s.cycleSampled x wctl c).dropFirst x) =
      s.cycleSampled x wctl c := by
    rcases hfirst with h | h <;> simp [State.dropFirst, State.cycleSampled, hport, h]
  rw [State.cycleSampled] at hdrop ⊢
  rcases hkeep with h | h <;>
    simp [State.cycle, State.observed, hjoin, hon', hpar, hdrop, hport, hrefusal, hsel, h]

/-- A cycle of good parity that a snapshot leaves aside does nothing behind the sample (R216). -/
theorem State.cycle_leftAside (h : Sampling x s) (hpar : c.parityOk wctl = true) (hskip : (s.port x).joinSkip = true)
    (hfirst : (s.port x).frameFirst = none)
    (hcut : ∀ n, (s.port x).wsel = some n → (s.chan n).cutOpen x wctl = false) (act : Fin 20 → State → State) :
    s.cycle x wctl c act = (s.cycleSampled x wctl c).chainPortAnew := by
  obtain ⟨hon, hjoin⟩ := h
  have hon' := (s.noteWclk_writeOn x).trans hon
  obtain ⟨since, l, hport⟩ := s.cycleSampled_port x wctl c
  have hfaults : (s.cycleSampled x wctl c).serveFaults s = s.cycleSampled x wctl c :=
    State.serveFaults_of_same fun n => by rw [State.cycleSampled_chan]
  rw [State.cycleSampled] at hport hfaults ⊢
  cases hsel : (s.port x).wsel with
  | none => simp [State.cycle, State.observed, hjoin, hon', hpar, State.dropFirst, hport, hfirst, hskip, hsel, hfaults]
  | some n =>
    simp [State.cycle, State.observed, hjoin, hon', hpar, State.dropFirst, hport, hfirst, hskip, hsel, hcut n hsel, hfaults]

/-- A cycle that reaches its channel, and whose effect leaves every channel in its state, is followed by nothing but the news to the
other half of a Chain pair. -/
theorem WriteTaken.acts {n : Fin 20} (h : WriteTaken x wctl c n s) {act : Fin 20 → State → State}
    (hact : ∀ k, ((act n (s.cycleSampled x wctl c)).chan k).state = (s.chan k).state) :
    s.cycle x wctl c act = (act n (s.cycleSampled x wctl c)).chainPortAnew := by
  obtain ⟨hsampling, hpar, hrefusal, hskip, hfirst, hsel⟩ := h
  rw [State.cycle_reaches hsampling hpar hrefusal hsel (.inl hfirst) (.inl hskip), State.serveFaults_of_same hact]

end

/-! ### The errors of the port (R130 to R133) -/

/-- A port with a write-protocol error (R130). -/
def PortSt.wproto (p : PortSt) : PortSt :=
  { p with attnCause := p.attnCause ||| 1#32 <<< 2, cnt := { p.cnt with wprotoErr := inc32 p.cnt.wprotoErr } }

theorem State.wproto_port (s : State) (x : Port) : (s.wproto x).port x = (s.port x).wproto := by
  simp [State.wproto, State.attn, State.modPCnt, PortSt.wproto]

@[simp] theorem State.wproto_frame (s : State) (x : Port) :
    (s.wproto x).ch = s.ch ∧ (s.wproto x).mem = s.mem ∧ (s.wproto x).tansy = s.tansy := by
  simp [State.wproto]

@[simp] theorem State.wproto_chan (s : State) (x : Port) (n : Fin 20) : (s.wproto x).chan n = s.chan n := by
  simp [State.chan]

theorem State.dropFirst_none {s : State} {x : Port} (h : (s.port x).frameFirst = none) : s.dropFirst x = s := by
  simp [State.dropFirst, h]

/-- A FRAME cycle that waits is dropped with a write-protocol error (R112). -/
theorem State.dropFirst_waiting {s : State} {x : Port} {a : WCyc} (h : (s.port x).frameFirst = some a) :
    (s.dropFirst x).port x = { (s.port x).wproto with frameFirst := none } := by
  rw [State.dropFirst, h, Option.isSome_some, if_pos rfl, State.wproto_port, State.modPort_port_same]
  rfl

/-- No FRAME cycle waits any more, and of the rest of its port the drop changes no more than the error's cause and count. -/
theorem State.dropFirst_port (s : State) (x : Port) : ∃ a k, (s.dropFirst x).port x =
    { s.port x with frameFirst := none, attnCause := a, cnt := { (s.port x).cnt with wprotoErr := k } } := by
  cases hfirst : (s.port x).frameFirst with
  | some a => exact ⟨_, _, State.dropFirst_waiting hfirst⟩
  | none => exact ⟨(s.port x).attnCause, (s.port x).cnt.wprotoErr, by rw [State.dropFirst_none hfirst, ← hfirst]⟩

@[simp] theorem State.dropFirst_frame (s : State) (x : Port) :
    (s.dropFirst x).ch = s.ch ∧ (s.dropFirst x).mem = s.mem ∧ (s.dropFirst x).tansy = s.tansy := by
  unfold State.dropFirst
  split <;> simp

@[simp] theorem State.dropFirst_chan (s : State) (x : Port) (n : Fin 20) : (s.dropFirst x).chan n = s.chan n := by
  simp [State.chan]

theorem Steady.dropOpen (s : State) (n : Fin 20) : Steady s (s.dropOpen n) := by
  unfold State.dropOpen
  refine .of_ite (fun _ => .refl s) fun _ => (Steady.modCh s n ?_ ?_).trans (.modCnt _ _ _) <;> (split <;> rfl)

theorem Steady.discardPacket {s : State} {n : Fin 20} (h : Roomy n s) : Steady s (s.discardPacket n) := by
  unfold State.discardPacket
  exact .of_ite (fun _ => .discardOpen h) fun _ => .modCh s n rfl rfl

/-- The open packet of the selected channel goes, if the port produces it; no channel faults by it. -/
theorem Steady.discardSelected {s : State} {x : Port} (h : SelectionRoomy x s) : Steady s (s.discardSelected x) := by
  unfold State.discardSelected
  split
  next n hsel => exact .of_ite (fun _ => .discardPacket (h n hsel)) fun _ => .refl s
  · exact .refl s

/-- Behind a discard no packet is open (R48). -/
theorem State.discardPacket_pkt {s : State} {n : Fin 20} (h : Roomy n s) : ((s.discardPacket n).chan n).pkt = none := by
  unfold State.discardPacket
  split
  next hopen =>
    rw [State.discardOpen, if_pos (by simp [Chan.holdsOpen, hopen]), (SameInput.settle ((Steady.dropOpen s n).roomy h)).pkt]
    exact (s.dropOpen_chan n).1
  next hnone =>
    rw [State.modCh_chan_same]
    simpa [Chan.dropCut] using hnone

section
variable {s : State} {x : Port} (h : SelectionRoomy x s)
include h

/-- A parity error sets its cause, counts, and begins write refusal (R131). -/
theorem State.writeParity_port : (s.writeParity x).port x =
    { s.port x with attnCause := (s.port x).attnCause ||| 1#32 <<< 5, writeRefusal := true,
                    cnt := { (s.port x).cnt with parityErr := inc32 (s.port x).cnt.parityErr } } := by
  simp [State.writeParity, State.attn, State.modPCnt, State.beginRefusal, (Steady.discardSelected h).port]

/-- A gap of WSEQ sets its cause, counts, and begins write refusal (R133). -/
theorem State.wseqGap_port (wseq : BitVec 8) : (s.wseqGap x wseq).port x =
    { s.port x with attnCause := (s.port x).attnCause ||| 1#32 <<< 3, writeRefusal := true,
                    cnt := { (s.port x).cnt with wseqGaps := inc32 (s.port x).cnt.wseqGaps } } := by
  simp [State.wseqGap, State.attn, State.modPCnt, State.beginRefusal, (Steady.discardSelected h).port]

end

/-- Both errors take from the channels what the discard takes. -/
@[simp] theorem State.writeParity_chan (s : State) (x : Port) (n : Fin 20) :
    (s.writeParity x).chan n = (s.discardSelected x).chan n := by
  simp [State.writeParity, State.modPCnt, State.beginRefusal]

@[simp] theorem State.wseqGap_chan (s : State) (x : Port) (wseq : BitVec 8) (n : Fin 20) :
    (s.wseqGap x wseq).chan n = (s.discardSelected x).chan n := by
  simp [State.wseqGap, State.modPCnt, State.beginRefusal]

/-! ### Cycles of bad parity (R131) -/

/-- A port has sampled a cycle that fails parity: a FRAME cycle that waits is lost with it (R112, R131). -/
def State.parityLost (s : State) (x : Port) (wctl : BitVec 5) (c : WCyc) : State :=
  ((s.cycleSampled x wctl c).modPort x fun p => { p with frameFirst := none }).writeParity x

section
variable {x : Port} {wctl : BitVec 5} {c : WCyc} {s : State} (hroomy : SelectionRoomy x s)
include hroomy

/-- The selection is the same, and as roomy, when the cycle has been sampled. -/
theorem SelectionRoomy.sampled : SelectionRoomy x ((s.cycleSampled x wctl c).modPort x fun p => { p with frameFirst := none }) := by
  obtain ⟨since, l, hport⟩ := s.cycleSampled_port x wctl c
  intro n hsel
  exact roomy_of_same (by simp) (by simp) (hroomy n (by simpa [hport] using hsel))

theorem State.parityLost_port : ∃ since l, (s.parityLost x wctl c).port x =
    { s.port x with wclkSince := since, sampled := l, frameFirst := none, writeRefusal := true,
                    attnCause := (s.port x).attnCause ||| 1#32 <<< 5,
                    cnt := { (s.port x).cnt with parityErr := inc32 (s.port x).cnt.parityErr } } := by
  obtain ⟨since, l, hport⟩ := s.cycleSampled_port x wctl c
  exact ⟨since, l, by rw [State.parityLost, State.writeParity_port (SelectionRoomy.sampled hroomy), State.modPort_port_same, hport]⟩

/-- The selected channel, if the port produces it, has no open packet any more (R131). -/
theorem State.parityLost_pkt {n : Fin 20} (hsel : (s.port x).wsel = some n) (hprod : (s.chan n).cfg.producer = End.ofPort x) :
    ((s.parityLost x wctl c).chan n).pkt = none := by
  obtain ⟨since, l, hport⟩ := s.cycleSampled_port x wctl c
  rw [State.parityLost, State.writeParity_chan, State.discardSelected]
  simp only [State.modPort_port_same, hport, hsel, State.modPort_chan, State.cycleSampled_chan, hprod, if_true]
  exact State.discardPacket_pkt (roomy_of_same (by simp) (by simp) (hroomy n hsel))

/-- A cycle that fails parity does nothing else. -/
theorem State.cycle_badParity (h : Sampling x s) (hpar : c.parityOk wctl = false) (act : Fin 20 → State → State) :
    s.cycle x wctl c act = (s.parityLost x wctl c).chainPortAnew := by
  have hsame : (s.parityLost x wctl c).serveFaults s = s.parityLost x wctl c := State.serveFaults_of_same fun n => by
    rw [State.parityLost, State.writeParity_chan, ((Steady.discardSelected (SelectionRoomy.sampled hroomy)).channels n).2]
    simp
  rw [← hsame]
  obtain ⟨hon, hjoin⟩ := h
  simp [State.cycle, State.observed, hjoin, State.noteWclk_writeOn, hon, hpar, State.cycleSampled, State.parityLost]

end

/-! ### SELECT (R132, R133) -/

/-- Port `x` has sampled a SELECT of good parity, and a FRAME cycle that waited has been dropped (R112). -/
def State.selectSampled (s : State) (x : Port) (c : WCyc) : State := (s.cycleSampled x 16#5 c).dropFirst x

@[simp] theorem State.selectSampled_frame (s : State) (x : Port) (c : WCyc) :
    (s.selectSampled x c).ch = s.ch ∧ (s.selectSampled x c).mem = s.mem ∧ (s.selectSampled x c).tansy = s.tansy := by
  simp [State.selectSampled]

@[simp] theorem State.selectSampled_chan (s : State) (x : Port) (c : WCyc) (n : Fin 20) :
    (s.selectSampled x c).chan n = s.chan n := by
  simp [State.selectSampled]

theorem State.selectSampled_port (s : State) (x : Port) (c : WCyc) : ∃ since l a k, (s.selectSampled x c).port x =
    { s.port x with wclkSince := since, sampled := l, frameFirst := none, attnCause := a,
                    cnt := { (s.port x).cnt with wprotoErr := k } } := by
  obtain ⟨since, l, hport⟩ := s.cycleSampled_port x 16#5 c
  obtain ⟨a, k, hdrop⟩ := (s.cycleSampled x 16#5 c).dropFirst_port x
  exact ⟨since, l, a, k, by rw [State.selectSampled, hdrop, hport]⟩

theorem SelectionRoomy.select {x : Port} {c : WCyc} {s : State} (h : SelectionRoomy x s) :
    SelectionRoomy x (s.selectSampled x c) := by
  obtain ⟨since, l, a, k, hport⟩ := s.selectSampled_port x c
  exact fun n hsel => roomy_of_same (by simp) (by simp) (h n (by simpa [hport] using hsel))

section
variable {x : Port} {c : WCyc} {s : State} (h : Sampling x s) (hpar : c.parityOk 16#5 = true)
include h hpar

/-- A SELECT with the expected WSEQ selects its channel and ends write refusal. -/
theorem State.selectCycle_expected {n : Fin 20} (hwseq : BitVec.ofNat 8 (c.field 8 8) = (s.port x).expWseq)
    (hn : chanOf (c.field 0 5) = some n) : s.selectCycle x c = ((s.selectSampled x c).modPort x fun p =>
      { p with expWseq := p.expWseq + 1, writeRefusal := false, joinSkip := false, wsel := some n }).chainPortAnew := by
  obtain ⟨hon, hjoin⟩ := h
  obtain ⟨since, l, a, k, hport⟩ := s.selectSampled_port x c
  have hsame := State.serveFaults_of_same (s := s) (t := (s.selectSampled x c).modPort x fun p =>
    { p with expWseq := p.expWseq + 1, writeRefusal := false, joinSkip := false, wsel := some n }) fun n => by simp
  rw [← hsame]
  rw [State.selectSampled, State.cycleSampled] at hport ⊢
  simp [State.selectCycle, State.observed, hjoin, State.noteWclk_writeOn, hon, hpar, hport, hwseq, hn]

/-- A SELECT with another WSEQ begins write refusal. -/
theorem State.selectCycle_gap (hroomy : SelectionRoomy x s) (hwseq : BitVec.ofNat 8 (c.field 8 8) ≠ (s.port x).expWseq)
    (hrefusal : (s.port x).writeRefusal = false) :
    s.selectCycle x c = ((s.selectSampled x c).wseqGap x (BitVec.ofNat 8 (c.field 8 8))).chainPortAnew := by
  obtain ⟨hon, hjoin⟩ := h
  obtain ⟨since, l, a, k, hport⟩ := s.selectSampled_port x c
  have hsame := State.serveFaults_of_same (s := s)
    (t := (s.selectSampled x c).wseqGap x (BitVec.ofNat 8 (c.field 8 8))) fun n => by
      rw [State.wseqGap_chan, ((Steady.discardSelected hroomy.select).channels n).2, State.selectSampled_chan]
  rw [← hsame]
  rw [State.selectSampled, State.cycleSampled] at hport ⊢
  simp [State.selectCycle, State.observed, hjoin, State.noteWclk_writeOn, hon, hpar, hport, hwseq, hrefusal]

/-- During write refusal a SELECT with another WSEQ does nothing behind the sample. -/
theorem State.selectCycle_refused (hwseq : BitVec.ofNat 8 (c.field 8 8) ≠ (s.port x).expWseq)
    (hrefusal : (s.port x).writeRefusal = true) : s.selectCycle x c = (s.selectSampled x c).chainPortAnew := by
  obtain ⟨hon, hjoin⟩ := h
  obtain ⟨since, l, a, k, hport⟩ := s.selectSampled_port x c
  have hsame := State.serveFaults_of_same (s := s) (t := s.selectSampled x c) fun n => by simp
  rw [← hsame]
  rw [State.selectSampled, State.cycleSampled] at hport ⊢
  simp [State.selectCycle, State.observed, hjoin, State.noteWclk_writeOn, hon, hpar, hport, hwseq, hrefusal]

end

/-! ### The checks -/

/-- An IDLE of good parity is sampled and drops a FRAME cycle that waits (R112, R130). -/
theorem exec_idle_good {x : Port} {c : WCyc} {s : State} (h : Sampling x s) (hpar : c.parityOk 0#5 = true) :
    exec (.idle x c) s = .next (((s.noteWclk x).sample x 0#5 c).dropFirst x) := by
  obtain ⟨hon, hjoin⟩ := h
  refine congrArg Host.Outcome.next ?_
  simp [State.idleCycle, State.observed, hjoin, State.noteWclk_writeOn, hon, hpar]

/-- A cycle whose effect is the write-protocol error touches no channel and no word. -/
theorem WriteTaken.wproto {x : Port} {wctl : BitVec 5} {c : WCyc} {n : Fin 20} {s : State} (h : WriteTaken x wctl c n s)
    {act : Fin 20 → State → State} (hact : ∀ u : State, (u.port x).frameFirst = none → act n u = u.wproto x) :
    s.cycle x wctl c act = ((s.cycleSampled x wctl c).wproto x).chainPortAnew := by
  obtain ⟨since, l, hport⟩ := s.cycleSampled_port x wctl c
  have hnone : ((s.cycleSampled x wctl c).port x).frameFirst = none := by
    obtain ⟨-, -, -, -, hfirst, -⟩ := h
    rw [hport, hfirst]
  rw [h.acts fun k => by rw [hact _ hnone]; simp, hact _ hnone]

/-- The last byte of a packet that was open at a snapshot's cut closes it, and stores nothing (R216). -/
theorem State.cycleBytes_closesCut {s : State} {x : Port} {n : Fin 20} {wctl : BitVec 5}
    (h : (s.chan n).cutOpen x wctl = true) (bs : List Byte) :
    s.cycleBytes x n bs true = s.modCh n fun c => { c.closeCut with refusing := false } := by
  simp only [Chan.cutOpen, Bool.and_eq_true, bne_iff_ne, ne_eq] at h
  obtain ⟨⟨⟨⟨-, hrefusing⟩, hcls⟩, hown⟩, -⟩ := h
  simp [State.cycleBytes, hcls, hown, hrefusing]

/-- Settles O7: what each check of the write side leaves of a cycle. -/
theorem writeSideChecks : Obligations.WriteSideChecks := by
  unfold Obligations.WriteSideChecks
  refine ⟨?idle, ?reserved, ?firstFrame, ?idleBehindFirst, ?parityBehindFirst, ?secondAlone, ?leftAside, ?cutClosed, ?joiner,
    ?parity, ?select, ?gap, ?refused⟩
  case idle =>
    intro x c s h hpar hfirst
    obtain ⟨since, l, hport⟩ := s.cycleSampled_port x 0#5 c
    rw [exec_idle_good h hpar, State.dropFirst_none (by rw [State.sample_noteWclk_port, hport, hfirst])]
  case reserved =>
    intro x code c n s _ h
    obtain ⟨since, l, hport⟩ := s.cycleSampled_port x code c
    refine ⟨_, congrArg Host.Outcome.next (h.wproto fun _ _ => rfl), ?_⟩
    simp [State.wproto_port, PortSt.wproto, hport]
  case firstFrame =>
    intro x c n s h
    obtain ⟨since, l, hport⟩ := s.cycleSampled_port x 19#5 c
    refine ⟨_, congrArg Host.Outcome.next (h.acts fun k => by simp), ?_⟩
    simp [hport]
  case idleBehindFirst =>
    intro x a c s h hpar hfirst
    refine ⟨_, exec_idle_good h hpar, ?_⟩
    obtain ⟨since, l, hport⟩ := s.cycleSampled_port x 0#5 c
    rw [← State.sample_noteWclk_port] at hport
    have hwaits : (((s.noteWclk x).sample x 0#5 c).port x).frameFirst = some a := by rw [hport, hfirst]
    simp [State.dropFirst_waiting hwaits, hport, PortSt.wproto]
  case parityBehindFirst =>
    intro x a c s h hroomy hpar hfirst
    obtain ⟨since, l, hport⟩ := State.parityLost_port (wctl := 1#5) (c := c) hroomy
    refine ⟨_, congrArg Host.Outcome.next (State.cycle_badParity hroomy h hpar _), ?_⟩
    simp [hport]
  case secondAlone =>
    intro x b n s h
    obtain ⟨since, l, hport⟩ := s.cycleSampled_port x 20#5 b
    refine ⟨_, congrArg Host.Outcome.next (h.wproto fun u hu => by rw [State.secondFrame, hu]), ?_⟩
    simp [State.wproto_port, PortSt.wproto, hport]
  case leftAside =>
    intro x c s h hpar hfirst hskip hcut
    obtain ⟨since, l, hport⟩ := s.cycleSampled_port x 1#5 c
    refine ⟨_, congrArg Host.Outcome.next (State.cycle_leftAside h hpar hskip hfirst hcut _), ?_⟩
    simp [hport]
  case cutClosed =>
    intro x k c n s h hpar hrefusal hfirst hskip hsel hcut
    have hcycle := State.cycle_reaches h hpar hrefusal hsel (.inl hfirst) (.inr hcut) fun n s =>
      s.cycleBytes x n (c.bytes.take (k.toNat + 1)) true
    rw [State.cycleBytes_closesCut (by simpa using hcut), State.serveFaults_of_same fun m => by
      rw [State.modCh_chan]; split <;> simp_all [Chan.closeCut]] at hcycle
    exact ⟨_, congrArg Host.Outcome.next hcycle, by simp [Chan.closeCut]⟩
  case joiner =>
    intro x c s hjoin
    refine ⟨_, rfl, ?_⟩
    simp [State.cycle, State.observed, hjoin, JoinEvent.onBus, State.modTwin]
  case parity =>
    intro x c n s h hpar hsel hprod hroomy
    have hselected : SelectionRoomy x s := fun k hk => by rwa [Option.some.inj (hk.symm.trans hsel)]
    obtain ⟨since, l, hport⟩ := State.parityLost_port (wctl := 1#5) (c := c) hselected
    refine ⟨_, congrArg Host.Outcome.next (State.cycle_badParity hselected h hpar _), ?_⟩
    simp [State.parityLost_pkt hselected hsel hprod, hport, hsel]
  case select =>
    intro x c n s h hpar hwseq hn
    obtain ⟨since, l, a, k, hport⟩ := s.selectSampled_port x c
    refine ⟨_, congrArg Host.Outcome.next (State.selectCycle_expected h hpar hwseq hn), ?_⟩
    simp [hport]
  case gap =>
    intro x c s h hroomy hpar hwseq hrefusal
    obtain ⟨since, l, a, k, hport⟩ := s.selectSampled_port x c
    refine ⟨_, congrArg Host.Outcome.next (State.selectCycle_gap h hpar hroomy hwseq hrefusal), ?_⟩
    simp [State.wseqGap_port hroomy.select, hport]
  case refused =>
    intro x c s h hpar hwseq hrefusal hfirst
    refine ⟨_, congrArg Host.Outcome.next (State.selectCycle_refused h hpar hwseq hrefusal), ?_⟩
    obtain ⟨since, l, hport⟩ := s.cycleSampled_port x 16#5 c
    rw [State.selectSampled, State.dropFirst_none (by rw [hport, hfirst]), State.sample_noteWclk_port]
    simp

end Sys2Proof.Machine
end

section
/-! Markers on a channel without records (R112, R113): what `State.settle` leaves of the records of a Slice channel, and the record
that a marker creates. -/

namespace Sys2Proof.Machine

open Sys2Proof

/-! ### What `State.settle` leaves of the records -/

theorem State.autoRelease_records (s : State) (n : Fin 20) : ((s.autoRelease n).chan n).records = (s.chan n).records := by
  unfold State.autoRelease
  dsimp only
  split
  · rfl
  · split
    · rw [State.modCh_chan_same]
      rfl
    · split
      · rfl
      · split
        · rw [State.modCh_chan_same]
        · rw [State.modCh_chan_same, Chan.moveLp]
          split <;> rfl

/-- Link egress passes over headers of packet channels alone (R74). -/
theorem State.cutHead_of_slice {s : State} {n : Fin 20} (h : (s.chan n).cfg.cls = .slice) : s.cutHead n = s := by
  simp [State.cutHead, State.headerCut, h]

/-- A sender frees no record of which a slice is still to close, and a receiver none at all (R128). -/
theorem State.freeSenderRecords_none {s : State} {n : Fin 20} (h : s.dirRead n = true ∨ ∀ i : Fin 3,
    ((s.chan n).record i).state = .filling → ((s.chan n).record i).closed < ((s.chan n).record i).count) :
    ((s.freeSenderRecords n).chan n).records = (s.chan n).records := by
  have hfold : ∀ (f : Chan → Fin 3 → Chan) (c : Chan), (∀ i, f c i = c) → ∀ is : List (Fin 3), is.foldl f c = c := by
    intro f c hf is
    induction is with
    | nil => rfl
    | cons i t ih => rw [List.foldl_cons, hf, ih]
  unfold State.freeSenderRecords
  split
  · rfl
  next hsender =>
    have hopen := h.resolve_left fun hdir => hsender (by simp [hdir])
    rw [State.modCh_chan_same, hfold]
    intro i
    refine if_neg fun hdone => ?_
    obtain ⟨hfilling, hclosed, -⟩ := hdone
    exact absurd (hopen i hfilling) (Nat.not_lt.mpr hclosed)

/-- A channel is directory-read by its class and the device's role (R93). -/
theorem State.dirRead_of_same {s t : State} {n : Fin 20} (hcfg : (t.chan n).cfg = (s.chan n).cfg) (hr : SameRole s t) :
    t.dirRead n = s.dirRead n := by
  simp only [State.dirRead, State.sender, hcfg, hr.chainHalf, hr.resets]

/-- The work after a change of a roomy Slice channel leaves its records, but for a sender's that are complete. -/
theorem State.settle_records {s : State} {n : Fin 20} (hroomy : Roomy n s) (hcls : (s.chan n).cfg.cls = .slice)
    (h : s.dirRead n = true ∨ ∀ i : Fin 3,
      ((s.chan n).record i).state = .filling → ((s.chan n).record i).closed < ((s.chan n).record i).count) :
    ((s.settle n).chan n).records = (s.chan n).records := by
  have hsteady := Steady.autoRelease s n
  have htrim := State.trim_of_roomy (hsteady.roomy hroomy)
  have hrecords : (((s.autoRelease n).trim n).chan n).records = (s.chan n).records := by
    rw [htrim, State.modCh_chan_same, ← s.autoRelease_records n]
    rfl
  have hdir : ((s.autoRelease n).trim n).dirRead n = s.dirRead n :=
    State.dirRead_of_same ((hsteady.trans (.trim (hsteady.roomy hroomy))).channels n).1
      ((SameRole.of_twin (t := s.autoRelease n)).trans (.trim _ n))
  have hfree := State.freeSenderRecords_none (s := (s.autoRelease n).trim n) (n := n)
    (by simpa only [hdir, Chan.record, hrecords] using h)
  have hcut := State.cutHead_of_slice (s := s.autoRelease n) (n := n) (by rw [(hsteady.channels n).1, hcls])
  obtain ⟨hold, k, r, f, hend⟩ := (((s.autoRelease n).trim n).freeSenderRecords n).settleEnd_chan n
  simp only [State.settle, hcut, hend, hfree, hrecords]

/-! ### The record that a marker creates (R113) -/

theorem Chan.record_congr {c d : Chan} (h : c.records = d.records) (i : Fin 3) : c.record i = d.record i :=
  congrArg (·.get i) h

@[simp] theorem Chan.modRec_record_same (c : Chan) (i : Fin 3) (f : FrameRec → FrameRec) :
    (c.modRec i f).record i = f (c.record i) := by
  simp [Chan.modRec, Chan.record, Vector.get_eq_getElem]

theorem Chan.modRec_record_other (c : Chan) {i j : Fin 3} (f : FrameRec → FrameRec) (h : j ≠ i) :
    (c.modRec i f).record j = c.record j := by
  have hval : i.val ≠ j.val := fun he => h (Fin.ext he.symm)
  simp [Chan.modRec, Chan.record, Vector.get_eq_getElem, hval]

/-- A channel none of whose slots holds a record. -/
theorem Chan.records_of_empty {c : Chan} (h : ∀ i : Fin 3, c.record i = {}) : c.records = Vector.replicate 3 {} := by
  ext i hi
  simpa [Chan.record, Vector.get_eq_getElem] using h ⟨i, hi⟩

/-- The record that a marker with these fields creates (R113, R218). -/
def Chan.markedRecord (c : Chan) (shadows : Bool) (frame count epoch sec ns : Nat) : FrameRec :=
  { state := .filling, frame := frame, count := count, epoch := epoch, ptsSec := sec, ptsNs := ns, rank := c.nextRank,
    lastEnd := c.cp, shadowed := shadows && c.lastRead.all (frameAfter frame ·) }

/-- The record of a marker in the first slot of channel `n`, before the work that follows (R113, R128). -/
def State.withRecord (s : State) (n : Fin 20) (frame count epoch sec ns : Nat) : State :=
  s.modCh n fun c =>
    { c.modRec 0 (fun _ => c.markedRecord s.shadows frame count epoch sec ns) with
      newest := some frame, nextRank := c.nextRank + 1,
      fstarts := if s.sender then c.fstarts ++ [⟨c.cp, frame, count, epoch, sec, ns⟩] else c.fstarts }

theorem State.withRecord_record (s : State) (n : Fin 20) (frame count epoch sec ns : Nat) (i : Fin 3) :
    ((s.withRecord n frame count epoch sec ns).chan n).record i =
      if i = 0 then (s.chan n).markedRecord s.shadows frame count epoch sec ns else (s.chan n).record i := by
  rw [State.withRecord, State.modCh_chan_same]
  change ((s.chan n).modRec 0 fun _ => (s.chan n).markedRecord s.shadows frame count epoch sec ns).record i = _
  split
  next h => rw [h, Chan.modRec_record_same]
  next h => exact Chan.modRec_record_other _ _ h

/-- No record of a sender, or of the current epoch, opens its gate as LATEFRAME at once (R127, R128). -/
theorem State.createRecord_settles {s : State} {n : Fin 20} {epoch : Nat} (h : s.sender = true ∨ epoch = s.time.epoch)
    (frame count sec ns : Nat) :
    s.createRecord n 0 frame count epoch sec ns = (s.withRecord n frame count epoch sec ns).settle n := by
  refine if_neg ?_
  rcases h with h | h
  · simp [State.dirRead, State.sender] at h ⊢
    simp [h]
  · simp [h]

theorem SameWriteSide.newest {n : Fin 20} {s t : State} (h : SameWriteSide n s t) :
    (t.chan n).newest = (s.chan n).newest :=
  (congrArg (·.newest) h :)

section
variable {s : State} {n : Fin 20} (hempty : ∀ i : Fin 3, (s.chan n).record i = {})
include hempty

/-- A valid marker of the producer on an active channel without records creates one in the first slot. -/
theorem State.marker_creates (hstate : (s.chan n).state = .active) (hhalf : s.chainHalf false = false) (x : Option Port)
    (frame count epoch sec ns : Nat) :
    s.marker n x true frame count epoch sec ns = (false, s.createRecord n 0 frame count epoch sec ns) := by
  have hrec := Chan.records_of_empty hempty
  have hslot : ∀ p : FrameRec → Bool, (s.chan n).slotOf p = if p {} then some 0 else none := fun p => by
    cases hp : p {} <;> simp [Chan.slotOf, hrec, List.finRange_succ, Vector.get_eq_getElem, hp]
  simp [State.marker, hstate, hhalf, Chan.slotFor, hslot, Chan.live, hrec]

/-- The record stands, whatever work follows it, in the first slot. -/
theorem State.createRecord_creates (hroomy : Roomy n s) (hcls : (s.chan n).cfg.cls = .slice) {frame count epoch sec ns : Nat}
    (hcount : 1 ≤ count) (hepoch : s.sender = true ∨ epoch = s.time.epoch) :
    ((s.createRecord n 0 frame count epoch sec ns).chan n).record 0 = (s.chan n).markedRecord s.shadows frame count epoch sec ns ∧
    ((s.createRecord n 0 frame count epoch sec ns).chan n).newest = some frame ∧
    Steady s (s.createRecord n 0 frame count epoch sec ns) := by
  rw [State.createRecord_settles hepoch]
  have hsteady : Steady s (s.withRecord n frame count epoch sec ns) := .modCh s n rfl rfl
  have hroom := hsteady.roomy hroomy
  have hopen : ∀ i : Fin 3, (((s.withRecord n frame count epoch sec ns).chan n).record i).state = .filling →
      (((s.withRecord n frame count epoch sec ns).chan n).record i).closed <
        (((s.withRecord n frame count epoch sec ns).chan n).record i).count := by
    intro i
    rw [State.withRecord_record]
    split
    · exact fun _ => hcount
    · rw [hempty i]
      exact fun h => nomatch h
  have hrecords := State.settle_records hroom (by rw [(hsteady.channels n).1, hcls]) (.inr hopen)
  refine ⟨?_, ?_, hsteady.then_settle hroomy⟩
  · rw [Chan.record_congr hrecords, State.withRecord_record, if_pos rfl]
  · have hnewest : ((s.withRecord n frame count epoch sec ns).chan n).newest = some frame := by
      rw [State.withRecord, State.modCh_chan_same]
    rw [(SameWriteSide.settle hroom).newest, hnewest]

end

/-! ### The cycles of a marker (R112) -/

/-- A marker of two cycles that channel `n` takes: an active Slice channel of port `x`, roomy and without records, and fields in
their ranges, of the current epoch at a receiver. -/
structure MarkerValid (x : Port) (a b : WCyc) (n : Fin 20) (s : State) : Prop where
  writes : WritesTo x n .slice s
  half : s.chainHalf false = false
  roomy : Roomy n s
  countLow : 1 ≤ a.field 32 12
  countHigh : a.field 32 12 ≤ 512
  reserved : b.field 30 2 = 0
  nanoseconds : b.field 0 30 ≤ 999999999
  empty : ∀ i : Fin 3, (s.chan n).record i = {}
  epoch : s.sender = true ∨ a.field 44 8 = s.time.epoch

/-- Channel `n` holds the record of the marker (R113). -/
structure MarkerRecorded (a b : WCyc) (n : Fin 20) (t : State) : Prop where
  state : ((t.chan n).record 0).state = .filling
  frame : ((t.chan n).record 0).frame = a.field 0 32
  count : ((t.chan n).record 0).count = a.field 32 12
  epoch : ((t.chan n).record 0).epoch = a.field 44 8
  seconds : ((t.chan n).record 0).ptsSec = b.field 32 32
  nanoseconds : ((t.chan n).record 0).ptsNs = b.field 0 30
  entries : ((t.chan n).record 0).entries = []
  newest : (t.chan n).newest = some (a.field 0 32)

section
variable {x : Port} {a b : WCyc} {n : Fin 20} {s : State}

/-- Whether a marker is valid depends on the channels, the fences, the role and the epoch. -/
theorem MarkerValid.of_same {u : State} (h : MarkerValid x a b n s) (hch : u.ch = s.ch) (htansy : u.tansy = s.tansy)
    (htwin : u.twin = s.twin) (hrst : u.rst = s.rst) (htime : u.time = s.time) : MarkerValid x a b n u := by
  have hchan : u.chan n = s.chan n := by rw [State.chan, hch, State.chan]
  obtain ⟨hwrites, hhalf, hroomy, hlow, hhigh, hreserved, hns, hempty, hepoch⟩ := h
  exact ⟨by rwa [WritesTo, hchan], by rwa [State.chainHalf, htwin], roomy_of_same (by rw [htansy]) (by rw [hchan]) hroomy, hlow,
    hhigh, hreserved, hns, by rwa [hchan], by rwa [State.sender, hrst, htime]⟩

/-- A valid marker creates its record, and no channel faults. -/
theorem State.cycleMarker_creates (h : MarkerValid x a b n s) :
    MarkerRecorded a b n (s.cycleMarker x n a b) ∧ Steady s (s.cycleMarker x n a b) := by
  obtain ⟨⟨hcls, hprod, hstate⟩, hhalf, hroomy, hlow, hhigh, hreserved, hns, hempty, hepoch⟩ := h
  have hmarker : s.cycleMarker x n a b =
      s.createRecord n 0 (a.field 0 32) (a.field 32 12) (a.field 44 8) (b.field 32 32) (b.field 0 30) := by
    have hvalid : ¬((s.chan n).cfg.cls ≠ .slice ∨ a.field 32 12 = 0 ∨ 512 < a.field 32 12 ∨ b.field 30 2 ≠ 0 ∨
        999999999 < b.field 0 30) := by
      rintro (h | h | h | h | h)
      · exact h hcls
      · omega
      · omega
      · exact h hreserved
      · omega
    simp only [State.cycleMarker, if_neg hvalid, hprod, beq_self_eq_true, State.marker_creates hempty hstate hhalf,
      Bool.false_eq_true, if_false]
  obtain ⟨hrecord, hnewest, hsteady⟩ := State.createRecord_creates hempty hroomy hcls (frame := a.field 0 32)
    (sec := b.field 32 32) (ns := b.field 0 30) hlow hepoch
  rw [hmarker]
  exact ⟨⟨by rw [hrecord]; rfl, by rw [hrecord]; rfl, by rw [hrecord]; rfl, by rw [hrecord]; rfl, by rw [hrecord]; rfl,
    by rw [hrecord]; rfl, by rw [hrecord]; rfl, hnewest⟩, hsteady⟩

/-- News to the other half of a Chain pair is no part of a record. -/
theorem MarkerRecorded.chainPortAnew {t : State} (h : MarkerRecorded a b n t) : MarkerRecorded a b n t.chainPortAnew := by
  obtain ⟨hstate, hframe, hcount, hepoch, hsec, hns, hentries, hnewest⟩ := h
  constructor <;> rwa [State.chainPortAnew_chan]

/-- The second cycle behind its first creates the record of a valid marker, and none waits any more. -/
theorem State.secondCycle_creates (h : MarkerValid x a b n s) (hsampling : Sampling x s) (hpar : b.parityOk 20#5 = true)
    (hrefusal : (s.port x).writeRefusal = false) (hskip : (s.port x).joinSkip = false) (hsel : (s.port x).wsel = some n)
    (hfirst : (s.port x).frameFirst = some a) :
    MarkerRecorded a b n (s.cycle x 20#5 b fun n s => s.secondFrame x n b) ∧
    ((s.cycle x 20#5 b fun n s => s.secondFrame x n b).port x).frameFirst = none := by
  obtain ⟨since, l, hport⟩ := s.cycleSampled_port x 20#5 b
  have hsecond : (s.cycleSampled x 20#5 b).secondFrame x n b =
      ((s.cycleSampled x 20#5 b).modPort x fun p => { p with frameFirst := none }).cycleMarker x n a b := by
    simp [State.secondFrame, hport, hfirst]
  obtain ⟨hrecorded, hsteady⟩ := State.cycleMarker_creates (s := (s.cycleSampled x 20#5 b).modPort x fun p =>
    { p with frameFirst := none }) (h.of_same (by simp) (by simp) (by simp) (by simp) (by simp))
  rw [State.cycle_reaches hsampling hpar hrefusal hsel (.inr rfl) (.inl hskip), hsecond,
    State.serveFaults_of_same fun m => by rw [(hsteady.channels m).2]; simp]
  refine ⟨hrecorded.chainPortAnew, ?_⟩
  rw [State.chainPortAnew_port, hsteady.port, State.modPort_port_same]

/-- A half that is no Chain half sends no news of its ports. -/
theorem State.chainPortAnew_of_noHalf (h : s.chainHalf false = false) : s.chainPortAnew = s := by
  simp [State.chainPortAnew, h]

/-- The first cycle waits for the second (R112). -/
theorem State.firstCycle_waits (h : WriteTaken x 19#5 a n s) (hhalf : s.chainHalf false = false) :
    (s.cycle x 19#5 a fun _ s => s.modPort x fun p => { p with frameFirst := some a }) =
      (s.cycleSampled x 19#5 a).modPort x fun p => { p with frameFirst := some a } := by
  rw [h.acts fun k => by simp, State.chainPortAnew_of_noHalf]
  simpa [State.chainHalf] using hhalf

end

/-- Settles O10: the second cycle of the pair finds the first as it waits, whether the two are given as one command or one by
one. -/
theorem markerCreatesRecord : Obligations.MarkerCreatesRecord := by
  unfold Obligations.MarkerCreatesRecord
  refine ⟨?pair, ?secondCycle⟩
  case pair =>
    intro x a b n s hfirst hsecond hwrites hhalf hroomy hlow hhigh hreserved hns hempty hepoch
    obtain ⟨⟨hon, hjoin⟩, hpar, hrefusal, hskip, -, hsel⟩ := hsecond
    obtain ⟨since, l, hport⟩ := s.cycleSampled_port x 19#5 a
    have hvalid : MarkerValid x a b n s := ⟨hwrites, hhalf, hroomy, hlow, hhigh, hreserved, hns, hempty, hepoch⟩
    have hrecorded := State.secondCycle_creates
      (s := (s.cycleSampled x 19#5 a).modPort x fun p => { p with frameFirst := some a })
      (hvalid.of_same (by simp) (by simp) (by simp) (by simp) (by simp))
      ⟨by simpa [State.writeOn, State.chainHalf, hport] using hon, by simpa [State.joinHolds] using hjoin⟩ hpar
      (by simpa [hport] using hrefusal) (by simpa [hport] using hskip) (by simpa [hport] using hsel) (by simp)
    rw [← State.firstCycle_waits hfirst hhalf] at hrecorded
    obtain ⟨⟨hstate, hframe, hcount, hepoch, hsec, hns, hentries, hnewest⟩, -⟩ := hrecorded
    exact ⟨_, rfl, hstate, hframe, hcount, hepoch, hsec, hns, hentries, hnewest⟩
  case secondCycle =>
    intro x a b n s hsampling hpar hrefusal hskip hsel hfirst hwrites hhalf hroomy hlow hhigh hreserved hns hempty hepoch
    obtain ⟨⟨hstate, hframe, hcount, hepoch, hsec, hns, hentries, hnewest⟩, hnone⟩ := State.secondCycle_creates
      ⟨hwrites, hhalf, hroomy, hlow, hhigh, hreserved, hns, hempty, hepoch⟩ hsampling hpar hrefusal hskip hsel hfirst
    exact ⟨_, rfl, hstate, hframe, hcount, hepoch, hnone, hsec, hns, hentries, hnewest⟩

end Sys2Proof.Machine
end

section
/-! The gate of a frame and the stand-in for an absent slice (R120 to R124): a gate that is due opens, and a READP that waits at the
deadline gets the EMPTY stand-in. -/

namespace Sys2Proof.Machine

open Sys2Proof

/-! ### Time that passes (R191, R293) -/

theorem TimeSt.advance_kept (t : TimeSt) (dt : Nat) : (t.advance dt).epoch = t.epoch ∧ (t.advance dt).valid = t.valid := by
  unfold TimeSt.advance
  split
  · exact ⟨rfl, rfl⟩
  · dsimp only
    split <;> exact ⟨rfl, rfl⟩

section
variable (s : State) (dt : Nat)

@[simp] theorem State.advance_epoch : (s.advance dt).time.epoch = s.time.epoch := by
  unfold State.advance
  dsimp only
  split
  · split
    · exact (s.time.advance_kept dt).1
    · rfl
  · rfl

/-- Time stays valid, or invalid, as it passes. -/
@[simp] theorem State.advance_timeValid : (s.advance dt).timeValid = s.timeValid := by
  unfold State.advance
  dsimp only
  split
  · split
    · simp only [State.timeValid, State.blockUp, State.modTime, State.modPwr, (s.time.advance_kept dt).2]
    · rfl
  · rfl

@[simp] theorem State.advance_dirRead (n : Fin 20) : (s.advance dt).dirRead n = s.dirRead n :=
  State.dirRead_of_same (by rw [State.advance_chan]) .of_twin

end

/-- Whether a dozing device wakes behind a change is no part of its ports and its channels. -/
theorem State.wokenIf_kept (t : State) {p : Prop} [Decidable p] :
    (∀ x, (if p then t else t.wakeDoze).port x = t.port x) ∧ ∀ n, (if p then t else t.wakeDoze).chan n = t.chan n := by
  split <;> simp

/-! ### The gate (R120) -/

/-- A gate that is due opens with its deadline; of its record nothing else changes. -/
theorem State.openDueGate_record {s : State} {n : Fin 20} {i : Fin 3} (hdue : s.gateDue n i = true) (hdir : s.dirRead n = true)
    (hroomy : Roomy n s) : ((s.openDueGate n i).chan n).record i =
      ((s.chan n).record i).openGate ((s.chan n).gateTime ((s.chan n).record i)) (s.chan n).sliceWait := by
  have hopened : Steady s (s.modCh n fun c => c.modRec i fun r => r.openGate (c.gateTime r) c.sliceWait) := .modCh s n rfl rfl
  have hdir' := (State.dirRead_of_same (hopened.channels n).1 (.modCh s n _)).trans hdir
  have hcls : (s.chan n).cfg.cls = .slice := by
    simp only [State.dirRead, Bool.and_eq_true, beq_iff_eq] at hdir
    exact hdir.1.1
  rw [State.openDueGate, if_pos hdue, Chan.record_congr
    (State.settle_records (hopened.roomy hroomy) (by rw [(hopened.channels n).1, hcls]) (.inl hdir')),
    State.modCh_chan_same, Chan.modRec_record_same]

/-! ### The slot a frame is read from (R116) -/

theorem Chan.slotOf_eq_none {c : Chan} {p : FrameRec → Bool} : c.slotOf p = none ↔ ∀ i, p (c.record i) = false := by
  simp [Chan.slotOf, Chan.record]

section
variable {s : State} {n : Fin 20} {i : Fin 3}

theorem State.beginFrame_records (h : ((s.chan n).record i).state ≠ .reading) : ((s.beginFrame n i).chan n).records =
    ((s.chan n).modRec i fun r => { r with state := .reading, pos := 0 }).records := by
  rw [State.beginFrame, if_neg h, State.modCnt, State.modCh_chan_same, State.modCh_chan_same]

theorem State.beginFrame_reading (h : ((s.chan n).record i).state = .reading) : s.beginFrame n i = s := if_pos h

/-- The record that READP reads enters READING, and keeps its frame, its deadline and its entries. -/
theorem State.beginFrame_record (s : State) (n : Fin 20) (i : Fin 3) : ∃ pos, ((s.beginFrame n i).chan n).record i =
    { (s.chan n).record i with state := .reading, pos := pos } := by
  by_cases h : ((s.chan n).record i).state = .reading
  · exact ⟨((s.chan n).record i).pos, by rw [State.beginFrame_reading h, ← h]⟩
  · exact ⟨0, by rw [Chan.record_congr (State.beginFrame_records h), Chan.modRec_record_same]⟩

theorem State.beginFrame_record_other {k : Fin 3} (hk : k ≠ i) :
    ((s.beginFrame n i).chan n).record k = (s.chan n).record k := by
  by_cases h : ((s.chan n).record i).state = .reading
  · rw [State.beginFrame_reading h]
  · rw [Chan.record_congr (State.beginFrame_records h), Chan.modRec_record_other _ _ hk]

/-- No record is held behind the begin of a frame where none was. -/
theorem State.beginFrame_noHeld (h : (s.chan n).slotOf (fun r => r.state == .held) = none) :
    ((s.beginFrame n i).chan n).slotOf (fun r => r.state == .held) = none := by
  rw [Chan.slotOf_eq_none] at h ⊢
  intro k
  by_cases hk : k = i
  · obtain ⟨pos, hrec⟩ := s.beginFrame_record n i
    rw [hk, hrec]
    rfl
  · rw [State.beginFrame_record_other hk]
    exact h k

/-- The begin of a frame touches no more than its channel. -/
@[simp] theorem State.beginFrame_frame (s : State) (n : Fin 20) (i : Fin 3) :
    (∀ x, (s.beginFrame n i).port x = s.port x) ∧ (s.beginFrame n i).tansy = s.tansy ∧ (s.beginFrame n i).twin = s.twin ∧
    (s.beginFrame n i).rst = s.rst ∧ (s.beginFrame n i).time = s.time ∧ (s.beginFrame n i).pwr = s.pwr := by
  unfold State.beginFrame
  dsimp only
  split <;> simp

/-- Of the channel's configuration and counts it changes FRAME_SKIPPED alone. -/
theorem State.beginFrame_chan (s : State) (n : Fin 20) (i : Fin 3) : ((s.beginFrame n i).chan n).cfg = (s.chan n).cfg ∧
    ((s.beginFrame n i).chan n).cnt.standins = (s.chan n).cnt.standins ∧
    ((s.beginFrame n i).chan n).cnt.standinEmpty = (s.chan n).cnt.standinEmpty := by
  unfold State.beginFrame
  dsimp only
  split
  · exact ⟨rfl, rfl, rfl⟩
  · simp [State.modCnt, Chan.modRec]

/-! ### The EMPTY stand-in (R122 to R124) -/

/-- The stand-in without history for slice `j` of the record of slot `i`, in delivered form. -/
def State.emptyStandin (s : State) (n : Fin 20) (i : Fin 3) (j : Nat) : RWord :=
  let r := (s.chan n).record i
  let hf := (if r.late then 4 else 0) + (s.chan n).standinCause r j * 16
  { data := takePad 32 (headerBytes 0 (hf + 2) (s.chan n).nextPseq j 0 r.frame 0), vb := 16, stat := rsOk, cut := false,
    last := true }

/-- That stand-in is announced, counted and reported, and the delivery position moves past its slice. -/
def State.standinGiven (s : State) (n : Fin 20) (i : Fin 3) (j : Nat) : State :=
  let r := (s.chan n).record i
  ((((s.announceStandin n false ((s.chan n).standinCause r j) j r.frame).assignPseq n r.frame).modCnt n fun m =>
    { m with standins := inc32 m.standins, standinEmpty := inc32 m.standinEmpty }).attnCh n 6).modCh n fun c => c.passSlice i

@[simp] theorem State.announceStandin_kept (s : State) (n : Fin 20) (history : Bool) (cause slice frame : Nat) :
    (∀ x, (s.announceStandin n history cause slice frame).port x = s.port x) ∧
    (∀ k, (s.announceStandin n history cause slice frame).chan k = s.chan k) ∧
    (s.announceStandin n history cause slice frame).tansy = s.tansy := by
  unfold State.announceStandin
  split <;> simp

theorem SameRole.announceStandin (s : State) (n : Fin 20) (history : Bool) (cause slice frame : Nat) :
    SameRole s (s.announceStandin n history cause slice frame) := by
  unfold State.announceStandin
  exact .of_ite ((SameRole.clover s _ _).trans ⟨rfl, rfl, rfl, rfl⟩) (.refl s)

theorem SameRole.standinGiven (s : State) (n : Fin 20) (i : Fin 3) (j : Nat) :
    SameRole s (s.standinGiven n i j) := by
  unfold State.standinGiven State.assignPseq
  exact (SameRole.announceStandin s n false ((s.chan n).standinCause ((s.chan n).record i) j) j
    ((s.chan n).record i).frame).trans .of_twin

theorem Chan.passSlice_cnt (c : Chan) (i : Fin 3) : (c.passSlice i).cnt = c.cnt := by
  unfold Chan.passSlice
  dsimp only
  split
  · rfl
  · split <;> rfl

/-- What is left of a channel once a stand-in has been given: its counters have grown, and its configuration stands. -/
theorem State.standinGiven_chan (s : State) (n : Fin 20) (i : Fin 3) (j : Nat) :
    ((s.standinGiven n i j).chan n).cfg = (s.chan n).cfg ∧
    ((s.standinGiven n i j).chan n).cnt.standins = inc32 (s.chan n).cnt.standins ∧
    ((s.standinGiven n i j).chan n).cnt.standinEmpty = inc32 (s.chan n).cnt.standinEmpty := by
  simp [State.standinGiven, State.assignPseq, State.modCnt, Chan.passSlice_keeps, Chan.passSlice_cnt]

/-- An event of a channel touches no command. -/
theorem State.attnCh_q (s : State) (n : Fin 20) (bit : Nat) (x : Port) : ((s.attnCh n bit).port x).q = (s.port x).q := by
  cases x <;> simp only [State.attnCh] <;> split <;> split <;> rfl

/-- The consumer has the cause STANDIN, and its commands and beats stand. -/
theorem State.standinGiven_consumer {x : Port} (h : (s.chan n).cfg.consumer = End.ofPort x) (j : Nat) :
    (s.standinGiven n i j).port x =
      { s.port x with attnCause := (s.port x).attnCause ||| (1#32 <<< 6),
                      attnChannels := (s.port x).attnChannels ||| (1#32 <<< n.val) } := by
  rw [State.standinGiven, State.modCh_port, State.attnCh_consumer]
  · simp [State.assignPseq]
  · simp [State.assignPseq, State.modCnt, h]

theorem State.standinGiven_q (s : State) (n : Fin 20) (i : Fin 3) (j : Nat) (x : Port) :
    ((s.standinGiven n i j).port x).q = (s.port x).q := by
  rw [State.standinGiven, State.modCh_port, State.attnCh_q]
  simp [State.assignPseq]

theorem State.standinGiven_tansy (s : State) (n : Fin 20) (i : Fin 3) (j : Nat) :
    (s.standinGiven n i j).tansy = s.tansy := by
  simp [State.standinGiven, State.assignPseq]

theorem SameWriteSide.standins {n : Fin 20} {s t : State} (h : SameWriteSide n s t) :
    (t.chan n).cnt.standins = (s.chan n).cnt.standins :=
  (congrArg (·.cnt.standins) h :)

theorem SameWriteSide.standinEmpty {n : Fin 20} {s t : State} (h : SameWriteSide n s t) :
    (t.chan n).cnt.standinEmpty = (s.chan n).cnt.standinEmpty :=
  (congrArg (·.cnt.standinEmpty) h :)

theorem Roomy.standinGiven (h : Roomy n s) (j : Nat) : Roomy n (s.standinGiven n i j) :=
  roomy_of_same (by rw [State.standinGiven_tansy]) (s.standinGiven_chan n i j).1 h

section
variable (h : Roomy n s) (j : Nat)
include h

theorem State.standinSettled_consumer {x : Port} (hconsumer : (s.chan n).cfg.consumer = End.ofPort x) :
    (((s.standinGiven n i j).settle n).port x).ret = (s.port x).ret ∧
    (((s.standinGiven n i j).settle n).port x).attnCause.getLsbD 6 = true := by
  rw [(Steady.settle (h.standinGiven j)).port, State.standinGiven_consumer hconsumer]
  exact ⟨rfl, by simp⟩

theorem State.standinSettled_q (x : Port) : (((s.standinGiven n i j).settle n).port x).q = (s.port x).q := by
  rw [(Steady.settle (h.standinGiven j)).port, State.standinGiven_q]

theorem State.standinSettled_cnt :
    (((s.standinGiven n i j).settle n).chan n).cnt.standins = inc32 (s.chan n).cnt.standins ∧
    (((s.standinGiven n i j).settle n).chan n).cnt.standinEmpty = inc32 (s.chan n).cnt.standinEmpty := by
  have hkept := SameWriteSide.settle (h.standinGiven (i := i) j)
  rw [hkept.standins, hkept.standinEmpty]
  exact (s.standinGiven_chan n i j).2

end

/-- At its deadline a slice without an entry, without history and without a decision of the active gets the EMPTY stand-in. -/
theorem State.takeSlice_empty {j : Nat} (hnext : s.nextSlice n = some (i, j)) (habsent : ((s.chan n).record i).entries = [])
    (hheld : (s.chan n).slotOf (fun r => r.state == .held) = none)
    (hundecided : s.announcedStandin n j ((s.chan n).record i).frame = none) (hvalid : s.timeValid = true)
    (hdue : ((s.chan n).record i).d ≤ (s.time.wall : Int)) : s.takeSlice n =
      ([(s.beginFrame n i).emptyStandin n i j], ((s.beginFrame n i).standinGiven n i j).settle n) := by
  obtain ⟨pos, hrec⟩ := s.beginFrame_record n i
  have hfields : (((s.beginFrame n i).chan n).record i).frame = ((s.chan n).record i).frame ∧
      (((s.beginFrame n i).chan n).record i).d = ((s.chan n).record i).d ∧
      (((s.beginFrame n i).chan n).record i).entry j = none := by
    simp [hrec, FrameRec.entry, habsent]
  obtain ⟨hframe, hd, hentry⟩ := hfields
  have hdecision : (s.beginFrame n i).announcedStandin n j (((s.beginFrame n i).chan n).record i).frame = none := by
    simpa [State.announcedStandin, hframe] using hundecided
  have hvalid' : (s.beginFrame n i).timeValid = true := by
    simpa [State.timeValid, State.blockUp] using hvalid
  have hnone : ((s.beginFrame n i).chan n).history (((s.beginFrame n i).chan n).record i) j = none := by
    simp only [Chan.history, State.beginFrame_noHeld hheld]
  simp [State.takeSlice, hnext, State.readDirEntry, hentry, hdecision, hvalid', hd, hdue, State.readHistory, hnone,
    State.standinWords, State.standinGiven, State.emptyStandin]

end

/-! ### The read that waits is answered (R107, R138, R139) -/

section
variable {x : Port} {n : Fin 20} {k : PCmd}

/-- The last beat of a command, whether it has waited or not: the command leaves its port, and the other port stands. -/
theorem State.finish_answers {v : State} (b : Beat) (hdrives : v.drives = true) :
    ((v.finish x k b).port x).ret = (v.port x).ret ++ [b] ∧ ((v.finish x k b).port x).q = (v.port x).without k ∧
    ∀ y, y ≠ x → (v.finish x k b).port y = v.port y := by
  have hlaunched : ∀ w : State, w.drives = v.drives → (w.port x).ret = (v.port x).ret →
      (w.port x).q = (v.port x).without k → (∀ y, y ≠ x → w.port y = v.port y) →
      ((w.launch x b).idleAnew.port x).ret = (v.port x).ret ++ [b] ∧
      ((w.launch x b).idleAnew.port x).q = (v.port x).without k ∧
      ∀ y, y ≠ x → (w.launch x b).idleAnew.port y = v.port y := by
    intro w hw hret hq hother
    simp only [State.idleAnew_port, State.launch, hw, hdrives, if_true, State.modTwin_port, State.modPort_port_same, hret, hq,
      true_and]
    exact fun y hy => (State.modPort_port_other w _ hy).trans (hother y hy)
  have hmod : ∀ (w : State) f, (w.modPort x f).drives = w.drives := fun w f => SameRole.drives .of_twin
  unfold State.finish
  dsimp only
  split <;> split <;>
    exact hlaunched _ (by simp only [hmod]) (by simp) (by simp) fun y hy => by simp only [State.modPort_port_other _ _ hy]

/-- The end of a read touches no counter of the channel. -/
theorem State.readCompleted_cnt (s : State) (n : Fin 20) : ((s.readCompleted n).chan n).cnt = (s.chan n).cnt := by
  obtain ⟨r, hr⟩ := (s.modCh n fun c => { c with ridleStart := none, ridleFired := false }).ridle_chan n
  rw [State.readCompleted, hr, State.modCh_chan_same]

/-- A read that one good word completes is answered by it, whether it has waited or not. -/
theorem State.serveRead_answers {w : RWord} {u t : State} (htake : u.takeWords n k = ([w], true, t)) (hdrives : t.drives = true)
    (hq : (t.port x).q = [k]) (hundecided : k.preset = none) (hdec : k.decoder = false) (hok : w.stat = rsOk) :
    ((u.serveRead x n k).port x).ret =
      (t.port x).ret ++ [{ tag := k.tag, last := true, stat := rsOk, vb := w.vb, data := w.data }] ∧
    ((u.serveRead x n k).port x).q = [] ∧ ((u.serveRead x n k).port x).attnCause = (t.port x).attnCause ∧
    (∀ y, y ≠ x → (u.serveRead x n k).port y = t.port y) ∧ ((u.serveRead x n k).chan n).cnt = (t.chan n).cnt := by
  have hupdated : (t.updCmd x k (k.delivering 1)).port x = { t.port x with q := [k.delivering 1] } := by
    simp [State.updCmd, hq]
  obtain ⟨hret, hgone, hother⟩ := State.finish_answers (x := x) (k := k.delivering 1) (v := t.updCmd x k (k.delivering 1))
    { tag := k.tag, last := true, stat := rsOk, vb := w.vb, data := w.data }
    ((SameRole.of_twin (s := t) (t := t.updCmd x k (k.delivering 1))).drives.trans hdrives)
  rw [State.serveRead_word htake hq hundecided hdec hok]
  refine ⟨?_, ?_, ?_, fun y hy => ?_, ?_⟩
  · rw [State.readCompleted_port, hret, hupdated]
  · rw [State.readCompleted_port, hgone, hupdated]
    simp [PortSt.without]
  · rw [State.readCompleted_port, State.finish_attnCause, hupdated]
  · rw [State.readCompleted_port, hother y hy]
    exact State.modPort_port_other t _ hy
  · rw [State.readCompleted_cnt, State.finish_chan]
    simp [State.chan]

theorem chanOf_val {c : Nat} (h : chanOf c = some n) : c = n.val := by
  unfold chanOf at h
  split at h
  · exact congrArg Fin.val (Option.some.inj h)
  · cases h

/-- A read that waits on channel `n` at a port without another command is the one that is served. -/
theorem State.retryWaiting_alone {s : State} (hq : (s.port x).q = [k]) (hwaits : k.stalled = true) (hread : k.isRead = true)
    (hn : chanOf k.c.ch.toNat = some n) : s.retryWaiting x n = s.serveRead x n k := by
  simp [State.retryWaiting, hq, hwaits, hread, chanOf_val hn]

end

/-! ### The deadline of a stand-in (R121, R122) -/

/-- The READP `k` waits at port A, where no other command is, for slice `j` of the record of slot `i`: it is absent without history
and without a decision of the active, and its deadline has come. -/
structure StandinDue (n : Fin 20) (i : Fin 3) (j : Nat) (k : PCmd) (s : State) : Prop where
  drives : s.drives = true
  queue : (s.port .A).q = [k]
  otherQueue : (s.port .B).q = []
  waits : k.stalled = true
  opcode : k.opc = 2#5
  channel : chanOf k.c.ch.toNat = some n
  dirRead : s.dirRead n = true
  consumer : (s.chan n).cfg.consumer = .portA
  active : (s.chan n).state = .active
  next : s.nextSlice n = some (i, j)
  absent : ((s.chan n).record i).entries = []
  noHeld : (s.chan n).slotOf (fun r => r.state == .held) = none
  undecided : s.announcedStandin n j ((s.chan n).record i).frame = none
  roomy : Roomy n s
  valid : s.timeValid = true
  due : ((s.chan n).record i).d ≤ (s.time.wall : Int)

section
variable {n : Fin 20} {i : Fin 3} {j : Nat} {k : PCmd} {s : State} (h : StandinDue n i j k s)
include h

/-- The waiting READP takes the stand-in, and is complete with it. -/
theorem StandinDue.takeWords : s.takeWords n k =
    ([(s.beginFrame n i).emptyStandin n i j], true, ((s.beginFrame n i).standinGiven n i j).settle n) := by
  simp [State.takeWords, h.active, h.dirRead, h.opcode,
    State.takeSlice_empty h.next h.absent h.noHeld h.undecided h.valid h.due]

theorem StandinDue.undecidedRead : k.preset = none := by
  have hwaits := h.waits
  simp only [PCmd.stalled, Bool.and_eq_true, Option.isNone_iff_eq_none] at hwaits
  exact hwaits.2

/-- The READP is answered with the stand-in. -/
theorem StandinDue.served : ((s.serveRead .A n k).port .A).ret = (s.port .A).ret ++
      [{ tag := k.tag, last := true, stat := rsOk, vb := 16, data := ((s.beginFrame n i).emptyStandin n i j).data }] ∧
    ((s.serveRead .A n k).port .A).q = [] ∧ ((s.serveRead .A n k).port .A).attnCause.getLsbD 6 = true ∧
    ((s.serveRead .A n k).port .B).q = [] ∧
    ((s.serveRead .A n k).chan n).cnt.standins = inc32 (s.chan n).cnt.standins ∧
    ((s.serveRead .A n k).chan n).cnt.standinEmpty = inc32 (s.chan n).cnt.standinEmpty := by
  obtain ⟨hport, htansy, htwin, hrst, -, -⟩ := s.beginFrame_frame n i
  obtain ⟨hcfg, hstandins, hempty⟩ := s.beginFrame_chan n i
  have hroomy : Roomy n (s.beginFrame n i) := roomy_of_same (by rw [htansy]) hcfg h.roomy
  have hrole := (SameRole.of_twin htwin hrst).trans
    ((SameRole.standinGiven (s.beginFrame n i) n i j).trans (.settle _ n))
  obtain ⟨hgivenRet, hgivenCause⟩ := State.standinSettled_consumer (i := i) hroomy j (x := .A) (by rw [hcfg]; exact h.consumer)
  obtain ⟨hcounted, hcountedEmpty⟩ := State.standinSettled_cnt (i := i) hroomy j
  obtain ⟨hret, hq, hcause, hother, hcnt⟩ := State.serveRead_answers h.takeWords (hrole.drives.trans h.drives)
    (by rw [State.standinSettled_q hroomy, hport]; exact h.queue) h.undecidedRead (by simp [PCmd.decoder, h.opcode]) rfl
  refine ⟨?_, hq, ?_, ?_, ?_, ?_⟩
  · rw [hret, hgivenRet, hport]
    rfl
  · rw [hcause, hgivenCause]
  · rw [hother .B (by decide), State.standinSettled_q hroomy, hport]
    exact h.otherQueue
  · rw [hcnt, hcounted, hstandins]
  · rw [hcnt, hcountedEmpty, hempty]

end

/-- Settles O28: the gate that is due opens, and the READP that waits is answered with the EMPTY stand-in, behind which neither port
has a command. -/
theorem gatesAndStandins : Obligations.GatesAndStandins := by
  unfold Obligations.GatesAndStandins
  refine ⟨?gate, ?standin⟩
  case gate =>
    intro dt n i s hdir hactive hfilling hclosed hepoch hvalid hroomy hdue
    have hgate : (s.advance dt).gateDue n i = true := by
      simp [State.gateDue, hdir, Chan.enabled, hactive, hfilling, hclosed, hepoch, hvalid, hdue]
    have hrecord := State.openDueGate_record hgate (by rw [State.advance_dirRead, hdir])
      (roomy_of_same (by simp) (by simp) hroomy)
    rw [State.advance_chan] at hrecord
    refine ⟨_, rfl, ?_⟩
    dsimp only
    rw [(State.wokenIf_kept _).2, hrecord]
    exact ⟨rfl, rfl, rfl, rfl, hfilling, rfl⟩
  case standin =>
    intro dt n i j s k hshadow hdrives hqA hqB hwaits hopc hn hdir hconsumer hactive hnext habsent hheld hundecided hroomy hvalid
      hdue
    have h : StandinDue n i j k (s.advance dt) :=
      ⟨(SameRole.drives .of_twin).trans hdrives, by rwa [State.advance_port], by rwa [State.advance_port], hwaits, hopc, hn,
        by simp [hdir], by simp [hconsumer], by simp [hactive], by simpa [State.nextSlice] using hnext, by simp [habsent],
        by simpa using hheld, by simpa [State.announcedStandin] using hundecided, roomy_of_same (by simp) (by simp) hroomy,
        by simp [hvalid], by simpa using hdue⟩
    obtain ⟨hret, hq, hcause, hother, hstandins, hempty⟩ := h.served
    have hretry : (s.advance dt).retryWaiting .A n = (s.advance dt).serveRead .A n k :=
      State.retryWaiting_alone h.queue hwaits (by simp [PCmd.isRead, hopc]) hn
    obtain ⟨t, hexec, hports, hchans⟩ : ∃ t, exec (.standinDeadline dt n) s = .next t ∧
        (∀ x, t.port x = ((s.advance dt).serveRead .A n k).port x) ∧
        ∀ m, t.chan m = ((s.advance dt).serveRead .A n k).chan m := by
      have hshadow' : (s.advance dt).shadows = false := by simpa [State.shadows] using hshadow
      change ∃ t, execStandinDeadline dt n s = _ ∧ _
      simp only [execStandinDeadline, hshadow', hretry, State.service_of_idle hq, State.retryWaiting_of_idle hother,
        State.service_of_idle hother, Bool.false_eq_true, if_false]
      exact ⟨_, rfl, State.wokenIf_kept _⟩
    rw [← hports, State.advance_port] at hret
    rw [← hports] at hq hcause
    rw [← hchans, State.advance_chan] at hstandins hempty
    exact ⟨t, hexec, ⟨_, hret, rfl, rfl, rfl, rfl⟩, hq, hcause, hstandins, hempty⟩

end Sys2Proof.Machine
end

section
/-! The decoder of a client port: what it samples of a command (R134, R135), its refusals (R135, R136), and RESYNC (R144, R149). -/

namespace Sys2Proof.Machine

open Sys2Proof

/-! ### A command as its port samples it -/

/-- Every read-side command runs as what its port samples of it (R134, R135). -/
theorem exec_asCommand {i : Instr} {x : Port} {opc : BitVec 5} {c : RCmd} {op1 op2 : W32}
    (h : asCommand i = some (x, opc, c, op1, op2)) (s : State) : exec i s = .next (s.command x opc c op1 op2) := by
  unfold asCommand at h
  split at h <;> cases h <;> rfl

/-- The state in which the decoder judges a command: its edges have been noted, and it has ended an idle period (R144, R297). -/
def State.cmdSampled (s : State) (x : Port) : State := (s.noteRclk x).active

@[simp] theorem State.cmdSampled_frame (s : State) (x : Port) :
    (s.cmdSampled x).ch = s.ch ∧ (s.cmdSampled x).mem = s.mem ∧ (s.cmdSampled x).tansy = s.tansy ∧
    (s.cmdSampled x).link = s.link ∧ (s.cmdSampled x).arq = s.arq ∧ (s.cmdSampled x).time = s.time ∧
    (s.cmdSampled x).twin = s.twin ∧ (s.cmdSampled x).od = s.od ∧ (s.cmdSampled x).yar = s.yar ∧
    (s.cmdSampled x).upd = s.upd ∧ (s.cmdSampled x).rst = s.rst := by
  simp [State.cmdSampled]

/-- Of its port, a command's edges change when RCLK was last seen absent, and nothing else (R144). -/
theorem State.cmdSampled_port (s : State) (x : Port) :
    ∃ since, (s.cmdSampled x).port x = { s.port x with rclkSince := since } := by
  simp only [State.cmdSampled, State.active_port, State.noteRclk]
  split
  · exact ⟨(s.port x).rclkSince, rfl⟩
  · exact ⟨_, s.modPort_port_same x _⟩

theorem State.cmdSampled_other (s : State) (x : Port) : (s.cmdSampled x).port (otherPort x) = s.port (otherPort x) := by
  simp only [State.cmdSampled, State.active_port, State.noteRclk]
  split
  · rfl
  · exact s.modPort_port_other _ (otherPort_ne x)

/-- Activity leaves the source of the clocks (R297). -/
@[simp] theorem State.active_clkSource (s : State) : s.active.pwr.clkSource = s.pwr.clkSource := by
  simp only [State.active, State.modPwr_pwr]
  split
  case h_2 => split <;> rfl
  all_goals rfl

/-- TIMEGET latches the time as its command found it (R146). -/
@[simp] theorem State.cmdSampled_timeLatch (s : State) (x : Port) : (s.cmdSampled x).timeLatch = s.timeLatch := by
  simp [State.cmdSampled, State.timeLatch, State.timeValid, State.blockUp]

/-- The steps of the decoder on a sampled command (R136). -/
def State.judged (s : State) (x : Port) (opc : BitVec 5) (c : RCmd) (op1 op2 : W32) : State :=
  if !cmdParityOk opc c op1 op2 then s.cmdParity x c
  else if opc = 15#5 then s.resync x c op1
  else if (s.port x).state = .isolated then s.decoderBeat x c rsIsolated
  else if (s.port x).state = .seqgap then s.seqgap x c
  else if c.cseq ≠ (s.port x).expCseq then (s.portEvt x 3 c.cseq.toNat).seqgap x c
  else s.accept x opc c op1 op2

/-- Port `x` decodes the read side and has no accepted command, and its device drives the return bus. -/
structure Decodes (x : Port) (s : State) : Prop where
  on : (s.port x).state ≠ .off
  half : s.chainHalf false = false
  unshadowed : s.shadows = false
  drives : s.drives = true
  queue : (s.port x).q = []

/-- What such a port decodes is judged, and what the decoder accepts is served. -/
theorem Decodes.command {x : Port} {s : State} (h : Decodes x s) (opc : BitVec 5) (c : RCmd) (op1 op2 : W32) :
    s.command x opc c op1 op2 = ((s.cmdSampled x).judged x opc c op1 op2).service x := by
  simp only [State.command, State.observed, State.joinHolds_of_not_shadows h.unshadowed, h.on, h.half, Bool.false_and,
    Bool.false_eq_true, if_false]
  rfl

/-! ### Refusals (R135, R136) -/

/-- The beats that a port launches where its device drives the bus (R138, R206). -/
theorem State.launch_port {v : State} (h : v.drives = true) (x : Port) (b : Beat) :
    (v.launch x b).port x = { v.port x with ret := (v.port x).ret ++ [b] } := by
  simp [State.launch, h]

theorem State.launch_other (v : State) (x : Port) (b : Beat) : (v.launch x b).port (otherPort x) = v.port (otherPort x) := by
  unfold State.launch
  split
  · simp [State.modPort_port_other _ _ (otherPort_ne x)]
  · rfl

theorem SameRole.modPort (s : State) (x : Port) (f : PortSt → PortSt) : SameRole s (s.modPort x f) := .of_twin

theorem SameRole.cmdSampled (s : State) (x : Port) : SameRole s (s.cmdSampled x) := .of_twin

theorem SameRole.portEvt (s : State) (x : Port) (event seq : Nat) : SameRole s (s.portEvt x event seq) := by
  have hpartner : ∀ f : TwinSt → TwinSt, (∀ t, (f t).own = t.own ∧ (f t).pairInUse = t.pairInUse ∧
      (f t).twinId = t.twinId) → SameRole s (s.modTwin f) := fun f hf => ⟨(hf _).1, (hf _).2.1, (hf _).2.2, rfl⟩
  unfold State.portEvt
  refine .of_ite (.clover s _ _) (.of_ite (hpartner _ fun t => ?_) (.refl s))
  split <;> exact ⟨rfl, rfl, rfl⟩

/-- With no accepted command before it, a beat of the decoder leaves at once (R139). -/
theorem State.decoderBeat_alone {v : State} {x : Port} (h : (v.port x).q = []) (c : RCmd) (stat : Nat) :
    v.decoderBeat x c stat = v.launch x (statusBeat c.tag.toNat stat) := by
  simp [State.decoderBeat, h]

/-- The port of `t` is `p` with a status beat more, and no channel and no memory of `s` has changed. -/
structure Refused (x : Port) (c : RCmd) (stat : Nat) (p : PortSt) (s t : State) : Prop where
  port : t.port x = { p with ret := p.ret ++ [statusBeat c.tag.toNat stat] }
  channels : t.ch = s.ch
  memory : t.mem = s.mem

/-- A command that the decoder answers itself is answered at once, and nothing follows (R139). -/
theorem Decodes.refused {x : Port} {opc : BitVec 5} {c : RCmd} {op1 op2 : W32} {stat : Nat} {s v : State} (h : Decodes x s)
    (hjudged : (s.cmdSampled x).judged x opc c op1 op2 = v.decoderBeat x c stat) (hrole : SameRole s v)
    (hq : (v.port x).q = []) (hch : v.ch = s.ch) (hmem : v.mem = s.mem) :
    Refused x c stat (v.port x) s (s.command x opc c op1 op2) := by
  have hport := State.launch_port (hrole.drives.trans h.drives) x (statusBeat c.tag.toNat stat)
  have hcommand : s.command x opc c op1 op2 = v.launch x (statusBeat c.tag.toNat stat) := by
    rw [h.command, hjudged, State.decoderBeat_alone hq]
    exact State.service_of_idle (by rw [hport]; exact hq)
  rw [hcommand]
  exact ⟨hport, by simp [hch], by simp [hmem]⟩

section
variable {x : Port} {opc : BitVec 5} {c : RCmd} {op1 op2 : W32} {s : State}

theorem Decodes.sampledQueue (h : Decodes x s) : ((s.cmdSampled x).port x).q = [] := by
  obtain ⟨since, hport⟩ := s.cmdSampled_port x
  rw [hport]
  exact h.queue

/-- What a port records of a command that fails parity (R135). -/
def PortSt.parityFailed (p : PortSt) : PortSt :=
  { p with attnCause := p.attnCause ||| (1#32 <<< 5), cnt := { p.cnt with parityErr := inc32 p.cnt.parityErr } }

/-- What a port records of a command that it refuses with SEQGAP (R136). -/
def PortSt.gapFound (p : PortSt) : PortSt :=
  { p with attnCause := p.attnCause ||| (1#32 <<< 4), cnt := { p.cnt with seqgapRefused := inc32 p.cnt.seqgapRefused },
           state := .seqgap }

/-- Step 2 of R136: parity. -/
theorem Decodes.badParity (h : Decodes x s) (hpar : cmdParityOk opc c op1 op2 = false) :
    Refused x c rsParity ((s.cmdSampled x).port x).parityFailed s (s.command x opc c op1 op2) := by
  let v := (((s.cmdSampled x).attn x 5).modPCnt x fun k => { k with parityErr := inc32 k.parityErr }).portEvt x 1 c.cseq.toNat
  have hport : v.port x = ((s.cmdSampled x).port x).parityFailed := by simp [v, State.modPCnt, State.attn, PortSt.parityFailed]
  rw [← hport]
  exact h.refused (by simp only [State.judged, hpar]; rfl)
    ((SameRole.cmdSampled s x).trans <| (SameRole.modPort _ x _).trans <| (SameRole.modPort _ x _).trans <| .portEvt _ x _ _)
    (by rw [hport]; exact h.sampledQueue) (by simp [v]) (by simp [v])

/-- A port that is ISOLATED refuses every command but RESYNC (R136). -/
theorem Decodes.isolated (h : Decodes x s) (hpar : cmdParityOk opc c op1 op2 = true) (h15 : opc ≠ 15#5)
    (hstate : (s.port x).state = .isolated) :
    Refused x c rsIsolated ((s.cmdSampled x).port x) s (s.command x opc c op1 op2) := by
  obtain ⟨since, hport⟩ := s.cmdSampled_port x
  exact h.refused (by simp [State.judged, hpar, h15, hport, hstate]) (.cmdSampled s x) h.sampledQueue (by simp) (by simp)

/-- A refusal with SEQGAP, after what announces it (R136). -/
theorem Decodes.gap {v : State} (h : Decodes x s) (hjudged : (s.cmdSampled x).judged x opc c op1 op2 = v.seqgap x c)
    (hrole : SameRole s v) (hport : v.port x = (s.cmdSampled x).port x) (hch : v.ch = s.ch) (hmem : v.mem = s.mem) :
    Refused x c rsSeqgap ((s.cmdSampled x).port x).gapFound s (s.command x opc c op1 op2) := by
  let w := ((v.attn x 4).modPCnt x fun k => { k with seqgapRefused := inc32 k.seqgapRefused }).modPort x fun p =>
    { p with state := .seqgap }
  have hgap : w.port x = ((s.cmdSampled x).port x).gapFound := by
    simp [w, State.modPCnt, State.attn, PortSt.gapFound, hport]
  rw [← hgap]
  exact h.refused (v := w) (hjudged.trans rfl)
    (hrole.trans <| (SameRole.modPort _ x _).trans <| (SameRole.modPort _ x _).trans <| .modPort _ x _)
    (by rw [hgap]; exact h.sampledQueue) (by simp [w, hch]) (by simp [w, hmem])

/-- A port in SEQGAP refuses every command but RESYNC (R136). -/
theorem Decodes.inGap (h : Decodes x s) (hpar : cmdParityOk opc c op1 op2 = true) (h15 : opc ≠ 15#5)
    (hstate : (s.port x).state = .seqgap) :
    Refused x c rsSeqgap ((s.cmdSampled x).port x).gapFound s (s.command x opc c op1 op2) := by
  obtain ⟨since, hport⟩ := s.cmdSampled_port x
  exact h.gap (by simp [State.judged, hpar, h15, hport, hstate]) (.cmdSampled s x) rfl (by simp) (by simp)

/-- A READY port that finds another CSEQ than the expected one (R136). -/
theorem Decodes.wrongCseq (h : Decodes x s) (hpar : cmdParityOk opc c op1 op2 = true) (h15 : opc ≠ 15#5)
    (hstate : (s.port x).state = .ready) (hcseq : c.cseq ≠ (s.port x).expCseq) :
    Refused x c rsSeqgap ((s.cmdSampled x).port x).gapFound s (s.command x opc c op1 op2) := by
  obtain ⟨since, hport⟩ := s.cmdSampled_port x
  exact h.gap (v := (s.cmdSampled x).portEvt x 3 c.cseq.toNat) (by simp [State.judged, hpar, h15, hport, hstate, hcseq])
    ((SameRole.cmdSampled s x).trans (.portEvt _ x _ _)) (by simp) (by simp) (by simp)

end

/-- Settles O23: each check that fails answers with its status, and what the port records of it is all that changes there. -/
theorem decoderRefusals : Obligations.DecoderRefusals := by
  unfold Obligations.DecoderRefusals
  have cause : ∀ (v : W32) (k : Fin 32), (v ||| (1#32 <<< k.val)).getLsbD k.val = true := by
    intro v k
    simp
  refine ⟨?parity, ?isolated, ?inGap, ?wrongCseq⟩
  case parity =>
    intro i x opc c op1 op2 s hi hon hhalf hshadow hdrives hq hpar
    obtain ⟨hport, hch, hmem⟩ := Decodes.badParity ⟨hon, hhalf, hshadow, hdrives, hq⟩ hpar
    obtain ⟨since, hsampled⟩ := s.cmdSampled_port x
    refine ⟨_, exec_asCommand hi s, ?_⟩
    dsimp only
    rw [hport, hsampled]
    exact ⟨rfl, rfl, rfl, cause _ 5, rfl, hch, hmem⟩
  case isolated =>
    intro i x opc c op1 op2 s hi hstate hhalf hshadow hdrives hq hpar h15
    obtain ⟨hport, hch, hmem⟩ := Decodes.isolated ⟨by simp [hstate], hhalf, hshadow, hdrives, hq⟩ hpar h15 hstate
    obtain ⟨since, hsampled⟩ := s.cmdSampled_port x
    refine ⟨_, exec_asCommand hi s, ?_⟩
    dsimp only
    rw [hport, hsampled]
    exact ⟨rfl, hstate, rfl, hch, hmem⟩
  case inGap =>
    intro i x opc c op1 op2 s hi hstate hhalf hshadow hdrives hq hpar h15
    obtain ⟨hport, hch, hmem⟩ := Decodes.inGap ⟨by simp [hstate], hhalf, hshadow, hdrives, hq⟩ hpar h15 hstate
    obtain ⟨since, hsampled⟩ := s.cmdSampled_port x
    refine ⟨_, exec_asCommand hi s, ?_⟩
    dsimp only
    rw [hport, hsampled]
    exact ⟨rfl, rfl, rfl, hch, hmem⟩
  case wrongCseq =>
    intro i x opc c op1 op2 s hi hstate hhalf hshadow hdrives hq hpar h15 hcseq
    obtain ⟨hport, hch, hmem⟩ := Decodes.wrongCseq ⟨by simp [hstate], hhalf, hshadow, hdrives, hq⟩ hpar h15 hstate hcseq
    obtain ⟨since, hsampled⟩ := s.cmdSampled_port x
    refine ⟨_, exec_asCommand hi s, ?_⟩
    dsimp only
    rw [hport, hsampled]
    exact ⟨rfl, rfl, cause _ 4, rfl, rfl, hch, hmem⟩

/-! ### RESYNC (R144, R149, R219) -/

/-- What RESYNC makes of the write side of its port: with MOD[0] the expected WSEQ, and no write refusal and no selection (R144). -/
def PortSt.writesResynced (p : PortSt) (c : RCmd) (op1 : W32) : PortSt :=
  if c.mod.getLsbD 0 then { p with expWseq := op1.setWidth 8, writeRefusal := false, wsel := none } else p

/-- What RESYNC makes of the rest of its port, where no command is accepted (R144, R149). -/
def PortSt.resynced (p : PortSt) (c : RCmd) (expWseq : BitVec 8) : PortSt :=
  { p with record := { p.acc with lastAccepted := p.lastAccepted.toNat, lastCompleted := p.lastCompleted.toNat,
                                  expWseq := expWseq.toNat },
           acc := {}, lastAccepted := c.cseq, expCseq := c.cseq + 1, state := .ready, rsel := none, stallStart := none,
           lastCompleted := c.cseq, ret := p.ret ++ [statusBeat c.tag.toNat rsOk] }

/-- A port whose clocks are stable has seen RCLK. -/
theorem State.noteRclk_stable {s : State} {x : Port} (h : s.clocksStable x = true) : s.noteRclk x = s := by
  simp only [State.clocksStable, Bool.and_eq_true] at h
  obtain ⟨-, hrclk⟩ := h
  have hsome : (s.port x).rclkSince.isSome = true := by
    cases hr : (s.port x).rclkSince with
    | none => simp [hr] at hrclk
    | some a => rfl
  simp [State.noteRclk, hsome]

theorem State.active_clocksStable (s : State) (x : Port) : s.active.clocksStable x = s.clocksStable x := by
  simp [State.clocksStable]

/-- RESYNC at a port with stable clocks and no accepted command. -/
theorem State.resync_port {s : State} {x : Port} {c : RCmd} {op1 : W32} (hdrives : s.drives = true) (hq : (s.port x).q = [])
    (hform : malformed 15#5 c op1 0 = false) (hstable : s.clocksStable x = true) (hup : s.blockUp (7 + portIdx x) = true) :
    (s.resync x c op1).port x = ((s.port x).writesResynced c op1).resynced c (s.port x).expWseq := by
  have hmod : ∀ (v : State) f, (v.modPort x f).drives = v.drives := fun v f => (SameRole.modPort v x f).drives
  simp only [State.resync, hform, hstable, hup, State.cancelAll, hq, List.foldl_nil, Bool.not_true, Bool.or_self,
    Bool.false_eq_true, if_false, PortSt.writesResynced]
  split <;> rw [if_pos (by simp [hmod, hdrives]), State.launch_port (by simp [hmod, hdrives])] <;>
    simp [PortSt.resynced, hq]

/-- RESYNC at the producer half of a Chain pair (R219). -/
theorem State.resyncWrites_port {s : State} {x : Port} {c : RCmd} {op1 : W32} (hform : malformed 15#5 c op1 0 = false)
    (hstable : s.clocksStable x = true) (hup : s.blockUp (7 + portIdx x) = true) :
    (s.resyncWrites x c op1).port x = { (s.port x).writesResynced c op1 with state := .ready } := by
  simp only [State.resyncWrites, hform, hstable, hup, Bool.not_true, Bool.or_self, Bool.false_eq_true, if_false,
    State.modPort_port_same, PortSt.writesResynced]
  split <;> rfl

/-- Settles O22: RESYNC leaves its port as `PortSt.resynced` says, and the producer half of a Chain pair its write side. -/
theorem resyncMakesReady : Obligations.ResyncMakesReady := by
  unfold Obligations.ResyncMakesReady
  refine ⟨?decoded, ?producer⟩
  case decoded =>
    intro x c op1 s hon hhalf hshadow hdrives hq hpar hform hstable hup
    have hdecodes : Decodes x s := ⟨hon, hhalf, hshadow, hdrives, hq⟩
    have hsampled : s.cmdSampled x = s.active := by rw [State.cmdSampled, State.noteRclk_stable hstable]
    have hport := State.resync_port (s := s.active) (x := x) (by simpa [State.drives, State.chainHalf] using hdrives)
      (by simpa using hq) hform ((s.active_clocksStable x).trans hstable) (by simpa [State.blockUp] using hup)
    rw [State.active_port] at hport
    have hcommand : s.command x 15#5 c op1 0 = s.active.resync x c op1 := by
      rw [hdecodes.command, hsampled, State.judged, if_neg (by rw [hpar]; decide), if_pos rfl]
      exact State.service_of_idle (by rw [hport]; simp [PortSt.resynced, PortSt.writesResynced, apply_ite PortSt.q, hq])
    refine ⟨_, congrArg Host.Outcome.next hcommand, ?_⟩
    dsimp only
    rw [hport]
    unfold PortSt.writesResynced
    split
    next hset =>
      exact ⟨rfl, rfl, rfl, rfl, rfl, rfl, rfl, rfl, fun _ => ⟨rfl, rfl, rfl⟩, fun h => by rw [h] at hset; cases hset⟩
    next hset => exact ⟨rfl, rfl, rfl, rfl, rfl, rfl, rfl, rfl, fun h => absurd h hset, fun _ => ⟨rfl, rfl⟩⟩
  case producer =>
    intro x c op1 s hon hhalf hpar hform hstable hup
    have hjoin : s.joinHolds = false := by
      simp only [State.chainHalf, Bool.and_eq_true, beq_iff_eq] at hhalf
      simp [State.joinHolds, hhalf.1]
    have hcommand : s.command x 15#5 c op1 0 = (s.active.resyncWrites x c op1).chainPortAnew := by
      simp only [State.command, State.observed, hjoin, hon, hhalf, hpar, State.noteRclk_stable hstable, Bool.false_and,
        Bool.false_eq_true, if_false, and_self, if_true]
    have hport := State.resyncWrites_port (s := s.active) hform ((s.active_clocksStable x).trans hstable)
      (by simpa [State.blockUp] using hup)
    rw [State.active_port] at hport
    refine ⟨_, congrArg Host.Outcome.next hcommand, ?_⟩
    dsimp only
    rw [State.chainPortAnew_port, hport]
    unfold PortSt.writesResynced
    split
    next hset => exact ⟨rfl, rfl, rfl, rfl, fun _ => ⟨rfl, rfl, rfl⟩, fun h => by rw [h] at hset; cases hset⟩
    next hset => exact ⟨rfl, rfl, rfl, rfl, fun h => absurd h hset, fun _ => ⟨rfl, rfl⟩⟩

end Sys2Proof.Machine
end

section
/-! The plain commands of a port (R134, R143, R145, R146): a command that joins a port's accepted commands and is executed at once,
its answer, and what it leaves unchanged. -/

namespace Sys2Proof.Machine

open Sys2Proof

/-! ### The command accepted (R136) -/

/-- The command as it joins the accepted commands of its port, with the status that steps 6 to 8 of R136 give it, if any. -/
def State.joining (s : State) (x : Port) (opc : BitVec 5) (c : RCmd) (op1 op2 : W32) : PCmd :=
  { opc := opc, c := c, op1 := op1, op2 := op2, latched := s.timeLatch, delivered := 0, waiting := false, acted := false,
    preset := s.precheck x opc c op1 op2 }

/-- A port without a command as it accepts `k` (R81, R136). -/
def PortSt.accepting (p : PortSt) (k : PCmd) : PortSt :=
  { p with
    lastAccepted := k.c.cseq, expCseq := k.c.cseq + 1, q := [k]
    rsel := if decide (1 ≤ k.opc.toNat) && decide (k.opc.toNat ≤ 3) && (chanOf k.c.ch.toNat).isSome then chanOf k.c.ch.toNat
      else p.rsel
    cnt := { p.cnt with cmdAccepted := inc32 p.cnt.cmdAccepted } }

/-- A command that sets no time changes its port alone as it is accepted. -/
theorem State.accept_alone {s : State} {x : Port} {opc : BitVec 5} {c : RCmd} {op1 op2 : W32} (hq : (s.port x).q = [])
    (hset : ¬(opc = 17#5 ∧ c.mod.getLsbD 0 = true ∧ s.precheck x opc c op1 op2 = none)) :
    s.accept x opc c op1 op2 = s.modPort x fun p => p.accepting (s.joining x opc c op1 op2) := by
  have hbusy : (s.port x).busy c.tag.toNat = false := by simp [PortSt.busy, hq]
  have hlatch : ∀ f g, ((s.modPort x f).modPort x g).timeLatch = s.timeLatch := by
    intro f g
    simp [State.timeLatch, State.timeValid, State.blockUp]
  simp only [State.accept, hbusy, if_neg hset, State.modPCnt, hlatch]
  cases x <;> simp only [State.port] at hq <;> simp only [State.modPort, PortSt.accepting, State.joining, hq, List.nil_append,
    Bool.false_eq_true, if_false] <;> rfl

/-- The state in which the command that port `x` has just accepted is executed. -/
def State.admitted (s : State) (x : Port) (opc : BitVec 5) (c : RCmd) (op1 op2 : W32) : State :=
  (s.cmdSampled x).modPort x fun p => p.accepting (s.joining x opc c op1 op2)

/-- The one command of a port is executed as its port is served (R139). -/
theorem State.service_single {s : State} {x : Port} {k : PCmd} (hq : (s.port x).q = [k]) (hrun : k.waiting = false)
    (hshadow : s.shadows = false) : s.service x = (s.execCmd x k).serviceN x 1 := by
  rw [State.service, hshadow]
  simp [State.serviceN, hq, PortSt.next?_single hq hrun]

/-- The decoder accepts a command with the expected CSEQ at a READY port. -/
structure Accepts (x : Port) (opc : BitVec 5) (c : RCmd) (op1 op2 : W32) (s : State) : Prop extends Decodes x s where
  ready : (s.port x).state = .ready
  parity : cmdParityOk opc c op1 op2 = true
  cseq : c.cseq = (s.port x).expCseq
  noResync : opc ≠ 15#5

section
variable {x : Port} {opc : BitVec 5} {c : RCmd} {op1 op2 : W32} {s : State}

theorem CmdTaken.accepts (h : CmdTaken x opc c op1 op2 s) (h15 : opc ≠ 15#5) : Accepts x opc c op1 op2 s := by
  obtain ⟨hready, hhalf, hshadow, hdrives, hq, hpar, hcseq, -⟩ := h
  exact ⟨⟨by simp [hready], hhalf, hshadow, hdrives, hq⟩, hready, hpar, hcseq, h15⟩

/-- A command so accepted is the one that its port serves. -/
theorem Accepts.command (h : Accepts x opc c op1 op2 s) :
    s.command x opc c op1 op2 = ((s.cmdSampled x).accept x opc c op1 op2).service x := by
  obtain ⟨since, hport⟩ := s.cmdSampled_port x
  rw [h.toDecodes.command, State.judged, hport, if_neg (by rw [h.parity]; decide), if_neg h.noResync,
    if_neg (by simp [h.ready]), if_neg (by simp [h.ready]), if_neg (fun hne => hne h.cseq)]

/-- A command that sets no time is accepted, executed, and its port served again. -/
theorem Accepts.executes (h : Accepts x opc c op1 op2 s)
    (hset : ¬(opc = 17#5 ∧ c.mod.getLsbD 0 = true ∧ s.precheck x opc c op1 op2 = none)) :
    s.command x opc c op1 op2 = ((s.admitted x opc c op1 op2).execCmd x (s.joining x opc c op1 op2)).serviceN x 1 := by
  have hpre : (s.cmdSampled x).precheck x opc c op1 op2 = s.precheck x opc c op1 op2 := s.precheck_noted x opc c op1 op2
  have hjoining : (s.cmdSampled x).joining x opc c op1 op2 = s.joining x opc c op1 op2 := by
    simp only [State.joining, hpre, State.cmdSampled_timeLatch]
  have hadmitted : (s.cmdSampled x).accept x opc c op1 op2 = s.admitted x opc c op1 op2 := by
    rw [State.accept_alone h.sampledQueue (by rwa [hpre]), hjoining, State.admitted]
  rw [h.command, hadmitted, State.service_single (k := s.joining x opc c op1 op2) (by simp [State.admitted, PortSt.accepting]) rfl
    (by simpa [State.shadows, State.admitted] using h.unshadowed)]

end

/-! ### The command answered (R137, R139) -/

theorem SameRole.launch (s : State) (x : Port) (b : Beat) : SameRole s (s.launch x b) := by
  unfold State.launch
  exact .of_ite ((SameRole.modPort s x _).trans ⟨rfl, rfl, rfl, rfl⟩) (.refl s)

section
variable {x : Port} {k : PCmd}

/-- The port once its one command has ended with the beat `b`. -/
def PortSt.answered (p : PortSt) (k : PCmd) (bs : List Beat) : PortSt :=
  { p with q := [], lastCompleted := k.c.cseq, ret := p.ret ++ bs }

/-- The end of the one command of a port. -/
theorem State.finish_alone {v : State} (b : Beat) (hdrives : v.drives = true) (hq : (v.port x).q = [k])
    (hrun : k.waiting = false) (hdec : k.decoder = false) : (v.finish x k b).port x = (v.port x).answered k [b] := by
  have hgone : (v.port x).without k = [] := by simp [PortSt.without, hq]
  have hmod : ∀ (w : State) f, (w.modPort x f).drives = w.drives := fun w f => (SameRole.modPort w x f).drives
  simp only [State.finish, hrun, hdec, hmod, hdrives, Bool.not_true, Bool.or_self, Bool.false_eq_true, if_false,
    State.idleAnew_port]
  rw [State.launch_port (by simp only [hmod, hdrives])]
  simp [hgone, PortSt.answered]

theorem State.finish_other (v : State) (x : Port) (k : PCmd) (b : Beat) :
    (v.finish x k b).port (otherPort x) = v.port (otherPort x) := by
  have hmod : ∀ (w : State) f, (w.modPort x f).port (otherPort x) = w.port (otherPort x) :=
    fun w f => w.modPort_port_other f (otherPort_ne x)
  unfold State.finish
  rw [State.idleAnew_port, State.launch_other]
  split <;> split <;> simp only [hmod]

end

section
variable {x : Port} {opc : BitVec 5} {c : RCmd} {op1 op2 : W32} {s : State}

@[simp] theorem State.admitted_frame (s : State) (x : Port) (opc : BitVec 5) (c : RCmd) (op1 op2 : W32) :
    (s.admitted x opc c op1 op2).ch = s.ch ∧ (s.admitted x opc c op1 op2).mem = s.mem ∧
    (s.admitted x opc c op1 op2).tansy = s.tansy ∧ (s.admitted x opc c op1 op2).link = s.link ∧
    (s.admitted x opc c op1 op2).arq = s.arq ∧ (s.admitted x opc c op1 op2).time = s.time ∧
    (s.admitted x opc c op1 op2).twin = s.twin ∧ (s.admitted x opc c op1 op2).od = s.od ∧
    (s.admitted x opc c op1 op2).yar = s.yar ∧ (s.admitted x opc c op1 op2).upd = s.upd ∧
    (s.admitted x opc c op1 op2).rst = s.rst := by
  simp [State.admitted]

theorem State.admitted_port (s : State) (x : Port) (opc : BitVec 5) (c : RCmd) (op1 op2 : W32) :
    ∃ since, (s.admitted x opc c op1 op2).port x =
      ({ s.port x with rclkSince := since } : PortSt).accepting (s.joining x opc c op1 op2) := by
  obtain ⟨since, hport⟩ := s.cmdSampled_port x
  exact ⟨since, by rw [State.admitted, State.modPort_port_same, hport]⟩

theorem State.admitted_other (s : State) (x : Port) (opc : BitVec 5) (c : RCmd) (op1 op2 : W32) :
    (s.admitted x opc c op1 op2).port (otherPort x) = s.port (otherPort x) := by
  rw [State.admitted, State.modPort_port_other _ _ (otherPort_ne x), State.cmdSampled_other]

/-- The port answers the command it has accepted with the beats `bs`, and has changed by `f` beside. -/
def AnsweredBy (x : Port) (k : PCmd) (f : PortSt → PortSt) (bs : List Beat) (s t : State) : Prop :=
  ∃ since, t.port x = (f (({ s.port x with rclkSince := since } : PortSt).accepting k)).answered k bs

/-- A command whose execution empties its port's queue is followed by nothing. -/
theorem Accepts.executed {t : State} (h : Accepts x opc c op1 op2 s)
    (hset : ¬(opc = 17#5 ∧ c.mod.getLsbD 0 = true ∧ s.precheck x opc c op1 op2 = none))
    (hexec : (s.admitted x opc c op1 op2).execCmd x (s.joining x opc c op1 op2) = t) (hq : (t.port x).q = []) :
    s.command x opc c op1 op2 = t := by
  rw [h.executes hset, hexec, State.serviceN, PortSt.next?_none hq]

/-- A command whose execution ends with its one beat, on a state `v` in which its port has changed by `f`. -/
theorem Accepts.answered {v : State} {b : Beat} {f : PortSt → PortSt} (h : Accepts x opc c op1 op2 s)
    (hset : ¬(opc = 17#5 ∧ c.mod.getLsbD 0 = true ∧ s.precheck x opc c op1 op2 = none))
    (hexec : (s.admitted x opc c op1 op2).execCmd x (s.joining x opc c op1 op2) =
      v.finish x (s.joining x opc c op1 op2) b)
    (hrole : SameRole (s.admitted x opc c op1 op2) v) (hf : ∀ p, (f p).q = p.q)
    (hport : v.port x = f ((s.admitted x opc c op1 op2).port x)) :
    s.command x opc c op1 op2 = v.finish x (s.joining x opc c op1 op2) b ∧
    AnsweredBy x (s.joining x opc c op1 op2) f [b] s (s.command x opc c op1 op2) := by
  obtain ⟨since, hadmitted⟩ := s.admitted_port x opc c op1 op2
  have hdrives : v.drives = true := by
    rw [hrole.drives, ← h.drives]
    exact SameRole.drives .of_twin
  have hend := State.finish_alone (v := v) (x := x) (k := s.joining x opc c op1 op2) b hdrives
    (by rw [hport, hadmitted, hf]; rfl) rfl (by simpa [PCmd.decoder, State.joining] using h.noResync)
  have hcommand := h.executed hset hexec (by rw [hend]; rfl)
  refine ⟨hcommand, since, ?_⟩
  rw [hcommand, hend, hport, hadmitted]

/-- An answer of one beat that leaves the rest of the port is the answer of R137. -/
theorem AnsweredBy.answers {f : PortSt → PortSt} {b : Beat} {t : State}
    (h : AnsweredBy x (s.joining x opc c op1 op2) f [b] s t) (hret : ∀ p, (f p).ret = p.ret)
    (hexp : ∀ p, (f p).expCseq = p.expCseq) : Answers x c b s t := by
  obtain ⟨since, hport⟩ := h
  unfold Answers
  rw [hport]
  refine ⟨?_, rfl, rfl, ?_⟩
  · simp only [PortSt.answered, hret]
    rfl
  · simp only [PortSt.answered, hexp]
    rfl

/-! ### The plain commands executed -/

/-- A command that a step of R136 has decided is answered with that step's status. -/
theorem State.execCmd_decided {st : Nat} (hpre : s.precheck x opc c op1 op2 = some st) :
    (s.admitted x opc c op1 op2).execCmd x (s.joining x opc c op1 op2) =
      (s.admitted x opc c op1 op2).finish x (s.joining x opc c op1 op2) (statusBeat c.tag.toNat st) := by
  simp [State.execCmd, State.joining, hpre, State.finishStat, PCmd.tag]

/-- STATUS is answered with its page (R143). -/
theorem State.execCmd_status {page : List Byte} {v : State} (hpre : s.precheck x 14#5 c op1 op2 = none)
    (hpage : (s.admitted x 14#5 c op1 op2).statusCmd x (s.joining x 14#5 c op1 op2) = some (page, v)) :
    (s.admitted x 14#5 c op1 op2).execCmd x (s.joining x 14#5 c op1 op2) = v.finish x (s.joining x 14#5 c op1 op2)
      { tag := c.tag.toNat, last := true, stat := 0, vb := 0, data := takePad 32 page } := by
  simp only [State.execCmd, hpage]
  simp [State.joining, hpre, PCmd.tag, rsOk]

/-- TIMEGET is answered with the time as its command found it (R146). -/
theorem State.execCmd_timeget (hpre : s.precheck x 17#5 c op1 op2 = none) :
    (s.admitted x 17#5 c op1 op2).execCmd x (s.joining x 17#5 c op1 op2) =
      (s.admitted x 17#5 c op1 op2).finish x (s.joining x 17#5 c op1 op2)
        { tag := c.tag.toNat, last := true, stat := 0, vb := 0, data := takePad 32 (leBytes s.timeLatch 12) } := by
  simp [State.execCmd, State.joining, hpre, PCmd.tag, rsOk]

/-- The words of TRAIN's pattern 1: 55h and AAh by turns (R145). -/
def alternatingWords : List (List Byte) :=
  (List.range 16).map fun w => List.replicate 32 (if w % 2 = 0 then 0x55#8 else 0xAA#8)

/-- TRAIN with MOD 1 is answered with that pattern. -/
theorem State.execCmd_train (hpre : s.precheck x 16#5 c op1 op2 = none) (hmod : c.mod = 1#7) :
    (s.admitted x 16#5 c op1 op2).execCmd x (s.joining x 16#5 c op1 op2) =
      (s.admitted x 16#5 c op1 op2).emitTrain x (s.joining x 16#5 c op1 op2) alternatingWords := by
  simp only [State.execCmd, State.joining, hpre, hmod]
  rfl

end

/-! ### TRAIN (R145) -/

/-- The words of a pattern leave as a read's words do, each in a beat of its own, the last with RLAST. -/
theorem State.emitTrain_alone {x : Port} {k : PCmd} {v : State} {ws : List (List Byte)} (hws : ws ≠ [])
    (hdrives : v.drives = true) (hq : (v.port x).q = [k]) (hrun : k.waiting = false) (hdec : k.decoder = false) :
    (v.emitTrain x k ws).port x = (v.port x).answered k (okBeats k.tag (ws.map fun w => (w, 0))) := by
  induction ws generalizing v with
  | nil => exact absurd rfl hws
  | cons w rest ih =>
    cases rest with
    | nil => exact State.finish_alone _ hdrives hq hrun hdec
    | cons w' rest =>
      have hlaunched := State.launch_port hdrives x { tag := k.tag, last := false, stat := rsOk, vb := 0, data := w }
      have hrole : SameRole v (v.launch x { tag := k.tag, last := false, stat := rsOk, vb := 0, data := w }) := .launch ..
      change ((v.launch x { tag := k.tag, last := false, stat := rsOk, vb := 0, data := w }).emitTrain x k (w' :: rest)).port x = _
      rw [ih (by simp) (hrole.drives.trans hdrives) (by rw [hlaunched]; exact hq), hlaunched]
      simp [PortSt.answered, okBeats, rsOk]

theorem okBeats_length (tag : Nat) (ws : List (List Byte × Nat)) : (okBeats tag ws).length = ws.length := by
  induction ws using okBeats.induct <;> simp_all [okBeats]

theorem okBeats_data (tag : Nat) (ws : List (List Byte × Nat)) : (okBeats tag ws).map (·.data) = ws.map (·.1) := by
  induction ws using okBeats.induct <;> simp_all [okBeats]

theorem okBeats_last (tag : Nat) (w : List Byte × Nat) (ws : List (List Byte × Nat)) :
    (okBeats tag (w :: ws)).map (·.last) = List.replicate ws.length false ++ [true] := by
  induction ws generalizing w with
  | nil => rfl
  | cons w' ws ih => simp [okBeats, ih, List.replicate_succ]


/-! ### The answers -/

section
variable {x : Port} {opc : BitVec 5} {c : RCmd} {op1 op2 : W32} {s : State}

/-- The accepted commands of a port do not show in page 05h (R143). -/
theorem State.admitted_page05 (s : State) (x : Port) (opc : BitVec 5) (c : RCmd) (op1 op2 : W32) :
    (s.admitted x opc c op1 op2).page05 x = s.page05 x := by
  obtain ⟨since, hport⟩ := s.admitted_port x opc c op1 op2
  simp only [State.page05, hport]
  rfl

/-- STATUS is answered by the page, and its port changes by the action that the page asks for (R143). -/
theorem CmdTaken.status {f : PortSt → PortSt} {page : List Byte} (h : CmdTaken x 14#5 c op1 op2 s)
    (hpage : (s.admitted x 14#5 c op1 op2).statusCmd x (s.joining x 14#5 c op1 op2) =
      some (page, (s.admitted x 14#5 c op1 op2).modPort x f))
    (hq : ∀ p, (f p).q = p.q) :
    AnsweredBy x (s.joining x 14#5 c op1 op2) f
      [{ tag := c.tag.toNat, last := true, stat := 0, vb := 0, data := takePad 32 page }] s (s.command x 14#5 c op1 op2) := by
  have hacc := CmdTaken.accepts h (by decide)
  obtain ⟨-, -, -, -, -, -, -, hpre⟩ := h
  exact (hacc.answered (by rintro ⟨h14, -⟩; cases h14) (State.execCmd_status hpre hpage)
    (SameRole.modPort _ x f) hq (State.modPort_port_same ..)).2

/-- Step 7 of R136 decides a command of a reserved opcode. -/
theorem precheck_reserved (hopc : 18 ≤ opc.toNat) (hq : (s.port x).q = []) (c : RCmd) (op1 op2 : W32) :
    s.precheck x opc c op1 op2 = some rsBadop := by
  simp [State.precheck, PortSt.busy, hq, malformed, hopc]

end

/-- Settles O17: each command ends at once with its beat; TRAIN with a beat for each word of its pattern. -/
theorem plainCommandsAnswered : Obligations.PlainCommandsAnswered := by
  unfold Obligations.PlainCommandsAnswered
  refine ⟨?nop, ?timeget, ?page05, ?train, ?reserved, ?clear, ?mask⟩
  case nop =>
    intro x c s h
    obtain ⟨t, ht, hans, -⟩ := State.command_answered (b := statusBeat c.tag.toNat 0) (post := fun _ => True) h (by decide)
      (by decide) fun k u hu =>
        ⟨u, by simp [State.execCmd, hu.undecided, hu.opcode, State.finishStat, PCmd.tag, hu.cycle, rsOk], rfl, rfl, trivial⟩
    exact ⟨t, congrArg _ ht, hans⟩
  case timeget =>
    intro x c s h hget
    have hacc := CmdTaken.accepts h (by decide)
    obtain ⟨-, -, -, -, -, -, -, hpre⟩ := h
    obtain ⟨hcommand, hanswered⟩ := hacc.answered (f := id) (fun ⟨_, hset, _⟩ => by rw [hget] at hset; cases hset)
      (State.execCmd_timeget hpre) (.refl _) (fun _ => rfl) rfl
    refine ⟨_, rfl, hanswered.answers (fun _ => rfl) (fun _ => rfl), ?_⟩
    simp only [hcommand, State.finish_frame, State.admitted_frame]
  case page05 =>
    intro x c op1 op2 s h hmod
    have hanswered := h.status (f := id) (page := s.page05 x)
      (by simp [State.statusCmd, State.joining, hmod, State.admitted_page05]; cases x <;> rfl) fun _ => rfl
    refine ⟨_, rfl, hanswered.answers (fun _ => rfl) (fun _ => rfl), ?_⟩
    obtain ⟨since, hport⟩ := hanswered
    rw [hport]
    rfl
  case train =>
    intro x c s h hmod
    have hacc := CmdTaken.accepts h (by decide)
    obtain ⟨-, -, -, -, -, -, -, hpre⟩ := h
    obtain ⟨since, hadmitted⟩ := s.admitted_port x 16#5 c 0 0
    have hport := State.emitTrain_alone (v := s.admitted x 16#5 c 0 0) (x := x) (k := s.joining x 16#5 c 0 0)
      (ws := alternatingWords) (by decide) ((SameRole.drives .of_twin).trans hacc.drives) (by rw [hadmitted]; rfl) rfl rfl
    have hcommand := hacc.executed (fun ⟨h16, _, _⟩ => by cases h16) (State.execCmd_train hpre hmod)
      (by rw [hport]; rfl)
    refine ⟨_, congrArg Host.Outcome.next hcommand, okBeats c.tag.toNat (alternatingWords.map fun w => (w, 0)), ?_⟩
    rw [hport, hadmitted]
    exact ⟨rfl, by rw [okBeats_length]; rfl, rfl, by rw [okBeats_data]; rfl, okBeats_last _ _ _⟩
  case reserved =>
    intro x opc c s hopc hready hhalf hshadow hdrives hq hpar hcseq
    have hacc : Accepts x opc c 0 0 s :=
      ⟨⟨by simp [hready], hhalf, hshadow, hdrives, hq⟩, hready, hpar, hcseq, by rintro rfl; simp at hopc⟩
    have hpre := precheck_reserved hopc hq c 0 0
    obtain ⟨-, hanswered⟩ := hacc.answered (f := id) (fun ⟨_, _, hnone⟩ => by rw [hpre] at hnone; cases hnone)
      (State.execCmd_decided hpre) (.refl _) (fun _ => rfl) rfl
    exact ⟨_, rfl, hanswered.answers (fun _ => rfl) (fun _ => rfl)⟩
  case clear =>
    intro x c op1 op2 s h hmod
    have hanswered := h.status (page := s.page05 x)
      (f := fun p => { p with attnCause := p.attnCause &&& ~~~op1, attnChannels := p.attnChannels &&& ~~~op2 })
      (by simp [State.statusCmd, State.joining, hmod, State.admitted_page05]) fun _ => rfl
    refine ⟨_, rfl, ?_, ?_, hanswered.answers (fun _ => rfl) (fun _ => rfl)⟩ <;>
    · obtain ⟨since, hport⟩ := hanswered
      rw [hport]
      rfl
  case mask =>
    intro x c op1 s h hmod
    have hanswered := h.status (f := fun p => { p with attnMask := op1 &&& 0xFFFFF#32 })
      (by simp [State.statusCmd, State.joining, hmod]; rfl) fun _ => rfl
    obtain ⟨since, hport⟩ := hanswered
    refine ⟨_, rfl, ?_⟩
    dsimp only
    rw [hport]
    exact ⟨rfl, rfl, rfl⟩

end Sys2Proof.Machine
end

section
/-! What the plain commands of a port leave unchanged (R34, R134). -/

namespace Sys2Proof.Machine

open Sys2Proof

/-- Port `x`, the lock unit and what the device sends to its twin are all in which `t` differs from `s`. -/
structure Untouched (x : Port) (s t : State) : Prop where
  blocks : t.ch = s.ch ∧ t.link = s.link ∧ t.arq = s.arq ∧ t.time = s.time ∧ t.od = s.od ∧ t.upd = s.upd ∧
    t.rst = s.rst ∧ t.tansy = s.tansy ∧ t.yar = s.yar
  array : t.mem.cells = s.mem.cells ∧ t.mem.errs = s.mem.errs ∧ t.mem.desc = s.mem.desc ∧ t.mem.areas = s.mem.areas
  other : t.port (otherPort x) = s.port (otherPort x)

section
variable {x : Port} {s t u : State}

theorem Untouched.refl (x : Port) (s : State) : Untouched x s s := ⟨by simp, by simp, rfl⟩

theorem Untouched.trans (h : Untouched x s t) (h' : Untouched x t u) : Untouched x s u :=
  ⟨by simp only [h'.blocks, h.blocks, and_self], by simp only [h'.array, h.array, and_self], h'.other.trans h.other⟩

theorem Untouched.modPort (s : State) (x : Port) (f : PortSt → PortSt) : Untouched x s (s.modPort x f) :=
  ⟨by simp, by simp, s.modPort_port_other f (otherPort_ne x)⟩

theorem Untouched.admitted (s : State) (x : Port) (opc : BitVec 5) (c : RCmd) (op1 op2 : W32) :
    Untouched x s (s.admitted x opc c op1 op2) :=
  ⟨by simp, by simp, s.admitted_other x opc c op1 op2⟩

theorem Untouched.finish (s : State) (x : Port) (k : PCmd) (b : Beat) : Untouched x s (s.finish x k b) :=
  ⟨by simp, by simp, s.finish_other x k b⟩

theorem Untouched.announceAtomic (s : State) (x : Port) (a b c d e f g h : Nat) :
    Untouched x s (s.announceAtomic a b c d e f g h) :=
  ⟨by simp [State.announceAtomic], by simp, by simp⟩

/-- The memory `m` differs from that of `s` in the lock unit alone. -/
def LockUnitOnly (s : State) (m : MemSt) : Prop :=
  m.cells = s.mem.cells ∧ m.errs = s.mem.errs ∧ m.desc = s.mem.desc ∧ m.areas = s.mem.areas

theorem LockUnitOnly.untouched {m : MemSt} (h : LockUnitOnly s m) (x : Port) : Untouched x s { s with mem := m } :=
  ⟨by simp, h, by cases x <;> rfl⟩

/-- An operation on a slot changes the lock unit alone (R34). -/
theorem State.slotOp_lockUnitOnly (s : State) (o : Owner) (opc slot : Nat) :
    ∃ st m, (if opc = 12 then s.lockSlot o slot else s.unlockSlot o slot) = (st, { s with mem := m }) ∧ LockUnitOnly s m := by
  unfold State.lockSlot State.unlockSlot
  dsimp only
  repeat' split
  all_goals exact ⟨_, _, rfl, rfl, rfl, rfl, rfl⟩

end

/-- `t` is what the end of command `k` of port `x` makes of `s`, changed at most where a plain command changes it. -/
def EndsPlain (x : Port) (k : PCmd) (s t : State) : Prop :=
  ∃ (v : State) (b : Beat) (f : PortSt → PortSt), t = v.finish x k b ∧ SameRole s v ∧ Untouched x s v ∧
    (∀ p, (f p).q = p.q) ∧ v.port x = f (s.port x)

theorem EndsPlain.finish (s : State) (x : Port) (k : PCmd) (b : Beat) : EndsPlain x k s (s.finish x k b) :=
  ⟨s, b, id, rfl, .refl s, .refl x s, fun _ => rfl, rfl⟩

theorem SameRole.announceAtomic (s : State) (a b c d e f g h : Nat) : SameRole s (s.announceAtomic a b c d e f g h) := by
  unfold State.announceAtomic State.announce
  exact .of_ite (.clover s _ _) (.refl s)

/-- LOCK and UNLOCK of a slot, announced. -/
theorem EndsPlain.lockOp (s : State) (x : Port) (k : PCmd) (o : Owner) (opc slot cseq : Nat) :
    EndsPlain x k s ((s.lockOp o opc slot cseq).2.finishStat x k (s.lockOp o opc slot cseq).1) := by
  obtain ⟨st, m, hop, hm⟩ := s.slotOp_lockUnitOnly o opc slot
  have hrole : SameRole s { s with mem := m } := .of_twin rfl rfl
  have hport : ({ s with mem := m } : State).port x = s.port x := by cases x <;> rfl
  rw [State.lockOp_of_slot cseq hop]
  exact ⟨State.announceAtomic .., statusBeat k.tag st, id, rfl, hrole.trans (.announceAtomic ..),
    (hm.untouched x).trans (.announceAtomic ..), fun _ => rfl, by simpa using hport⟩

/-- STATUS changes its port at most as its action asks (R143). -/
theorem State.statusCmd_some {s v : State} {x : Port} {k : PCmd} {page : List Byte} (h : s.statusCmd x k = some (page, v)) :
    v = s ∨ ∃ f : PortSt → PortSt, v = s.modPort x f ∧ ∀ p, (f p).q = p.q := by
  simp only [State.statusCmd] at h
  repeat' split at h
  all_goals simp only [reduceCtorEq, Option.some.injEq, Prod.mk.injEq, Option.map_eq_some_iff] at h
  case isTrue.isTrue | isFalse.isTrue.isTrue.isFalse => exact .inr ⟨_, h.2.symm, fun _ => rfl⟩
  case isFalse.isFalse.isFalse.isFalse.isFalse.isFalse.isTrue =>
    obtain ⟨-, -, -, hv⟩ := h
    exact .inl hv.symm
  all_goals exact .inl h.2.symm

theorem EndsPlain.status {s : State} {x : Port} {k : PCmd} (hpreset : k.preset = none) (hopc : k.opc = 14#5) :
    EndsPlain x k s (s.execCmd x k) := by
  cases hpage : s.statusCmd x k with
  | none =>
    have hexec : s.execCmd x k = s.finishStat x k rsBadop := by simp [State.execCmd, hpreset, hopc, hpage]
    rw [hexec]
    exact .finish ..
  | some result =>
    have hexec : s.execCmd x k = result.2.finish x k
        { tag := k.tag, last := true, stat := rsOk, vb := 0, data := takePad 32 result.1 } := by
      simp [State.execCmd, hpreset, hopc, hpage]
    rw [hexec]
    obtain hv | ⟨f, hv, hf⟩ := State.statusCmd_some hpage
    · rw [hv]
      exact .finish ..
    · exact ⟨_, _, f, rfl, hv ▸ .modPort s x f, hv ▸ .modPort s x f, hf, hv ▸ s.modPort_port_same x f⟩

theorem State.execCmd_lock {s : State} {x : Port} {k : PCmd} (hpreset : k.preset = none)
    (hopc : k.opc = 12#5 ∨ k.opc = 13#5) : s.execCmd x k =
      if s.blockUp 0 = false then s.finishStat x k rsIsolated else
        (s.lockOp (portOwner x) k.opc.toNat (k.c.mod.toNat % 64) k.c.cseq.toNat).2.finishStat x k
          (s.lockOp (portOwner x) k.opc.toNat (k.c.mod.toNat % 64) k.c.cseq.toNat).1 := by
  obtain hopc | hopc := hopc <;> simp [State.execCmd, hpreset, hopc]

/-- What executing a plain command comes to (R134). -/
theorem EndsPlain.execCmd {s : State} {x : Port} {k : PCmd} (hpreset : k.preset = none)
    (hopc : (k.opc = 0#5 ∨ k.opc = 17#5) ∨ (k.opc = 12#5 ∨ k.opc = 13#5) ∨ k.opc = 14#5) :
    EndsPlain x k s (s.execCmd x k) := by
  obtain (hopc | hopc) | hopc | hopc := hopc
  · simp only [State.execCmd, hpreset, hopc]
    exact .finish ..
  · simp only [State.execCmd, hpreset, hopc]
    exact .finish ..
  · rw [State.execCmd_lock hpreset hopc]
    split
    · exact .finish ..
    · exact .lockOp ..
  · exact .status hpreset hopc

/-- A plain command that is accepted leaves everything beside its port and the lock unit. -/
theorem Accepts.untouched {x : Port} {opc : BitVec 5} {c : RCmd} {op1 op2 : W32} {s : State} (h : Accepts x opc c op1 op2 s)
    (hpre : s.precheck x opc c op1 op2 = none) (hset : opc = 17#5 → c.mod.getLsbD 0 = false)
    (hopc : (opc = 0#5 ∨ opc = 17#5) ∨ (opc = 12#5 ∨ opc = 13#5) ∨ opc = 14#5) :
    Untouched x s (s.command x opc c op1 op2) := by
  obtain ⟨v, b, f, hexec, hrole, hv, hf, hport⟩ := EndsPlain.execCmd (s := s.admitted x opc c op1 op2) (x := x)
    (k := s.joining x opc c op1 op2) hpre hopc
  obtain ⟨hcommand, -⟩ := h.answered (fun ⟨h17, hmod, _⟩ => by rw [hset h17] at hmod; cases hmod) hexec hrole hf hport
  rw [hcommand]
  exact (Untouched.admitted ..).trans (hv.trans (.finish ..))

/-- Settles O25: each of the five commands ends at once, and what it is executed on differs from the state it found as
`Untouched` says; an announcement to the twin is all that depends on Clover. -/
theorem answeredCommandFrame : Obligations.AnsweredCommandFrame := by
  unfold Obligations.AnsweredCommandFrame
  intro x c s t _ ⟨opc, htaken, hcases⟩
  have hplain : t = s.command x opc c 0 0 ∧ (opc = 17#5 → c.mod.getLsbD 0 = false) ∧
      ((opc = 0#5 ∨ opc = 17#5) ∨ (opc = 12#5 ∨ opc = 13#5) ∨ opc = 14#5) := by
    obtain ⟨rfl, ht⟩ | ⟨rfl, hset, ht⟩ | ⟨rfl, ht⟩ | ⟨rfl, ht⟩ | ⟨rfl, ht⟩ := hcases
    all_goals exact ⟨(Host.Outcome.next.inj ht).symm, by simp_all, by simp⟩
  obtain ⟨rfl, hset, hopc⟩ := hplain
  have h15 : opc ≠ 15#5 := by
    rintro rfl
    simp at hopc
  have hacc := htaken.accepts h15
  obtain ⟨-, -, -, -, -, -, -, hpre⟩ := htaken
  obtain ⟨⟨hch, hlink, harq, htime, hod, hupd, hrst, htansy, hyar⟩, ⟨hcells, herrs, hdesc, hareas⟩, hother⟩ :=
    hacc.untouched hpre hset hopc
  exact ⟨hch, hcells, herrs, hdesc, hareas, hlink, harq, htime, hod, hupd, hrst, htansy, hyar, hother⟩

end Sys2Proof.Machine
end

section
/-! The set of wall time by TIMEGET (R146), at a sender whose source is free-set (R194, R195). -/

namespace Sys2Proof.Machine

open Sys2Proof

/-! ### What an epoch change gives up leaves the clock (R103, R195) -/

theorem Confined.skipRest (s : State) (n : Fin 20) : Confined s (s.skipRest n) := by
  unfold State.skipRest
  dsimp only
  split
  · exact .refl s
  · exact (Confined.modCh s n _).then_settle n

theorem SameClock.modArq (s : State) (f : ArqSt → ArqSt) : SameClock s (s.modArq f) := ⟨rfl, rfl, rfl, rfl, rfl, rfl⟩

/-- The rests of the packets that a give-up has cut are passed over. -/
theorem Confined.foldl_entries {g : State → WinEntry → State} (h : ∀ t e, Confined t (g t e)) (s : State)
    (es : List WinEntry) :
    Confined s (es.foldl g s) := by
  induction es generalizing s with
  | nil => exact .refl s
  | cons e es ih => exact (h s e).trans (ih _)

theorem Confined.refreshed (s : State) :
    Confined s (if s.refreshFlows.arq.window.isEmpty then s.refreshFlows.idleAnew else s.refreshFlows) :=
  (Confined.refreshFlows s).trans (.of_ite (.idleAnew _) (.refl _))

theorem SameClock.giveUpEntries (s : State) (due : WinEntry → Bool) : SameClock s (s.giveUpEntries due) := by
  unfold State.giveUpEntries
  dsimp only
  split
  · exact .refl s
  · refine (SameClock.modArq s _).trans ((Confined.releaseEntries _ _).trans (.trans (.foldl_entries ?_ _ _) (.refreshed _))).clock
    intro t e
    split
    · exact .of_ite (.skipRest t _) (.refl t)
    · exact .refl t

theorem Confined.giveUpRecords (s : State) (gone : Nat × Nat → Bool) : Confined s (s.giveUpRecords gone) := by
  unfold State.giveUpRecords
  refine .forChans fun n t => .of_ite (.refl t) ?_
  dsimp only
  split
  · exact .refl t
  · exact .modCh t n _

theorem SameClock.giveUpEpoch (s : State) : SameClock s s.giveUpEpoch := by
  unfold State.giveUpEpoch State.giveUp
  exact .of_ite (.refl s) ((SameClock.giveUpEntries s _).trans (Confined.giveUpRecords _ _).clock)

/-! ### The set of the counter (R146, R194, R195) -/

/-- The counter takes a value, and its slew and its trim end (R195). -/
def TimeSt.put (t : TimeSt) (v : Nat) : TimeSt := { t with wall := v, slew := 0, trim := 0 }

section
variable {s : State} {sec ns v : Nat}

/-- With no valid time the counter takes the value (R194). -/
theorem State.timeSet_first (h : s.time.valid = false) (hv : stampWall ⟨sec, ns, 0⟩ = v) :
    s.timeSet sec ns = s.modTime fun t => { t.put v with valid := true } := by
  simp only [State.timeSet, hv, h, if_true, TimeSt.put]

theorem State.endLock_steps (s : State) : s.endLock.time.steps = s.time.steps := by
  unfold State.endLock
  split <;> simp

/-- The first set makes time valid in the epoch of before; the part the device plays stands. -/
theorem State.first_clock (s : State) (v : Nat) :
    (s.modTime fun t => { t.put v with valid := true }).time.wall = v ∧
    (s.modTime fun t => { t.put v with valid := true }).time.valid = true ∧
    (s.modTime fun t => { t.put v with valid := true }).time.epoch = s.time.epoch ∧
    (s.modTime fun t => { t.put v with valid := true }).time.trim = 0 ∧
    (s.modTime fun t => { t.put v with valid := true }).shadows = s.shadows ∧
    (s.modTime fun t => { t.put v with valid := true }).drives = s.drives :=
  ⟨rfl, rfl, rfl, rfl, rfl, rfl⟩

/-- A step of the counter ends the lock and leaves the epoch. -/
theorem State.step_clock (s : State) (v : Nat) :
    (s.modTime fun t => { t.put v with steps := inc32 t.steps }).endLock.time.wall = v ∧
    (s.modTime fun t => { t.put v with steps := inc32 t.steps }).endLock.time.steps = inc32 s.time.steps ∧
    (s.modTime fun t => { t.put v with steps := inc32 t.steps }).endLock.time.epoch = s.time.epoch := by
  have hclock := SameClock.endLock (s.modTime fun t => { t.put v with steps := inc32 t.steps })
  exact ⟨hclock.wall, State.endLock_steps _, hclock.epoch⟩

/-- An epoch change at the sender, with what it gives up (R195). -/
theorem State.senderEpoch_clock (s : State) (v : Nat) :
    (s.modTime (·.put v)).senderEpoch.time.wall = v ∧
    (s.modTime (·.put v)).senderEpoch.time.epoch = (s.time.epoch + 1) % 256 ∧
    (s.modTime (·.put v)).senderEpoch.time.epochChanges = inc32 s.time.epochChanges ∧
    (s.modTime (·.put v)).senderEpoch.rst.aonEpoch = (s.time.epoch + 1) % 256 := by
  have hclock := (SameClock.giveUpEpoch ((s.modTime (·.put v)).setEpoch (s.time.epoch + 1))).trans (.endLock _)
  exact ⟨hclock.wall, hclock.epoch, hclock.changes, hclock.aon⟩

/-- A value ahead by more than the threshold steps (R195). -/
theorem State.timeSet_ahead (h : s.time.valid = true) (hv : stampWall ⟨sec, ns, 0⟩ = v)
    (hd : (s.time.stepThreshold * tk : Nat) < (v : Int) - s.time.wall) :
    s.timeSet sec ns = (s.modTime fun t => { t.put v with steps := inc32 t.steps }).endLock := by
  simp only [State.timeSet, hv, h, hd, reduceCtorEq, if_true, if_false, TimeSt.put]

/-- A value behind by more than the threshold changes the epoch (R195). -/
theorem State.timeSet_behind (h : s.time.valid = true) (hv : stampWall ⟨sec, ns, 0⟩ = v)
    (hd : (v : Int) - s.time.wall < -(s.time.stepThreshold * tk : Nat)) :
    s.timeSet sec ns = (s.modTime (·.put v)).senderEpoch := by
  have hahead : ¬(s.time.stepThreshold * tk : Nat) < (v : Int) - s.time.wall := by
    generalize (s.time.stepThreshold * tk : Nat) = lim at hd
    omega
  simp only [State.timeSet, hv, h, hahead, not_le_of_gt hd, reduceCtorEq, if_false, TimeSt.put]

end

/-! ### TIMEGET with SET -/

/-- The command `k` joins the accepted commands of its port. -/
def State.joined (s : State) (x : Port) (k : PCmd) : State := s.modPort x fun p => { p with q := p.q ++ [k] }

/-- The time is set as its command is accepted (R146). -/
theorem State.accept_timeSet {s : State} {x : Port} {c : RCmd} {op1 op2 : W32} (hmod : c.mod = 1#7)
    (hpre : s.precheck x 17#5 c op1 op2 = none) :
    ∃ f k, s.accept x 17#5 c op1 op2 = ((s.modPort x f).timeSet op1.toNat op2.toNat).joined x k ∧ (∀ p, (f p).q = p.q) ∧
      k.opc = 17#5 ∧ k.waiting = false ∧ k.preset = none := by
  have hmods : ∀ f g : PortSt → PortSt, (s.modPort x f).modPort x g = s.modPort x fun p => g (f p) := by
    intro f g
    cases x <;> rfl
  have hset : c.mod.getLsbD 0 = true := by rw [hmod]; rfl
  simp only [State.accept, State.modPCnt, hmods, hset, hpre, and_self, if_true]
  exact ⟨_, PCmd.mk 17#5 c op1 op2 _ 0 false false none none, rfl, fun _ => rfl, rfl, rfl, rfl⟩

section
variable {x : Port} {c : RCmd} {op1 op2 : W32} {s : State}

/-- TIMEGET with SET: the time is set at a state that has the clock of `s`, and the answer leaves it so. -/
theorem CmdTaken.timeSet (h : CmdTaken x 17#5 c op1 op2 s) (hmod : c.mod = 1#7) :
    ∃ (u : State) (k : PCmd), u.time = s.time ∧ (u.port x).q = [] ∧ u.shadows = false ∧ u.drives = true ∧
      s.command x 17#5 c op1 op2 = ((u.timeSet op1.toNat op2.toNat).joined x k).service x ∧
      k.opc = 17#5 ∧ k.waiting = false ∧ k.preset = none := by
  have hacc := CmdTaken.accepts h (by decide)
  obtain ⟨-, -, -, -, -, -, -, hpre⟩ := h
  obtain ⟨f, k, haccept, hf, hk⟩ := State.accept_timeSet hmod ((s.precheck_noted x 17#5 c op1 op2).trans hpre)
  refine ⟨(s.cmdSampled x).modPort x f, k, by simp, ?_, ?_, ?_, hacc.command.trans (congrArg (·.service x) haccept), hk⟩
  · rw [State.modPort_port_same, hf, hacc.sampledQueue]
  · simpa [State.shadows] using hacc.unshadowed
  · exact (SameRole.drives .of_twin).trans hacc.drives

/-- The clock as a set leaves it is the clock after its command. -/
theorem State.service_joined_clock (s : State) (x : Port) (k : PCmd) :
    ((s.joined x k).service x).time = s.time ∧ ((s.joined x k).service x).rst = s.rst := by
  obtain ⟨-, htime, hrst, -, -, -⟩ := Confined.service (s.joined x k) x
  exact ⟨htime.trans (by simp [State.joined]), hrst.trans (by simp [State.joined])⟩

/-- TIMEGET ends at once at a port with no command before it. -/
theorem State.service_joined_queue {k : PCmd} (hq : (s.port x).q = []) (hshadow : s.shadows = false) (hdrives : s.drives = true)
    (hopc : k.opc = 17#5) (hrun : k.waiting = false) (hpreset : k.preset = none) :
    (((s.joined x k).service x).port x).q = [] := by
  have hqueue : ((s.joined x k).port x).q = [k] := by simp [State.joined, hq]
  let b : Beat := { tag := k.tag, last := true, stat := rsOk, vb := 0, data := takePad 32 (leBytes k.latched 12) }
  have hexec : (s.joined x k).execCmd x k = (s.joined x k).finish x k b := by
    simp [State.execCmd, hpreset, hopc, b]
  have hend := State.finish_alone (v := s.joined x k) b
    ((SameRole.modPort s x _).drives.trans hdrives) hqueue hrun (by simp [PCmd.decoder, hopc])
  rw [State.service_single hqueue hrun ((by simpa [State.shadows, State.joined] using hshadow)), hexec, State.serviceN,
    PortSt.next?_none (by rw [hend]; rfl), hend]
  rfl

end

/-- Settles O24: the three outcomes of `State.timeSet` that the statement names, carried over the answer of the command. -/
theorem timeSetAtSender : Obligations.TimeSetAtSender := by
  unfold Obligations.TimeSetAtSender
  refine ⟨?first, ?ahead, ?behind⟩
  case first =>
    intro x c op1 op2 s h hmod hvalid
    obtain ⟨u, k, htime, hq, hshadow, hdrives, hcommand, hk, hrun, hpreset⟩ := h.timeSet hmod
    obtain ⟨hclock, -⟩ := (u.timeSet op1.toNat op2.toNat).service_joined_clock x k
    have hqueue := State.service_joined_queue (s := u.timeSet op1.toNat op2.toNat) (x := x) (k := k)
    generalize hv : stampWall ⟨op1.toNat, op2.toNat, 0⟩ = v
    rw [← htime] at hvalid
    rw [State.timeSet_first hvalid hv] at hcommand hclock hqueue
    refine ⟨_, congrArg Host.Outcome.next hcommand, ?_⟩
    dsimp only
    rw [hclock, ← htime]
    obtain ⟨hwall, hset, hepoch, htrim, hshadows, hdriven⟩ := u.first_clock v
    exact ⟨hwall, hset, hepoch, htrim, hqueue (by simpa using hq) (hshadows.trans hshadow) (hdriven.trans hdrives)
      hk hrun hpreset⟩
  case ahead =>
    intro x c op1 op2 s h hmod hvalid hd
    obtain ⟨u, k, htime, -, -, -, hcommand, -⟩ := h.timeSet hmod
    obtain ⟨hclock, -⟩ := (u.timeSet op1.toNat op2.toNat).service_joined_clock x k
    generalize hv : stampWall ⟨op1.toNat, op2.toNat, 0⟩ = v at hd ⊢
    rw [← htime] at hvalid hd
    rw [State.timeSet_ahead hvalid hv hd] at hcommand hclock
    refine ⟨_, congrArg Host.Outcome.next hcommand, ?_⟩
    dsimp only
    rw [hclock, ← htime]
    exact u.step_clock v
  case behind =>
    intro x c op1 op2 s h hmod hvalid hd
    obtain ⟨u, k, htime, -, -, -, hcommand, -⟩ := h.timeSet hmod
    obtain ⟨hclock, hrst⟩ := (u.timeSet op1.toNat op2.toNat).service_joined_clock x k
    generalize hv : stampWall ⟨op1.toNat, op2.toNat, 0⟩ = v at hd ⊢
    rw [← htime] at hvalid hd
    rw [State.timeSet_behind hvalid hv hd] at hcommand hclock hrst
    refine ⟨_, congrArg Host.Outcome.next hcommand, ?_⟩
    dsimp only
    rw [hclock, hrst, ← htime]
    exact u.senderEpoch_clock v

end Sys2Proof.Machine
end

section
/-! The probe of a client port (R150, R226), and the return of a port's rail (R328). -/

namespace Sys2Proof.Machine

open Sys2Proof

/-! ### An event logged -/

theorem YarSt.commitLog_nextSeq (y : YarSt) : y.commitLog.nextSeq = y.nextSeq := by
  unfold YarSt.commitLog
  split
  · split <;> rfl
  · rfl

theorem YarSt.persist_nextSeq (y : YarSt) (e : LogEntry) : (y.persist e).nextSeq = y.nextSeq := by
  rw [← y.commitLog_nextSeq]
  unfold YarSt.persist
  dsimp only
  split <;> rfl

/-- Each event takes the next sequence number of the log (R235). -/
theorem State.log_nextSeq (s : State) (code src severity data : Nat) :
    (s.log code src severity data).yar.nextSeq = (s.yar.nextSeq + 1) % 2 ^ 24 := by
  simp only [State.log, State.modYar_yar]
  repeat' split
  all_goals simp only [YarSt.persist_nextSeq]
  all_goals rfl

/-! ### The end of the probe -/

theorem State.latchStartup_port (s : State) (x : Port) : s.latchStartup.port x = s.port x := by
  unfold State.latchStartup
  split <;> simp

/-- Whether a probe leaves its port to a client: MODE 01h, or MODE 02h and a client found (R150). -/
def PortSt.takesClient (p : PortSt) (detected : Bool) : Prop := p.mode = 1 ∨ (p.mode = 2 ∧ detected = true)

/-- A port as its probe has ended. -/
def PortSt.probed (p : PortSt) (detected : Bool) : PortSt := { p with probing := none, probe := bnat detected }

/-- A port that its probe leaves to a client: ISOLATED, with its termination and its attention bit (R150, R226). -/
def PortSt.isolatedAfterProbe (p : PortSt) (detected : Bool) (z : Nat) : PortSt :=
  { p.probed detected with state := .isolated, odtInUse := probeOdt p.odt detected z,
                           attnCause := p.attnCause ||| (1#32 <<< 13) }

section
variable {x : Port} {a dt z : Nat} {detected : Bool} {s : State}

/-- A probe that has run for `span` once TIMECLK has advanced. -/
theorem State.advance_probed {span : Nat} (hprobing : (s.port x).probing = some a) (hdue : a + span ≤ s.now + 1250 * dt) :
    ((s.advance dt).port x).probing.any (fun a => decide (a + span ≤ (s.advance dt).now)) = true := by
  simp [hprobing, hdue]

/-- A probe that has run its 200 µs leaves its port to the client. -/
theorem execProbeEnd_taken (hprobing : (s.port x).probing = some a) (hdue : a + us 200 ≤ s.now + 1250 * dt)
    (h : (s.port x).takesClient detected) :
    ∃ t, execProbeEnd dt x detected z s = .next t ∧ t.port x = (s.port x).isolatedAfterProbe detected z := by
  refine ⟨_, rfl, ?_⟩
  rw [if_pos (State.advance_probed hprobing hdue), State.latchStartup_port, if_pos (by simpa [PortSt.takesClient] using h)]
  simp [State.attn, PortSt.isolatedAfterProbe, PortSt.probed]

/-- A probe that has run its 200 µs for no client only ends. -/
theorem execProbeEnd_notTaken (hprobing : (s.port x).probing = some a) (hdue : a + us 200 ≤ s.now + 1250 * dt)
    (h : ¬(s.port x).takesClient detected) :
    ∃ t, execProbeEnd dt x detected z s = .next t ∧ t.port x = (s.port x).probed detected := by
  refine ⟨_, rfl, ?_⟩
  rw [if_pos (State.advance_probed hprobing hdue), State.latchStartup_port, if_neg (by simpa [PortSt.takesClient] using h)]
  simp [PortSt.probed]

end

/-- Settles O30: the probe ends as `execProbeEnd_taken` and `execProbeEnd_notTaken` say, and the return of the rail is logged. -/
theorem probeEnds : Obligations.ProbeEnds := by
  unfold Obligations.ProbeEnds
  refine ⟨?isolated, ?off, ?railReturned⟩
  case isolated =>
    intro dt x detected z a s hprobing hdue hmode
    obtain ⟨t, hexec, hport⟩ := execProbeEnd_taken (z := z) hprobing hdue hmode
    refine ⟨t, hexec, ?_⟩
    dsimp only
    rw [hport]
    exact ⟨rfl, rfl, rfl, rfl, by simp [PortSt.isolatedAfterProbe]⟩
  case off =>
    intro dt x z a s hprobing hdue hmode
    obtain ⟨t, hexec, hport⟩ := execProbeEnd_notTaken (detected := false) (z := z) hprobing hdue
      (by simp [PortSt.takesClient, hmode])
    refine ⟨t, hexec, ?_⟩
    dsimp only
    rw [hport]
    exact ⟨rfl, rfl, rfl⟩
  case railReturned =>
    intro x s hserving hoff hmode hup
    have hstart : ((s.modPort x fun p => { p with rail := true }).startProbe x) =
        (s.modPort x fun p => { p with rail := true }).modPort x fun p => { p with probing := some s.now } := by
      rw [State.startProbe, if_pos (by simpa [hoff, State.portUp, State.blockUp] using hup), State.modPort_now]
    refine ⟨_, rfl, ?_⟩
    dsimp only
    rw [if_pos (by simpa using hserving), if_pos (by simpa using hmode), hstart, State.log_port, State.log_nextSeq]
    simp

end Sys2Proof.Machine
end

section
/-! What the engine of the channels and the service of one port leave of the other port, of the object dictionary's service, of
firmware and of the resets (R49, R147): attention, and how the accepted commands are decided, apart. -/

namespace Sys2Proof.Machine

open Sys2Proof

/-- The object dictionary's service, firmware, the resets, and a port apart from its attention and from how its accepted commands
are decided. -/
structure Aside where
  od : OdSt
  yar : YarSt
  rst : RstSt
  port : PortSt
  commands : Nat

/-- What stands beside the channels' engine, and beside the service of the other port. -/
def State.aside (s : State) (x : Port) : Aside :=
  { od := s.od, yar := s.yar, rst := s.rst, port := { s.port x with attnCause := 0, attnChannels := 0, q := [] }
    commands := (s.port x).q.length }

section
variable {x : Port}

theorem State.aside_of_same {s t : State} (hod : t.od = s.od := by simp) (hyar : t.yar = s.yar := by simp)
    (hrst : t.rst = s.rst := by simp) (hport : t.port x = s.port x := by simp) : t.aside x = s.aside x := by
  simp only [State.aside, hod, hyar, hrst, hport]

@[simp] theorem State.aside_ite (c : Prop) [Decidable c] (s t : State) :
    (if c then s else t).aside x = if c then s.aside x else t.aside x := by
  split <;> rfl

theorem State.aside_of_ite {a : Aside} {c : Prop} [Decidable c] {s t : State} (hs : s.aside x = a) (ht : t.aside x = a) :
    (if c then s else t).aside x = a := by
  split
  · exact hs
  · exact ht

/-! ### Elementary changes -/

@[simp] theorem State.modCh_aside (s : State) (n : Fin 20) (f : Chan → Chan) : (s.modCh n f).aside x = s.aside x :=
  State.aside_of_same

@[simp] theorem State.modCnt_aside (s : State) (n : Fin 20) (f : ChCounters → ChCounters) : (s.modCnt n f).aside x = s.aside x :=
  State.aside_of_same

@[simp] theorem State.modMem_aside (s : State) (f : MemSt → MemSt) : (s.modMem f).aside x = s.aside x := State.aside_of_same

@[simp] theorem State.modTansy_aside (s : State) (f : TansySt → TansySt) : (s.modTansy f).aside x = s.aside x :=
  State.aside_of_same rfl rfl rfl (by cases x <;> rfl)

@[simp] theorem State.modTwin_aside (s : State) (f : TwinSt → TwinSt) : (s.modTwin f).aside x = s.aside x := State.aside_of_same

@[simp] theorem State.active_aside (s : State) : s.active.aside x = s.aside x := State.aside_of_same

@[simp] theorem State.announce_aside (s : State) (type : Nat) (body : List Byte) : (s.announce type body).aside x = s.aside x :=
  State.aside_of_same

@[simp] theorem State.clover_aside (s : State) (type : Nat) (body : List Byte) : (s.clover type body).aside x = s.aside x :=
  State.aside_of_same

@[simp] theorem State.modPort_other_aside (s : State) (f : PortSt → PortSt) :
    (s.modPort (otherPort x) f).aside x = s.aside x :=
  State.aside_of_same (hport := s.modPort_port_other f (by cases x <;> decide))

/-- A change of a port's attention. -/
theorem State.modPort_aside (s : State) (y : Port) {f : PortSt → PortSt} (hq : ∀ p, (f p).q.length = p.q.length)
    (hf : ∀ p, { f p with attnCause := 0, attnChannels := 0, q := [] } = { p with attnCause := 0, attnChannels := 0, q := [] }) :
    (s.modPort y f).aside x = s.aside x := by
  by_cases hy : y = x
  · subst hy
    simp only [State.aside, State.modPort_port_same, hq, hf]
    simp
  · exact State.aside_of_same (hport := s.modPort_port_other f fun h => hy h.symm)

@[simp] theorem State.attn_aside (s : State) (y : Port) (bit : Nat) : (s.attn y bit).aside x = s.aside x :=
  s.modPort_aside y (fun _ => rfl) fun _ => rfl

@[simp] theorem State.attnCh_aside (s : State) (n : Fin 20) (bit : Nat) : (s.attnCh n bit).aside x = s.aside x := by
  have hat : ∀ (t : State) (y : Port), (t.attnChAt y n bit).aside x = t.aside x :=
    fun t y => t.modPort_aside y (fun _ => rfl) fun _ => rfl
  simp [State.attnCh, hat]

@[simp] theorem State.presetPending_aside (s : State) (n : Fin 20) (stat : Nat) :
    (s.presetPending n stat).aside x = s.aside x := by
  simp [State.presetPending, State.modPort_aside]

/-! ### The channel engine -/

@[simp] theorem State.autoRelease_aside (s : State) (n : Fin 20) : (s.autoRelease n).aside x = s.aside x := State.aside_of_same

@[simp] theorem State.cutHead_aside (s : State) (n : Fin 20) : (s.cutHead n).aside x = s.aside x := State.aside_of_same

@[simp] theorem State.setHold_aside (s : State) (n : Fin 20) (h : Bool) : (s.setHold n h).aside x = s.aside x := State.aside_of_same

@[simp] theorem State.evalHold_aside (s : State) (n : Fin 20) : (s.evalHold n).aside x = s.aside x := State.aside_of_same

@[simp] theorem State.sendCredits_aside (s : State) : s.sendCredits.aside x = s.aside x := by
  simp [State.sendCredits]

@[simp] theorem State.evalCredit_aside (s : State) (n : Fin 20) : (s.evalCredit n).aside x = s.aside x := State.aside_of_same

@[simp] theorem State.freeSenderRecords_aside (s : State) (n : Fin 20) : (s.freeSenderRecords n).aside x = s.aside x :=
  State.aside_of_same

@[simp] theorem State.ridle_aside (s : State) (n : Fin 20) : (s.ridle n).aside x = s.aside x := State.aside_of_same

@[simp] theorem State.refreshFlow_aside (s : State) (n : Fin 20) : (s.refreshFlow n).aside x = s.aside x := State.aside_of_same

@[simp] theorem State.stopChannel_aside (s : State) (n : Fin 20) : (s.stopChannel n).aside x = s.aside x := State.aside_of_same

@[simp] theorem State.dropOpen_aside (s : State) (n : Fin 20) : (s.dropOpen n).aside x = s.aside x := State.aside_of_same

@[simp] theorem State.chFault_aside (s : State) (n : Fin 20) (cause : Nat) : (s.chFault n cause).aside x = s.aside x := by
  simp [State.chFault]

@[simp] theorem State.trim_aside (s : State) (n : Fin 20) : (s.trim n).aside x = s.aside x := by
  simp [State.trim]

@[simp] theorem State.settle_aside (s : State) (n : Fin 20) : (s.settle n).aside x = s.aside x := by
  simp [State.settle]

@[simp] theorem State.performFlush_aside (s : State) (n : Fin 20) : (s.performFlush n).aside x = s.aside x := by
  simp [State.performFlush]

@[simp] theorem State.flushIfDue_aside (s : State) (n : Fin 20) : (s.flushIfDue n).aside x = s.aside x := by
  simp [State.flushIfDue]

@[simp] theorem State.discardOpen_aside (s : State) (n : Fin 20) : (s.discardOpen n).aside x = s.aside x := by
  simp [State.discardOpen]

@[simp] theorem State.observePass_aside (s : State) (n : Fin 20) (frame : Nat) : (s.observePass n frame).aside x = s.aside x := by
  unfold State.observePass
  split <;> simp [State.passStandin]

@[simp] theorem State.finishPacket_aside (s : State) (k : PCmd) : (s.finishPacket k).aside x = s.aside x := by
  unfold State.finishPacket
  split
  · rfl
  · dsimp only
    split <;> simp

/-! ### Reads of the directory and of the array -/

@[simp] theorem State.readDir_aside (s : State) (n : Fin 20) (flips : Nat) : (s.readDir n flips).2.aside x = s.aside x := by
  unfold State.readDir
  split
  · rfl
  · split <;> simp

@[simp] theorem State.readLen_aside (s : State) (n : Fin 20) (p : Ptr) : (s.readLen n p).2.aside x = s.aside x := by
  unfold State.readLen
  split <;> simp

@[simp] theorem State.readDirEntry_aside (s : State) (n : Fin 20) (r : FrameRec) (k : Nat) :
    (s.readDirEntry n r k).2.aside x = s.aside x := by
  unfold State.readDirEntry
  split <;> simp

@[simp] theorem State.readHistory_aside (s : State) (n : Fin 20) (r : FrameRec) (k : Nat) :
    (s.readHistory n r k).2.aside x = s.aside x := by
  unfold State.readHistory
  split <;> simp

@[simp] theorem State.cutAll_aside (s : State) (n : Fin 20) : (s.cutAll n).aside x = s.aside x := by
  simp [State.cutAll]

@[simp] theorem State.countUe_aside (s : State) (n : Fin 20) : (s.countUe n).aside x = s.aside x := by
  simp [State.countUe]

@[simp] theorem State.assignPseq_aside (s : State) (n : Fin 20) (frame : Nat) : (s.assignPseq n frame).aside x = s.aside x := by
  simp [State.assignPseq]

@[simp] theorem State.passStandin_aside (s : State) (n : Fin 20) (slice frame : Nat) :
    (s.passStandin n slice frame).aside x = s.aside x := s.modTwin_aside _

@[simp] theorem State.countRead_aside (s : State) (l : Loc) (p : Nat) (r : WordRd) : (s.countRead l p r).aside x = s.aside x :=
  State.aside_of_same

@[simp] theorem State.noteRead_aside (s : State) (l : Loc) (p : Nat) (r : WordRd) : (s.noteRead l p r).aside x = s.aside x := by
  simp [State.noteRead, State.setLastUe, State.queueRepair]

@[simp] theorem State.ringWordAs_aside (s : State) (n : Fin 20) (counts : Bool) :
    (s.ringWordAs n counts).2.aside x = s.aside x := by
  unfold State.ringWordAs
  split
  · rfl
  · dsimp only
    repeat' split
    all_goals simp

@[simp] theorem State.takeRing_aside (s : State) (n : Fin 20) (pkt : Bool) (fuel want : Nat) :
    (s.takeRing n pkt fuel want).2.2.aside x = s.aside x := by
  induction fuel generalizing s want with
  | zero => rfl
  | succ fuel ih =>
    have hword : (s.ringWord n).2.aside x = s.aside x := s.ringWordAs_aside n true
    unfold State.takeRing
    split
    next t hring => rwa [hring] at hword
    next w t hring =>
      rw [hring] at hword
      by_cases hlast : (w.cut || (if pkt then w.last else want == 1)) = true
      · rw [if_pos hlast]
        exact hword
      · rw [if_neg hlast]
        exact (ih t (want - 1)).trans hword

@[simp] theorem State.peekRing_aside (s : State) (n : Fin 20) (past fuel : Nat) :
    (s.peekRing n past fuel).2.2.aside x = s.aside x := by
  unfold State.peekRing
  dsimp only
  split
  · simp
  · exact State.aside_of_same rfl rfl rfl (by cases x <;> rfl)

/-! ### Slices -/

@[simp] theorem State.sliceWords_aside (s : State) (n : Fin 20) (count : Bool) (len total fuel i : Nat) (p : Ptr) :
    (s.sliceWords n count len total fuel i p).2.aside x = s.aside x := by
  induction fuel generalizing s i p with
  | zero => rfl
  | succ fuel ih => simp [State.sliceWords, ih]

@[simp] theorem State.noteWords_aside (s : State) (n : Fin 20) (k : Nat) (p : Ptr) :
    (s.noteWords n k p).aside x = s.aside x := by
  induction k generalizing s p with
  | zero => rfl
  | succ k ih => simp [State.noteWords, ih]

@[simp] theorem State.beginFrame_aside (s : State) (n : Fin 20) (i : Fin 3) : (s.beginFrame n i).aside x = s.aside x := by
  simp [State.beginFrame]

@[simp] theorem State.standinWords_aside (s : State) (n : Fin 20) (i : Fin 3) (k : Nat) (hist : Option SliceEntry)
    (cause : Nat) (count : Bool) : (s.standinWords n i k hist cause count).2.aside x = s.aside x := by
  cases hist <;> simp [State.standinWords]

@[simp] theorem State.storedWords_aside (s : State) (n : Fin 20) (i : Fin 3) (e : SliceEntry) (count : Bool) :
    (s.storedWords n i e count).2.aside x = s.aside x := by
  simp [State.storedWords]

@[simp] theorem State.announceStandin_aside (s : State) (n : Fin 20) (history : Bool) (cause slice frame : Nat) :
    (s.announceStandin n history cause slice frame).aside x = s.aside x := by
  simp [State.announceStandin]

@[simp] theorem State.takeAnnounced_aside (s : State) (n : Fin 20) (i : Fin 3) (k : Nat) (a : Bool × Nat) :
    (s.takeAnnounced n i k a).2.aside x = s.aside x := by
  unfold State.takeAnnounced
  dsimp only
  repeat' split
  all_goals simp

@[simp] theorem State.takeSlice_aside (s : State) (n : Fin 20) : (s.takeSlice n).2.aside x = s.aside x := by
  unfold State.takeSlice
  dsimp only
  repeat' split
  all_goals simp

@[simp] theorem State.peekSlice_aside (s : State) (n : Fin 20) (past : Nat) : (s.peekSlice n past).2.aside x = s.aside x := by
  have hentry : ∀ e, (s.noteEntry n e past).aside x = s.aside x := fun e => s.noteWords_aside ..
  have hnote : ∀ e : Option SliceEntry, ((e.map fun e => s.noteEntry n e past).getD s).aside x = s.aside x := by
    intro e
    cases e <;> simp [hentry]
  unfold State.peekSlice
  dsimp only
  repeat' split
  all_goals simp [hentry, hnote]

/-! ### The service of the other port -/

@[simp] theorem State.takeWords_aside (s : State) (n : Fin 20) (k : PCmd) : (s.takeWords n k).2.2.aside x = s.aside x := by
  unfold State.takeWords
  dsimp only
  repeat' split
  all_goals simp

@[simp] theorem State.launch_other_aside (s : State) (b : Beat) : (s.launch (otherPort x) b).aside x = s.aside x := by
  simp [State.launch]

@[simp] theorem State.updCmd_other_aside (s : State) (k k' : PCmd) : (s.updCmd (otherPort x) k k').aside x = s.aside x :=
  s.modPort_other_aside _

@[simp] theorem State.finish_other_aside (s : State) (k : PCmd) (b : Beat) :
    (s.finish (otherPort x) k b).aside x = s.aside x := by
  have hidle : ∀ t : State, t.idleAnew.aside x = t.aside x := fun t => State.aside_of_same
  simp [State.finish, hidle]

@[simp] theorem State.finishStat_other_aside (s : State) (k : PCmd) (stat : Nat) :
    (s.finishStat (otherPort x) k stat).aside x = s.aside x :=
  s.finish_other_aside k _

@[simp] theorem State.attnUncorr_aside (s : State) (y : Port) (k : PCmd) (w : RWord) :
    (s.attnUncorr y k w).aside x = s.aside x := by
  simp [State.attnUncorr]

@[simp] theorem State.emitWords_other_aside (s : State) (k : PCmd) (fin : Bool) (ws : List RWord) :
    (s.emitWords (otherPort x) k fin ws).aside x = s.aside x := by
  induction ws generalizing s with
  | nil => rfl
  | cons w t ih =>
    cases t with
    | nil => simp [State.emitWords]
    | cons v t => simp [State.emitWords, ih]

@[simp] theorem State.readCompleted_aside (s : State) (n : Fin 20) : (s.readCompleted n).aside x = s.aside x := by
  simp [State.readCompleted]

@[simp] theorem State.serveRead_other_aside (s : State) (n : Fin 20) (k : PCmd) :
    (s.serveRead (otherPort x) n k).aside x = s.aside x := by
  simp [State.serveRead]

@[simp] theorem State.retryWaiting_other_aside (s : State) (n : Fin 20) :
    (s.retryWaiting (otherPort x) n).aside x = s.aside x := by
  unfold State.retryWaiting
  split <;> simp

@[simp] theorem State.chCmd_aside (s : State) (n : Fin 20) (opc : Nat) (target : Bool) :
    (s.chCmd n opc target).aside x = s.aside x := by
  unfold State.chCmd
  dsimp only
  repeat' split
  all_goals simp

@[simp] theorem State.scratchAnnounced_aside (s : State) (m : Fin 6) (o : Owner) (opc area unit v cseq : Nat) :
    (s.scratchAnnounced m o opc area unit v cseq).2.2.aside x = s.aside x := by
  have hrefused : (s.countRefused m).aside x = s.aside x := s.modMem_aside _
  have hmirror : ∀ (t : State) (l : Loc) (f : MemSt → Nat → MemSt), (t.mirrorWrite l f).aside x = t.aside x := by
    intro t l f
    unfold State.mirrorWrite State.mirrorPhys
    split <;> simp
  have hop : (s.scratchOp m opc area unit v).2.2.aside x = s.aside x := by
    unfold State.scratchOp
    dsimp only
    repeat' split
    all_goals simp [hrefused, hmirror]
  simp [State.scratchAnnounced, State.announceAtomic, hop]

@[simp] theorem State.lockOp_aside (s : State) (o : Owner) (opc slot cseq : Nat) :
    (s.lockOp o opc slot cseq).2.aside x = s.aside x := by
  obtain ⟨st, m, hslot, -⟩ := s.slotOp_lockUnitOnly o opc slot
  have hmem : ({ s with mem := m } : State).aside x = s.aside x := s.modMem_aside fun _ => m
  rw [State.lockOp_of_slot cseq hslot]
  simp [State.announceAtomic, hmem]

@[simp] theorem State.emitTrain_other_aside (s : State) (k : PCmd) (ws : List (List Byte)) :
    (s.emitTrain (otherPort x) k ws).aside x = s.aside x := by
  induction ws generalizing s with
  | nil => simp [State.emitTrain]
  | cons w t ih =>
    cases t with
    | nil => simp [State.emitTrain]
    | cons v t => simp [State.emitTrain, ih]

theorem State.statusCmd_other_aside {s t : State} {k : PCmd} {page : List Byte}
    (h : s.statusCmd (otherPort x) k = some (page, t)) : t.aside x = s.aside x := by
  obtain rfl | ⟨f, rfl, -⟩ := State.statusCmd_some h
  · rfl
  · simp

@[simp] theorem State.execCmd_other_aside (s : State) (k : PCmd) : (s.execCmd (otherPort x) k).aside x = s.aside x := by
  unfold State.execCmd
  split
  · simp
  · refine State.aside_of_ite (by simp) (State.aside_of_ite ?read (State.aside_of_ite ?chCmd (State.aside_of_ite (by simp)
      (State.aside_of_ite (by simp) (State.aside_of_ite (by simp) (State.aside_of_ite ?status (by simp)))))))
    case read =>
      repeat' split
      all_goals simp
    case chCmd =>
      repeat' split
      all_goals simp
    case status =>
      split
      next hpage => rw [State.finish_other_aside, State.statusCmd_other_aside hpage]
      · simp

@[simp] theorem State.service_other_aside (s : State) : (s.service (otherPort x)).aside x = s.aside x := by
  have hn : ∀ (fuel : Nat) (t : State), (t.serviceN (otherPort x) fuel).aside x = t.aside x := by
    intro fuel
    induction fuel with
    | zero => exact fun t => rfl
    | succ fuel ih =>
      intro t
      unfold State.serviceN
      split <;> simp [ih]
  simp [State.service, hn]

end

end Sys2Proof.Machine
end

section
/-! A write of MODE of a client port (R147, R150). -/

namespace Sys2Proof.Machine

open Sys2Proof

/-! ### The isolation of a port (R147) -/

section
variable {x : Port}

theorem State.forChans_aside {s : State} {f : Fin 20 → State → State} (h : ∀ n t, (f n t).aside x = t.aside x) :
    (s.forChans f).aside x = s.aside x :=
  State.forChans_keeps (P := fun t => t.aside x = s.aside x) (fun n t ht => (h n t).trans ht) rfl

theorem State.finishPackets_aside (s : State) (ks : List PCmd) :
    (ks.foldl (fun s k => s.finishPacket k) s).aside x = s.aside x := by
  induction ks generalizing s with
  | nil => rfl
  | cons k ks ih => exact (ih _).trans (s.finishPacket_aside k)

theorem State.queue_of_aside {s t : State} (h : t.aside x = s.aside x) (hq : (s.port x).q = []) : (t.port x).q = [] := by
  have hcount : (t.port x).q.length = (s.port x).q.length := congrArg Aside.commands h
  exact List.eq_nil_of_length_eq_zero (hcount.trans (by rw [hq]; rfl))

/-- What a channel's FAULT completes at the other port leaves a port that has no command (R49). -/
theorem State.serveFaults_aside {s : State} (hq : (s.port x).q = []) (s0 : State) : (s.serveFaults s0).aside x = s.aside x := by
  have hports : s.servicePorts.aside x = s.aside x := by
    unfold State.servicePorts
    cases x with
    | A =>
      rw [State.service_of_idle hq]
      exact State.service_other_aside (x := .A) s
    | B =>
      have hother : (s.service .A).aside .B = s.aside .B := State.service_other_aside (x := .B) s
      rw [State.service_of_idle (State.queue_of_aside hother hq), hother]
  simp [State.serveFaults, hports]

@[simp] theorem State.chainPortAnew_aside (s : State) : s.chainPortAnew.aside x = s.aside x := by
  unfold State.chainPortAnew
  dsimp only
  split <;> simp

/-- The ends of its reads and of its open packets leave a port as its own change makes it. -/
theorem State.cutOff_aside (s : State) (f : PortSt → PortSt) :
    ∃ u : State, u.aside x = s.aside x ∧ (s.cutOff x f).aside x = (u.modPort x f).aside x := by
  refine ⟨_, s.finishPackets_aside ((s.port x).q.filter fun k => !k.decoder), State.forChans_aside fun n t => ?_⟩
  rw [State.aside_ite, State.discardOpen_aside, ite_self]

/-- What an isolation makes of its port, its state apart: no command, no selection, and write refusal (R147). -/
structure Refusing (p q : PortSt) : Prop where
  mode : q.mode = p.mode
  queue : q.q = []
  wsel : q.wsel = none
  refusing : q.writeRefusal = true

theorem Refusing.of_aside {s t : State} {p : PortSt} (h : t.aside x = s.aside x) (hs : Refusing p (s.port x)) :
    Refusing p (t.port x) := by
  obtain ⟨hmode, hqueue, hwsel, hrefusing⟩ := hs
  exact ⟨(congrArg (·.port.mode) h).trans hmode, State.queue_of_aside h hqueue, (congrArg (·.port.wsel) h).trans hwsel,
    (congrArg (·.port.writeRefusal) h).trans hrefusing⟩

theorem Answering.of_aside {s t : State} (h : t.aside x = s.aside x) : Answering s t :=
  ⟨congrArg Aside.od h, congrArg Aside.yar h, congrArg Aside.rst h⟩

theorem Answering.trans {s t u : State} (h : Answering s t) (h' : Answering t u) : Answering s u :=
  ⟨h'.od.trans h.od, h'.yar.trans h.yar, h'.resets.trans h.resets⟩

theorem Answering.modPort (s : State) (y : Port) (f : PortSt → PortSt) : Answering s (s.modPort y f) :=
  ⟨by simp, by simp, by simp⟩

/-- An isolation refuses what follows at its port, and what answers requests stands. -/
theorem State.isolate_refusing (s : State) (x : Port) :
    Refusing (s.port x) ((s.isolate x).port x) ∧ Answering s (s.isolate x) := by
  obtain ⟨f, hf, hisolate⟩ : ∃ f : PortSt → PortSt, (∀ p, Refusing p (f p)) ∧ s.isolate x =
      (((((s.cutOff x f).freeLocks (portOwner x)).attn x 13).portEvt x 6
        ((s.cutOff x f).port x).lastAccepted.toNat).active.serveFaults s).chainPortAnew := by
    refine ⟨_, ?_, rfl⟩
    exact fun p => ⟨rfl, rfl, rfl, rfl⟩
  obtain ⟨u, hu, hcut⟩ := s.cutOff_aside (x := x) f
  have hkept : ∀ (v : State) (lastAccepted : Nat),
      ((((v.freeLocks (portOwner x)).attn x 13).portEvt x 6 lastAccepted).active).aside x = v.aside x := by
    intro v lastAccepted
    have hlocks : (v.freeLocks (portOwner x)).aside x = v.aside x := v.modMem_aside _
    have hevent : ∀ w : State, (w.portEvt x 6 lastAccepted).aside x = w.aside x := fun w => State.aside_of_same
    rw [State.active_aside, hevent, State.attn_aside, hlocks]
  have haside : (s.isolate x).aside x = (u.modPort x f).aside x := by
    rw [hisolate, State.chainPortAnew_aside, State.serveFaults_aside, hkept, hcut]
    refine State.queue_of_aside ((hkept _ _).trans hcut) ?_
    rw [State.modPort_port_same]
    exact (hf _).queue
  have hmodes : (u.port x).mode = (s.port x).mode := congrArg (fun a => a.port.mode) hu
  refine ⟨.of_aside haside ?_, (Answering.of_aside hu).trans ((Answering.modPort u x f).trans (.of_aside haside))⟩
  obtain ⟨hmode, hqueue, hwsel, hrefusing⟩ := hf (u.port x)
  rw [State.modPort_port_same]
  exact ⟨hmode.trans hmodes, hqueue, hwsel, hrefusing⟩

end

/-! ### MODE (R150) -/

/-- A port taken OFF from another state has been isolated. -/
theorem State.applyPortMode_off {s : State} {x : Port} (hstate : (s.port x).state ≠ .off) :
    ((s.applyPortMode x 0).port x).mode = 0 ∧ ((s.applyPortMode x 0).port x).state = .off ∧
    ((s.applyPortMode x 0).port x).q = [] ∧ ((s.applyPortMode x 0).port x).writeRefusal = true ∧
    ((s.applyPortMode x 0).port x).wsel = none ∧ Answering s (s.applyPortMode x 0) := by
  let u := s.modPort x fun p => { p with mode := 0 }
  have hoff : s.applyPortMode x 0 = (u.isolate x).modPort x fun p => { p with state := .off, probing := none } := by
    simp [State.applyPortMode, State.portOff, u, hstate]
  obtain ⟨⟨hmode, hqueue, hwsel, hrefusing⟩, hanswer⟩ := u.isolate_refusing x
  rw [hoff, State.modPort_port_same]
  exact ⟨hmode.trans (by simp [u]), rfl, hqueue, hrefusing, hwsel,
    (Answering.modPort s x _).trans (hanswer.trans (.modPort _ x _))⟩

/-- A port that is OFF starts its probe, where its block runs and its rail is in range. -/
theorem State.applyPortMode_on {s : State} {x : Port} {v : Nat} (hv : v ≠ 0) (hstate : (s.port x).state = .off)
    (hup : s.portUp x = true) (hrail : (s.port x).rail = true) :
    s.applyPortMode x v = s.modPort x fun p => { p with mode := v, probing := some s.now } := by
  have hmods : ∀ f g : PortSt → PortSt, (s.modPort x f).modPort x g = s.modPort x fun p => g (f p) := by
    intro f g
    cases x <;> rfl
  have hup' : (s.modPort x fun p => { p with mode := v }).portUp x = true := by simpa [State.portUp, State.blockUp] using hup
  simp [State.applyPortMode, hv, hstate, State.startProbe, hup', hrail, hmods]

theorem portMode_value {x : Port} {row : Row} (h : (Obj.portCfg x).row 1 = some row) (v : Byte) :
    (row.ty.value [v]).toNat = v.toNat := by
  obtain rfl : (⟨0x01, .uint 1, .rws, 2, .span 0 2⟩ : Row) = row := Option.some.inj h
  simp [OTy.value, leNat]

/-- A served WRITE of MODE leaves the port as the mode does, and is recorded. -/
theorem portMode_answered {h : OdHead} {x : Port} {v : Byte} {s t : State} (hs : OdServed h 2 (0x3000 + portPlace x) 1 [v] s)
    (hmode : s.atRequest.applyPortMode x v.toNat = t) (hanswer : Answering s.atRequest t) :
    (s.odWrite h (0x3000 + portPlace x) 1 [v]).port x = t.port x ∧
      Recorded h 0 (s.odWrite h (0x3000 + portPlace x) 1 [v]) := by
  obtain ⟨-, -, hup, -, hserve, -, htask, -⟩ := hs.1
  obtain ⟨hod, hyar, hrst⟩ := hanswer
  have hob : objOf (0x3000 + portPlace x) = some (.portCfg x) := by cases x <;> rfl
  have hstatus : (t.statusIfChanged s.atRequest true).port x = t.port x := by
    unfold State.statusIfChanged
    split <;> simp
  obtain ⟨m, img, hx, hrec⟩ := odWrite_answered (t := t.statusIfChanged s.atRequest true) (c := 0) hs hob
    (fun row hrow => by
      simp only [State.writeEntry, State.writeValue, State.writePortCfg, ok, portMode_value hrow, hmode])
    (by simp [hod, htask]) (by simp [hyar, hserve])
    (by simpa [State.blockUp, hrst] using State.blockUp_of_mailboxUp hup) (by decide)
  rw [hx]
  exact ⟨by rw [State.answered_port, hstatus], hrec⟩

/-- Settles O34: MODE of a port that is OFF starts the probe, and MODE 00h isolates before it takes the port OFF. -/
theorem portModeWrites : Obligations.PortModeWrites := by
  unfold Obligations.PortModeWrites
  refine ⟨?on, ?off⟩
  case on =>
    intro h x v s hs hv hstate hup hrail
    have hv' : v.toNat ≠ 0 := fun h0 => hv (BitVec.eq_of_toNat_eq h0)
    have hmode := State.applyPortMode_on (s := s.atRequest) (x := x) hv' (by simpa using hstate)
      (by simpa [State.portUp, State.blockUp] using hup) (by simpa using hrail)
    obtain ⟨hport, hrec⟩ := portMode_answered hs hmode ⟨by simp, by simp, by simp⟩
    refine ⟨_, rfl, ?_⟩
    dsimp only
    rw [hport, State.modPort_port_same, State.atRequest_port]
    exact ⟨rfl, by simp, hstate, hrec⟩
  case off =>
    intro h x s hs hstate
    obtain ⟨hmode, hoff, hqueue, hrefusing, hwsel, hanswer⟩ := State.applyPortMode_off (s := s.atRequest) (x := x)
      (by simpa using hstate)
    obtain ⟨hport, hrec⟩ := portMode_answered hs rfl hanswer
    refine ⟨_, rfl, ?_⟩
    dsimp only
    rw [hport]
    exact ⟨hmode, hoff, hqueue, hrefusing, hwsel, hrec⟩

end Sys2Proof.Machine
end

section
/-! ENABLE := 0 of a link that has a BYE of another rank waiting (R172, R177). -/

namespace Sys2Proof.Machine

open Sys2Proof

/-- A device that runs and serves, with the link UP, where a BYE waits in rank 5, behind the rank 4 of R177 that the copies of
a BYE leave from. -/
def byeBehind : State :=
  { State.reset with
    rst := { State.reset.rst with phase := .running, blockReset := 0, yarBooted := true }
    yar := { State.reset.yar with serving := true }
    link := { State.reset.link with state := .up, strict := [⟨5, plainFrame 13 [3#8] []⟩] } }

/-- What ENABLE := 0 makes of it. -/
def byeGone : State := byeBehind.atRequest.applyLinkEnable false

/-- Frames leave until no BYE waits: the one behind leaves too, after the three copies. -/
theorem byeGone_sent : byeGone.link.sent =
    [plainFrame 13 [4#8] [], plainFrame 13 [4#8] [], plainFrame 13 [4#8] [], plainFrame 13 [3#8] []] := by
  decide +kernel

theorem linkEnable_byeBehind : ∃ t, exec (.linkEnable pairHead 0#8) byeBehind = .next t ∧ t.link.sent = byeGone.link.sent := by
  have hserved : OdServed pairHead 2 0x4000 1 [0#8] byeBehind := by decide
  have hstatus : byeGone.statusIfChanged byeBehind.atRequest true = byeGone := if_neg fun h => absurd h.1 (by decide)
  obtain ⟨m, img, hx, -⟩ := odWrite_answered (t := byeGone) (c := 0) hserved (objOf_index .linkCfg)
    (fun row hrow => by
      obtain rfl : (⟨0x01, .bool, .rws, 2, .span 0 1⟩ : Row) = row := Option.some.inj hrow
      exact congrArg (Prod.mk 0) hstatus)
    (by decide +kernel) (by decide +kernel) (by decide +kernel) (by decide)
  exact ⟨_, congrArg Host.Outcome.next hx, by simp⟩

/-- Refutes O42: the clause of ENABLE := 0 takes any strict frames that wait, and where one of them is a BYE of a later rank, it
leaves after the three copies, which then are not the last frames sent. -/
theorem not_linkActions : ¬ Obligations.LinkActions := by
  unfold Obligations.LinkActions
  rintro ⟨-, hbye, -⟩
  obtain ⟨t, hexec, hsent⟩ := linkEnable_byeBehind
  obtain ⟨u, hu, -, -, ⟨pre, hthrice, -⟩, -⟩ := hbye pairHead byeBehind (by decide) rfl rfl
  obtain rfl : t = u := Host.Outcome.next.inj (hexec.symm.trans hu)
  rw [hsent, byeGone_sent] at hthrice
  have hlast : some (plainFrame 13 [3#8] []) = some (plainFrame 13 [4#8] []) := by
    simpa [List.getLast?_append] using congrArg List.getLast? hthrice
  exact absurd hlast (by decide)

end Sys2Proof.Machine
end

section
/-! LINKRESET of REACH 1 while a port that is OFF has a command to execute (R149, R277). -/

namespace Sys2Proof.Machine

open Sys2Proof

/-- SWR of the value 7 to unit 0 of scratch area 0, accepted and not yet executed. -/
def waitingWrite : PCmd :=
  { opc := 9#5, c := { tag := 0, ch := 0, cseq := 0, mod := 0, par := 0, complete := true }, op1 := 0, op2 := 7, latched := 0,
    delivered := 0, waiting := false, acted := false, preset := none }

/-- A device that runs, with its link in DETECT and a Wall key, one channel active, and at port A, which is OFF, an accepted SWR to
a scratch area that the port may write. -/
def offWithCommand : State :=
  { State.reset.modCh 0 fun c => { c with state := .active } with
    rst := { State.reset.rst with phase := .running, blockReset := 0 }
    pwr := { State.reset.pwr with clkSource := 1 }
    link := { State.reset.link with state := .detect }
    od := { State.reset.od with wallKey := List.replicate 16 7 }
    mem := { State.reset.mem with areas := State.reset.mem.areas.set 0 0x80008000#32,
                                  desc := State.reset.mem.desc.set 0 (Vector.replicate 8 3#32) }
    pA := { State.reset.pA with q := [waitingWrite] } }

/-- Queues of an OFF port stand through the reset, and its SWR is executed as the channels are reset, before MEMCTL is. -/
theorem offWithCommand_cells :
    ((offWithCommand.heard.raiseSb 8).serveFaults offWithCommand).mem.cells ≠ offWithCommand.mem.cells := by
  decide +kernel

/-- A LINKRESET that verifies, of REACH 1, while the link is not UP: the reset of R277 alone. -/
theorem linkreset_reachOne {m : RxMeta} {hdr k : List Byte} {s : State} (htaken : FrameTaken m 8 s) (hkey : s.keyOf 1 = some k)
    (hnonce : leField hdr 10 4 = s.link.nonce) (hreach : leField hdr 8 1 = 1) (hdown : s.linkUp = false) :
    exec (.linkreset m hdr ((hmac k hdr).take 8)) s = .next ((s.heard.raiseSb 8).serveFaults s) := by
  have hkey' : s.heard.keyOf 1 = some k := hkey
  have hdown' : s.heard.linkUp = false := hdown
  have hnonce' : leField hdr 10 4 = s.heard.link.nonce := hnonce
  refine congrArg Host.Outcome.next ((State.received_taken htaken _).trans ?_)
  simp [hkey', hnonce', hreach, State.leaveUp, hdown']

/-- Refutes O47: the clause of a LINKRESET of REACH 1 says that the array stands, and where a port that is OFF has an accepted SWR
in its queue, the reset executes it. -/
theorem not_linkLeavesUp : ¬ Obligations.LinkLeavesUp := by
  unfold Obligations.LinkLeavesUp
  rintro ⟨-, -, -, -, -, hreach, -⟩
  have hexec := linkreset_reachOne (m := ⟨true, true, true⟩) (hdr := linkresetHeader 1 0) (k := List.replicate 16 7)
    (s := offWithCommand) (by decide) (by decide) (by decide) (by decide) (by decide)
  obtain ⟨t, ht, -, -, -, -, -, hcells⟩ := hreach ⟨true, true, true⟩ (linkresetHeader 1 0) _ (List.replicate 16 7)
    offWithCommand (by decide) (by decide +kernel) (by decide) rfl (by decide) (by decide) (by decide)
  obtain rfl := Host.Outcome.next.inj (hexec.symm.trans ht)
  exact offWithCommand_cells hcells

end Sys2Proof.Machine
end

section
/-! What the engine of the channels and the service of the ports leave of the link: its own block, and which channels the peer
has paused (R85). -/

namespace Sys2Proof.Machine

open Sys2Proof

/-- The link's block, and PAUSED of each channel. -/
def State.lineView (s : State) : LinkSt × (Fin 20 → Bool) := (s.link, fun n => (s.chan n).paused)

theorem State.lineView_of_same {s t : State} (hlink : t.link = s.link := by simp) (hch : t.ch = s.ch := by simp) :
    t.lineView = s.lineView := by
  simp only [State.lineView, State.chan, hlink, hch]

theorem State.lineView_ite (c : Prop) [Decidable c] (s t : State) :
    (if c then s else t).lineView = if c then s.lineView else t.lineView := by
  split <;> rfl

theorem State.lineView_of_ite {c : Prop} [Decidable c] {s t u : State} (hs : s.lineView = u.lineView)
    (ht : t.lineView = u.lineView) : (if c then s else t).lineView = u.lineView := by
  split <;> assumption

/-! ### Elementary changes -/

@[simp] theorem Chan.moveLp_paused (c : Chan) (p : Ptr) (pseq : Nat) (pos : Option PktPos) :
    (c.moveLp p pseq pos).paused = c.paused := by
  unfold Chan.moveLp
  split <;> rfl

@[simp] theorem Chan.trim_paused (c : Chan) : c.trim.paused = c.paused := by
  simp only [Chan.trim]

@[simp] theorem Chan.derive_paused (c : Chan) : c.derive.paused = c.paused := by
  simp only [Chan.derive]

@[simp] theorem Chan.clearRecords_paused (c : Chan) : c.clearRecords.paused = c.paused := by
  simp only [Chan.clearRecords]

@[simp] theorem Chan.modRec_paused (c : Chan) (i : Fin 3) (f : FrameRec → FrameRec) : (c.modRec i f).paused = c.paused := by
  simp only [Chan.modRec]

@[simp] theorem Chan.passSlice_paused (c : Chan) (i : Fin 3) : (c.passSlice i).paused = c.paused := by
  unfold Chan.passSlice
  dsimp only
  split
  · rfl
  · split <;> rfl

@[simp] theorem State.modCh_lineView (s : State) (n : Fin 20) {f : Chan → Chan}
    (h : ∀ c, (f c).paused = c.paused) : (s.modCh n f).lineView = s.lineView := by
  have hpaused : ∀ k, ((s.modCh n f).chan k).paused = (s.chan k).paused := by
    intro k
    rw [State.modCh_chan]
    split
    next hk => rw [hk, h]
    · rfl
  simp only [State.lineView, hpaused, State.modCh_link]

@[simp] theorem State.modCnt_lineView (s : State) (n : Fin 20) (f : ChCounters → ChCounters) :
    (s.modCnt n f).lineView = s.lineView := s.modCh_lineView n fun _ => rfl

@[simp] theorem State.modPort_lineView (s : State) (x : Port) (f : PortSt → PortSt) : (s.modPort x f).lineView = s.lineView :=
  State.lineView_of_same

@[simp] theorem State.modMem_lineView (s : State) (f : MemSt → MemSt) : (s.modMem f).lineView = s.lineView := rfl

@[simp] theorem State.modArq_lineView (s : State) (f : ArqSt → ArqSt) : (s.modArq f).lineView = s.lineView := rfl

@[simp] theorem State.modTwin_lineView (s : State) (f : TwinSt → TwinSt) : (s.modTwin f).lineView = s.lineView := rfl

@[simp] theorem State.idleAnew_lineView (s : State) : s.idleAnew.lineView = s.lineView := State.lineView_of_same

@[simp] theorem State.clover_lineView (s : State) (type : Nat) (body : List Byte) : (s.clover type body).lineView = s.lineView :=
  State.lineView_of_same

@[simp] theorem State.announce_lineView (s : State) (type : Nat) (body : List Byte) :
    (s.announce type body).lineView = s.lineView := State.lineView_of_same

@[simp] theorem State.attn_lineView (s : State) (x : Port) (bit : Nat) : (s.attn x bit).lineView = s.lineView :=
  State.lineView_of_same

@[simp] theorem State.attnCh_lineView (s : State) (n : Fin 20) (bit : Nat) : (s.attnCh n bit).lineView = s.lineView :=
  State.lineView_of_same

@[simp] theorem State.presetPending_lineView (s : State) (n : Fin 20) (stat : Nat) :
    (s.presetPending n stat).lineView = s.lineView := State.lineView_of_same

@[simp] theorem State.noteRead_lineView (s : State) (l : Loc) (p : Nat) (r : WordRd) : (s.noteRead l p r).lineView = s.lineView :=
  State.lineView_of_same

@[simp] theorem State.countRead_lineView (s : State) (l : Loc) (p : Nat) (r : WordRd) :
    (s.countRead l p r).lineView = s.lineView := by
  unfold State.countRead
  dsimp only
  repeat' split
  all_goals simp

/-! ### The channel engine -/

@[simp] theorem State.autoRelease_lineView (s : State) (n : Fin 20) : (s.autoRelease n).lineView = s.lineView := by
  unfold State.autoRelease
  dsimp only
  repeat' split
  all_goals simp

@[simp] theorem State.cutHead_lineView (s : State) (n : Fin 20) : (s.cutHead n).lineView = s.lineView := by
  unfold State.cutHead State.passOver State.countCut
  dsimp only
  repeat' split
  all_goals simp

@[simp] theorem State.setHold_lineView (s : State) (n : Fin 20) (h : Bool) : (s.setHold n h).lineView = s.lineView := by
  unfold State.setHold
  dsimp only
  repeat' split
  all_goals simp

@[simp] theorem State.sendCredits_lineView (s : State) : s.sendCredits.lineView = s.lineView := State.lineView_of_same

@[simp] theorem State.evalCredit_lineView (s : State) (n : Fin 20) : (s.evalCredit n).lineView = s.lineView := by
  simp [State.evalCredit, State.lineView_ite]

@[simp] theorem State.dropOpen_lineView (s : State) (n : Fin 20) : (s.dropOpen n).lineView = s.lineView := by
  unfold State.dropOpen
  dsimp only
  split
  · rfl
  · rw [State.modCnt_lineView]
    refine s.modCh_lineView n fun c => ?_
    split <;> rfl

@[simp] theorem State.stopChannel_lineView (s : State) (n : Fin 20) : (s.stopChannel n).lineView = s.lineView := by
  simp [State.stopChannel]

@[simp] theorem State.chFault_lineView (s : State) (n : Fin 20) (cause : Nat) : (s.chFault n cause).lineView = s.lineView := by
  simp [State.chFault, State.lineView_ite]

@[simp] theorem State.trim_lineView (s : State) (n : Fin 20) : (s.trim n).lineView = s.lineView := by
  simp [State.trim, State.lineView_ite]

theorem Chan.foldl_paused {l : List (Fin 3)} {g : Chan → Fin 3 → Chan} (h : ∀ c i, (g c i).paused = c.paused) (c : Chan) :
    (l.foldl g c).paused = c.paused := by
  induction l generalizing c with
  | nil => rfl
  | cons i l ih => exact (ih _).trans (h c i)

@[simp] theorem State.freeSenderRecords_lineView (s : State) (n : Fin 20) : (s.freeSenderRecords n).lineView = s.lineView := by
  unfold State.freeSenderRecords
  split
  · rfl
  · refine s.modCh_lineView n (Chan.foldl_paused fun c i => ?_)
    dsimp only
    split <;> rfl

@[simp] theorem State.ridle_lineView (s : State) (n : Fin 20) : (s.ridle n).lineView = s.lineView := by
  simp [State.ridle, State.lineView_ite]

@[simp] theorem State.refreshFlow_lineView (s : State) (n : Fin 20) : (s.refreshFlow n).lineView = s.lineView := by
  simp [State.refreshFlow, State.lineView_ite]

@[simp] theorem State.settle_lineView (s : State) (n : Fin 20) : (s.settle n).lineView = s.lineView := by
  simp [State.settle, State.evalHold]

@[simp] theorem State.flushIfDue_lineView (s : State) (n : Fin 20) : (s.flushIfDue n).lineView = s.lineView := by
  simp [State.flushIfDue, State.performFlush, State.lineView_ite]

@[simp] theorem State.discardOpen_lineView (s : State) (n : Fin 20) : (s.discardOpen n).lineView = s.lineView := by
  simp [State.discardOpen, State.lineView_ite]

/-! ### Reads of the directory and of the array -/

@[simp] theorem State.readDir_lineView (s : State) (n : Fin 20) (flips : Nat) : (s.readDir n flips).2.lineView = s.lineView := by
  unfold State.readDir
  split
  · rfl
  · split <;> simp

@[simp] theorem State.readLen_lineView (s : State) (n : Fin 20) (p : Ptr) : (s.readLen n p).2.lineView = s.lineView := by
  unfold State.readLen
  split <;> simp

@[simp] theorem State.readDirEntry_lineView (s : State) (n : Fin 20) (r : FrameRec) (k : Nat) :
    (s.readDirEntry n r k).2.lineView = s.lineView := by
  unfold State.readDirEntry
  split <;> simp

@[simp] theorem State.readHistory_lineView (s : State) (n : Fin 20) (r : FrameRec) (k : Nat) :
    (s.readHistory n r k).2.lineView = s.lineView := by
  unfold State.readHistory
  split <;> simp

@[simp] theorem State.cutAll_lineView (s : State) (n : Fin 20) : (s.cutAll n).lineView = s.lineView := by
  simp [State.cutAll, State.performFlush, State.lineView_ite]

@[simp] theorem State.countUe_lineView (s : State) (n : Fin 20) : (s.countUe n).lineView = s.lineView := by
  simp [State.countUe]

@[simp] theorem State.assignPseq_lineView (s : State) (n : Fin 20) (frame : Nat) :
    (s.assignPseq n frame).lineView = s.lineView := by
  simp [State.assignPseq]

@[simp] theorem State.ringWordAs_lineView (s : State) (n : Fin 20) (counts : Bool) :
    (s.ringWordAs n counts).2.lineView = s.lineView := by
  unfold State.ringWordAs
  split
  · rfl
  · dsimp only
    repeat' split
    all_goals simp

@[simp] theorem State.takeRing_lineView (s : State) (n : Fin 20) (pkt : Bool) (fuel want : Nat) :
    (s.takeRing n pkt fuel want).2.2.lineView = s.lineView := by
  induction fuel generalizing s want with
  | zero => rfl
  | succ fuel ih =>
    have hword : (s.ringWord n).2.lineView = s.lineView := s.ringWordAs_lineView n true
    unfold State.takeRing
    split
    next t hring => rwa [hring] at hword
    next w t hring =>
      rw [hring] at hword
      by_cases hlast : (w.cut || (if pkt then w.last else want == 1)) = true
      · rwa [if_pos hlast]
      · rw [if_neg hlast]
        exact (ih t (want - 1)).trans hword

@[simp] theorem State.peekRing_lineView (s : State) (n : Fin 20) (past fuel : Nat) :
    (s.peekRing n past fuel).2.2.lineView = s.lineView := by
  unfold State.peekRing
  dsimp only
  split
  · simp
  · exact (State.modCnt_lineView _ n _).trans (State.lineView_of_same rfl rfl)

/-! ### Slices -/

@[simp] theorem State.sliceWords_lineView (s : State) (n : Fin 20) (count : Bool) (len total fuel i : Nat) (p : Ptr) :
    (s.sliceWords n count len total fuel i p).2.lineView = s.lineView := by
  induction fuel generalizing s i p with
  | zero => rfl
  | succ fuel ih => simp [State.sliceWords, ih, State.lineView_ite]

@[simp] theorem State.noteWords_lineView (s : State) (n : Fin 20) (k : Nat) (p : Ptr) :
    (s.noteWords n k p).lineView = s.lineView := by
  induction k generalizing s p with
  | zero => rfl
  | succ k ih => simp [State.noteWords, ih]

@[simp] theorem State.beginFrame_lineView (s : State) (n : Fin 20) (i : Fin 3) : (s.beginFrame n i).lineView = s.lineView := by
  simp [State.beginFrame, State.lineView_ite]

@[simp] theorem State.standinWords_lineView (s : State) (n : Fin 20) (i : Fin 3) (k : Nat) (hist : Option SliceEntry)
    (cause : Nat) (count : Bool) : (s.standinWords n i k hist cause count).2.lineView = s.lineView := by
  cases hist <;> simp [State.standinWords]

@[simp] theorem State.storedWords_lineView (s : State) (n : Fin 20) (i : Fin 3) (e : SliceEntry) (count : Bool) :
    (s.storedWords n i e count).2.lineView = s.lineView := by
  simp [State.storedWords]

@[simp] theorem State.passStandin_lineView (s : State) (n : Fin 20) (slice frame : Nat) :
    (s.passStandin n slice frame).lineView = s.lineView := s.modTwin_lineView _

@[simp] theorem State.announceStandin_lineView (s : State) (n : Fin 20) (history : Bool) (cause slice frame : Nat) :
    (s.announceStandin n history cause slice frame).lineView = s.lineView := by
  simp [State.announceStandin, State.lineView_ite]

@[simp] theorem State.takeAnnounced_lineView (s : State) (n : Fin 20) (i : Fin 3) (k : Nat) (a : Bool × Nat) :
    (s.takeAnnounced n i k a).2.lineView = s.lineView := by
  unfold State.takeAnnounced
  dsimp only
  repeat' split
  all_goals simp

@[simp] theorem State.takeSlice_lineView (s : State) (n : Fin 20) : (s.takeSlice n).2.lineView = s.lineView := by
  unfold State.takeSlice
  dsimp only
  repeat' split
  all_goals simp

@[simp] theorem State.peekSlice_lineView (s : State) (n : Fin 20) (past : Nat) : (s.peekSlice n past).2.lineView = s.lineView := by
  have hentry : ∀ e, (s.noteEntry n e past).lineView = s.lineView := fun e => s.noteWords_lineView ..
  have hnote : ∀ e : Option SliceEntry, ((e.map fun e => s.noteEntry n e past).getD s).lineView = s.lineView := by
    intro e
    cases e <;> simp [hentry]
  unfold State.peekSlice
  dsimp only
  repeat' split
  all_goals simp [hentry, hnote]

/-! ### The service of the ports -/

@[simp] theorem State.takeWords_lineView (s : State) (n : Fin 20) (k : PCmd) : (s.takeWords n k).2.2.lineView = s.lineView := by
  unfold State.takeWords
  dsimp only
  repeat' split
  all_goals simp

@[simp] theorem State.launch_lineView (s : State) (x : Port) (b : Beat) : (s.launch x b).lineView = s.lineView :=
  State.lineView_of_same

@[simp] theorem State.updCmd_lineView (s : State) (x : Port) (k k' : PCmd) : (s.updCmd x k k').lineView = s.lineView :=
  s.modPort_lineView x _

@[simp] theorem State.finish_lineView (s : State) (x : Port) (k : PCmd) (b : Beat) : (s.finish x k b).lineView = s.lineView :=
  State.lineView_of_same

@[simp] theorem State.finishStat_lineView (s : State) (x : Port) (k : PCmd) (stat : Nat) :
    (s.finishStat x k stat).lineView = s.lineView := s.finish_lineView x k _

@[simp] theorem State.attnUncorr_lineView (s : State) (x : Port) (k : PCmd) (w : RWord) :
    (s.attnUncorr x k w).lineView = s.lineView := by
  simp [State.attnUncorr, State.lineView_ite]

@[simp] theorem State.emitWords_lineView (s : State) (x : Port) (k : PCmd) (fin : Bool) (ws : List RWord) :
    (s.emitWords x k fin ws).lineView = s.lineView := by
  induction ws generalizing s with
  | nil => rfl
  | cons w t ih =>
    cases t with
    | nil => simp [State.emitWords, State.lineView_ite]
    | cons v t => simp [State.emitWords, ih]

@[simp] theorem State.readCompleted_lineView (s : State) (n : Fin 20) : (s.readCompleted n).lineView = s.lineView := by
  simp [State.readCompleted]

@[simp] theorem State.serveRead_lineView (s : State) (x : Port) (n : Fin 20) (k : PCmd) :
    (s.serveRead x n k).lineView = s.lineView := by
  simp [State.serveRead, State.lineView_ite]

@[simp] theorem State.retryWaiting_lineView (s : State) (x : Port) (n : Fin 20) : (s.retryWaiting x n).lineView = s.lineView := by
  unfold State.retryWaiting
  split <;> simp

@[simp] theorem State.chCmd_lineView (s : State) (n : Fin 20) (opc : Nat) (target : Bool) :
    (s.chCmd n opc target).lineView = s.lineView := by
  unfold State.chCmd
  dsimp only
  repeat' split
  all_goals simp

@[simp] theorem State.scratchAnnounced_lineView (s : State) (m : Fin 6) (o : Owner) (opc area unit v cseq : Nat) :
    (s.scratchAnnounced m o opc area unit v cseq).2.2.lineView = s.lineView := by
  have hmirror : ∀ (t : State) (l : Loc) (f : MemSt → Nat → MemSt), (t.mirrorWrite l f).lineView = t.lineView :=
    fun t l f => by simp [State.lineView]
  have hop : (s.scratchOp m opc area unit v).2.2.lineView = s.lineView := by
    unfold State.scratchOp State.countRefused
    dsimp only
    repeat' split
    all_goals simp [hmirror]
  simp [State.scratchAnnounced, State.announceAtomic, State.lineView_ite, hop]

@[simp] theorem State.lockOp_lineView (s : State) (o : Owner) (opc slot cseq : Nat) :
    (s.lockOp o opc slot cseq).2.lineView = s.lineView := by
  obtain ⟨st, m, hslot, -⟩ := s.slotOp_lockUnitOnly o opc slot
  rw [State.lockOp_of_slot cseq hslot]
  exact State.announce_lineView _ _ _

@[simp] theorem State.emitTrain_lineView (s : State) (x : Port) (k : PCmd) (ws : List (List Byte)) :
    (s.emitTrain x k ws).lineView = s.lineView := by
  induction ws generalizing s with
  | nil => simp [State.emitTrain]
  | cons w t ih =>
    cases t with
    | nil => simp [State.emitTrain]
    | cons v t => simp [State.emitTrain, ih]

theorem State.statusCmd_lineView {s t : State} {x : Port} {k : PCmd} {page : List Byte}
    (h : s.statusCmd x k = some (page, t)) : t.lineView = s.lineView := by
  obtain rfl | ⟨f, rfl, -⟩ := State.statusCmd_some h
  · rfl
  · simp

@[simp] theorem State.execCmd_lineView (s : State) (x : Port) (k : PCmd) : (s.execCmd x k).lineView = s.lineView := by
  unfold State.execCmd
  split
  · simp
  · refine State.lineView_of_ite (by simp) (State.lineView_of_ite ?read (State.lineView_of_ite ?chCmd
      (State.lineView_of_ite (by simp) (State.lineView_of_ite (by simp [State.lineView_ite]) (State.lineView_of_ite (by simp)
      (State.lineView_of_ite ?status (by simp [State.lineView_ite])))))))
    case read =>
      repeat' split
      all_goals simp
    case chCmd =>
      repeat' split
      all_goals simp [State.lineView_ite]
    case status =>
      split
      next hpage => rw [State.finish_lineView, State.statusCmd_lineView hpage]
      · simp

/-- The commands that a channel's FAULT completes touch neither the link nor what it has paused (R49). -/
theorem State.serveFaults_lineView (s s0 : State) : (s.serveFaults s0).lineView = s.lineView := by
  have hn : ∀ (x : Port) (fuel : Nat) (t : State), (t.serviceN x fuel).lineView = t.lineView := by
    intro x fuel
    induction fuel with
    | zero => exact fun t => rfl
    | succ fuel ih =>
      intro t
      unfold State.serviceN
      split <;> simp [ih]
  have hservice : ∀ (x : Port) (t : State), (t.service x).lineView = t.lineView :=
    fun x t => by simp [State.service, State.lineView_ite, hn]
  simp [State.serveFaults, State.servicePorts, State.lineView_ite, hservice]

end Sys2Proof.Machine
end

section
/-! What leaving UP leaves of the link, the ARQ, time, the channels and the memory (R36, R85, R162, R163, R199). -/

namespace Sys2Proof.Machine

open Sys2Proof

/-! ### Error masks and lock slots -/

/-- The array's error masks and the lock slots stand. -/
structure Stored (s t : State) : Prop where
  errs : t.mem.errs = s.mem.errs
  locks : t.mem.locks = s.mem.locks

theorem Stored.refl (s : State) : Stored s s := ⟨rfl, rfl⟩

theorem Stored.trans {s t u : State} (h : Stored s t) (k : Stored t u) : Stored s u :=
  ⟨k.errs.trans h.errs, k.locks.trans h.locks⟩

theorem Stored.of_ite {s t u : State} {c : Prop} [Decidable c] (ht : Stored s t) (hu : Stored s u) :
    Stored s (if c then t else u) := by
  split
  · exact ht
  · exact hu

theorem Stored.of_mem {s t : State} (h : t.mem = s.mem := by simp) : Stored s t := ⟨by rw [h], by rw [h]⟩

/-- The head of a channel's flow is the channel's. -/
@[simp] theorem State.refreshFlow_mem (s : State) (n : Fin 20) : (s.refreshFlow n).mem = s.mem := by
  unfold State.refreshFlow
  dsimp only
  repeat' split
  all_goals simp

@[simp] theorem State.chFault_mem (s : State) (n : Fin 20) (cause : Nat) : (s.chFault n cause).mem = s.mem := by
  unfold State.chFault
  dsimp only
  split <;> simp

theorem Stored.cutHead (s : State) (n : Fin 20) : Stored s (s.cutHead n) := by
  have hcount : Stored s (s.countCut n) := by
    unfold State.countCut
    have hread : ∀ l p r, Stored s (s.countRead l p r) := fun l p r =>
      ⟨(ReadFrame.countRead s l p r).errs, (ReadFrame.countRead s l p r).locks⟩
    exact (hread _ _ _).trans (.of_mem (State.modCnt_mem ..))
  have hpass : Stored s (s.passOver n) := by
    unfold State.passOver
    refine hcount.trans ?_
    dsimp only
    split <;> exact .of_mem
  unfold State.cutHead
  exact .of_ite hpass (.refl s)

theorem Stored.trim (s : State) (n : Fin 20) : Stored s (s.trim n) := by
  unfold State.trim
  exact .of_ite .of_mem .of_mem

theorem Stored.settle (s : State) (n : Fin 20) : Stored s (s.settle n) := by
  have hbefore : Stored s ((s.autoRelease n).cutHead n) := .trans .of_mem (.cutHead _ n)
  unfold State.settle State.evalHold
  exact (hbefore.trans (.trim _ n)).trans .of_mem

theorem Stored.discardOpen (s : State) (n : Fin 20) : Stored s (s.discardOpen n) := by
  unfold State.discardOpen
  exact .of_ite (.trans .of_mem (.settle _ n)) (.refl s)

theorem Stored.rewindLink (s : State) (n : Fin 20) : Stored s (s.rewindLink n) := by
  unfold State.rewindLink
  exact .of_ite (.refl s) .of_mem

theorem Stored.refreshFlows (s : State) : Stored s s.refreshFlows := by
  have hmgmt : ∀ t : State, Stored t t.refreshMgmt := fun t => .of_mem
  have hflow : ∀ (t : State) n, Stored t (t.refreshFlow n) := fun t n => .of_mem
  exact (State.forChans_keeps (P := Stored s) (fun n t ht => ht.trans (hflow t n)) (.refl s)).trans (hmgmt _)

/-! ### An open packet that goes -/

theorem Calm.dropOpen (s : State) (n : Fin 20) : Calm s (s.dropOpen n) := by
  unfold State.dropOpen
  refine .of_ite (.refl s) (.trans (.modCh s n ?_) (.modCnt _ n _))
  split <;> exact .of_same

theorem Calm.discardOpen {s : State} {n : Fin 20} (h : (s.chan n).deferred = [] ∨ Roomy n s) : Calm s (s.discardOpen n) := by
  have hdrop := Calm.dropOpen s n
  unfold State.discardOpen
  exact .of_ite (hdrop.trans (.settle (hdrop.roomy h))) (.refl s)

/-! ### The heads of the flows -/

/-- Of the link, fixing every flow's head anew touches the MGMT flow alone. -/
theorem State.refreshFlows_link (s : State) : ∃ f, s.refreshFlows.link = { s.link with mgmtFlow := f } := by
  have hflows : (s.forChans fun n s => s.refreshFlow n).link = s.link :=
    State.forChans_keeps (P := fun t => t.link = s.link) (fun n t ht => by simpa using ht) rfl
  unfold State.refreshFlows State.refreshMgmt
  dsimp only
  split
  · exact ⟨_, by rw [State.modLink_link, hflows]⟩
  · split
    · exact ⟨s.link.mgmtFlow, hflows⟩
    · exact ⟨_, by rw [State.modLink_link, hflows]⟩

/-! ### A walk that reaches every channel -/

/-- What each channel's turn brings about, and every other channel's turn keeps, holds of every channel after the walk. -/
theorem State.forChans_all {P : Fin 20 → State → Prop} {f : Fin 20 → State → State} (hself : ∀ n s, P n (f n s))
    (hkeep : ∀ n k s, P k s → P k (f n s)) (s : State) (n : Fin 20) : P n (s.forChans f) := by
  have hrest : ∀ (l : List (Fin 20)) t, P n t → P n (l.foldl (fun s k => f k s) t) := by
    intro l
    induction l with
    | nil => exact fun _ h => h
    | cons k l ih => exact fun t h => ih _ (hkeep k n t h)
  have hall : ∀ (l : List (Fin 20)) t, n ∈ l → P n (l.foldl (fun s k => f k s) t) := by
    intro l
    induction l with
    | nil => exact fun _ h => absurd h List.not_mem_nil
    | cons k l ih =>
      intro t hn
      by_cases hk : n = k
      · subst hk
        exact hrest l _ (hself n t)
      · exact ih _ ((List.mem_cons.mp hn).resolve_left hk)
  exact hall _ s (List.mem_finRange n)

/-! ### The turn of a channel as UP is left (R85, R103, R163) -/

/-- A channel rewinds to LP and is not paused; `w` is the window that ends. -/
def State.rewound (w : List WinEntry) (n : Fin 20) (s : State) : State :=
  (s.rewindLink n).modCh n fun c =>
    { c with fstarts := (w.filter fun e => e.ch == n.val).filterMap requeueFstart ++ c.fstarts,
             paused := false, ingNext := 0, pol := { c.pol with segDrop := 0 } }

/-- Where the link feeds the channel, its open packet goes too. -/
def State.leaveChannel (w : List WinEntry) (n : Fin 20) (s : State) : State :=
  if ((s.rewound w n).chan n).cfg.producer = .link then (s.rewound w n).discardOpen n else s.rewound w n

@[simp] theorem Chan.passSkip_paused (c : Chan) : c.passSkip.paused = c.paused := by
  unfold Chan.passSkip
  split
  · split <;> rfl
  · rfl

@[simp] theorem State.rewindLink_lineView (s : State) (n : Fin 20) : (s.rewindLink n).lineView = s.lineView := by
  unfold State.rewindLink
  split
  · rfl
  · exact s.modCh_lineView n fun c => by simp

theorem State.lineView_link {s t : State} (h : t.lineView = s.lineView) : t.link = s.link := congrArg Prod.fst h

theorem State.lineView_paused {s t : State} (h : t.lineView = s.lineView) (k : Fin 20) : (t.chan k).paused = (s.chan k).paused :=
  congrFun (congrArg Prod.snd h) k

theorem State.leaveChannel_paused (w : List WinEntry) (n k : Fin 20) (s : State) :
    ((s.leaveChannel w n).chan k).paused = if k = n then false else (s.chan k).paused := by
  have hbefore : ((s.rewound w n).chan k).paused = if k = n then false else (s.chan k).paused := by
    rw [State.rewound, State.modCh_chan]
    split
    · rfl
    · exact State.lineView_paused (s.rewindLink_lineView n) k
  unfold State.leaveChannel
  split
  · exact (State.lineView_paused (State.discardOpen_lineView _ n) k).trans hbefore
  · exact hbefore

theorem State.leaveChannel_link (w : List WinEntry) (n : Fin 20) (s : State) : (s.leaveChannel w n).link = s.link := by
  have hbefore : (s.rewound w n).link = s.link :=
    (State.modCh_link ..).trans (State.lineView_link (s.rewindLink_lineView n))
  unfold State.leaveChannel
  split <;> simpa using hbefore

theorem Calm.leaveChannel (w : List WinEntry) {n : Fin 20} {s : State} (h : (s.chan n).deferred = [] ∨ Roomy n s) :
    Calm s (s.leaveChannel w n) := by
  have hbefore : Calm s (s.rewound w n) := (Calm.rewindLink s n).trans (.modCh _ n .of_same)
  exact .of_ite (hbefore.trans (.discardOpen (hbefore.roomy h))) hbefore

theorem Stored.leaveChannel (w : List WinEntry) (n : Fin 20) (s : State) : Stored s (s.leaveChannel w n) := by
  have hbefore : Stored s (s.rewound w n) := (Stored.rewindLink s n).trans (.of_mem (State.modCh_mem ..))
  exact .of_ite (hbefore.trans (.discardOpen _ n)) hbefore

/-! ### Forwarded requests as UP is left (R163) -/

/-- Forwarded requests that are not the device's own are answered with STATE. -/
def State.abortForwarded (s : State) : State :=
  s.link.forwarded.foldl (fun s f => if f.own then s else s.forwardAbort f 0x0303) s

theorem State.abortForwarded_od (s : State) : ∃ o, s.abortForwarded = { s with od := o } := by
  have hstep : ∀ (t : State) f, ∃ o, t.forwardAbort f 0x0303 = { t with od := o } := by
    intro t f
    unfold State.forwardAbort State.mailboxReply
    dsimp only
    split
    · exact ⟨_, rfl⟩
    · exact ⟨t.od, rfl⟩
  unfold State.abortForwarded
  generalize s.link.forwarded = l
  have hfold : ∀ t : State, ∃ o, l.foldl (fun s f => if f.own then s else s.forwardAbort f 0x0303) t = { t with od := o } := by
    induction l with
    | nil => exact fun t => ⟨t.od, rfl⟩
    | cons f l ih =>
      intro t
      rw [List.foldl_cons]
      split
      · exact ih t
      · obtain ⟨o, ho⟩ := hstep t f
        obtain ⟨p, hp⟩ := ih (t.forwardAbort f 0x0303)
        exact ⟨p, by rw [hp, ho]⟩
  exact hfold s

/-! ### The actions on leaving UP -/

/-- The ARQ ends in both directions. -/
def State.arqAnew (s : State) : State :=
  s.modArq fun a => { a with nextSeq := 0, window := [], retx := [], timeouts := 0, exp := 0, rxGot := [], accSince := 0,
                             firstAcc := none, lastNak := none }

/-- Every channel's turn, the end of the ARQ, and of what is queued and forwarded. -/
def State.lineCleared (s : State) : State :=
  ((s.forChans fun n t => t.leaveChannel s.arq.window n).arqAnew.abortForwarded).modLink fun l =>
    { l with forwarded := [], mgmtQ := [], strict := [], echo := none, echoSinceUp := false, ratesFailed := 0,
             peerBootNonce := none }

/-- LR's locks go free, lock of time ends, and every flow's head is fixed anew. -/
def State.lineLeft (s : State) : State := (((s.lineCleared.freeLocks .lr).endLock).attnBoth 14).refreshFlows

theorem State.leaveActions_eq (s : State) :
    s.leaveActions = if s.arq.window.isEmpty then s.lineLeft else s.lineLeft.idleAnew := by
  unfold State.leaveActions State.lineLeft State.lineCleared State.abortForwarded State.leaveChannel State.rewound
    State.arqAnew
  dsimp only

/-- The link's MGMT queue is empty, the ARQ starts anew in both directions, time is not locked and no channel is paused. -/
structure LineOver (t : State) : Prop where
  mgmtQ : t.link.mgmtQ = []
  window : t.arq.window = []
  exp : t.arq.exp = 0
  nextSeq : t.arq.nextSeq = 0
  unlocked : t.time.locked = false
  unpaused : ∀ n, (t.chan n).paused = false

/-- A step that is confined, and keeps the MGMT queue and which channels are paused. -/
theorem LineOver.of_confined {s t : State} (h : LineOver s) (hconfined : Confined s t) (hmgmtQ : t.link.mgmtQ = s.link.mgmtQ)
    (hpaused : ∀ n, (t.chan n).paused = (s.chan n).paused) : LineOver t := by
  have hplaces := hconfined.places
  rw [h.window, List.map_nil, List.map_eq_nil_iff] at hplaces
  have harq := hconfined.arq
  rw [hplaces] at harq
  exact ⟨hmgmtQ.trans h.mgmtQ, hplaces, by rw [harq]; exact h.exp, by rw [harq]; exact h.nextSeq,
    by rw [hconfined.time]; exact h.unlocked, fun n => (hpaused n).trans (h.unpaused n)⟩

theorem LineOver.of_same {s t : State} (h : LineOver s) (hmgmtQ : t.link.mgmtQ = s.link.mgmtQ := by simp)
    (harq : t.arq = s.arq := by simp) (htime : t.time = s.time := by simp) (hch : t.ch = s.ch := by simp) : LineOver t := by
  refine ⟨hmgmtQ.trans h.mgmtQ, ?_, ?_, ?_, ?_, fun n => ?_⟩
  · rw [harq]; exact h.window
  · rw [harq]; exact h.exp
  · rw [harq]; exact h.nextSeq
  · rw [htime]; exact h.unlocked
  · rw [State.chan, hch]; exact h.unpaused n

theorem LineOver.refreshFlows {s : State} (h : LineOver s) : LineOver s.refreshFlows := by
  obtain ⟨f, hf⟩ := s.refreshFlows_link
  exact h.of_confined (.refreshFlows s) (by rw [hf]) s.refreshFlows_keeps.1

theorem LineOver.serveFaults {s : State} (h : LineOver s) (s0 : State) : LineOver (s.serveFaults s0) := by
  have hview := s.serveFaults_lineView s0
  exact h.of_confined (.serveFaults s s0) (by rw [State.lineView_link hview]) (State.lineView_paused hview)

/-- After the walk, the end of the ARQ and of the forwarded requests leave the channels and the memory as they are. -/
theorem State.lineCleared_frame (s : State) : s.lineCleared.link.mgmtQ = [] ∧
    s.lineCleared.arq = (s.forChans fun n t => t.leaveChannel s.arq.window n).arqAnew.arq ∧
    s.lineCleared.ch = (s.forChans fun n t => t.leaveChannel s.arq.window n).ch ∧
    s.lineCleared.mem = (s.forChans fun n t => t.leaveChannel s.arq.window n).mem ∧
    s.lineCleared.tansy = (s.forChans fun n t => t.leaveChannel s.arq.window n).tansy := by
  unfold State.lineCleared
  generalize (s.forChans fun n t => t.leaveChannel s.arq.window n) = u
  obtain ⟨o, ho⟩ := u.arqAnew.abortForwarded_od
  rw [ho]
  exact ⟨rfl, rfl, rfl, rfl, rfl⟩

@[simp] theorem State.endLock_frame (s : State) : s.endLock.ch = s.ch ∧ s.endLock.mem = s.mem ∧ s.endLock.tansy = s.tansy ∧
    s.endLock.link = s.link ∧ s.endLock.arq = s.arq := by
  unfold State.endLock
  split <;> simp

theorem State.endLock_unlocked (s : State) : s.endLock.time.locked = false := by
  unfold State.endLock
  split
  · simp
  next h => simpa using h

theorem State.lineLeft_over (s : State) : LineOver s.lineLeft := by
  obtain ⟨hmgmtQ, harq, hch, -, -⟩ := s.lineCleared_frame
  have hunpaused : ∀ n, (s.lineCleared.chan n).paused = false := by
    intro n
    rw [State.chan, hch]
    exact State.forChans_all (P := fun n t => (t.chan n).paused = false)
      (fun n t => by rw [State.leaveChannel_paused, if_pos rfl])
      (fun n k t hk => by
        rw [State.leaveChannel_paused]
        split
        · rfl
        · exact hk) s n
  exact .refreshFlows ⟨by simpa using hmgmtQ, by simp [harq, State.arqAnew], by simp [harq, State.arqAnew],
    by simp [harq, State.arqAnew], by simpa using State.endLock_unlocked _, fun n => by simpa [State.chan] using hunpaused n⟩

theorem State.leaveActions_over (s : State) : LineOver s.leaveActions := by
  rw [State.leaveActions_eq]
  split
  · exact s.lineLeft_over
  · exact s.lineLeft_over.of_same

/-! ### What stands as UP is left -/

theorem Calm.lineLeft {s : State} (h : AllRoomy s) : Calm s s.lineLeft := by
  obtain ⟨-, -, hch, hmem, htansy⟩ := s.lineCleared_frame
  have hwalk : Calm s (s.forChans fun n t => t.leaveChannel s.arq.window n) :=
    State.forChans_keeps (P := Calm s) (fun n t ht => ht.trans (.leaveChannel _ (ht.roomy (h n)))) (.refl s)
  have hcleared : Calm s s.lineCleared := hwalk.trans (.of_same hch hmem htansy)
  unfold State.lineLeft
  generalize s.lineCleared = u at hcleared ⊢
  have hlocks : Calm u (u.freeLocks .lr) := ⟨rfl, rfl, fun n => .refl _⟩
  exact ((hcleared.trans hlocks).trans .of_same).trans (.refreshFlows _)

theorem Stored.lineLeft (s : State) : Stored (s.freeLocks .lr) s.lineLeft := by
  obtain ⟨-, -, -, hmem, -⟩ := s.lineCleared_frame
  have hwalk : Stored s (s.forChans fun n t => t.leaveChannel s.arq.window n) :=
    State.forChans_keeps (P := Stored s) (fun n t ht => ht.trans (.leaveChannel _ n t)) (.refl s)
  have hcleared : Stored s s.lineCleared := hwalk.trans (.of_mem hmem)
  unfold State.lineLeft
  generalize s.lineCleared = u at hcleared ⊢
  have hlocks : Stored (s.freeLocks .lr) (u.freeLocks .lr) := by
    refine ⟨hcleared.errs, ?_⟩
    simp only [State.freeLocks, State.modMem_mem, hcleared.locks]
  exact (hlocks.trans .of_mem).trans (.refreshFlows _)

theorem Calm.leaveActions {s : State} (h : AllRoomy s) : Calm s s.leaveActions := by
  rw [State.leaveActions_eq]
  exact .of_ite (.lineLeft h) ((Calm.lineLeft h).trans (.idleAnew _))

theorem Stored.leaveActions (s : State) : Stored (s.freeLocks .lr) s.leaveActions := by
  rw [State.leaveActions_eq]
  exact .of_ite (.lineLeft s) ((Stored.lineLeft s).trans .of_mem)

/-! ### To DETECT (R162) -/

/-- What leaving UP with a cause makes of the state, before commands that a FAULT completes are served. -/
def State.toDetect (s : State) (cause : Nat) : State :=
  (s.leaveActions.modLink fun l => { l with leaveCause := cause, state := .detect, rate := 0 }).enterDetect.refreshFlows

theorem State.leaveUp_of_up {s : State} (h : s.linkUp = true) (cause : Nat) :
    s.leaveUp cause = (s.toDetect cause).serveFaults s := if_pos h

theorem State.toDetect_link (s : State) (cause : Nat) :
    (s.toDetect cause).link.state = .detect ∧ (s.toDetect cause).link.leaveCause = cause ∧ (s.toDetect cause).link.rate = 0 ∧
    (s.toDetect cause).link.strict = [] := by
  unfold State.toDetect
  generalize s.leaveActions = u
  obtain ⟨f, hf⟩ := State.refreshFlows_link
    (u.modLink fun l => { l with leaveCause := cause, state := .detect, rate := 0 }).enterDetect
  rw [hf]
  exact ⟨rfl, rfl, rfl, rfl⟩

theorem State.toDetect_over (s : State) (cause : Nat) : LineOver (s.toDetect cause) := by
  have hover := s.leaveActions_over
  unfold State.toDetect
  generalize s.leaveActions = u at hover ⊢
  exact (hover.of_same (t := (u.modLink fun l => { l with leaveCause := cause, state := .detect, rate := 0 }).enterDetect)
    rfl rfl rfl rfl).refreshFlows

theorem Calm.toDetect {s : State} (h : AllRoomy s) (cause : Nat) : Calm s (s.toDetect cause) := by
  have hcalm := Calm.leaveActions h
  unfold State.toDetect
  generalize s.leaveActions = u at hcalm ⊢
  exact (hcalm.trans (u := (u.modLink fun l => { l with leaveCause := cause, state := .detect, rate := 0 }).enterDetect)
    (.of_same rfl rfl rfl)).trans (.refreshFlows _)

theorem Stored.toDetect (s : State) (cause : Nat) : Stored (s.freeLocks .lr) (s.toDetect cause) := by
  have hstored := Stored.leaveActions s
  unfold State.toDetect
  generalize s.leaveActions = u at hstored ⊢
  exact (hstored.trans (u := (u.modLink fun l => { l with leaveCause := cause, state := .detect, rate := 0 }).enterDetect)
    (.of_mem rfl)).trans (.refreshFlows _)

/-- LR's slots are free and marked. -/
theorem State.toDetect_slot (s : State) (cause : Nat) (k : Fin 64) (h : (s.slot k.val).owner = .lr) :
    (s.toDetect cause).slot k.val = ⟨.free, true⟩ := by
  simp only [State.slot_eq, (Stored.toDetect s cause).locks]
  rw [← State.slot_eq, State.freeLocks_slot, if_pos h]

/-- The link leaves UP in a step that has touched neither the memory nor a channel before. -/
theorem State.leaveUp_leftUp {s s' : State} (hup : s'.linkUp = true) (hcalm : Calm s s') (hmem : s'.mem = s.mem) (cause : Nat) :
    LeftUp s ((s'.leaveUp cause).serveFaults s) cause := by
  have hview : ((s'.leaveUp cause).serveFaults s).link = (s'.toDetect cause).link := by
    rw [State.leaveUp_of_up hup, State.lineView_link (State.serveFaults_lineView ..),
      State.lineView_link (State.serveFaults_lineView ..)]
  have hover : LineOver ((s'.leaveUp cause).serveFaults s) := by
    rw [State.leaveUp_of_up hup]
    exact ((s'.toDetect_over cause).serveFaults s').serveFaults s
  obtain ⟨hstate, hcause, hrate, hstrict⟩ := s'.toDetect_link cause
  refine ⟨by rw [hview, hstate], by rw [hview, hcause], by rw [hview, hrate], hover.window, hover.exp, hover.nextSeq, hover.mgmtQ,
    by rw [hview, hstrict], hover.unlocked, hover.unpaused, fun hroomy => ?_⟩
  have hdetect := Calm.toDetect (fun n => hcalm.roomy (hroomy n)) cause
  have hall := hcalm.trans hdetect
  rw [State.leaveUp_of_up hup, hdetect.serveFaults, hall.serveFaults]
  exact ⟨fun n => (hall.chan n).state,
    fun k hk => s'.toDetect_slot cause k ((congrArg LockSlot.owner (State.slot_congr (by rw [hmem]) k.val)).trans hk), hall.cells,
    (Stored.toDetect s' cause).errs.trans (by rw [← hmem]; rfl)⟩

end Sys2Proof.Machine
end

section
/-! Bring-up of the link (R160, R161, R174, R287). -/

namespace Sys2Proof.Machine

open Sys2Proof

/-! ### Entry to UP (R160) -/

/-- What entry to UP fixes of the link, beside the stored array: the state, the rate and UP_COUNT. -/
def State.upView (s : State) : LinkState × Nat × Nat × List Host.Cell :=
  (s.link.state, s.link.rate, s.link.cnt.upCount, s.mem.cells)

theorem State.sendEcho_upView (s : State) : s.sendEcho.upView = s.upView := by
  unfold State.sendEcho
  split <;> rfl

theorem State.startEchoSet_upView (s : State) : s.startEchoSet.upView = s.upView := by
  unfold State.startEchoSet
  split
  · rfl
  · exact State.sendEcho_upView _

theorem State.sendPause_upView (s : State) : s.sendPause.upView = s.upView := by
  unfold State.sendPause
  split <;> rfl

theorem State.queueMgmt_upView (s : State) (addr svc reqseq : Nat) (body : List Byte) :
    (s.queueMgmt addr svc reqseq body).upView = s.upView := by
  unfold State.queueMgmt State.refreshMgmt
  dsimp only
  split
  · rfl
  · split <;> rfl

theorem State.refreshFlows_upView (s : State) : s.refreshFlows.upView = s.upView := by
  obtain ⟨f, hf⟩ := s.refreshFlows_link
  simp only [State.upView, hf, (Calm.refreshFlows s).cells]

theorem State.forChans_upView (s : State) (f : Fin 20 → Chan → Chan) :
    (s.forChans fun n t => t.modCh n (f n)).upView = s.upView :=
  State.forChans_keeps (P := fun t => t.upView = s.upView)
    (fun n t h => (show (t.modCh n (f n)).upView = t.upView from rfl).trans h) rfl

theorem State.enterUp_upView (s : State) (rate : Nat) :
    (s.enterUp rate).upView = (LinkState.up, rate, inc32 s.link.cnt.upCount, s.mem.cells) := by
  have hattn : ∀ t : State, (t.attnBoth 14).upView = t.upView := fun t => by simp [State.upView]
  have hforwarded : ∀ (t : State) q, (t.modLink fun l => { l with forwarded := l.forwarded ++ q }).upView = t.upView :=
    fun t q => rfl
  unfold State.enterUp
  dsimp only
  rw [State.refreshFlows_upView]
  split
  · rw [State.sendPause_upView, State.startEchoSet_upView, hattn, State.forChans_upView]
    rfl
  · rw [hforwarded, State.queueMgmt_upView, State.sendPause_upView, State.startEchoSet_upView, hattn, State.forChans_upView]
    rfl

theorem State.enterUp_enters (s : State) (rate : Nat) :
    (s.enterUp rate).link.state = .up ∧ (s.enterUp rate).link.rate = rate ∧
    (s.enterUp rate).link.cnt.upCount = inc32 s.link.cnt.upCount ∧ (s.enterUp rate).mem.cells = s.mem.cells := by
  have hup := s.enterUp_upView rate
  simp only [State.upView, Prod.mk.injEq] at hup
  exact hup

/-! ### CAPS -/

/-- A CAPS waits in rank 4, and says whether the peer has been seen (R156, R160). -/
def State.capsQueued (s : State) (f : TxFrame) : State :=
  s.modLink fun l => { l with strict := l.strict ++ [⟨4, f⟩], sentSeen := l.sentSeen || l.capsIn }

theorem State.sendCaps_eq (s : State) : ∃ f : TxFrame, f.type = 1 ∧ s.sendCaps = s.capsQueued f := ⟨_, rfl, rfl⟩

/-- While the peer has not been seen, or no CAPS of this end has said so, CAPS goes on (R160). -/
theorem State.capsAdvance_waits {s : State} (h : s.link.sentSeen = false ∨ s.link.rxSeen = false) : s.capsAdvance = s := by
  unfold State.capsAdvance
  dsimp only
  rw [if_neg]
  rcases h with h | h <;> simp [h]

/-- The candidate rate is fixed, and the wait before the switch begins (R160). -/
def State.candidateFixed (s : State) : State := s.modLink fun l => { l with candidate := s.candidateRate, trialAt := some s.now }

theorem Calm.candidateFixed (s : State) : Calm s s.candidateFixed := .of_same rfl rfl rfl

/-- Both ends have seen the other: UP without a candidate rate, and the wait before the switch with one (R160). -/
theorem State.capsAdvance_seen {s : State} (hstate : s.link.state = .caps) (hsent : s.link.sentSeen = true)
    (hrx : s.link.rxSeen = true) (htrial : s.link.trialAt = none) :
    s.capsAdvance = if s.candidateRate = 0 then s.enterUp 0 else s.candidateFixed := by
  unfold State.capsAdvance
  dsimp only
  rw [if_pos (by simp [hstate, hsent, hrx, htrial])]
  rfl

/-- The bring-up begins, with the limits as they then stand (R160, R174, R287). -/
def State.capsBegun (s : State) : State :=
  s.modLink fun l => { l with state := .caps, capsAt := s.now, rateLimit := if s.yar.loader then 0 else l.maxRate,
                              errLimit := l.trialErrLimit }

theorem blockLock_completes {s : State} (hhears : s.linkHears = true) (hstate : s.link.state = .detect)
    (hpresent : s.link.modPresent = true) (hbell : s.link.bluebell = none) :
    ∃ f : TxFrame, f.type = 1 ∧ exec .blockLock s = .next (s.capsBegun.capsQueued f) := by
  obtain ⟨f, hf, hsent⟩ := s.capsBegun.sendCaps_eq
  refine ⟨f, hf, ?_⟩
  rw [← hsent]
  exact congrArg Host.Outcome.next (if_pos (by simp [hhears, hstate, hpresent, hbell]))

theorem capsSend_completes {s : State} (h : s.link.state = .caps) :
    ∃ f : TxFrame, f.type = 1 ∧ exec .capsSend s = .next (s.capsQueued f).capsAdvance := by
  obtain ⟨f, hf, hsent⟩ := s.sendCaps_eq
  refine ⟨f, hf, ?_⟩
  rw [← hsent]
  exact congrArg Host.Outcome.next (if_pos (by simp [h]))

/-- The peer's body stands, and what it says of the classes (R157, R175). -/
def State.peerTaken (s : State) (b : Caps) : State :=
  (s.modLink fun l => { l with peer := some b }).modLink fun l =>
    { l with classMismatch := (s.modLink fun l => { l with peer := some b }).mismatch }

@[simp] theorem State.peerTaken_frame (s : State) (b : Caps) : (s.peerTaken b).ch = s.ch ∧ (s.peerTaken b).mem = s.mem ∧
    (s.peerTaken b).tansy = s.tansy := ⟨rfl, rfl, rfl⟩

theorem Calm.peerTaken (s : State) (b : Caps) : Calm s (s.peerTaken b) := .of_same

/-- What a CAPS says of the bring-up, in CAPS (R160). -/
def State.capsNoted (s : State) (cflags : Nat) : State :=
  s.modLink fun l =>
    { l with capsIn := true, rxSeen := l.rxSeen || cflags.testBit 0,
             capsAt := if cflags.testBit 0 then s.now else l.capsAt }

/-- A CAPS heard in CAPS: the peer's body and what it says, with `k` the classes that do not match. -/
def State.capsTaken (s : State) (cflags : Nat) (b : Caps) (k : Nat) : State :=
  { s with link := { s.link with
      lastRx := s.now, peer := some b, classMismatch := k, capsIn := true, rxSeen := s.link.rxSeen || cflags.testBit 0,
      capsAt := if cflags.testBit 0 then s.now else s.link.capsAt } }

theorem State.peerTaken_eq (s : State) (b : Caps) :
    ∃ k, s.peerTaken b = { s with link := { s.link with peer := some b, classMismatch := k } } := by
  unfold State.peerTaken
  generalize State.mismatch _ = k
  exact ⟨k, rfl⟩

theorem State.capsNoted_eq (s : State) (cflags : Nat) (b : Caps) :
    ∃ k, (s.heard.peerTaken b).capsNoted cflags = s.capsTaken cflags b k := by
  obtain ⟨k, hk⟩ := s.heard.peerTaken_eq b
  rw [hk]
  exact ⟨k, rfl⟩

theorem Calm.capsTaken (s : State) (cflags : Nat) (b : Caps) (k : Nat) : Calm s (s.capsTaken cflags b k) := .of_same rfl rfl rfl

theorem caps_inCaps {m : RxMeta} {s : State} (htaken : FrameTaken m 32 s) (hstate : s.link.state = .caps)
    (cflags trialRate : Nat) (b : Caps) :
    ∃ k, exec (.caps m cflags trialRate b) s = .next ((s.capsTaken cflags b k).capsAdvance.serveFaults s) := by
  have hheard : (s.heard.peerTaken b).link.state = .caps := hstate
  obtain ⟨k, hk⟩ := s.capsNoted_eq cflags b
  refine ⟨k, congrArg Host.Outcome.next ((State.received_taken htaken _).trans ?_)⟩
  show (match (s.heard.peerTaken b).link.state with
    | .caps => ((s.heard.peerTaken b).capsNoted cflags).capsAdvance
    | .trial => _
    | .up => _
    | .off => _
    | .detect => _ : State).serveFaults s = _
  rw [hheard, ← hk]

theorem caps_inUp {m : RxMeta} {s : State} (htaken : FrameTaken m 32 s) (hstate : s.link.state = .up)
    (cflags trialRate : Nat) {b : Caps} (hother : b.serial ≠ s.link.upSerial ∨ b.linkNonce ≠ s.link.upNonce) :
    exec (.caps m cflags trialRate b) s = .next (((s.heard.peerTaken b).leaveUp 6).serveFaults s) := by
  have hheard : (s.heard.peerTaken b).link.state = .up := hstate
  have hpeer : ¬(b.serial = (s.heard.peerTaken b).link.upSerial ∧ b.linkNonce = (s.heard.peerTaken b).link.upNonce) :=
    not_and_or.mpr hother
  refine congrArg Host.Outcome.next ((State.received_taken htaken _).trans ?_)
  show (match (s.heard.peerTaken b).link.state with
    | .caps => _
    | .trial => _
    | .up => if b.serial = (s.heard.peerTaken b).link.upSerial ∧ b.linkNonce = (s.heard.peerTaken b).link.upNonce then
        s.heard.peerTaken b else (s.heard.peerTaken b).leaveUp 6
    | .off => _
    | .detect => _ : State).serveFaults s = _
  rw [hheard]
  dsimp only
  rw [if_neg hpeer]

/-! ### Trial (R160, R161) -/

/-- The trial has a result: 1 passed, 2 failed. -/
def State.trialOver (s : State) (own : Nat) : State := s.modLink fun l => { l with own := own, resultAt := some s.now }

theorem trialPassed_completes {s : State} {errs : Nat} (hstate : s.link.state = .trial) (hown : s.link.own = 0)
    (herrs : errs ≤ s.link.errLimit) :
    ∃ f : TxFrame, exec (.trialResult true errs) s = .next (if s.link.peerPass
      then ((s.trialOver 1).capsQueued f).enterUp s.link.candidate else (s.trialOver 1).capsQueued f) := by
  obtain ⟨f, -, hsent⟩ := (s.trialOver 1).sendCaps_eq
  refine ⟨f, ?_⟩
  rw [← hsent]
  exact congrArg Host.Outcome.next ((if_pos (by simp [hstate, hown])).trans (if_pos (by simp [herrs])))

theorem trialFailed_completes {s : State} {lockHeld : Bool} {errs : Nat} (hstate : s.link.state = .trial) (hown : s.link.own = 0)
    (hfail : lockHeld = false ∨ s.link.errLimit < errs) :
    ∃ f : TxFrame, exec (.trialResult lockHeld errs) s = .next ((s.trialOver 2).capsQueued f) := by
  obtain ⟨f, -, hsent⟩ := (s.trialOver 2).sendCaps_eq
  have hnot : ¬(lockHeld && decide (errs ≤ s.link.errLimit)) = true := by
    rcases hfail with h | h <;> simp [h]
  refine ⟨f, ?_⟩
  rw [← hsent]
  exact congrArg Host.Outcome.next ((if_pos (by simp [hstate, hown])).trans (if_neg hnot))

/-- The rate on trial is marked, and neither a channel nor the memory is touched (R160). -/
theorem State.trialFailed_marks (s : State) : s.trialFailed.link.state = .detect ∧
    s.trialFailed.link.ratesFailed = s.link.ratesFailed ||| 2 ^ s.link.candidate ∧ s.trialFailed.ch = s.ch ∧
    s.trialFailed.mem = s.mem := ⟨rfl, rfl, rfl, rfl⟩

/-! ### Ends of the waits (R160, R173) -/

/-- A wait of `span` has passed once TIMECLK has advanced. -/
theorem State.advance_waited {s : State} {start : Option Nat} {a span dt : Nat} (hstart : start = some a)
    (hdue : a + span ≤ s.now + 1250 * dt) : start.any (fun a => decide (a + span ≤ (s.advance dt).now)) = true := by
  simp [hstart, hdue]

theorem capsTimeout_completes {s : State} {dt : Nat} (hstate : s.link.state = .caps)
    (hdue : s.link.capsAt + ms 10 ≤ s.now + 1250 * dt) : exec (.capsTimeout dt) s = .next (s.advance dt).enterDetect :=
  congrArg Host.Outcome.next (if_pos (by simp [hstate, hdue]))

/-- What CAPS waits for has begun the wait before the switch, and it is over: the rate on trial is the candidate. -/
theorem trialSwitch_completes {s : State} {dt a : Nat} (hstate : s.link.state = .caps) (htrial : s.link.trialAt = some a)
    (hdue : a + us 10 ≤ s.now + 1250 * dt) :
    exec (.trialSwitch dt) s = .next ((s.advance dt).modLink fun l =>
      { l with state := .trial, rate := l.candidate, trialAt := some (s.advance dt).now, own := 0, peerPass := false,
               ctle := min l.ctleMax (max l.ctleMin (Config.trialCtle l.cnt.upCount)) }) := by
  have hwaited := State.advance_waited htrial hdue
  exact congrArg Host.Outcome.next (if_pos (by simp only [State.advance_link, hstate, hwaited]; rfl))

theorem trialFailEnd_completes {s : State} {dt a : Nat} (hstate : s.link.state = .trial) (hown : s.link.own = 2)
    (hresult : s.link.resultAt = some a) (hdue : a + us 100 ≤ s.now + 1250 * dt) :
    exec (.trialFailEnd dt) s = .next (s.advance dt).trialFailed := by
  have hwaited := State.advance_waited hresult hdue
  exact congrArg Host.Outcome.next (if_pos (by simp only [State.advance_link, hstate, hown, hwaited]; rfl))

theorem trialTimeout_completes {s : State} {dt a : Nat} (hstate : s.link.state = .trial) (htrial : s.link.trialAt = some a)
    (hdue : a + ms 2 ≤ s.now + 1250 * dt) : exec (.trialTimeout dt) s = .next (s.advance dt).trialFailed := by
  have hwaited := State.advance_waited htrial hdue
  exact congrArg Host.Outcome.next (if_pos (by simp only [State.advance_link, hstate, hwaited]; rfl))

theorem bluebellEnd_completes {s : State} {dt a : Nat} (hbell : s.link.bluebell = some a)
    (hdue : a + us 200 ≤ s.now + 1250 * dt) : exec (.bluebellEnd dt) s = .next (s.advance dt).enterDetect := by
  have hwaited := State.advance_waited hbell hdue
  exact congrArg Host.Outcome.next (if_pos (by simpa only [State.advance_link] using hwaited))

/-- Entry to DETECT after a time draws a new LINK_NONCE, and nothing else but the link changes (R157, R160). -/
theorem State.advance_enterDetect (s : State) (dt : Nat) :
    (s.advance dt).enterDetect = { s.advance dt with link := (s.advance dt).enterDetect.link, freeCtr := s.freeCtr + 1 } ∧
    (s.advance dt).enterDetect.link.nonce = (Config.random s.freeCtr).toNat := by
  have hctr := s.advance_freeCtr dt
  generalize s.advance dt = u at hctr ⊢
  rw [← hctr]
  exact ⟨rfl, rfl⟩

/-! ### O46 -/

/-- Settles O46: block lock, the exchange of CAPS, the trial and its ends, one clause each. -/
theorem linkBringUp : Obligations.LinkBringUp := by
  unfold Obligations.LinkBringUp
  refine ⟨?lock, ?send, ?sendUp, ?caps, ?exchanged, ?another, ?capsTimeout, ?switch, ?pass, ?passUp, ?fail, ?failEnd,
    ?timeout, ?bluebell⟩
  case lock =>
    intro s hhears hstate hpresent hbell
    obtain ⟨f, hf, hexec⟩ := blockLock_completes hhears hstate hpresent hbell
    exact ⟨_, hexec, rfl, rfl, rfl, rfl, rfl, f, hf, rfl⟩
  case send =>
    intro s hstate hrx
    obtain ⟨f, hf, hexec⟩ := capsSend_completes hstate
    rw [State.capsAdvance_waits (s := s.capsQueued f) (.inr hrx)] at hexec
    exact ⟨_, hexec, rfl, hstate, rfl, f, hf, rfl⟩
  case sendUp =>
    intro s hstate hrx hin htrial hrate
    obtain ⟨f, -, hexec⟩ := capsSend_completes hstate
    have hseen : (s.capsQueued f).link.sentSeen = true := by simp [State.capsQueued, hin]
    rw [State.capsAdvance_seen (s := s.capsQueued f) hstate hseen hrx htrial,
      if_pos (show (s.capsQueued f).candidateRate = 0 from hrate)] at hexec
    exact ⟨_, hexec, State.enterUp_enters _ 0⟩
  case caps =>
    intro m cflags trialRate b s htaken hstate hsent
    obtain ⟨k, hexec⟩ := caps_inCaps htaken hstate cflags trialRate b
    rw [State.capsAdvance_waits (s := s.capsTaken cflags b k) (.inl hsent), (Calm.capsTaken ..).serveFaults] at hexec
    exact ⟨_, hexec, rfl, hstate, rfl, rfl, rfl, rfl⟩
  case exchanged =>
    intro m cflags trialRate b s htaken hstate hsent hseen htrial hrate
    obtain ⟨k, hexec⟩ := caps_inCaps htaken hstate cflags trialRate b
    have hrx : (s.capsTaken cflags b k).link.rxSeen = true := by simp [State.capsTaken, hseen]
    rw [State.capsAdvance_seen (s := s.capsTaken cflags b k) hstate hsent hrx htrial,
      if_neg (show (s.capsTaken cflags b k).candidateRate ≠ 0 from hrate),
      ((Calm.capsTaken s cflags b k).trans (.candidateFixed _)).serveFaults] at hexec
    exact ⟨_, hexec, rfl, hstate, rfl, rfl⟩
  case another =>
    intro m cflags trialRate b s htaken hstate hother
    have hup : (s.heard.peerTaken b).linkUp = true := by
      show (s.link.state == .up) = true
      simp [hstate]
    exact ⟨_, caps_inUp htaken hstate cflags trialRate hother,
      State.leaveUp_leftUp hup ((Calm.heard s).trans (.peerTaken _ b)) (by simp [State.heard]) 6⟩
  case capsTimeout =>
    intro dt s hstate hdue
    obtain ⟨hdetect, hnonce⟩ := s.advance_enterDetect dt
    exact ⟨_, capsTimeout_completes hstate hdue, hdetect, rfl, rfl, hnonce⟩
  case switch =>
    intro dt a s hstate htrial hdue
    exact ⟨_, trialSwitch_completes hstate htrial hdue, rfl, rfl, by simp, rfl, rfl, by simp⟩
  case pass =>
    intro errs s hstate hown hpeer herrs
    obtain ⟨f, hexec⟩ := trialPassed_completes hstate hown herrs
    rw [if_neg (by simp [hpeer])] at hexec
    exact ⟨_, hexec, rfl, hstate, rfl, rfl⟩
  case passUp =>
    intro errs s hstate hown hpeer herrs
    obtain ⟨f, hexec⟩ := trialPassed_completes hstate hown herrs
    rw [if_pos hpeer] at hexec
    obtain ⟨hup, hrate, hcount, -⟩ := ((s.trialOver 1).capsQueued f).enterUp_enters s.link.candidate
    exact ⟨_, hexec, hup, hrate, hcount⟩
  case fail =>
    intro lockHeld errs s hstate hown hfail
    obtain ⟨f, hexec⟩ := trialFailed_completes hstate hown hfail
    exact ⟨_, hexec, rfl, hstate, rfl, rfl⟩
  case failEnd =>
    intro dt a s hstate hown hresult hdue
    have hmarks := (s.advance dt).trialFailed_marks
    simp only [State.advance_link, State.advance_ch, State.advance_mem] at hmarks
    exact ⟨_, trialFailEnd_completes hstate hown hresult hdue, hmarks⟩
  case timeout =>
    intro dt a s hstate htrial hdue
    have hmarks := (s.advance dt).trialFailed_marks
    simp only [State.advance_link, State.advance_ch, State.advance_mem] at hmarks
    exact ⟨_, trialTimeout_completes hstate htrial hdue, hmarks⟩
  case bluebell =>
    intro dt a s hbell hdue
    exact ⟨_, bluebellEnd_completes hbell hdue, (s.advance_enterDetect dt).1, rfl, rfl⟩

end Sys2Proof.Machine
end

section
/-! The writes of SOURCE and EPOCH_BUMP (R194, R195, R201), and what elapsed time does to a slew, to the servo's rate and to
lock (R194, R196, R198, R199). -/

namespace Sys2Proof.Machine

open Sys2Proof

/-! ### What an epoch change leaves of the service of requests (R195) -/

theorem Answering.refl (s : State) : Answering s s := ⟨rfl, rfl, rfl⟩

theorem Answering.of_ite {s t u : State} {c : Prop} [Decidable c] (ht : Answering s t) (hu : Answering s u) :
    Answering s (if c then t else u) := by
  split
  · exact ht
  · exact hu

/-- A change that the frame lemmas of its operation cover. -/
theorem Answering.of_same {s t : State} (hod : t.od = s.od := by simp) (hyar : t.yar = s.yar := by simp)
    (hrst : t.rst = s.rst := by simp) : Answering s t := ⟨hod, hyar, hrst⟩

theorem Answering.forChans {s : State} {f : Fin 20 → State → State} (h : ∀ n t, Answering t (f n t)) :
    Answering s (s.forChans f) :=
  State.forChans_keeps (P := Answering s) (fun n t ht => ht.trans (h n t)) (.refl s)

theorem Answering.foldl {g : State → WinEntry → State} (h : ∀ t e, Answering t (g t e)) (s : State) (es : List WinEntry) :
    Answering s (es.foldl g s) :=
  List.foldlRecOn (motive := Answering s) es g (.refl s) fun t ht e _ => ht.trans (h t e)

theorem Answering.releaseEntries (s : State) (es : List WinEntry) : Answering s (s.releaseEntries es) := by
  unfold State.releaseEntries
  exact (Answering.foldl (fun _ _ => .of_same) s es).trans (.forChans fun _ t => .of_ite .of_same (.refl t))

theorem Answering.skipRest (s : State) (n : Fin 20) : Answering s (s.skipRest n) := by
  unfold State.skipRest
  dsimp only
  split
  · exact .refl s
  · exact .of_same

theorem Answering.refreshFlows (s : State) : Answering s s.refreshFlows := by
  unfold State.refreshFlows
  exact (Answering.forChans (f := fun n t => t.refreshFlow n) fun _ _ => .of_same).trans .of_same

theorem Answering.giveUpEntries (s : State) (due : WinEntry → Bool) : Answering s (s.giveUpEntries due) := by
  unfold State.giveUpEntries
  dsimp only
  split
  · exact .refl s
  · refine Answering.trans (t := s.modArq _) .of_same ((Answering.releaseEntries _ _).trans (.trans (.foldl ?_ _ _)
      ((Answering.refreshFlows _).trans (.of_ite .of_same (.refl _)))))
    intro t e
    split
    · exact .of_ite (.skipRest t _) (.refl t)
    · exact .refl t

theorem Answering.giveUpRecords (s : State) (gone : Nat × Nat → Bool) : Answering s (s.giveUpRecords gone) := by
  unfold State.giveUpRecords
  refine .forChans fun n t => .of_ite (.refl t) ?_
  dsimp only
  split
  · exact .refl t
  · exact .of_same

theorem Answering.giveUpEpoch (s : State) : Answering s s.giveUpEpoch := by
  unfold State.giveUpEpoch State.giveUp
  exact .of_ite (.refl s) ((Answering.giveUpEntries s _).trans (.giveUpRecords _ _))

theorem Answering.endLock (s : State) : Answering s s.endLock := by
  unfold State.endLock
  exact .of_ite .of_same (.refl s)

/-- A new EPOCH is kept in the AON domain, and counted; of the counter and of the service of requests nothing changes. -/
theorem State.setEpoch_kept (s : State) (e : Nat) :
    (s.setEpoch e).time = { s.time with epoch := e % 256, epochChanges := inc32 s.time.epochChanges } ∧
    (s.setEpoch e).rst = { s.rst with aonEpoch := e % 256, aonEpochKnown := true } ∧
    (s.setEpoch e).od = s.od ∧ (s.setEpoch e).yar = s.yar := by
  simp [State.setEpoch]

/-- An epoch change at the sender raises the epoch and leaves the counter, the blocks held and the service of requests. -/
theorem State.senderEpoch_kept (s : State) :
    s.senderEpoch.time.epoch = (s.time.epoch + 1) % 256 ∧ s.senderEpoch.rst.aonEpoch = (s.time.epoch + 1) % 256 ∧
    s.senderEpoch.time.wall = s.time.wall ∧ s.senderEpoch.od = s.od ∧ s.senderEpoch.yar = s.yar ∧
    s.senderEpoch.rst.blockReset = s.rst.blockReset := by
  obtain ⟨htime, hrst, hod, hyar⟩ := s.setEpoch_kept (s.time.epoch + 1)
  have hclock := (SameClock.giveUpEpoch (s.setEpoch (s.time.epoch + 1))).trans (.endLock _)
  have hanswer := (Answering.giveUpEpoch (s.setEpoch (s.time.epoch + 1))).trans (.endLock _)
  refine ⟨hclock.epoch.trans ?_, hclock.aon.trans ?_, hclock.wall.trans ?_, hanswer.od.trans hod, hanswer.yar.trans hyar, ?_⟩
  · rw [htime]
  · rw [hrst]
  · rw [htime]
  · exact (congrArg RstSt.blockReset hanswer.resets).trans (by rw [hrst])

/-! ### Writes of 5000h (R201) -/

/-- STATUS after a change of what it names leaves the clock (R204). -/
@[simp] theorem State.statusIfChanged_time (t s : State) (plan : Bool) : (t.statusIfChanged s plan).time = t.time := by
  unfold State.statusIfChanged
  split <;> simp

/-- A served WRITE of a TIME entry that leaves the service of requests: the clock and the resets are those of its effect `t`,
and the request is recorded with its abort code. -/
theorem timeWrite_answered {h : OdHead} {sub : Nat} {v : Byte} {s t : State} {c : Nat}
    (hs : OdServed h 2 0x5000 sub [v] s)
    (hw : ∀ row, Obj.time.row sub = some row → s.atRequest.writeTime sub (row.ty.value [v]) = (c, t))
    (hod : t.od = s.atRequest.od) (hyar : t.yar = s.yar) (hblocks : t.rst.blockReset = s.rst.blockReset) (hc : c ≠ abBusy) :
    (s.odWrite h 0x5000 sub [v]).time = t.time ∧ (s.odWrite h 0x5000 sub [v]).rst = t.rst ∧
      Recorded h c (s.odWrite h 0x5000 sub [v]) := by
  obtain ⟨-, -, hup, -, hserve, -, htask, -⟩ := hs.1
  obtain ⟨m, img, hx, hrec⟩ := odWrite_answered (t := t.statusIfChanged s.atRequest true) hs (objOf_index .time)
    (fun row hrow => by simp only [State.writeEntry, State.writeValue, hw row hrow])
    (by simp [hod, htask]) (by simp [hyar, hserve])
    (by simpa [State.blockUp, hblocks] using State.blockUp_of_mailboxUp hup) hc
  rw [hx]
  exact ⟨by simp, by simp, hrec⟩

/-- SOURCE is a byte. -/
theorem source_value {row : Row} (h : Obj.time.row 1 = some row) (v : Byte) : (row.ty.value [v]).toNat = v.toNat := by
  obtain rfl : (⟨0x01, .uint 1, .rws, 2, .span 0 1⟩ : Row) = row := Option.some.inj h
  simp [OTy.value, leNat]

/-- SOURCE takes its value at once, and 00h makes a sender's time valid where TIME runs (R194). -/
theorem State.applySource_time (s : State) (v : Nat) :
    (s.applySource v).time =
      { s.time with source := v, valid := s.time.valid || (s.sender && v == 0 && s.blockUp 2) } := rfl

/-- EPOCH_BUMP is an epoch change at a sender whose TIME runs (R195). -/
theorem State.writeTime_bump {s : State} (hsender : s.sender = true) (hup : s.blockUp 2 = true) (v : Int) :
    s.writeTime 8 v = (0, s.senderEpoch) :=
  if_pos (by rw [hsender, hup, Bool.and_self])

/-- EPOCH_BUMP is refused with STATE at a receiver, and where TIME is held (R201). -/
theorem State.writeTime_bump_refused {s : State} (h : s.sender = false ∨ s.blockUp 2 = false) (v : Int) :
    s.writeTime 8 v = (abState, s) :=
  if_neg (by rcases h with h | h <;> simp [h])

/-! ### TIME as time passes (R191, R194) -/

/-- Elapsed time moves the counter, and consumes a slew with its trim; nothing else of TIME changes. -/
theorem TimeSt.advance_moves (t : TimeSt) (dt : Nat) :
    ∃ w d r, t.advance dt = { t with wall := w, slew := d, trim := r } := by
  unfold TimeSt.advance
  dsimp only
  split
  · exact ⟨_, _, _, rfl⟩
  · split <;> exact ⟨_, _, _, rfl⟩

theorem State.advance_moves (s : State) (dt : Nat) :
    ∃ w d r, (s.advance dt).time = { s.time with wall := w, slew := d, trim := r } := by
  have hstays : ∃ w d r, s.time = { s.time with wall := w, slew := d, trim := r } := ⟨_, _, _, rfl⟩
  unfold State.advance
  dsimp only
  split
  · split
    · exact s.time.advance_moves dt
    · exact hstays
  · exact hstays

@[simp] theorem State.advance_sender (s : State) (dt : Nat) : (s.advance dt).sender = s.sender := by
  simp [State.sender]

/-- Where TIMECLK runs on the root PLL and TIME is out of reset, TIME advances with the time that passes. -/
theorem State.advance_time_running {s : State} (hclk : s.pwr.clkSource = 1) (hup : s.blockUp 2 = true) (dt : Nat) :
    (s.advance dt).time = s.time.advance dt := by
  have hup' : ∀ p : PwrSt, { s with now := s.now + 1250 * dt, pwr := p }.blockUp 2 = true := fun _ => hup
  simp [State.advance, hclk, State.modPwr, State.modTime, hup']

/-- A slew whose periods have passed is consumed, and its trim ends with it (R194). -/
theorem TimeSt.advance_consumed {t : TimeSt} {dt : Nat} (hslew : t.slew ≠ 0) (hdt : slewTicks t ≤ dt) :
    (t.advance dt).slew = 0 ∧ (t.advance dt).trim = 0 := by
  simp [TimeSt.advance, hslew, Nat.not_lt.mpr hdt]

/-! ### Holdover and the end of lock (R196, R198, R199) -/

/-- A device event is set at both ports (R89). -/
theorem State.attnBoth_set (s : State) (bit : Fin 32) (x : Port) :
    ((s.attnBoth bit.val).port x).attnCause.getLsbD bit.val = true := by
  cases x with
  | A =>
    rw [State.attnBoth, State.attn, State.modPort_port_other _ _ (by decide)]
    exact s.attn_set .A bit
  | B => exact (s.attn .A bit.val).attn_set .B bit

/-- Where the servo was locked, the end of lock is counted and told to both ports (R199). -/
theorem State.endLock_locked {s : State} (h : s.time.locked = true) :
    s.endLock.time.lockLosses = inc32 s.time.lockLosses ∧
    ∀ x, (s.endLock.port x).attnCause.getLsbD 15 = true := by
  unfold State.endLock
  rw [if_pos h]
  exact ⟨by simp, fun x => State.attnBoth_set _ 15 x⟩

/-- Without a used SYNC for 2 × P, a receiver goes into holdover at the rate FREQ (R196). -/
theorem holdoverStart_completes {dt a : Nat} {s : State} (hreceiver : s.sender = false) (hused : s.time.lastUsed = some a)
    (hperiod : s.time.period ≠ 0) (hdue : 2 * s.time.period ≤ ((s.now + 1250 * dt - a : Nat) : Rat)) :
    exec (.holdoverStart dt) s =
      .next ((s.advance dt).modTime fun t => { t with inHoldover := true, trim := t.freq }) := by
  obtain ⟨w, d, r, htime⟩ := s.advance_moves dt
  refine congrArg Host.Outcome.next ?_
  simp only [htime, hused, State.advance_sender, hreceiver, State.advance_now, if_neg hperiod, hdue]
  rfl

/-- HOLDOVER without a used SYNC ends a receiver's lock (R198, R199). -/
theorem holdoverExpiry_completes {dt a : Nat} {s : State} (hreceiver : s.sender = false) (hused : s.time.lastUsed = some a)
    (hdue : a + ms s.time.holdover ≤ s.now + 1250 * dt) : exec (.holdoverExpiry dt) s = .next (s.advance dt).endLock := by
  obtain ⟨w, d, r, htime⟩ := s.advance_moves dt
  refine congrArg Host.Outcome.next ?_
  simp only [htime, hused, State.advance_sender, hreceiver, State.advance_now, hdue]
  rfl

/-- Settles O40: the two writes are served writes of 5000h, and each event of time acts on TIME as the elapsed time leaves it. -/
theorem timeWritesAndEvents : Obligations.TimeWritesAndEvents := by
  unfold Obligations.TimeWritesAndEvents
  refine ⟨?source, ?bump, ?bumpRefused, ?slewEnd, ?holdoverStart, ?holdoverExpiry⟩
  case source =>
    intro h v s hs
    obtain ⟨htime, -, hrec⟩ := timeWrite_answered (c := 0) (t := s.atRequest.applySource v.toNat) hs
      (fun row hrow => congrArg (fun k => ok (s.atRequest.applySource k)) (source_value hrow v)) rfl
      (by simp [State.applySource]) (by simp [State.applySource]) (by decide)
    refine ⟨_, rfl, ?_⟩
    dsimp only
    rw [htime, State.applySource_time]
    refine ⟨rfl, by simp, ?_, hrec⟩
    rintro hsender rfl hup
    have hsender' : s.atRequest.sender = true := by simpa [State.sender] using hsender
    have hup' : s.atRequest.blockUp 2 = true := by simpa [State.blockUp] using hup
    simp [hsender', hup']
  case bump =>
    intro h v s hs hsender hup
    obtain ⟨hepoch, haon, hwall, hod, hyar, hblocks⟩ := s.atRequest.senderEpoch_kept
    simp only [State.atRequest_frame] at hepoch haon hwall hyar hblocks
    obtain ⟨htime, hrst, hrec⟩ := timeWrite_answered (c := 0) (t := s.atRequest.senderEpoch) hs
      (fun _ _ => State.writeTime_bump (by simpa [State.sender] using hsender) (by simpa [State.blockUp] using hup) _)
      hod hyar hblocks (by decide)
    refine ⟨_, rfl, ?_⟩
    dsimp only
    rw [htime, hrst]
    exact ⟨hepoch, haon, hwall, hrec⟩
  case bumpRefused =>
    intro h v s hs hrefused
    obtain ⟨htime, -, hrec⟩ := timeWrite_answered (c := abState) (t := s.atRequest) hs
      (fun _ _ => State.writeTime_bump_refused (by simpa [State.sender, State.blockUp] using hrefused) _)
      rfl (by simp) (by simp) (by decide)
    exact ⟨_, rfl, htime.trans (by simp), hrec⟩
  case slewEnd =>
    intro dt s hclk hup hslew hdt
    obtain ⟨hconsumed, htrim⟩ := TimeSt.advance_consumed hslew hdt
    refine ⟨s.advance dt, rfl, ?_, ?_, rfl⟩
    · rw [State.advance_time_running hclk hup, hconsumed]
    · rw [State.advance_time_running hclk hup, htrim]
  case holdoverStart =>
    intro dt a s hreceiver hused hperiod hdue
    obtain ⟨w, d, r, htime⟩ := s.advance_moves dt
    exact ⟨_, holdoverStart_completes hreceiver hused hperiod hdue, rfl, by simp [htime], rfl⟩
  case holdoverExpiry =>
    intro dt a s hreceiver hused hdue hlocked
    obtain ⟨w, d, r, htime⟩ := s.advance_moves dt
    obtain ⟨hlosses, hattn⟩ := State.endLock_locked (s := s.advance dt) (by simp [htime, hlocked])
    exact ⟨_, holdoverExpiry_completes hreceiver hused hdue, State.endLock_unlocked _, hlosses.trans (by rw [htime]), hattn,
      by simp, by simp⟩

end Sys2Proof.Machine
end

section
/-! The role of a twin as ROLE, PAIR_MODE and SWAP leave it (R214, R264): what a change of role and a graceful release do, and what
stands behind a served write of these entries. -/

namespace Sys2Proof.Machine

open Sys2Proof

/-! ### What messages and a change of role leave (R204, R209) -/

/-- A message sent does not move the role (R204). -/
@[simp] theorem State.clover_role (s : State) (type : Nat) (body : List Byte) :
    (s.clover type body).twin.role = s.twin.role := by
  have hnoted : ∀ (t : TwinSt) (now : Nat), (t.noteSent type body now).role = t.role := by
    intro t now
    unfold TwinSt.noteSent
    split <;> rfl
  have htwin : (if type = 1 ∨ type = 2 ∨ type = 8 then s else s.active).twin = s.twin := by split <;> simp
  unfold State.clover
  split
  · simp [hnoted, htwin]
  · rfl

/-- A fresh CAPS is the link's alone (R162). -/
@[simp] theorem State.twinChanged_frame (s : State) :
    s.twinChanged.twin = s.twin ∧ s.twinChanged.od = s.od ∧ s.twinChanged.yar = s.yar ∧ s.twinChanged.rst = s.rst := by
  unfold State.twinChanged
  split <;> simp [State.sendCaps]

/-- What is told of a change of role: ATTN TWIN, a fresh CAPS and a STATUS (R89, R162, R204). -/
def State.roleTold (s : State) : State := ((s.attnBoth 16).twinChanged).sendStatus

theorem SameRole.roleTold (s : State) : SameRole s s.roleTold :=
  (SameRole.of_twin (t := (s.attnBoth 16).twinChanged)).trans (.clover _ _ _)

theorem Answering.roleTold (s : State) : Answering s s.roleTold := by
  constructor <;> simp [State.roleTold]

@[simp] theorem State.roleTold_role (s : State) : s.roleTold.twin.role = s.twin.role := by
  simp [State.roleTold, State.sendStatus]

/-- A device that changes its role has the role it takes, and is told of. -/
theorem State.setRole_of_ne {s : State} {r : TwinRole} (h : s.twin.role ≠ r) :
    s.setRole r = (s.modTwin fun t =>
      { t with role := r, standbyHold := if r = .active then t.standbyHold else 0,
               joinLog := if r = .joining then t.joinLog else [] }).roleTold :=
  if_neg h

/-- A graceful release of an ACTIVE device makes it STANDBY without the latch, and requests are answered as before (R214). -/
theorem State.gracefulRelease_standby {s : State} (h : s.twin.role = .active) :
    s.gracefulRelease.twin.role = .standby ∧ s.gracefulRelease.twin.own = false ∧ Answering s s.gracefulRelease := by
  unfold State.gracefulRelease
  dsimp only
  rw [State.setRole_of_ne (by simp [State.releaseLatch, h])]
  refine ⟨by simp, (SameRole.roleTold _).own, Answering.trans ?_ (.roleTold _)⟩
  exact .of_same (by simp [State.releaseLatch]) (by simp [State.releaseLatch]) (by simp [State.releaseLatch])

/-! ### A served write of these entries (R204, R247) -/

theorem SameRole.statusIfChanged (t s : State) (plan : Bool) : SameRole t (t.statusIfChanged s plan) :=
  .of_ite (.clover _ _ _) (.refl t)

@[simp] theorem State.statusIfChanged_role (t s : State) (plan : Bool) :
    (t.statusIfChanged s plan).twin.role = t.twin.role := by
  unfold State.statusIfChanged
  split <;> simp [State.sendStatus]

/-- A served WRITE of one byte that is accepted and leaves the service of requests: the role, the latch, the resets and the
channels are those of its effect `t`, and the request is recorded. -/
theorem roleWrite_answered {h : OdHead} {index sub : Nat} {v : Byte} {s t : State} {ob : Obj}
    (hs : OdServed h 2 index sub [v] s) (hob : objOf index = some ob)
    (hw : ∀ row q, ob.row sub = some row → s.atRequest.writeValue q ob sub (row.ty.value [v]) = (0, t))
    (hod : t.od = s.atRequest.od) (hyar : t.yar = s.yar) (hblocks : t.rst.blockReset = s.rst.blockReset) :
    SameRole t (s.odWrite h index sub [v]) ∧ (s.odWrite h index sub [v]).twin.role = t.twin.role ∧
      (s.odWrite h index sub [v]).ch = t.ch ∧ Recorded h 0 (s.odWrite h index sub [v]) := by
  obtain ⟨-, -, hup, -, hserve, -, htask, -⟩ := hs.1
  obtain ⟨m, img, hx, hrec⟩ := odWrite_answered (t := t.statusIfChanged s.atRequest true) (c := 0) hs hob
    (fun row hrow => by simp only [State.writeEntry, hw row _ hrow])
    (by simp [hod, htask]) (by simp [hyar, hserve])
    (by simpa [State.blockUp, hblocks] using State.blockUp_of_mailboxUp hup) (by decide)
  rw [hx]
  exact ⟨(SameRole.statusIfChanged t s.atRequest true).trans .of_twin, by simp, by simp, hrec⟩

/-- ROLE is a byte. -/
theorem role_value {row : Row} (h : Obj.role.row 1 = some row) (v : Byte) : (row.ty.value [v]).toNat = v.toNat := by
  obtain rfl : (⟨0x01, .uint 1, .rws, 2, .span 1 2⟩ : Row) = row := Option.some.inj h
  simp [OTy.value, leNat]

/-- SWAP that is allowed is a graceful release (R214). -/
theorem State.writeTwin_swap {s : State} (h : s.swapAllowed = true) (v : Nat) : s.writeTwin 2 v = (0, s.gracefulRelease) :=
  if_pos h

/-- Settles O38: ROLE and PAIR_MODE are served writes of the copies that the next Device reset loads, and SWAP is one whose effect is
the graceful release. -/
theorem rolesAndSwap : Obligations.RolesAndSwap := by
  unfold Obligations.RolesAndSwap
  refine ⟨?role, ?pairMode, ?swap⟩
  case role =>
    intro h v s hs
    obtain ⟨hsame, -, hch, hrec⟩ := roleWrite_answered
      (t := s.atRequest.modRst fun r => { r with roleNext := v.toNat }) hs (objOf_index .role)
      (fun row _ hrow => by simp only [State.writeValue, role_value hrow, ok]) (by simp) (by simp) (by simp)
    refine ⟨_, rfl, ?_⟩
    dsimp only
    rw [hsame.resets, hch]
    exact ⟨rfl, by simp, by simp, hrec⟩
  case pairMode =>
    intro h v s hs
    obtain ⟨hsame, hrole, -, hrec⟩ := roleWrite_answered
      (t := s.atRequest.modRst fun r => { r with pairNext := v.toNat }) hs (objOf_index .twin)
      (fun row _ hrow => by simp only [State.writeValue, pairMode_value hrow, State.writeTwin, ok])
      (by simp) (by simp) (by simp)
    refine ⟨_, rfl, ?_⟩
    dsimp only
    rw [hsame.resets, hsame.pair, hrole]
    exact ⟨rfl, by simp, by simp, hrec⟩
  case swap =>
    intro h v s hs hallowed
    have hallowed' : s.atRequest.swapAllowed = true := by simpa [State.swapAllowed] using hallowed
    have hactive : s.atRequest.twin.role = .active := by
      simp only [State.swapAllowed, Bool.and_eq_true, beq_iff_eq] at hallowed'
      obtain ⟨⟨-, hactive⟩, -⟩ := hallowed'
      exact hactive
    obtain ⟨hstandby, hreleased, hanswer⟩ := State.gracefulRelease_standby hactive
    obtain ⟨hsame, hrole, -, hrec⟩ := roleWrite_answered (t := s.atRequest.gracefulRelease) hs (objOf_index .twin)
      (fun row _ _ => State.writeTwin_swap hallowed' (row.ty.value [v]).toNat) hanswer.od
      (by simp [hanswer.yar]) (by simp [hanswer.resets])
    exact ⟨_, rfl, hrole.trans hstandby, hsame.own.trans hreleased, hrec⟩

end Sys2Proof.Machine
end

section
/-! The loss of the partner of a Chain pair where a deferred fence entry takes effect by the move of a channel (R43, R46, R221). -/

namespace Sys2Proof.Machine

open Sys2Proof

/-- Device 1 of a Chain pair, with a raw channel of 128 words. The word at offset 0 is fenced, and its entry is deferred. RP has
passed that word, and in AUTO mode LP follows with the next change of the channel (R43, R99). -/
def chainBehindFence : State :=
  { fenceBehindRp with twin := { fenceBehindRp.twin with pairInUse := 2, twinId := true, role := .active } }

/-- The ACTIVE channel is to drain; LP passes the fenced word, 127 words are left, and the channel is in FAULT (R46, R49). -/
theorem chainPartnerFault_chainBehindFence :
    (chainBehindFence.chan 0).invariant = true ∧ (chainBehindFence.chan 0).state = .active ∧
    ∃ t, exec .chainPartnerFault chainBehindFence = .next t ∧ (t.chan 0).state = .fault :=
  ⟨by decide +kernel, rfl, _, rfl, by decide +kernel⟩

/-- Refutes O55: the clause of a Chain partner's loss does not exclude a deferred fence entry, and where one takes effect as the
ACTIVE channel begins to drain and leaves fewer than 128 words, the channel is in FAULT and not DRAINING. -/
theorem not_twinEvents : ¬ Obligations.TwinEvents := by
  unfold Obligations.TwinEvents
  rintro ⟨-, -, -, -, -, -, -, -, -, -, -, -, -, -, -, -, -, -, hloss, -⟩
  obtain ⟨-, hactive, t, hexec, hfault⟩ := chainPartnerFault_chainBehindFence
  obtain ⟨u, hu, -, -, hdrains⟩ := hloss chainBehindFence rfl
  obtain rfl : t = u := Host.Outcome.next.inj (hexec.symm.trans hu)
  have hdraining : (t.chan 0).state = .draining := hdrains 0 hactive
  rw [hfault] at hdraining
  exact absurd hdraining (by decide)

end Sys2Proof.Machine
end

section
/-! SUPPORT. What every function of the model keeps: the canonical forms of the memories, the bounds of Tansy's queues, and the
clock and the queue of commands, which only a command whose time passes and the step itself move. There is one lemma for each
function that makes a state, in the order of the model, proved from those of the functions it calls. -/

namespace Sys2Proof.Machine

open Sys2Proof

/- Elaborated one after another, the many small proofs below need far less memory than side by side. -/
set_option Elab.async false


/-- The SRAM and the log RAM in their canonical form. -/
def YarSt.Canonical (y : YarSt) : Prop := Memory.wf y.sram ∧ Memory.wf y.logRam

/-- The bounds of the repair queue and of the pending repair records (R315, R322). -/
def TansySt.Bounded (t : TansySt) : Prop := t.queue.length ≤ 16 ∧ t.pending.length ≤ 32

theorem TansySt.commitRecord_bounded {t : TansySt} (h : t.Bounded) : t.commitRecord.Bounded := by
  unfold TansySt.commitRecord
  grind only [TansySt.Bounded]

theorem TansySt.append_bounded {t : TansySt} (h : t.Bounded) (r : RepairRec) : (t.append r).Bounded :=
  TansySt.commitRecord_bounded h

theorem TansySt.applyRecord_bounded {t : TansySt} (h : t.Bounded) (r : RepairRec) : (t.applyRecord r).Bounded := by
  unfold TansySt.applyRecord TansySt.mapRow
  grind only [TansySt.Bounded]

theorem TansySt.noteCorrected_bounded {t : TansySt} (h : t.Bounded) (key : Nat) : (t.noteCorrected key).Bounded := by
  unfold TansySt.noteCorrected
  exact ⟨h.1, h.2⟩

theorem YarSt.commitLog_canonical {y : YarSt} (h : y.Canonical) : y.commitLog.Canonical := by
  unfold YarSt.commitLog
  grind only [YarSt.Canonical]

theorem YarSt.persist_canonical {y : YarSt} (h : y.Canonical) (e : LogEntry) : (y.persist e).Canonical := by
  have hc := YarSt.commitLog_canonical h
  unfold YarSt.persist
  dsimp only
  split
  · exact hc
  · exact hc

theorem YarSt.refill_canonical {y : YarSt} (h : y.Canonical) (now : Nat) : (y.refill now).Canonical := by
  unfold YarSt.refill
  grind only [YarSt.Canonical]

/-- An entry written to the log RAM where it is not held (R235). -/
theorem YarSt.logRam_canonical {y : YarSt} (h : y.Canonical) (up : Bool) (a seq : Nat) (bs : List Byte) :
    ({ y with logRam := if up then storeBytes y.logRam a bs else y.logRam, nextSeq := seq } : YarSt).Canonical := by
  refine ⟨h.1, ?_⟩
  cases up
  · exact h.2
  · exact storeBytes_wf h.2 a bs

theorem YarSt.flashLogged_canonical {y : YarSt} (h : y.Canonical) (flash : Prop) [Decidable flash] (severity : Nat)
    (e : LogEntry) :
    (if flash then y else if 0 < y.bucket then { y.persist e with bucket := y.bucket - 1 }
      else if severity = 15 then y.persist e else { y with flashSkipped := inc32 y.flashSkipped }).Canonical := by
  have hp := YarSt.persist_canonical h e
  repeat' split
  · exact h
  · exact hp
  · exact hp
  · exact h

theorem YarSt.sramLoad_canonical {y : YarSt} (h : y.Canonical) (a n : Nat) : (y.sramLoad a n).2.Canonical := by
  unfold YarSt.sramLoad
  exact ⟨h.1, h.2⟩

theorem YarSt.sramStore_canonical {y : YarSt} (h : y.Canonical) (a : Nat) (bs : List Byte) :
    (y.sramStore a bs).Canonical := by
  unfold YarSt.sramStore
  exact ⟨storeBytes_wf h.1 a bs, h.2⟩

theorem YarSt.dropTorn_canonical {y : YarSt} (h : y.Canonical) : y.dropTorn.Canonical := by
  unfold YarSt.dropTorn
  exact ⟨h.1, h.2⟩

theorem copyRowFrom_canonical {m : MemSt} (h : m.canonical) (bank src dst c k : Nat) :
    (copyRowFrom m bank src dst c k).canonical := by
  induction k with
  | zero => exact h
  | succ k ih =>
    rw [copyRowFrom]
    exact copyWordAt_canonical ih _ _

/-- What every function of the model keeps of the state it acts on. -/
structure Keeps (s t : State) : Prop where
  memories : MemoriesCanonical s → MemoriesCanonical t
  queues : QueuesBounded s → QueuesBounded t
  clock : t.now = s.now ∧ t.pending = s.pending

/-- A command's outcome keeps it where it completes. -/
def KeepsNext (s : State) (o : Host.Outcome State Fault Refusal) : Prop :=
  ∀ t, o = .next t → Keeps s t

namespace Keeps

variable {s t u : State}

theorem refl (s : State) : Keeps s s := ⟨id, id, rfl, rfl⟩

/-- What stands for the blocks apart: the clock, the array, Yarrow's memories and Tansy. -/
theorem of_blocks (h : Keeps s t) (hc : u.now = t.now ∧ u.pending = t.pending) (hm : t.mem.canonical → u.mem.canonical)
   (hy : t.yar.Canonical → u.yar.Canonical) (ht : t.tansy.Bounded → u.tansy.Bounded) : Keeps s u := by
  obtain ⟨hmem, hqueue, hclock⟩ := h
  refine ⟨?_, fun h => ht (hqueue h), hc.1.trans hclock.1, hc.2.trans hclock.2⟩
  intro h
  obtain ⟨hc, he, hs, hl⟩ := hmem h
  obtain ⟨hc, he⟩ := hm ⟨hc, he⟩
  obtain ⟨hs, hl⟩ := hy ⟨hs, hl⟩
  exact ⟨hc, he, hs, hl⟩

/-- A state written out with the array, Yarrow and Tansy as they were. -/
theorem of_update (h : Keeps s t) {fc ch pA pB lk aq tm tw od up rs pw} :
   Keeps s ⟨t.pending, t.now, fc, ch, pA, pB, t.mem, t.tansy, lk, aq, tm, tw, od, t.yar, up, rs, pw⟩ :=
  h.of_blocks ⟨rfl, rfl⟩ id id id

theorem modCh (h : Keeps s t) (n : Fin 20) (f : Chan → Chan) : Keeps s (t.modCh n f) :=
  h.of_blocks ⟨rfl, rfl⟩ id id id

theorem modCnt (h : Keeps s t) (n : Fin 20) (f) : Keeps s (t.modCnt n f) :=
  h.of_blocks ⟨rfl, rfl⟩ id id id

theorem modPort (h : Keeps s t) (x f) : Keeps s (t.modPort x f) :=
  h.of_blocks ⟨by simp, by simp⟩ (by simp) (by simp) (by simp)

theorem modPCnt (h : Keeps s t) (x f) : Keeps s (t.modPCnt x f) :=
  h.of_blocks ⟨by simp, by simp⟩ (by simp) (by simp) (by simp)

theorem modLink (h : Keeps s t) (f) : Keeps s (t.modLink f) :=
  h.of_blocks ⟨rfl, rfl⟩ id id id

theorem modLinkCnt (h : Keeps s t) (f) : Keeps s (t.modLinkCnt f) :=
  h.of_blocks ⟨rfl, rfl⟩ id id id

theorem modArq (h : Keeps s t) (f) : Keeps s (t.modArq f) :=
  h.of_blocks ⟨rfl, rfl⟩ id id id

theorem modTime (h : Keeps s t) (f) : Keeps s (t.modTime f) :=
  h.of_blocks ⟨rfl, rfl⟩ id id id

theorem modTwin (h : Keeps s t) (f) : Keeps s (t.modTwin f) :=
  h.of_blocks ⟨rfl, rfl⟩ id id id

theorem modOd (h : Keeps s t) (f) : Keeps s (t.modOd f) :=
  h.of_blocks ⟨rfl, rfl⟩ id id id

theorem modUpd (h : Keeps s t) (f) : Keeps s (t.modUpd f) :=
  h.of_blocks ⟨rfl, rfl⟩ id id id

theorem modRst (h : Keeps s t) (f) : Keeps s (t.modRst f) :=
  h.of_blocks ⟨rfl, rfl⟩ id id id

theorem modPwr (h : Keeps s t) (f) : Keeps s (t.modPwr f) :=
  h.of_blocks ⟨rfl, rfl⟩ id id id

theorem modMem (h : Keeps s t) {f : MemSt → MemSt} (hf : t.mem.canonical → (f t.mem).canonical) : Keeps s (t.modMem f) :=
  h.of_blocks ⟨rfl, rfl⟩ hf id id

theorem modYar (h : Keeps s t) {f : YarSt → YarSt} (hf : t.yar.Canonical → (f t.yar).Canonical) : Keeps s (t.modYar f) :=
  h.of_blocks ⟨rfl, rfl⟩ id hf id

theorem modTansy (h : Keeps s t) {f : TansySt → TansySt} (hf : t.tansy.Bounded → (f t.tansy).Bounded) :
    Keeps s (t.modTansy f) :=
  h.of_blocks ⟨rfl, rfl⟩ id id hf

theorem foldl {α : Type} {f : State → α → State} (hf : ∀ u a, Keeps s u → Keeps s (f u a)) (l : List α) (h : Keeps s t) :
    Keeps s (l.foldl f t) := by
  induction l generalizing t with
  | nil => exact h
  | cons a l ih => exact ih (hf t a h)

theorem forChans {f : Fin 20 → State → State} (h : Keeps s t) (hf : ∀ n u, Keeps s u → Keeps s (f n u)) :
    Keeps s (t.forChans f) :=
  foldl (fun u n => hf n u) _ h

theorem branch {c : Prop} [Decidable c] (h : Keeps s t) (h' : Keeps s u) : Keeps s (if c then t else u) := by
  split <;> assumption

/-- The array and Tansy of another state that is kept too (R73). -/
theorem takeMem (h : Keeps s t) (hu : Keeps s u) : Keeps s { t with mem := u.mem, tansy := u.tansy } :=
  ⟨fun hs => ⟨(hu.memories hs).1, (hu.memories hs).2.1, (h.memories hs).2.2⟩, hu.queues, h.clock⟩

theorem sramLoad (h : Keeps s t) (a n : Nat) : Keeps s (t.modYar fun _ => (t.yar.sramLoad a n).2) :=
  h.modYar (YarSt.sramLoad_canonical · a n)

theorem sramStore (h : Keeps s t) (a : Nat) (bs : List Byte) : Keeps s (t.modYar fun y => y.sramStore a bs) :=
  h.modYar (YarSt.sramStore_canonical · a bs)

theorem logStore (h : Keeps s t) (a : Nat) (bs : List Byte) :
    Keeps s (t.modYar fun y => { y with logRam := storeBytes y.logRam a bs }) :=
  h.modYar fun hy => ⟨hy.1, storeBytes_wf hy.2 a bs⟩

/-! ### The operations on the state -/

theorem draw (h : Keeps s t) :
    Keeps s (t.draw).2 := by
  unfold State.draw
  grind only [← of_update]

theorem mirrorPhys (h : Keeps s t) (bank row col : Nat) {f : MemSt → Nat → MemSt}
    (hf : ∀ m w, m.canonical → (f m w).canonical) : Keeps s (t.mirrorPhys bank row col f) := by
  unfold State.mirrorPhys
  grind only [← modMem, ← modTansy, TansySt.Bounded]

theorem mirrorWrite (h : Keeps s t) (l : Loc) {f : MemSt → Nat → MemSt}
    (hf : ∀ m w, m.canonical → (f m w).canonical) : Keeps s (t.mirrorWrite l f) :=
  h.mirrorPhys _ _ _ hf

theorem storeWord (h : Keeps s t) (l : Loc) (bs : List Byte) : Keeps s (t.storeWord l bs) :=
  (h.modMem (writeWordAt_canonical · _ bs)).mirrorWrite l fun _ w hm => writeWordAt_canonical hm w bs

theorem queueRepair (h : Keeps s t) (b row col : Nat) : Keeps s (t.queueRepair b row col) := by
  unfold State.queueRepair
  refine h.modTansy ?_
  grind only [TansySt.Bounded, = List.length_append, = List.length_cons, = List.length_nil]

theorem setLastUe (h : Keeps s t) (v : W32) :
    Keeps s (t.setLastUe v) := by
  unfold State.setLastUe
  grind only [← modMem, MemSt.canonical, ← of_update]

theorem noteRead (h : Keeps s t) (l : Loc) (p : Nat) (r : WordRd) :
    Keeps s (t.noteRead l p r) := by
  unfold State.noteRead
  grind only [← queueRepair, ← setLastUe, ← modMem, MemSt.canonical, ← of_update]

theorem countRead (h : Keeps s t) (l : Loc) (p : Nat) (r : WordRd) :
    Keeps s (t.countRead l p r) := by
  unfold State.countRead
  grind only [← noteRead, ← modMem, ← modCnt, MemSt.canonical, ← of_update]

theorem readP (h : Keeps s t) (p : Nat) :
    Keeps s (t.readP p).2 := by
  unfold State.readP
  grind only [← countRead]

theorem writeP (h : Keeps s t) (p off : Nat) (bs : List Byte) : Keeps s (t.writeP p off bs).2 := by
  have hrmw : ∀ w r data (m : MemSt) v, m.canonical → (rewriteLanes (copyWordAt m w v) v r data).canonical :=
    fun w r data m v hm => rewriteLanes_canonical (copyWordAt_canonical hm w v) v r data
  unfold State.writeP
  grind only [← storeWord, ← countRead, ← modMem, ← mirrorWrite, ← rewriteLanes_canonical]

theorem countRefused (h : Keeps s t) (m : Fin 6) :
    Keeps s (t.countRefused m) := by
  unfold State.countRefused
  grind only [← modMem, MemSt.canonical, ← of_update]

theorem attn (h : Keeps s t) (x : Port) (bit : Nat) :
    Keeps s (t.attn x bit) := by
  unfold State.attn
  grind only [← modPort, ← of_update]

theorem attnBoth (h : Keeps s t) (bit : Nat) :
    Keeps s (t.attnBoth bit) := by
  unfold State.attnBoth
  grind only [← attn]

theorem attnChAt (h : Keeps s t) (x : Port) (n : Fin 20) (bit : Nat) :
    Keeps s (t.attnChAt x n bit) := by
  unfold State.attnChAt
  grind only [← modPort, ← of_update]

theorem attnCh (h : Keeps s t) (n : Fin 20) (bit : Nat) :
    Keeps s (t.attnCh n bit) := by
  unfold State.attnCh
  grind only [← attnChAt]

theorem attnConsumer (h : Keeps s t) (n : Fin 20) (bit : Nat) :
    Keeps s (t.attnConsumer n bit) := by
  unfold State.attnConsumer
  grind only [← attnChAt, ← of_update]

theorem commitLog (h : Keeps s t) : Keeps s t.commitLog :=
  branch ((h.modYar YarSt.commitLog_canonical).modTansy TansySt.commitRecord_bounded) h

theorem log (h : Keeps s t) (code src severity data : Nat) : Keeps s (t.log code src severity data) := by
  unfold State.log
  exact h.modYar fun hy =>
    YarSt.flashLogged_canonical (YarSt.logRam_canonical (YarSt.refill_canonical hy _) _ _ _ _) _ _ _

theorem active (h : Keeps s t) :
    Keeps s (t.active) := by
  unfold State.active
  grind only [← modPwr, ← of_update]

theorem idleAnew (h : Keeps s t) :
    Keeps s (t.idleAnew) := by
  unfold State.idleAnew
  grind only [← modPwr, ← of_update]

theorem wakeDoze (h : Keeps s t) :
    Keeps s (t.wakeDoze) := by
  unfold State.wakeDoze
  grind only [← modPwr, ← of_update]

theorem clover (h : Keeps s t) (type : Nat) (body : List Byte) :
    Keeps s (t.clover type body) := by
  unfold State.clover
  grind only [← modTwin, ← active, ← of_update]

theorem observed (h : Keeps s t) (e : JoinEvent) (act : State → State) (hact : ∀ u, Keeps s u → Keeps s (act u)) :
    Keeps s (t.observed e act) := by
  unfold State.observed
  grind only [← modTwin, ← of_update]

theorem announce (h : Keeps s t) (type : Nat) (body : List Byte) :
    Keeps s (t.announce type body) := by
  unfold State.announce
  grind only [← clover]

theorem portEvt (h : Keeps s t) (x : Port) (event seq : Nat) :
    Keeps s (t.portEvt x event seq) := by
  unfold State.portEvt
  grind only [← clover, ← modTwin, ← of_update]

theorem freeLocks (h : Keeps s t) (o : Owner) :
    Keeps s (t.freeLocks o) := by
  unfold State.freeLocks
  grind only [← modMem, MemSt.canonical, ← of_update]

theorem freeAllLocks (h : Keeps s t) :
    Keeps s (t.freeAllLocks) := by
  unfold State.freeAllLocks
  grind only [← modMem, MemSt.canonical, ← of_update]

/-! ### The ports -/

theorem launch (h : Keeps s t) (x : Port) (b : Beat) :
    Keeps s (t.launch x b) := by
  unfold State.launch
  grind only [← modPort, ← modTwin, ← of_update]

theorem finish (h : Keeps s t) (x : Port) (k : PCmd) (b : Beat) :
    Keeps s (t.finish x k b) := by
  unfold State.finish
  grind only [← modPort, ← idleAnew, ← launch, ← of_update]

theorem finishStat (h : Keeps s t) (x : Port) (k : PCmd) (stat : Nat) :
    Keeps s (t.finishStat x k stat) := by
  unfold State.finishStat
  grind only [← finish]

theorem updCmd (h : Keeps s t) (x : Port) (k k' : PCmd) :
    Keeps s (t.updCmd x k k') := by
  unfold State.updCmd
  grind only [← modPort, ← of_update]

theorem presetPending (h : Keeps s t) (n : Fin 20) (stat : Nat) :
    Keeps s (t.presetPending n stat) := by
  unfold State.presetPending
  grind only [← modPort, ← of_update]

/-! ### The channel engine -/

theorem autoRelease (h : Keeps s t) (n : Fin 20) :
    Keeps s (t.autoRelease n) := by
  unfold State.autoRelease
  grind only [← modCh, ← of_update]

theorem ridle (h : Keeps s t) (n : Fin 20) :
    Keeps s (t.ridle n) := by
  unfold State.ridle
  grind only [← modCh, ← of_update]

theorem setHold (h : Keeps s t) (n : Fin 20) (h' : Bool) :
    Keeps s (t.setHold n h') := by
  unfold State.setHold
  grind only [← modCh, ← clover, ← of_update]

theorem evalHold (h : Keeps s t) (n : Fin 20) :
    Keeps s (t.evalHold n) := by
  unfold State.evalHold
  grind only [← setHold]

theorem sendCredits (h : Keeps s t) :
    Keeps s (t.sendCredits) := by
  unfold State.sendCredits
  grind only [← clover]

theorem evalCredit (h : Keeps s t) (n : Fin 20) :
    Keeps s (t.evalCredit n) := by
  unfold State.evalCredit
  grind only [← sendCredits, ← modCh, ← of_update]

theorem freeSenderRecords (h : Keeps s t) (n : Fin 20) :
    Keeps s (t.freeSenderRecords n) := by
  unfold State.freeSenderRecords
  grind only [← modCh, ← foldl]

theorem countCut (h : Keeps s t) (n : Fin 20) :
    Keeps s (t.countCut n) := by
  unfold State.countCut
  grind only [← modCnt, ← countRead, ← of_update]

theorem passOver (h : Keeps s t) (n : Fin 20) :
    Keeps s (t.passOver n) := by
  unfold State.passOver
  grind only [← countCut, ← modCh, ← modArq, ← of_update]

theorem cutHead (h : Keeps s t) (n : Fin 20) :
    Keeps s (t.cutHead n) := by
  unfold State.cutHead
  grind only [← passOver]

theorem refreshFlow (h : Keeps s t) (n : Fin 20) :
    Keeps s (t.refreshFlow n) := by
  unfold State.refreshFlow
  grind only [← modCh, ← of_update]

theorem dropOpen (h : Keeps s t) (n : Fin 20) :
    Keeps s (t.dropOpen n) := by
  unfold State.dropOpen
  grind only [← modCh, ← modCnt, ← of_update]

theorem stopChannel (h : Keeps s t) (n : Fin 20) :
    Keeps s (t.stopChannel n) := by
  unfold State.stopChannel
  grind only [← setHold, ← dropOpen, ← modCh, ← modArq, ← modTwin, ← of_update]

theorem chFault (h : Keeps s t) (n : Fin 20) (cause : Nat) :
    Keeps s (t.chFault n cause) := by
  unfold State.chFault
  grind only [← stopChannel, ← presetPending, ← modCh, ← attnCh, ← evalCredit, ← of_update]

theorem trim (h : Keeps s t) (n : Fin 20) :
    Keeps s (t.trim n) := by
  unfold State.trim
  grind only [← modCh, ← chFault]

theorem settle (h : Keeps s t) (n : Fin 20) : Keeps s (t.settle n) :=
  ((((((((h.autoRelease n).cutHead n).trim n).freeSenderRecords n).evalHold n).evalCredit n).ridle n).refreshFlow n)

theorem discardOpen (h : Keeps s t) (n : Fin 20) :
    Keeps s (t.discardOpen n) := by
  unfold State.discardOpen
  grind only [← settle, ← dropOpen]

theorem discardPacket (h : Keeps s t) (n : Fin 20) :
    Keeps s (t.discardPacket n) := by
  unfold State.discardPacket
  grind only [← discardOpen, ← modCh]

theorem copyRaw (h : Keeps s t) (n : Fin 20) (tail : Bool) (bs : List Byte) :
    Keeps s (t.copyRaw n tail bs) := by
  unfold State.copyRaw
  grind only [← announce]

theorem announceRefusal (h : Keeps s t) (n : Fin 20) (wseq why : Nat) :
    Keeps s (t.announceRefusal n wseq why) := by
  unfold State.announceRefusal
  grind only [← announce]

theorem diverge (h : Keeps s t) (cause : Nat) :
    Keeps s (t.diverge cause) := by
  unfold State.diverge
  grind only [← modTwin, ← attnBoth, ← of_update]

theorem refusePacket (h : Keeps s t) (n : Fin 20) (wseq slice frame : Nat) :
    Keeps s (t.refusePacket n wseq slice frame) := by
  unfold State.refusePacket
  grind only [← modCh, ← modCnt, ← announceRefusal, ← attnCh, ← modTwin, ← settle, ← of_update]

theorem adoptSpace (h : Keeps s t) (n : Fin 20) (wseq slice frame : Nat) :
    Keeps s (t.adoptSpace n wseq slice frame) := by
  unfold State.adoptSpace
  grind only [← refusePacket, ← modTwin, ← of_update]

theorem countStateRefused (h : Keeps s t) (n : Fin 20) (x : Option Port) :
    Keeps s (t.countStateRefused n x) := by
  unfold State.countStateRefused
  grind only [← modCnt, ← attnChAt, ← of_update]

theorem dropHeld (h : Keeps s t) (n : Fin 20) :
    Keeps s (t.dropHeld n) := by
  unfold State.dropHeld
  grind only [← modCh, ← modCnt, ← settle, ← attnCh, ← of_update]

theorem makeRoom (h : Keeps s t) (n : Fin 20) :
    Keeps s (t.makeRoom n) := by
  unfold State.makeRoom
  grind only [← dropHeld]

theorem writeWord (h : Keeps s t) (n : Fin 20) (bs : List Byte) :
    Keeps s (t.writeWord n bs) := by
  unfold State.writeWord
  grind only [← storeWord, ← modCh, ← of_update]

theorem refuseOpen (h : Keeps s t) (n : Fin 20) (x : Option Port) (wseq : Nat) :
    Keeps s (t.refuseOpen n x wseq) := by
  unfold State.refuseOpen
  grind only [← modCh, ← announceRefusal, ← countStateRefused, ← of_update]

theorem startPacket (h : Keeps s t) (n : Fin 20) (x : Option Port) (wseq slice kind frame : Nat) :
    Keeps s (t.startPacket n x wseq slice kind frame) := by
  unfold State.startPacket
  grind only [← makeRoom, ← refuseOpen, ← refusePacket, ← settle, ← modCh, ← of_update]

theorem prodOpen (h : Keeps s t) (n : Fin 20) (x : Option Port) (own : Bool) (wseq slice kind frame : Nat) :
    Keeps s (t.prodOpen n x own wseq slice kind frame) := by
  unfold State.prodOpen
  grind only [← discardPacket, ← modCh, ← modTwin, ← refuseOpen, ← announceRefusal, ← countStateRefused, ← adoptSpace,
    ← startPacket, ← of_update]

theorem storeFull (h : Keeps s t) (n : Fin 20) (fuel : Nat) : Keeps s (t.storeFull n fuel) := by
  induction fuel generalizing t with
  | zero => exact h
  | succ fuel ih =>
    unfold State.storeFull
    grind only [← makeRoom, ← refusePacket, ← writeWord, ← evalHold, ← modCh]

theorem prodBytes (h : Keeps s t) (n : Fin 20) (bs : List Byte) :
    Keeps s (t.prodBytes n bs).2 := by
  unfold State.prodBytes
  grind only [← discardOpen, ← settle, ← storeFull, ← modCh, ← of_update]

theorem prodClose (h : Keeps s t) (n : Fin 20) (expected : Option Nat) :
    Keeps s (t.prodClose n expected) := by
  unfold State.prodClose
  grind only [← makeRoom, ← refusePacket, ← writeWord, ← storeWord, ← settle, ← modCh, ← of_update]

theorem rawWord (h : Keeps s t) (n : Fin 20) (x : Option Port) (w : List Byte) :
    Keeps s (t.rawWord n x w) := by
  unfold State.rawWord
  grind only [← countStateRefused, ← makeRoom, ← attnCh, ← modCnt, ← writeWord, ← settle, ← copyRaw, ← modCh,
    ← of_update]

theorem tailCommit (h : Keeps s t) (n : Fin 20) (x : Option Port) (force : Bool) :
    Keeps s (t.tailCommit n x force) := by
  unfold State.tailCommit
  grind only [← modCh, ← ridle, ← countStateRefused, ← writeWord, ← settle, ← copyRaw, ← modCnt, ← of_update]

theorem rawBytes (h : Keeps s t) (n : Fin 20) (x : Option Port) (last : Bool) (bs : List Byte) :
    Keeps s (t.rawBytes n x last bs) := by
  induction bs generalizing t with
  | nil =>
    unfold State.rawBytes
    grind only [← tailCommit, ← rawWord, ← modCh, ← settle]
  | cons b bs ih =>
    unfold State.rawBytes
    grind only [← rawWord, ← modCh]

theorem performFlush (h : Keeps s t) (n : Fin 20) :
    Keeps s (t.performFlush n) := by
  unfold State.performFlush
  grind only [← modCh, ← settle, ← modCnt, ← of_update]

theorem flushIfDue (h : Keeps s t) (n : Fin 20) :
    Keeps s (t.flushIfDue n) := by
  unfold State.flushIfDue
  grind only [← performFlush]

/-! ### The frames -/

theorem countMisplaced (h : Keeps s t) (n : Fin 20) :
    Keeps s (t.countMisplaced n) := by
  unfold State.countMisplaced
  grind only [← modCnt, ← of_update]

theorem countNoRecord (h : Keeps s t) (n : Fin 20) :
    Keeps s (t.countNoRecord n) := by
  unfold State.countNoRecord
  grind only [← modCnt, ← of_update]

theorem lateFrame (h : Keeps s t) (n : Fin 20) (i : Fin 3) :
    Keeps s (t.lateFrame n i) := by
  unfold State.lateFrame
  grind only [← modCh, ← modCnt, ← of_update]

theorem openDueGate (h : Keeps s t) (n : Fin 20) (i : Fin 3) :
    Keeps s (t.openDueGate n i) := by
  unfold State.openDueGate
  grind only [← settle, ← modCh]

theorem chengStep (h : Keeps s t) (change : Bool) (theta : Int) : Keeps s (t.chengStep change theta) := by
  refine h.forChans fun n u hu => ?_
  split
  · refine (foldl (fun v i hv => ?_) _ hu).settle n
    grind only [← modCh, ← lateFrame]
  · exact hu

theorem createRecord (h : Keeps s t) (n : Fin 20) (i : Fin 3) (frame count epoch sec ns : Nat) :
    Keeps s (t.createRecord n i frame count epoch sec ns) := by
  unfold State.createRecord
  grind only [← modCh, ← settle, ← lateFrame, ← of_update]

theorem marker (h : Keeps s t) (n : Fin 20) (x : Option Port) (own : Bool) (frame count epoch sec ns : Nat) :
    Keeps s (t.marker n x own frame count epoch sec ns).2 := by
  unfold State.marker
  repeat' split
  all_goals grind only [← countStateRefused, ← modCh, ← countMisplaced, ← createRecord, ← dropHeld, ← countNoRecord,
    ← of_update]

theorem readDir (h : Keeps s t) (n : Fin 20) (flips : Nat) :
    Keeps s (t.readDir n flips).2 := by
  unfold State.readDir
  grind only [← modMem, ← chFault, MemSt.canonical, ← of_update]

theorem readLen (h : Keeps s t) (n : Fin 20) (p : Ptr) :
    Keeps s (t.readLen n p).2 := by
  unfold State.readLen
  grind only [← readDir, ← of_update]

theorem readDirEntry (h : Keeps s t) (n : Fin 20) (r : FrameRec) (k : Nat) :
    Keeps s (t.readDirEntry n r k).2 := by
  unfold State.readDirEntry
  grind only [← readDir, ← of_update]

theorem lateSlice (h : Keeps s t) (n : Fin 20) (r : Option FrameRec) :
    Keeps s (t.lateSlice n r) := by
  unfold State.lateSlice
  grind only [← modCnt, ← attnCh, ← modCh, ← of_update]

theorem passStandin (h : Keeps s t) (n : Fin 20) (slice frame : Nat) :
    Keeps s (t.passStandin n slice frame) := by
  unfold State.passStandin
  grind only [← modTwin, ← of_update]

theorem placeSlice (h : Keeps s t) (n : Fin 20) (k : ClosedPkt) :
    Keeps s (t.placeSlice n k) := by
  unfold State.placeSlice
  grind only [← modCh, ← readDirEntry, ← lateSlice, ← countMisplaced, ← modCnt, ← countNoRecord, ← of_update]

/-! ### The read engine -/

theorem countUe (h : Keeps s t) (n : Fin 20) :
    Keeps s (t.countUe n) := by
  unfold State.countUe
  grind only [← modCnt, ← of_update]

theorem assignPseq (h : Keeps s t) (n : Fin 20) (frame : Nat) :
    Keeps s (t.assignPseq n frame) := by
  unfold State.assignPseq
  grind only [← modCh, ← modCnt, ← of_update]

theorem cutAll (h : Keeps s t) (n : Fin 20) :
    Keeps s (t.cutAll n) := by
  unfold State.cutAll
  grind only [← modCh, ← performFlush, ← settle, ← of_update]

theorem ringWordAs (h : Keeps s t) (n : Fin 20) (counts : Bool) :
    Keeps s (t.ringWordAs n counts).2 := by
  unfold State.ringWordAs
  grind only [← countRead, ← countUe, ← readDir, ← modCh, ← settle, ← flushIfDue, ← readLen, ← cutAll, ← assignPseq,
    ← of_update]

theorem ringWord (h : Keeps s t) (n : Fin 20) :
    Keeps s (t.ringWord n).2 := by
  unfold State.ringWord
  grind only [← ringWordAs]

theorem takeRing (h : Keeps s t) (n : Fin 20) (pkt : Bool) (fuel want : Nat) :
    Keeps s (t.takeRing n pkt fuel want).2.2 := by
  induction fuel generalizing t want with
  | zero => exact h
  | succ fuel ih =>
    unfold State.takeRing
    grind only [← ringWord]

theorem peekRing (h : Keeps s t) (n : Fin 20) (past fuel : Nat) : Keeps s (t.peekRing n past fuel).2.2 := by
  unfold State.peekRing
  grind only [← modCh, ← modCnt, ← takeRing, ← takeMem]

theorem sliceWords (h : Keeps s t) (n : Fin 20) (count : Bool) (len total fuel i : Nat) (p : Ptr) :
    Keeps s (t.sliceWords n count len total fuel i p).2 := by
  induction fuel generalizing t i p with
  | zero => exact h
  | succ fuel ih =>
    unfold State.sliceWords
    grind only [← countRead, ← countUe]

theorem noteWords (h : Keeps s t) (n : Fin 20) (k : Nat) (p : Ptr) : Keeps s (t.noteWords n k p) := by
  induction k generalizing t p with
  | zero => exact h
  | succ k ih => exact ih (h.noteRead _ _ _) _

theorem noteEntry (h : Keeps s t) (n : Fin 20) (e : SliceEntry) (past : Nat) :
    Keeps s (t.noteEntry n e past) := by
  unfold State.noteEntry
  grind only [← noteWords]

theorem beginFrame (h : Keeps s t) (n : Fin 20) (i : Fin 3) :
    Keeps s (t.beginFrame n i) := by
  unfold State.beginFrame
  grind only [← modCh, ← modCnt, ← of_update]

theorem observePass (h : Keeps s t) (n : Fin 20) (frame : Nat) :
    Keeps s (t.observePass n frame) := by
  unfold State.observePass
  grind only [← settle, ← modCh, ← passStandin, ← of_update]

theorem standinWords (h : Keeps s t) (n : Fin 20) (i : Fin 3) (k : Nat) (hist : Option SliceEntry) (cause : Nat)
    (count : Bool) :
    Keeps s (t.standinWords n i k hist cause count).2 := by
  unfold State.standinWords
  grind only [← sliceWords, ← of_update]

theorem storedWords (h : Keeps s t) (n : Fin 20) (i : Fin 3) (e : SliceEntry) (count : Bool) :
    Keeps s (t.storedWords n i e count).2 := by
  unfold State.storedWords
  grind only [← sliceWords, ← of_update]

theorem announceStandin (h : Keeps s t) (n : Fin 20) (history : Bool) (cause slice frame : Nat) :
    Keeps s (t.announceStandin n history cause slice frame) := by
  unfold State.announceStandin
  grind only [← modTwin, ← clover, ← of_update]

theorem readHistory (h : Keeps s t) (n : Fin 20) (r : FrameRec) (k : Nat) :
    Keeps s (t.readHistory n r k).2 := by
  unfold State.readHistory
  grind only [← readDir, ← of_update]

theorem takeAnnounced (h : Keeps s t) (n : Fin 20) (i : Fin 3) (k : Nat) (a : Bool × Nat) :
    Keeps s (t.takeAnnounced n i k a).2 := by
  unfold State.takeAnnounced
  grind only [← readHistory, ← standinWords, ← passStandin, ← assignPseq, ← settle, ← modCh]

theorem takeSlice (h : Keeps s t) (n : Fin 20) : Keeps s (t.takeSlice n).2 := by
  have hread : ∀ i r k, Keeps s ((t.beginFrame n i).readDirEntry n r k).2 := fun i r k =>
    (h.beginFrame n i).readDirEntry n r k
  have hstand : ∀ {u : State} (hist c k f i e), Keeps s u →
      Keeps s ((u.announceStandin n hist c k f).standinWords n i k e c true).2 := fun hist c k f i e hu =>
    (hu.announceStandin n hist c k f).standinWords n i k e c true
  have hcount : ∀ {u : State} (f g), Keeps s u → Keeps s (((u.assignPseq n f).modCnt n g).attnCh n 6) := fun f g hu =>
    ((hu.assignPseq n f).modCnt n g).attnCh n 6
  unfold State.takeSlice
  split
  · exact h
  · dsimp only
    repeat' split
    all_goals grind only [← takeAnnounced, ← storedWords, ← readHistory, ← settle, ← modCh, ← assignPseq]

theorem peekSlice (h : Keeps s t) (n : Fin 20) (past : Nat) : Keeps s (t.peekSlice n past).2 := by
  have hnote : ∀ e : Option SliceEntry, Keeps s ((e.map fun e => t.noteEntry n e past).getD t) := by
    rintro (_ | e)
    · exact h
    · exact h.noteEntry n e past
  unfold State.peekSlice
  grind only [← readDirEntry, ← readHistory]

theorem takeWords (h : Keeps s t) (n : Fin 20) (k : PCmd) :
    Keeps s (t.takeWords n k).2.2 := by
  unfold State.takeWords
  grind only [← peekSlice, ← takeSlice, ← peekRing, ← takeRing]

theorem attnUncorr (h : Keeps s t) (x : Port) (k : PCmd) (w : RWord) :
    Keeps s (t.attnUncorr x k w) := by
  unfold State.attnUncorr
  grind only [← attn]

theorem emitWords (h : Keeps s t) (x : Port) (k : PCmd) (fin : Bool) (ws : List RWord) :
    Keeps s (t.emitWords x k fin ws) := by
  fun_induction State.emitWords t x k fin ws <;>
    grind only [← attnUncorr, ← finish, ← launch]

theorem readCompleted (h : Keeps s t) (n : Fin 20) :
    Keeps s (t.readCompleted n) := by
  unfold State.readCompleted
  grind only [← ridle, ← modCh, ← of_update]

theorem serveRead (h : Keeps s t) (x : Port) (n : Fin 20) (k : PCmd) :
    Keeps s (t.serveRead x n k) := by
  unfold State.serveRead
  grind only [← takeWords, ← updCmd, ← emitWords, ← readCompleted, ← finish, ← finishStat, ← sendCredits, ← modPort,
    ← of_update]

/-! ### The scratch areas and the lock slots -/

theorem scratchOp (h : Keeps s t) (m : Fin 6) (opc area unit v : Nat) :
    Keeps s (t.scratchOp m opc area unit v).2.2 := by
  have hrmw : ∀ w r data (m : MemSt) v, m.canonical → (rewriteLanes (copyWordAt m w v) v r data).canonical :=
    fun w r data m v hm => rewriteLanes_canonical (copyWordAt_canonical hm w v) v r data
  unfold State.scratchOp
  grind only [← countRefused, ← countRead, ← modMem, ← mirrorWrite, ← rewriteLanes_canonical]

theorem announceAtomic (h : Keeps s t) (issuer opc area stat unit prior new cseq : Nat) :
    Keeps s (t.announceAtomic issuer opc area stat unit prior new cseq) := by
  unfold State.announceAtomic
  grind only [← announce]

theorem setSlot (h : Keeps s t) (k : Nat) (l : LockSlot) :
    Keeps s (t.setSlot k l) := by
  unfold State.setSlot
  grind only [← modMem, MemSt.canonical, ← of_update]

theorem lockSlot (h : Keeps s t) (o : Owner) (k : Nat) :
    Keeps s (t.lockSlot o k).2 := by
  unfold State.lockSlot
  grind only [← modMem, ← setSlot, MemSt.canonical, ← of_update]

theorem unlockSlot (h : Keeps s t) (o : Owner) (k : Nat) :
    Keeps s (t.unlockSlot o k).2 := by
  unfold State.unlockSlot
  grind only [← setSlot]

theorem lockOp (h : Keeps s t) (o : Owner) (opc slot cseq : Nat) :
    Keeps s (t.lockOp o opc slot cseq).2 := by
  unfold State.lockOp
  grind only [← lockSlot, ← unlockSlot, ← announceAtomic]

theorem scratchAnnounced (h : Keeps s t) (m : Fin 6) (o : Owner) (opc area unit v cseq : Nat) :
    Keeps s (t.scratchAnnounced m o opc area unit v cseq).2.2 := by
  unfold State.scratchAnnounced
  grind only [← scratchOp, ← announceAtomic]

/-! ### The reliable sender -/

theorem strict (h : Keeps s t) (rank : Nat) (f : TxFrame) :
    Keeps s (t.strict rank f) := by
  unfold State.strict
  grind only [← modLink, ← of_update]

theorem transmit (h : Keeps s t) (f : TxFrame) :
    Keeps s (t.transmit f) := by
  unfold State.transmit
  grind only [← modLink, ← of_update]

theorem refreshMgmt (h : Keeps s t) :
    Keeps s (t.refreshMgmt) := by
  unfold State.refreshMgmt
  grind only [← modLink, ← of_update]

theorem refreshFlows (h : Keeps s t) :
    Keeps s (t.refreshFlows) := by
  unfold State.refreshFlows
  grind only [← refreshMgmt, ← forChans, ← refreshFlow]

theorem queueMgmt (h : Keeps s t) (addr svc reqseq : Nat) (body : List Byte) :
    Keeps s (t.queueMgmt addr svc reqseq body) := by
  unfold State.queueMgmt
  grind only [← refreshMgmt, ← modLink, ← of_update]

theorem releaseEntry (h : Keeps s t) (e : WinEntry) :
    Keeps s (t.releaseEntry e) := by
  unfold State.releaseEntry
  grind only [← modCh, ← of_update]

theorem releaseEntries (h : Keeps s t) (es : List WinEntry) : Keeps s (t.releaseEntries es) := by
  refine (foldl (fun u e hu => hu.releaseEntry e) es h).forChans fun n u hu => ?_
  grind only [← settle]

theorem rewindLink (h : Keeps s t) (n : Fin 20) :
    Keeps s (t.rewindLink n) := by
  unfold State.rewindLink
  grind only [← modCh, ← of_update]

theorem acknowledge (h : Keeps s t) (k : Nat) :
    Keeps s (t.acknowledge k) := by
  unfold State.acknowledge
  grind only [← modArq, ← refreshFlows, ← releaseEntries, ← idleAnew, ← of_update]

theorem retransmitFrom (h : Keeps s t) (k : Nat) : Keeps s (t.retransmitFrom k) := by
  unfold State.retransmitFrom
  split
  · exact h
  · refine (foldl (fun u e hu => ?_) _ (h.modArq _)).refreshFlows
    grind only [← rewindLink]

theorem skipRest (h : Keeps s t) (n : Fin 20) :
    Keeps s (t.skipRest n) := by
  unfold State.skipRest
  grind only [← settle, ← modCh, ← of_update, ← foldl]

theorem giveUpEntries (h : Keeps s t) (due : WinEntry → Bool) : Keeps s (t.giveUpEntries due) := by
  have hskip : ∀ {u} (cut : List WinEntry), Keeps s u → Keeps s (cut.foldl (fun s e =>
      match chanOf e.ch with
      | some n => if (s.chan n).inPkt.isSome && (s.chan n).nextPseq == (e.pseq + 1) % 65536 then s.skipRest n else s
      | none => s) u) := fun cut hu => foldl (fun v e hv => by grind only [← skipRest]) cut hu
  unfold State.giveUpEntries
  dsimp only
  split
  · exact h
  · split
    · exact (hskip _ ((h.modArq _).releaseEntries _)).refreshFlows.idleAnew
    · exact (hskip _ ((h.modArq _).releaseEntries _)).refreshFlows

theorem giveUpRecords (h : Keeps s t) (gone : Nat × Nat → Bool) :
    Keeps s (t.giveUpRecords gone) := by
  unfold State.giveUpRecords
  grind only [← forChans, ← modCh, ← of_update, ← foldl]

theorem giveUp (h : Keeps s t) (gone : Nat × Nat → Bool) :
    Keeps s (t.giveUp gone) := by
  unfold State.giveUp
  grind only [← giveUpRecords, ← giveUpEntries]

theorem giveUpDue (h : Keeps s t) :
    Keeps s (t.giveUpDue) := by
  unfold State.giveUpDue
  grind only [← giveUp]

theorem giveUpEpoch (h : Keeps s t) :
    Keeps s (t.giveUpEpoch) := by
  unfold State.giveUpEpoch
  grind only [← giveUp]

/-! ### Time -/

theorem setEpoch (h : Keeps s t) (e : Nat) :
    Keeps s (t.setEpoch e) := by
  unfold State.setEpoch
  grind only [← modTime, ← attnBoth, ← modRst, ← of_update]

theorem endLock (h : Keeps s t) :
    Keeps s (t.endLock) := by
  unfold State.endLock
  grind only [← attnBoth, ← modTime, ← of_update]

theorem gainLock (h : Keeps s t) :
    Keeps s (t.gainLock) := by
  unfold State.gainLock
  grind only [← attnBoth, ← modTime, ← of_update]

theorem senderEpoch (h : Keeps s t) :
    Keeps s (t.senderEpoch) := by
  unfold State.senderEpoch
  grind only [← endLock, ← giveUpEpoch, ← setEpoch]

theorem timeSet (h : Keeps s t) (sec ns : Nat) : Keeps s (t.timeSet sec ns) := by
  unfold State.timeSet
  dsimp only
  split
  · exact h.modTime _
  · split
    · exact (h.modTime _).endLock
    · split
      · exact h.modTime _
      · exact (h.modTime _).senderEpoch

theorem applySource (h : Keeps s t) (v : Nat) :
    Keeps s (t.applySource v) := by
  unfold State.applySource
  grind only [← modTime, ← of_update]

theorem useSync (h : Keeps s t) (th p : ℚ) :
    Keeps s (t.useSync th p) := by
  unfold State.useSync
  grind only [← modTime, ← gainLock, ← endLock, ← of_update]

theorem servo (h : Keeps s t) (rx stamp : Stamp) (epoch : Nat) (dfwd : Int) :
    Keeps s (t.servo rx stamp epoch dfwd).2 := by
  unfold State.servo
  dsimp only
  repeat' split
  all_goals dsimp only
  · exact ((((h.modTime _).setEpoch epoch).chengStep true _).giveUpEpoch.endLock).useSync _ _
  · exact ((h.modTime _).chengStep false _).useSync _ _
  · exact (h.modTime _).endLock.useSync _ _
  · exact (h.modTime _).attnBoth 15
  · exact h.modTime _
  · exact (h.modTime _).useSync _ _

theorem fstartEpoch (h : Keeps s t) (epoch : Nat) :
    Keeps s (t.fstartEpoch epoch) := by
  unfold State.fstartEpoch
  grind only [← modTime, ← endLock, ← chengStep, ← setEpoch, ← of_update]

theorem execSlewEnd {dt : Nat} (h : Keeps s (t.advance dt)) :
    KeepsNext s (execSlewEnd dt t) := by
  unfold Machine.execSlewEnd
  grind only [KeepsNext]

theorem execHoldoverStart {dt : Nat} (h : Keeps s (t.advance dt)) :
    KeepsNext s (execHoldoverStart dt t) := by
  unfold Machine.execHoldoverStart
  dsimp only
  repeat' split
  all_goals grind only [← modTime, KeepsNext, ← of_update]

theorem execHoldoverExpiry {dt : Nat} (h : Keeps s (t.advance dt)) :
    KeepsNext s (execHoldoverExpiry dt t) := by
  unfold Machine.execHoldoverExpiry
  dsimp only
  repeat' split
  all_goals grind only [← endLock, KeepsNext, ← of_update]

theorem execSyncSend {dt : Nat} (h : Keeps s (t.advance dt)) :
    KeepsNext s (execSyncSend dt t) := by
  unfold Machine.execSyncSend
  dsimp only
  repeat' split
  all_goals grind only [← modLink, ← strict, KeepsNext, ← of_update]

/-! ### The commands of a port -/

theorem chCmd (h : Keeps s t) (n : Fin 20) (opc : Nat) (target : Bool) :
    Keeps s (t.chCmd n opc target) := by
  unfold State.chCmd
  grind only [← modCh, ← settle, ← flushIfDue, ← of_update]

theorem statusCmd (h : Keeps s t) (x : Port) (k : PCmd) {page : List Byte} (hk : t.statusCmd x k = some (page, u)) :
    Keeps s u := by
  have hp : ∀ f, Keeps s (t.modPort x f) := fun f => h.modPort x f
  unfold State.statusCmd at hk
  grind only [= Option.map_eq_some_iff]

theorem emitTrain (h : Keeps s t) (x : Port) (k : PCmd) (ws : List (List Byte)) : Keeps s (t.emitTrain x k ws) := by
  fun_induction State.emitTrain t x k ws <;> grind only [← finish, ← finishStat, ← launch]

theorem retryWaiting (h : Keeps s t) (x : Port) (n : Fin 20) :
    Keeps s (t.retryWaiting x n) := by
  unfold State.retryWaiting
  grind only [← serveRead, ← of_update]

theorem execCmd (h : Keeps s t) (x : Port) (k : PCmd) : Keeps s (t.execCmd x k) := by
  have hstatus := fun page u => h.statusCmd (u := u) x k (page := page)
  unfold State.execCmd
  dsimp only
  repeat' split
  all_goals grind only [← finishStat, ← finish, ← serveRead, ← chCmd, ← retryWaiting, ← scratchAnnounced, ← lockOp,
    ← emitTrain]

theorem serviceN (h : Keeps s t) (x : Port) (fuel : Nat) : Keeps s (t.serviceN x fuel) := by
  induction fuel generalizing t with
  | zero => exact h
  | succ fuel ih =>
    unfold State.serviceN
    grind only [← execCmd]

theorem service (h : Keeps s t) (x : Port) :
    Keeps s (t.service x) := by
  unfold State.service
  grind only [← serviceN]

theorem servicePorts (h : Keeps s t) :
    Keeps s (t.servicePorts) := by
  unfold State.servicePorts
  grind only [← service]

theorem serveFaults (h : Keeps s t) (s0 : State) :
    Keeps s (t.serveFaults s0) := by
  unfold State.serveFaults
  grind only [← servicePorts]

theorem chainPortAnew (h : Keeps s t) :
    Keeps s (t.chainPortAnew) := by
  unfold State.chainPortAnew
  grind only [← modTwin, ← clover, ← of_update]

theorem decoderBeat (h : Keeps s t) (x : Port) (c : RCmd) (stat : Nat) :
    Keeps s (t.decoderBeat x c stat) := by
  unfold State.decoderBeat
  grind only [← modPort, ← launch, ← of_update]

theorem cmdParity (h : Keeps s t) (x : Port) (c : RCmd) :
    Keeps s (t.cmdParity x c) := by
  unfold State.cmdParity
  grind only [← modPCnt, ← attn, ← decoderBeat, ← portEvt, ← of_update]

theorem seqgap (h : Keeps s t) (x : Port) (c : RCmd) :
    Keeps s (t.seqgap x c) := by
  unfold State.seqgap
  grind only [← modPCnt, ← attn, ← decoderBeat, ← modPort, ← of_update]

theorem cancelAll (h : Keeps s t) (x : Port) :
    Keeps s (t.cancelAll x) := by
  unfold State.cancelAll
  grind only [← finishStat, ← modPort, ← of_update, ← foldl]

theorem resync (h : Keeps s t) (x : Port) (c : RCmd) (op1 : W32) :
    Keeps s (t.resync x c op1) := by
  unfold State.resync
  grind only [← decoderBeat, ← cancelAll, ← modPort, ← launch, ← of_update]

theorem resyncWrites (h : Keeps s t) (x : Port) (c : RCmd) (op1 : W32) :
    Keeps s (t.resyncWrites x c op1) := by
  unfold State.resyncWrites
  grind only [← modPort, ← of_update]

theorem accept (h : Keeps s t) (x : Port) (opc : BitVec 5) (c : RCmd) (op1 op2 : W32) :
    Keeps s (t.accept x opc c op1 op2) := by
  unfold State.accept
  grind only [← modPort, ← modPCnt, ← timeSet, ← of_update]

theorem noteRclk (h : Keeps s t) (x : Port) :
    Keeps s (t.noteRclk x) := by
  unfold State.noteRclk
  grind only [← modPort, ← of_update]

theorem command (h : Keeps s t) (x : Port) (opc : BitVec 5) (c : RCmd) (op1 op2 : W32) :
    Keeps s (t.command x opc c op1 op2) := by
  unfold State.command
  grind only [← observed, ← chainPortAnew, ← resyncWrites, ← active, ← noteRclk, ← cmdParity, ← resync, ← decoderBeat,
    ← seqgap, ← portEvt, ← accept, ← service]

theorem execNop (h : Keeps s t) (x : Port) (c : RCmd) :
    KeepsNext s (execNop x c t) := by
  unfold Machine.execNop
  grind only [← command, KeepsNext]

theorem execRead (h : Keeps s t) (x : Port) (c : RCmd) (op1 : W32) :
    KeepsNext s (execRead x c op1 t) := by
  unfold Machine.execRead
  grind only [← command, KeepsNext]

theorem execReadp (h : Keeps s t) (x : Port) (c : RCmd) :
    KeepsNext s (execReadp x c t) := by
  unfold Machine.execReadp
  grind only [← command, KeepsNext]

theorem execPeek (h : Keeps s t) (x : Port) (c : RCmd) :
    KeepsNext s (execPeek x c t) := by
  unfold Machine.execPeek
  grind only [← command, KeepsNext]

theorem execMark (h : Keeps s t) (x : Port) (c : RCmd) :
    KeepsNext s (execMark x c t) := by
  unfold Machine.execMark
  grind only [← command, KeepsNext]

theorem execRewind (h : Keeps s t) (x : Port) (c : RCmd) :
    KeepsNext s (execRewind x c t) := by
  unfold Machine.execRewind
  grind only [← command, KeepsNext]

theorem execReleaseToRp (h : Keeps s t) (x : Port) (c : RCmd) :
    KeepsNext s (execReleaseToRp x c t) := by
  unfold Machine.execReleaseToRp
  grind only [← command, KeepsNext]

theorem execReleaseToMp (h : Keeps s t) (x : Port) (c : RCmd) :
    KeepsNext s (execReleaseToMp x c t) := by
  unfold Machine.execReleaseToMp
  grind only [← command, KeepsNext]

theorem execFlush (h : Keeps s t) (x : Port) (c : RCmd) :
    KeepsNext s (execFlush x c t) := by
  unfold Machine.execFlush
  grind only [← command, KeepsNext]

theorem execSrd (h : Keeps s t) (x : Port) (c : RCmd) (op1 : W32) :
    KeepsNext s (execSrd x c op1 t) := by
  unfold Machine.execSrd
  grind only [← command, KeepsNext]

theorem execSwr (h : Keeps s t) (x : Port) (c : RCmd) (op1 op2 : W32) :
    KeepsNext s (execSwr x c op1 op2 t) := by
  unfold Machine.execSwr
  grind only [← command, KeepsNext]

theorem execSset (h : Keeps s t) (x : Port) (c : RCmd) (op1 op2 : W32) :
    KeepsNext s (execSset x c op1 op2 t) := by
  unfold Machine.execSset
  grind only [← command, KeepsNext]

theorem execSclr (h : Keeps s t) (x : Port) (c : RCmd) (op1 op2 : W32) :
    KeepsNext s (execSclr x c op1 op2 t) := by
  unfold Machine.execSclr
  grind only [← command, KeepsNext]

theorem execLock (h : Keeps s t) (x : Port) (c : RCmd) :
    KeepsNext s (execLock x c t) := by
  unfold Machine.execLock
  grind only [← command, KeepsNext]

theorem execUnlock (h : Keeps s t) (x : Port) (c : RCmd) :
    KeepsNext s (execUnlock x c t) := by
  unfold Machine.execUnlock
  grind only [← command, KeepsNext]

theorem execStatus (h : Keeps s t) (x : Port) (c : RCmd) (op1 op2 : W32) :
    KeepsNext s (execStatus x c op1 op2 t) := by
  unfold Machine.execStatus
  grind only [← command, KeepsNext]

theorem execStatusActClear (h : Keeps s t) (x : Port) (c : RCmd) (op1 op2 : W32) :
    KeepsNext s (execStatusActClear x c op1 op2 t) := by
  unfold Machine.execStatusActClear
  grind only [← command, KeepsNext]

theorem execStatusActMask (h : Keeps s t) (x : Port) (c : RCmd) (op1 op2 : W32) :
    KeepsNext s (execStatusActMask x c op1 op2 t) := by
  unfold Machine.execStatusActMask
  grind only [← command, KeepsNext]

theorem execResync (h : Keeps s t) (x : Port) (c : RCmd) (op1 : W32) :
    KeepsNext s (execResync x c op1 t) := by
  unfold Machine.execResync
  grind only [← command, KeepsNext]

theorem execTrain (h : Keeps s t) (x : Port) (c : RCmd) :
    KeepsNext s (execTrain x c t) := by
  unfold Machine.execTrain
  grind only [← command, KeepsNext]

theorem execTimeget (h : Keeps s t) (x : Port) (c : RCmd) :
    KeepsNext s (execTimeget x c t) := by
  unfold Machine.execTimeget
  grind only [← command, KeepsNext]

theorem execTimegetSet (h : Keeps s t) (x : Port) (c : RCmd) (op1 op2 : W32) :
    KeepsNext s (execTimegetSet x c op1 op2 t) := by
  unfold Machine.execTimegetSet
  grind only [← command, KeepsNext]

theorem execReservedOpcode (h : Keeps s t) (x : Port) (opc : BitVec 5) (c : RCmd) :
    KeepsNext s (execReservedOpcode x opc c t) := by
  unfold Machine.execReservedOpcode
  grind only [← command, KeepsNext]

/-! ### The operations of the link -/

theorem sendCaps (h : Keeps s t) :
    Keeps s (t.sendCaps) := by
  unfold State.sendCaps
  grind only [← modLink, ← strict, ← of_update]

theorem mapChanged (h : Keeps s t) :
    Keeps s (t.mapChanged) := by
  unfold State.mapChanged
  grind only [← modLink, ← sendCaps, ← of_update]

theorem twinChanged (h : Keeps s t) :
    Keeps s (t.twinChanged) := by
  unfold State.twinChanged
  grind only [← sendCaps]

theorem mailboxReply (h : Keeps s t) (addr svc reqseq : Nat) (data mac : List Byte) :
    Keeps s (t.mailboxReply addr svc reqseq data mac) := by
  unfold State.mailboxReply
  grind only [← modOd, ← of_update]

theorem forwardAbort (h : Keeps s t) (f : FwdReq) (abort : Nat) :
    Keeps s (t.forwardAbort f abort) := by
  unfold State.forwardAbort
  grind only [← mailboxReply]

theorem sendStrict (h : Keeps s t) (i : StrictItem) :
    Keeps s (t.sendStrict i) := by
  unfold State.sendStrict
  grind only [← modLink, ← transmit, ← of_update]

theorem drainTo (h : Keeps s t) (type : Nat) (fuel : Nat) : Keeps s (t.drainTo type fuel) := by
  induction fuel generalizing t with
  | zero => exact h
  | succ fuel ih =>
    unfold State.drainTo
    grind only [← sendStrict]

theorem sendCopies (h : Keeps s t) (f : TxFrame) :
    Keeps s (t.sendCopies f) := by
  unfold State.sendCopies
  grind only [← strict, ← drainTo]

theorem bye (h : Keeps s t) (reason : Nat) :
    Keeps s (t.bye reason) := by
  unfold State.bye
  grind only [← modLink, ← sendCopies, ← of_update]

theorem enterDetect (h : Keeps s t) :
    Keeps s (t.enterDetect) := by
  unfold State.enterDetect
  grind only [← draw, ← modLink, ← of_update]

theorem leaveActions (h : Keeps s t) : Keeps s t.leaveActions := by
  have hchans : Keeps s (t.forChans fun n s =>
      let s := s.rewindLink n
      let s := s.modCh n fun c =>
        { c with fstarts := (t.arq.window.filter fun e => e.ch == n.val).filterMap requeueFstart ++ c.fstarts,
                 paused := false, ingNext := 0, pol := { c.pol with segDrop := 0 } }
      if (s.chan n).cfg.producer = .link then s.discardOpen n else s) :=
    h.forChans fun n u hu => by grind only [← rewindLink, ← modCh, ← discardOpen]
  have hfwd : ∀ {u} (l : List FwdReq), Keeps s u →
      Keeps s (l.foldl (fun s f => if f.own then s else s.forwardAbort f 0x0303) u) := fun l hu =>
    foldl (fun v f hv => by grind only [← forwardAbort]) l hu
  unfold State.leaveActions
  dsimp only
  split
  · exact ((((hfwd _ (hchans.modArq _)).modLink _).freeLocks .lr).endLock.attnBoth 14).refreshFlows
  · exact ((((hfwd _ (hchans.modArq _)).modLink _).freeLocks .lr).endLock.attnBoth 14).refreshFlows.idleAnew

theorem leaveUp (h : Keeps s t) (cause : Nat) :
    Keeps s (t.leaveUp cause) := by
  unfold State.leaveUp
  grind only [← serveFaults, ← refreshFlows, ← enterDetect, ← modLink, ← leaveActions, ← of_update]

theorem linkOff (h : Keeps s t) :
    Keeps s (t.linkOff) := by
  unfold State.linkOff
  grind only [← modLink, ← leaveActions, ← serveFaults, ← refreshFlows, ← of_update]

theorem sendEcho (h : Keeps s t) :
    Keeps s (t.sendEcho) := by
  unfold State.sendEcho
  grind only [← modLink, ← strict, ← of_update]

theorem startEchoSet (h : Keeps s t) :
    Keeps s (t.startEchoSet) := by
  unfold State.startEchoSet
  grind only [← sendEcho, ← modLink, ← of_update]

theorem sendPause (h : Keeps s t) :
    Keeps s (t.sendPause) := by
  unfold State.sendPause
  grind only [← modLink, ← strict, ← of_update]

theorem enterUp (h : Keeps s t) (rate : Nat) :
    Keeps s (t.enterUp rate) := by
  unfold State.enterUp
  grind only [← modLink, ← forChans, ← modCh, ← attnBoth, ← startEchoSet, ← sendPause, ← queueMgmt, ← refreshFlows,
    ← of_update]

theorem received (h : Keeps s t) (m : RxMeta) (blen : Nat) (act : State → State) (hact : ∀ u, Keeps s u → Keeps s
    (act u)) :
    Keeps s (t.received m blen act) := by
  unfold State.received
  grind only [← modLinkCnt, ← serveFaults, ← modLink, ← of_update]

theorem receivedUp (h : Keeps s t) (m : RxMeta) (blen : Nat) (act : State → State) (hact : ∀ u, Keeps s u → Keeps s
    (act u)) :
    Keeps s (t.receivedUp m blen act) := by
  unfold State.receivedUp
  grind only [← received]

/-! ### The control of the link -/

theorem capsAdvance (h : Keeps s t) :
    Keeps s (t.capsAdvance) := by
  unfold State.capsAdvance
  grind only [← enterUp, ← modLink, ← of_update]

theorem trialFailed (h : Keeps s t) :
    Keeps s (t.trialFailed) := by
  unfold State.trialFailed
  grind only [← enterDetect, ← modLink, ← of_update]

theorem execBlockLock (h : Keeps s t) :
    KeepsNext s (execBlockLock t) := by
  unfold Machine.execBlockLock
  grind only [← sendCaps, ← modLink, KeepsNext, ← of_update]

theorem execCapsSend (h : Keeps s t) :
    KeepsNext s (execCapsSend t) := by
  unfold Machine.execCapsSend
  grind only [← capsAdvance, ← sendCaps, KeepsNext]

theorem execCaps (h : Keeps s t) (m : RxMeta) (cflags trialRate : Nat) (b : Caps) :
    KeepsNext s (execCaps m cflags trialRate b t) := by
  unfold Machine.execCaps
  grind only [← received, ← modLink, ← capsAdvance, ← trialFailed, ← enterUp, ← leaveUp, KeepsNext, ← of_update]

theorem execCapsTimeout {dt : Nat} (h : Keeps s (t.advance dt)) :
    KeepsNext s (execCapsTimeout dt t) := by
  unfold Machine.execCapsTimeout
  dsimp only
  repeat' split
  all_goals grind only [← enterDetect, KeepsNext]

theorem execTrialSwitch {dt : Nat} (h : Keeps s (t.advance dt)) :
    KeepsNext s (execTrialSwitch dt t) := by
  unfold Machine.execTrialSwitch
  dsimp only
  repeat' split
  all_goals grind only [← modLink, KeepsNext, ← of_update]

theorem execTrialResult (h : Keeps s t) (lockHeld : Bool) (errs : Nat) :
    KeepsNext s (execTrialResult lockHeld errs t) := by
  unfold Machine.execTrialResult
  grind only [← sendCaps, ← modLink, ← enterUp, KeepsNext, ← of_update]

theorem execTrialFailEnd {dt : Nat} (h : Keeps s (t.advance dt)) :
    KeepsNext s (execTrialFailEnd dt t) := by
  unfold Machine.execTrialFailEnd
  dsimp only
  repeat' split
  all_goals grind only [← trialFailed, KeepsNext]

theorem execTrialTimeout {dt : Nat} (h : Keeps s (t.advance dt)) :
    KeepsNext s (execTrialTimeout dt t) := by
  unfold Machine.execTrialTimeout
  dsimp only
  repeat' split
  all_goals grind only [← trialFailed, KeepsNext]

theorem execBlockLockLost (h : Keeps s t) :
    KeepsNext s (execBlockLockLost t) := by
  unfold Machine.execBlockLockLost
  grind only [← leaveUp, KeepsNext]

theorem execSyncHeaderErrors (h : Keeps s t) :
    KeepsNext s (execSyncHeaderErrors t) := by
  unfold Machine.execSyncHeaderErrors
  grind only [← leaveUp, KeepsNext]

theorem execNoFrameTimeout {dt : Nat} (h : Keeps s (t.advance dt)) :
    KeepsNext s (execNoFrameTimeout dt t) := by
  unfold Machine.execNoFrameTimeout
  dsimp only
  repeat' split
  all_goals grind only [← leaveUp, KeepsNext]

theorem takeDdm (h : Keeps s t) (a2 : Option (List Byte)) :
    Keeps s (t.takeDdm a2) := by
  unfold State.takeDdm
  grind only [← modLink, ← of_update]

theorem execModulePresence (h : Keeps s t) (present : Bool) (a0 ddm : Option (List Byte)) :
    KeepsNext s (execModulePresence present a0 ddm t) := by
  unfold Machine.execModulePresence
  grind only [← modLink, ← takeDdm, ← leaveUp, ← enterDetect, KeepsNext, ← of_update]

theorem execModuleLos (h : Keeps s t) (high : Bool) :
    KeepsNext s (execModuleLos high t) := by
  unfold Machine.execModuleLos
  grind only [← modLink, ← leaveUp, KeepsNext, ← of_update]

theorem execModuleDdmRead (h : Keeps s t) (a2 : Option (List Byte)) :
    KeepsNext s (execModuleDdmRead a2 t) := by
  unfold Machine.execModuleDdmRead
  grind only [← takeDdm, KeepsNext]

theorem execBluebellEnd {dt : Nat} (h : Keeps s (t.advance dt)) :
    KeepsNext s (execBluebellEnd dt t) := by
  unfold Machine.execBluebellEnd
  dsimp only
  repeat' split
  all_goals grind only [← enterDetect, KeepsNext]

theorem applyLinkEnable (h : Keeps s t) (on : Bool) :
    Keeps s (t.applyLinkEnable on) := by
  unfold State.applyLinkEnable
  grind only [← modLink, ← enterDetect, ← linkOff, ← bye, ← of_update]

theorem applyRetrain (h : Keeps s t) :
    Keeps s (t.applyRetrain) := by
  unfold State.applyRetrain
  grind only [← leaveUp]

theorem applyLinkresetSend (h : Keeps s t) (reach : Nat) :
    Keeps s (t.applyLinkresetSend reach) := by
  unfold State.applyLinkresetSend
  grind only [← leaveUp, ← sendCopies, ← of_update]

theorem applyWakePeer (h : Keeps s t) :
    Keeps s (t.applyWakePeer) := by
  unfold State.applyWakePeer
  grind only [← leaveActions, ← modLink, ← enterDetect, ← of_update]

/-! ### The link received -/

theorem sendAck (h : Keeps s t) :
    Keeps s (t.sendAck) := by
  unfold State.sendAck
  grind only [← modArq, ← strict, ← of_update]

theorem sendNak (h : Keeps s t) :
    Keeps s (t.sendNak) := by
  unfold State.sendNak
  grind only [← modArq, ← strict, ← of_update]

theorem noteAccepted (h : Keeps s t) :
    Keeps s (t.noteAccepted) := by
  unfold State.noteAccepted
  grind only [← modArq, ← sendAck, ← of_update]

theorem arqWlow (h : Keeps s t) (wlow : Nat) :
    Keeps s (t.arqWlow wlow) := by
  unfold State.arqWlow
  grind only [← modArq, ← forChans, ← discardPacket, ← of_update]

theorem arqReceive (h : Keeps s t) (seq wlow : Nat) (early : State → Bool) (act : State → State) (hact : ∀ u, Keeps
    s u → Keeps s (act u)) :
    Keeps s (t.arqReceive seq wlow early act) := by
  unfold State.arqReceive
  grind only [← arqWlow, ← sendAck, ← modArq, ← noteAccepted, ← sendNak, ← of_update]

theorem misroute (h : Keeps s t) :
    Keeps s (t.misroute) := by
  unfold State.misroute
  grind only [← modLinkCnt, ← of_update]

theorem police (h : Keeps s t) (n : Fin 20) (blen : Nat) (slice : Option (Nat × Nat)) (rest : Nat → Nat) :
    Keeps s (t.police n blen slice rest).2 := by
  unfold State.police
  grind only [← modCh, ← discardPacket, ← settle, ← attnConsumer, ← of_update]

theorem segmentError (h : Keeps s t) (n : Fin 20) :
    Keeps s (t.segmentError n) := by
  unfold State.segmentError
  grind only [← misroute, ← discardPacket]

theorem linkClose (h : Keeps s t) (n : Fin 20) :
    Keeps s (t.linkClose n) := by
  unfold State.linkClose
  grind only [← modCh, ← prodClose, ← of_update]

theorem ingressPacket (h : Keeps s t) (n : Fin 20) (last : Bool) (crc : Nat) (body : List Byte) :
    Keeps s (t.ingressPacket n last crc body) := by
  unfold State.ingressPacket
  grind only [← prodOpen, ← modCh, ← prodBytes, ← linkClose, ← of_update]

theorem ingressFirst (h : Keeps s t) (n : Fin 20) (last : Bool) (body : List Byte) :
    Keeps s (t.ingressFirst n last body) := by
  unfold State.ingressFirst
  grind only [← ingressPacket]

theorem ingressMore (h : Keeps s t) (n : Fin 20) (last : Bool) (body : List Byte) :
    Keeps s (t.ingressMore n last body) := by
  unfold State.ingressMore
  grind only [← modCh, ← prodBytes, ← linkClose, ← of_update]

theorem ingressRaw (h : Keeps s t) (n : Fin 20) (tail : Bool) (body : List Byte) :
    Keeps s (t.ingressRaw n tail body) := by
  unfold State.ingressRaw
  grind only [← rawBytes]

theorem afterTakeover (h : Keeps s t) (n : Fin 20) (fresh : Bool) :
    Keeps s (t.afterTakeover n fresh).2 := by
  unfold State.afterTakeover
  grind only [← modTwin, ← modCh, ← of_update]

theorem ingestSlice (h : Keeps s t) (ch : Nat) (segf : BitVec 8) (segoff : Nat) (body : List Byte) :
    Keeps s (t.ingestSlice ch segf segoff body) := by
  unfold State.ingestSlice
  split
  · exact h.misroute
  next n _ =>
    dsimp only
    refine branch h.misroute (branch (h.modTwin _) ?_)
    have hgo := h.afterTakeover n (segf.getLsbD 0 || segf.getLsbD 2)
    refine branch hgo (branch (branch (hgo.ingressRaw _ _ _) ?_) (branch ?_ (branch (hgo.modCh _ _) (branch (hgo.modCh _ _)
      (branch (hgo.segmentError _) (branch ((hgo.police _ _ _ _).modCh _ _) (branch ((hgo.police _ _ _ _).modCh _ _)
        ((hgo.police _ _ _ _).ingressMore _ _ _))))))))
    · exact branch ((hgo.police _ _ _ _).ingressRaw _ _ _) (hgo.police _ _ _ _)
    · have hslice : ∀ f, Keeps s (if segf.getLsbD 1 = true then _ else State.modCh _ n f) := fun f => branch hgo (hgo.modCh n f)
      exact branch ((hslice _).ingressFirst _ _ _) (branch ((hslice _).segmentError _)
        (branch (((hslice _).police _ _ _ _).ingressFirst _ _ _) ((hslice _).police _ _ _ _)))

theorem ingestFstart (h : Keeps s t) (ch epoch count frame sec ns : Nat) :
    Keeps s (t.ingestFstart ch epoch count frame sec ns) := by
  unfold State.ingestFstart
  grind only [← misroute, ← fstartEpoch, ← marker, ← of_update]

theorem execIdleFrame (h : Keeps s t) (m : RxMeta) (type : Byte) :
    KeepsNext s (execIdleFrame m type t) := by
  unfold Machine.execIdleFrame
  grind only [← received, KeepsNext, ← of_update]

theorem execSlice (h : Keeps s t) (m : RxMeta) (seq wlow ch : Nat) (segf : BitVec 8) (segoff : Nat) (body : List Byte) :
    KeepsNext s (execSlice m seq wlow ch segf segoff body t) := by
  unfold Machine.execSlice
  grind only [← receivedUp, ← arqReceive, ← active, ← ingestSlice, KeepsNext]

theorem execFstart (h : Keeps s t) (m : RxMeta) (seq wlow ch epoch count frame ptsSec ptsNs : Nat) :
    KeepsNext s (execFstart m seq wlow ch epoch count frame ptsSec ptsNs t) := by
  unfold Machine.execFstart
  grind only [← receivedUp, ← arqReceive, ← active, ← ingestFstart, KeepsNext]

theorem execAck (h : Keeps s t) (m : RxMeta) (ackseq : Nat) :
    KeepsNext s (execAck m ackseq t) := by
  unfold Machine.execAck
  grind only [← receivedUp, ← acknowledge, KeepsNext]

theorem execNak (h : Keeps s t) (m : RxMeta) (nakseq : Nat) :
    KeepsNext s (execNak m nakseq t) := by
  unfold Machine.execNak
  grind only [← receivedUp, ← modArq, ← acknowledge, ← retransmitFrom, KeepsNext, ← of_update]

theorem execPause (h : Keeps s t) (m : RxMeta) (bitmap : W32) :
    KeepsNext s (execPause m bitmap t) := by
  unfold Machine.execPause
  grind only [← receivedUp, ← modLink, ← forChans, ← modCh, ← refreshFlows, KeepsNext, ← of_update]

theorem execSync (h : Keeps s t) (m : RxMeta) (t' : Stamp) (epoch : Nat) (valid : Bool) :
    KeepsNext s (execSync m t' epoch valid t) := by
  unfold Machine.execSync
  grind only [← receivedUp, ← modTime, ← servo, KeepsNext, ← of_update]

theorem execEchoReq (h : Keeps s t) (m : RxMeta) (id : Nat) (t1 : Stamp) :
    KeepsNext s (execEchoReq m id t1 t) := by
  unfold Machine.execEchoReq
  grind only [← receivedUp, ← strict, KeepsNext]

theorem finishEchoes (h : Keeps s t) (sum : ℚ) :
    Keeps s (t.finishEchoes sum) := by
  unfold State.finishEchoes
  grind only [← modLink, ← gainLock, ← startEchoSet, ← of_update]

theorem execEchoRsp (h : Keeps s t) (m : RxMeta) (id : Nat) (t1 t2 t3 : Stamp) :
    KeepsNext s (execEchoRsp m id t1 t2 t3 t) := by
  unfold Machine.execEchoRsp
  grind only [← receivedUp, ← finishEchoes, ← sendEcho, ← modLink, KeepsNext, ← of_update]

theorem execRxreport (h : Keeps s t) (m : RxMeta) (no : Nat) (counts : List (Nat × Nat × Nat)) :
    KeepsNext s (execRxreport m no counts t) := by
  unfold Machine.execRxreport
  grind only [← receivedUp, ← forChans, ← modCh, ← modLink, KeepsNext, ← of_update]

theorem execBye (h : Keeps s t) (m : RxMeta) (reason : Nat) :
    KeepsNext s (execBye m reason t) := by
  unfold Machine.execBye
  grind only [← receivedUp, ← leaveUp, ← modLinkCnt, KeepsNext, ← of_update]

theorem execAckDelay {dt : Nat} (h : Keeps s (t.advance dt)) :
    KeepsNext s (execAckDelay dt t) := by
  unfold Machine.execAckDelay
  dsimp only
  repeat' split
  all_goals grind only [← sendAck, KeepsNext]

theorem execPauseQueue (h : Keeps s t) :
    KeepsNext s (execPauseQueue t) := by
  unfold Machine.execPauseQueue
  grind only [← sendPause, KeepsNext]

theorem execPauseRepeat {dt : Nat} (h : Keeps s (t.advance dt)) :
    KeepsNext s (execPauseRepeat dt t) := by
  unfold Machine.execPauseRepeat
  dsimp only
  repeat' split
  all_goals grind only [← sendPause, KeepsNext]

theorem execPausedExpiry {dt : Nat} (h : Keeps s (t.advance dt)) :
    KeepsNext s (execPausedExpiry dt t) := by
  unfold Machine.execPausedExpiry
  dsimp only
  repeat' split
  all_goals grind only [← refreshFlows, ← forChans, ← modCh, KeepsNext, ← of_update]

theorem execRxreportSend {dt : Nat} (h : Keeps s (t.advance dt)) :
    KeepsNext s (execRxreportSend dt t) := by
  unfold Machine.execRxreportSend
  dsimp only
  repeat' split
  all_goals grind only [← modLink, ← strict, KeepsNext, ← of_update]

theorem execEchoSetStart {dt : Nat} (h : Keeps s (t.advance dt)) :
    KeepsNext s (execEchoSetStart dt t) := by
  unfold Machine.execEchoSetStart
  dsimp only
  repeat' split
  all_goals grind only [← startEchoSet, KeepsNext]

theorem execEchoTimeout {dt : Nat} (h : Keeps s (t.advance dt)) :
    KeepsNext s (execEchoTimeout dt t) := by
  unfold Machine.execEchoTimeout
  dsimp only
  repeat' split
  all_goals grind only [← sendEcho, KeepsNext]

theorem execTokenRefill {dt : Nat} (h : Keeps s (t.advance dt)) :
    KeepsNext s (execTokenRefill dt t) := by
  unfold Machine.execTokenRefill
  dsimp only
  repeat' split
  all_goals grind only [← forChans, ← modLink, ← modCh, KeepsNext, ← of_update]

/-! ### The link sent -/

theorem readRun (h : Keeps s t) (n : Fin 20) (k : Nat) (p : Ptr) :
    Keeps s (t.readRun n k p).2 := by
  unfold State.readRun
  grind only [← sliceWords]

theorem segmentBytes (h : Keeps s t) (n : Fin 20) (start : Ptr) (bytes pseq : Nat) (first : Bool) :
    Keeps s (t.segmentBytes n start bytes pseq first).2 := by
  unfold State.segmentBytes
  grind only [← readRun, ← of_update]

theorem rawRunBytes (h : Keeps s t) (n : Fin 20) (start : Ptr) (words bytes : Nat) :
    Keeps s (t.rawRunBytes n start words bytes).2 := by
  unfold State.rawRunBytes
  grind only [← readRun]

theorem sendReliable (h : Keeps s t) (type ch : Nat) (endp : Ptr) (pseq : Nat) (pts : Option (Nat × Nat)) (fields
    body : List Byte) (wb : TxFrame → WinBody) :
    Keeps s (t.sendReliable type ch endp pseq pts fields body wb) := by
  unfold State.sendReliable
  grind only [← modArq, ← transmit, ← of_update]

theorem sendHead (h : Keeps s t) (n : Fin 20) (kind : HeadKind) :
    Keeps s (t.sendHead n kind) := by
  unfold State.sendHead
  grind only [← modCh, ← sendReliable, ← readLen, ← segmentBytes, ← assignPseq, ← readDir, ← rawRunBytes, ← of_update]

theorem resendMove (h : Keeps s t) (n : Fin 20) (e : WinEntry) (pos : Option PktPos) :
    Keeps s (t.resendMove n e pos) := by
  unfold State.resendMove
  grind only [← modCh, ← of_update]

theorem resend (h : Keeps s t) (e : WinEntry) : Keeps s (t.resend e) := by
  have hput : ∀ u f n, Keeps s u → Keeps s (((u.transmit f).readCompleted n).settle n) := fun u f n hu =>
    ((hu.transmit f).readCompleted n).settle n
  have hmark := h.modArq fun a =>
    { a with retx := a.retx.filter (· ≠ e.seq), retxFrames := inc32 a.retxFrames,
             window := a.window.map fun w => if w.seq = e.seq then { w with retxAt := some t.now } else w }
  unfold State.resend
  dsimp only
  repeat' split
  · exact hmark.transmit _
  all_goals grind -lia -linarith -ring only [← transmit, ← segmentBytes, ← assignPseq, ← modCh, ← resendMove,
    ← readDir, ← rawRunBytes]

theorem followV (h : Keeps s t) :
    Keeps s (t.followV) := by
  unfold State.followV
  grind only [← forChans, ← modCh, ← modLink, ← of_update]

theorem windowWaits (h : Keeps s t) :
    Keeps s (t.windowWaits) := by
  unfold State.windowWaits
  grind only [← forChans, ← modCh, ← modLink, ← of_update]

theorem sendFlow (h : Keeps s t) (i : Nat) (hd : Head) : Keeps s (t.sendFlow i hd) := by
  have hend : ∀ u, Keeps s u → Keeps s u.windowWaits.refreshFlows.followV := fun u hu =>
    hu.windowWaits.refreshFlows.followV
  unfold State.sendFlow
  dsimp only
  repeat' split
  all_goals refine hend _ ?_
  all_goals grind -lia -linarith -ring only [← modLink, ← modCh, ← settle, ← readCompleted, ← sendHead, ← sendReliable]

theorem execFrameTxChoice (h : Keeps s t) : KeepsNext s (execFrameTxChoice t) := by
  have hidle : ∀ f, Keeps s (t.transmit f) := h.transmit
  unfold Machine.execFrameTxChoice
  rintro _ ⟨⟩
  refine Keeps.serveFaults ?_ t
  repeat' split
  all_goals grind -lia -linarith -ring only [← sendStrict, ← refreshFlows, ← resend, ← sendFlow]

theorem execRetransmitTimeout {dt : Nat} (h : Keeps s (t.advance dt)) :
    KeepsNext s (execRetransmitTimeout dt t) := by
  unfold Machine.execRetransmitTimeout
  dsimp only
  repeat' split
  all_goals grind only [← modArq, ← leaveUp, ← retransmitFrom, KeepsNext, ← of_update]

theorem execGiveUp {dt : Nat} (h : Keeps s (t.advance dt)) :
    KeepsNext s (execGiveUp dt t) := by
  unfold Machine.execGiveUp
  grind only [← giveUpDue, KeepsNext]

/-! ### The write side -/

theorem wproto (h : Keeps s t) (x : Port) :
    Keeps s (t.wproto x) := by
  unfold State.wproto
  grind only [← modPCnt, ← attn, ← portEvt, ← of_update]

theorem discardSelected (h : Keeps s t) (x : Port) :
    Keeps s (t.discardSelected x) := by
  unfold State.discardSelected
  grind only [← discardPacket, ← of_update]

theorem beginRefusal (h : Keeps s t) (x : Port) :
    Keeps s (t.beginRefusal x) := by
  unfold State.beginRefusal
  grind only [← modPort, ← of_update]

theorem writeParity (h : Keeps s t) (x : Port) :
    Keeps s (t.writeParity x) := by
  unfold State.writeParity
  grind only [← modPCnt, ← attn, ← discardSelected, ← portEvt, ← beginRefusal, ← of_update]

theorem wseqGap (h : Keeps s t) (x : Port) (wseq : BitVec 8) :
    Keeps s (t.wseqGap x wseq) := by
  unfold State.wseqGap
  grind only [← modPCnt, ← attn, ← discardSelected, ← portEvt, ← beginRefusal, ← of_update]

theorem sample (h : Keeps s t) (x : Port) (wctl : BitVec 5) (c : WCyc) :
    Keeps s (t.sample x wctl c) := by
  unfold State.sample
  grind only [← modPort, ← of_update]

theorem wrongRaw (h : Keeps s t) (x : Port) (n : Fin 20) (k : Nat) (tail : Bool) :
    Keeps s (t.wrongRaw x n k tail) := by
  unfold State.wrongRaw
  grind only [← modPort, ← countStateRefused, ← of_update, ← foldl]

theorem cycleBytes (h : Keeps s t) (x : Port) (n : Fin 20) (bs : List Byte) (last : Bool) :
    Keeps s (t.cycleBytes x n bs last) := by
  unfold State.cycleBytes
  grind only [← rawBytes, ← wrongRaw, ← modPort, ← wproto, ← modCh, ← prodBytes, ← prodClose, ← of_update]

theorem cycleOpen (h : Keeps s t) (x : Port) (n : Fin 20) (c : WCyc) :
    Keeps s (t.cycleOpen x n c) := by
  unfold State.cycleOpen
  grind only [← wproto, ← modPort, ← prodOpen, ← of_update]

theorem cycleTail (h : Keeps s t) (x : Port) (n : Fin 20) :
    Keeps s (t.cycleTail x n) := by
  unfold State.cycleTail
  grind only [← wrongRaw, ← modPort, ← tailCommit, ← modCh, ← prodClose, ← of_update]

theorem cycleAbort (h : Keeps s t) (x : Port) (n : Fin 20) :
    Keeps s (t.cycleAbort x n) := by
  unfold State.cycleAbort
  grind only [← modPort, ← modCh, ← discardOpen, ← of_update]

theorem dropFirst (h : Keeps s t) (x : Port) :
    Keeps s (t.dropFirst x) := by
  unfold State.dropFirst
  grind only [← wproto, ← modPort, ← of_update]

theorem noteWclk (h : Keeps s t) (x : Port) :
    Keeps s (t.noteWclk x) := by
  unfold State.noteWclk
  grind only [← modPort, ← of_update]

theorem cycleMarker (h : Keeps s t) (x : Port) (n : Fin 20) (a b : WCyc) :
    Keeps s (t.cycleMarker x n a b) := by
  unfold State.cycleMarker
  grind only [← wproto, ← marker, ← attn]

theorem secondFrame (h : Keeps s t) (x : Port) (n : Fin 20) (b : WCyc) :
    Keeps s (t.secondFrame x n b) := by
  unfold State.secondFrame
  grind only [← cycleMarker, ← modPort, ← wproto, ← of_update]

theorem cycle (h : Keeps s t) (x : Port) (wctl : BitVec 5) (c : WCyc) (act : Fin 20 → State → State) (hact : ∀ a u,
    Keeps s u → Keeps s (act a u)) :
    Keeps s (t.cycle x wctl c act) := by
  unfold State.cycle
  grind only [← observed, ← noteWclk, ← sample, ← active, ← writeParity, ← modPort, ← dropFirst, ← wproto,
    ← chainPortAnew, ← serveFaults, ← of_update]

/-! ### The events of channels and ports -/

theorem chainSend (h : Keeps s t) (body : List Byte) :
    Keeps s (t.chainSend body) := by
  unfold State.chainSend
  grind only [← modTwin, ← of_update]

theorem chainFlow (h : Keeps s t) (fuel : Nat) : Keeps s (t.chainFlow fuel) := by
  induction fuel generalizing t with
  | zero => exact h
  | succ fuel ih =>
    unfold State.chainFlow
    grind -lia -linarith -ring only [← clover, ← modTwin]

theorem chainCut (h : Keeps s t) (n : Fin 20) :
    Keeps s (t.chainCut n) := by
  unfold State.chainCut
  grind only [← modCh, ← countCut, ← modTwin, ← of_update]

theorem chainPump (h : Keeps s t) (n : Fin 20) (fuel : Nat) : Keeps s (t.chainPump n fuel) := by
  have hbodies : ∀ (bs : List (List Byte)) u, Keeps s u →
      Keeps s ((bs.foldl (fun s b => s.chainSend b) u).readCompleted n) := fun bs u hu =>
    (foldl (fun v b hv => hv.chainSend b) bs hu).readCompleted n
  induction fuel generalizing t with
  | zero => exact h
  | succ fuel ih =>
    unfold State.chainPump
    refine branch h (branch h (branch ?_ (branch h (branch (branch h (branch (h.readDir n _) ?_)) (branch (ih ((h.chainCut n).settle n))
      (branch h (branch (h.readLen n _) ?_)))))))
    · split
      · exact h
      · exact ih ((h.modCh n _).chainSend _)
    · exact ih (((((h.readDir n _).readRun n 1 _).modCh n _).chainSend _).readCompleted n)
    · refine ih (hbodies _ _ (Keeps.modCh (Keeps.assignPseq (Keeps.segmentBytes ?_ n _ _ (t.chan n).nextPseq true) n _) n _))
      exact h.readLen n _

theorem chainRun (h : Keeps s t) (n : Fin 20) :
    Keeps s (t.chainRun n) := by
  unfold State.chainRun
  grind only [← chainPump, ← chainFlow]

theorem commitPacket (h : Keeps s t) (n : Fin 20) :
    Keeps s (t.commitPacket n) := by
  unfold State.commitPacket
  grind only [← modCh, ← modCnt, ← placeSlice, ← announce, ← chainRun, ← settle, ← of_update, ← foldl]

theorem disableChannel (h : Keeps s t) (n : Fin 20) : Keeps s (t.disableChannel n) :=
  ((((((h.presetPending n rsFlushed).stopChannel n).modCh n _).mapChanged).evalHold n).servicePorts)

theorem execPacketCommit (h : Keeps s t) (n : Fin 20) :
    KeepsNext s (execPacketCommit n t) := by
  unfold Machine.execPacketCommit
  grind only [← serveFaults, ← commitPacket, KeepsNext]

theorem execDeferredTailCommit (h : Keeps s t) (n : Fin 20) :
    KeepsNext s (execDeferredTailCommit n t) := by
  unfold Machine.execDeferredTailCommit
  grind only [← serveFaults, ← chainRun, ← tailCommit, KeepsNext]

theorem wakeReader (h : Keeps s t) (x : Port) :
    Keeps s (t.wakeReader x) := by
  unfold State.wakeReader
  grind only [← service, ← serveRead, ← of_update]

theorem execWaitingReadDelivery (h : Keeps s t) (x : Port) :
    KeepsNext s (execWaitingReadDelivery x t) := by
  unfold Machine.execWaitingReadDelivery
  grind only [← wakeReader, KeepsNext]

theorem execStallTimeout {dt : Nat} (h : Keeps s (t.advance dt)) (x : Port) : KeepsNext s (execStallTimeout dt x t)
    := by
  have hwake := h.wakeDoze.wakeReader x
  unfold Machine.execStallTimeout
  rintro _ ⟨⟩
  repeat' split
  · exact h
  · exact h
  · refine branch h (branch ?_ hwake)
    exact ((hwake.finishStat x _ rsTimeout).readCompleted _).service x

theorem execReadIdleTimeout {dt : Nat} (h : Keeps s (t.advance dt)) (n : Fin 20) :
    KeepsNext s (execReadIdleTimeout dt n t) := by
  unfold Machine.execReadIdleTimeout
  rintro _ ⟨⟩
  have hfired := fun f => h.wakeDoze.modCh n f
  exact branch h (((branch (((hfired _).tailCommit n none false).chainRun n) (hfired _)).serveFaults _).attnCh n 10)

theorem execGateOpen {dt : Nat} (h : Keeps s (t.advance dt)) (n : Fin 20) (slot : Fin 3) :
    KeepsNext s (execGateOpen dt n slot t) := by
  unfold Machine.execGateOpen
  dsimp only
  repeat' split
  all_goals grind only [← openDueGate, ← wakeDoze, KeepsNext]

theorem execStandinDeadline {dt : Nat} (h : Keeps s (t.advance dt)) (n : Fin 20) :
    KeepsNext s (execStandinDeadline dt n t) := by
  unfold Machine.execStandinDeadline
  rintro _ ⟨⟩
  have hserved := (((h.retryWaiting .A n).service .A).retryWaiting .B n).service .B
  exact branch h (branch hserved hserved.wakeDoze)

theorem execInvariantBroken (h : Keeps s t) (n : Fin 20) :
    KeepsNext s (execInvariantBroken n t) := by
  unfold Machine.execInvariantBroken
  grind only [← servicePorts, ← chFault, KeepsNext]

theorem finishPacket (h : Keeps s t) (k : PCmd) :
    Keeps s (t.finishPacket k) := by
  unfold State.finishPacket
  grind only [← observePass, ← modCh, ← settle, ← flushIfDue, ← of_update]

theorem isolate (h : Keeps s t) (x : Port) : Keeps s (t.isolate x) := by
  have hcmds : ∀ l : List PCmd, Keeps s (l.foldl (fun s k => s.finishPacket k) t) := fun l =>
    foldl (fun u k hu => hu.finishPacket k) l h
  have hopen : ∀ u, Keeps s u →
      Keeps s (u.forChans fun n s => if (s.chan n).cfg.producer = End.ofPort x then s.discardOpen n else s) := fun u hu =>
    hu.forChans fun n v hv => branch (hv.discardOpen n) hv
  unfold State.isolate
  exact (((((((hopen _ ((hcmds _).modPort x _)).freeLocks (portOwner x)).attn x 13).portEvt x 6 _).active).serveFaults
    t).chainPortAnew)

theorem portOff (h : Keeps s t) (x : Port) :
    Keeps s (t.portOff x) := by
  unfold State.portOff
  grind only [← modPort, ← isolate, ← of_update]

theorem startProbe (h : Keeps s t) (x : Port) :
    Keeps s (t.startProbe x) := by
  unfold State.startProbe
  grind only [← modPort, ← of_update]

theorem applyPortMode (h : Keeps s t) (x : Port) (v : Nat) :
    Keeps s (t.applyPortMode x v) := by
  unfold State.applyPortMode
  grind only [← modPort, ← portOff, ← startProbe, ← of_update]

theorem execClockAbsent (h : Keeps s t) (x : Port) (wclk rclk : Bool) :
    KeepsNext s (execClockAbsent x wclk rclk t) := by
  unfold Machine.execClockAbsent
  grind only [← modPort, ← isolate, ← freeLocks, KeepsNext, ← of_update]

theorem latchStartup (h : Keeps s t) :
    Keeps s (t.latchStartup) := by
  unfold State.latchStartup
  grind only [← modRst, ← of_update]

theorem execProbeEnd {dt : Nat} (h : Keeps s (t.advance dt)) (x : Port) (detected : Bool) (z : Nat) :
    KeepsNext s (execProbeEnd dt x detected z t) := by
  unfold Machine.execProbeEnd
  dsimp only
  repeat' split
  all_goals grind only [← modPort, ← attn, ← latchStartup, KeepsNext, ← of_update]

theorem execPortRailRestored (h : Keeps s t) (x : Port) :
    KeepsNext s (execPortRailRestored x t) := by
  unfold Machine.execPortRailRestored
  grind only [← modPort, ← log, ← startProbe, KeepsNext, ← of_update]

/-! ### The moves of a channel -/

theorem startChannel (h : Keeps s t) (n : Fin 20) (st : ChState) (v : Nat) :
    Keeps s (t.startChannel n st v) := by
  unfold State.startChannel
  grind only [← modCh, ← settle, ← mapChanged, ← of_update]

theorem tailAtHold (h : Keeps s t) (n : Fin 20) :
    Keeps s (t.tailAtHold n) := by
  unfold State.tailAtHold
  grind only [← tailCommit]

theorem holdChannel (h : Keeps s t) (n : Fin 20) :
    Keeps s (t.holdChannel n) := by
  unfold State.holdChannel
  grind only [← modCh, ← settle, ← tailAtHold, ← of_update]

theorem drainChannel (h : Keeps s t) (n : Fin 20) :
    Keeps s (t.drainChannel n) := by
  unfold State.drainChannel
  grind only [← modCh, ← settle, ← tailAtHold, ← of_update]

theorem resumeChannel (h : Keeps s t) (n : Fin 20) :
    Keeps s (t.resumeChannel n) := by
  unfold State.resumeChannel
  grind only [← settle, ← modCh, ← of_update]

theorem refuseEnable (h : Keeps s t) (n : Fin 20) (code : Nat) :
    Keeps s (t.refuseEnable n code).2 := by
  unfold State.refuseEnable
  grind only [← modCh, ← of_update]

theorem moveEnable (h : Keeps s t) (n : Fin 20) (v : Nat) :
    Keeps s (t.moveEnable n v).2 := by
  unfold State.moveEnable
  grind only [← refuseEnable, ← startChannel, ← disableChannel, ← holdChannel, ← drainChannel, ← resumeChannel,
    ← of_update]

theorem writeEnable (h : Keeps s t) (n : Fin 20) (v : Nat) :
    Keeps s (t.writeEnable n v).2 := by
  unfold State.writeEnable
  grind only [← moveEnable, ← modRst, ← of_update]

theorem applyStoredEnable (h : Keeps s t) (n : Fin 20) (v : Nat) :
    Keeps s (t.applyStoredEnable n v) := by
  unfold State.applyStoredEnable
  grind only [← moveEnable, ← modCh, ← startChannel, ← of_update]

/-! ### The twin and Clover -/

theorem sendStatus (h : Keeps s t) :
    Keeps s (t.sendStatus) := by
  unfold State.sendStatus
  grind only [← clover]

theorem statusAnew (h : Keeps s t) :
    Keeps s (t.statusAnew) := by
  unfold State.statusAnew
  grind only [← sendStatus]

theorem setRole (h : Keeps s t) (r : TwinRole) :
    Keeps s (t.setRole r) := by
  unfold State.setRole
  grind only [← modTwin, ← sendStatus, ← twinChanged, ← attnBoth, ← of_update]

theorem statusIfChanged (h : Keeps s t) (s' : State) (plan : Bool) :
    Keeps s (t.statusIfChanged s' plan) := by
  unfold State.statusIfChanged
  grind only [← sendStatus]

theorem twinFault (h : Keeps s t) (cause : Nat) :
    Keeps s (t.twinFault cause) := by
  unfold State.twinFault
  grind only [← setRole, ← modTwin, ← of_update]

theorem startJoining (h : Keeps s t) :
    Keeps s (t.startJoining) := by
  unfold State.startJoining
  grind only [← modTwin, ← clover, ← setRole, ← of_update]

theorem divergence (h : Keeps s t) (cause : Nat) :
    Keeps s (t.divergence cause) := by
  unfold State.divergence
  grind only [← clover, ← sendStatus, ← twinChanged, ← diverge]

theorem releaseLatch (h : Keeps s t) :
    Keeps s (t.releaseLatch) := by
  unfold State.releaseLatch
  grind only [← modTwin, ← of_update]

theorem heartbeatRuns (h : Keeps s t) :
    Keeps s (t.heartbeatRuns) := by
  unfold State.heartbeatRuns
  grind only [← modTwin, ← of_update]

theorem startTraining (h : Keeps s t) :
    Keeps s (t.startTraining) := by
  unfold State.startTraining
  grind only [← modTwin, ← of_update]

theorem twinStart (h : Keeps s t) :
    Keeps s (t.twinStart) := by
  unfold State.twinStart
  grind only [← modTwin, ← twinFault, ← startJoining, ← of_update]

theorem resumeAtomics (h : Keeps s t) (x : Port) :
    Keeps s (t.resumeAtomics x) := by
  unfold State.resumeAtomics
  grind only [← finishStat, ← finish, ← of_update, ← foldl]

theorem readResume (h : Keeps s t) (n : Fin 20) (r : FrameRec) (k : Nat) :
    Keeps s (t.readResume n r k).2 := by
  unfold State.readResume
  grind only [← readHistory, ← readDirEntry, ← of_update]

theorem emitUnsourced (h : Keeps s t) (x : Port) (k : PCmd) (len done : Nat) :
    Keeps s (t.emitUnsourced x k len done) := by
  unfold State.emitUnsourced
  grind only [← modTwin, ← emitWords, ← of_update]

theorem resumeSlice (h : Keeps s t) (x : Port) (n : Fin 20) (k : PCmd) (p : PktPos) :
    Keeps s (t.resumeSlice x n k p) := by
  unfold State.resumeSlice
  split
  · exact (h.modCh n _).emitUnsourced x k _ _
  next i _ =>
    dsimp only
    have hread := h.readResume n ((t.chan n).record i) ((t.chan n).record i).pos
    refine branch hread ?_
    have hpass := fun f => (hread.passStandin n ((t.chan n).record i).pos ((t.chan n).record i).frame).modCh n f
    split
    · exact (((hpass _).sliceWords n true _ _ _ _ _).modCh n _).emitWords x k true _ |>.settle n
    · exact (((hpass _).modCh n _).emitUnsourced x k _ _).settle n

theorem resumePeek (h : Keeps s t) (x : Port) (n : Fin 20) (k : PCmd) :
    Keeps s (t.resumePeek x n k) := by
  unfold State.resumePeek
  grind only [← emitUnsourced, ← of_update]

theorem resumeReads (h : Keeps s t) (x : Port) :
    Keeps s (t.resumeReads x) := by
  unfold State.resumeReads
  grind only [← resumePeek, ← resumeSlice, ← of_update]

theorem takeover (h : Keeps s t) (r : TwinRole) : Keeps s (t.takeover r) := by
  have hgap : ∀ u, Keeps s u →
      Keeps s (u.forChans fun n s => if (s.chan n).copied then s.modCh n fun c => { c with copyGap := true } else s) :=
    fun u hu => hu.forChans fun n v hv => branch (hv.modCh n _) hv
  unfold State.takeover
  exact ((((((hgap _ ((h.modTwin _).setRole r)).resumeAtomics .A).resumeAtomics .B).modTwin _).resumeReads .A).resumeReads
    .B).servicePorts

theorem gracefulRelease (h : Keeps s t) :
    Keeps s (t.gracefulRelease) := by
  unfold State.gracefulRelease
  grind only [← clover, ← setRole, ← modTwin, ← releaseLatch, ← of_update]

theorem cancelRelease (h : Keeps s t) :
    Keeps s (t.cancelRelease) := by
  unfold State.cancelRelease
  grind only [← servicePorts, ← setRole, ← modTwin, ← of_update]

theorem handOver (h : Keeps s t) :
    Keeps s (t.handOver) := by
  unfold State.handOver
  grind only [← gracefulRelease]

theorem partnerLost (h : Keeps s t) :
    Keeps s (t.partnerLost) := by
  unfold State.partnerLost
  grind only [← setRole, ← modTwin, ← takeover, ← of_update]

theorem execHeartbeatStop (h : Keeps s t) :
    KeepsNext s (execHeartbeatStop t) := by
  unfold Machine.execHeartbeatStop
  grind only [← releaseLatch, ← modTwin, KeepsNext, ← of_update]

theorem execHeartbeatLoss (h : Keeps s t) :
    KeepsNext s (execHeartbeatLoss t) := by
  unfold Machine.execHeartbeatLoss
  grind only [← partnerLost, ← modTwin, KeepsNext, ← of_update]

theorem execPartnerAbsent (h : Keeps s t) :
    KeepsNext s (execPartnerAbsent t) := by
  unfold Machine.execPartnerAbsent
  grind only [← modTwin, ← setRole, ← partnerLost, KeepsNext, ← of_update]

theorem execPartnerPresent (h : Keeps s t) :
    KeepsNext s (execPartnerPresent t) := by
  unfold Machine.execPartnerPresent
  grind only [← startTraining, ← modTwin, KeepsNext, ← of_update]

theorem execLatchAcquire (h : Keeps s t) :
    KeepsNext s (execLatchAcquire t) := by
  unfold Machine.execLatchAcquire
  grind only [← modTwin, ← takeover, ← setRole, ← isolate, KeepsNext, ← of_update]

theorem execBusOwnNFall (h : Keeps s t) :
    KeepsNext s (execBusOwnNFall t) := by
  unfold Machine.execBusOwnNFall
  grind only [← modTwin, ← twinFault, ← startJoining, KeepsNext, ← of_update]

theorem execCloverLost (h : Keeps s t) :
    KeepsNext s (execCloverLost t) := by
  unfold Machine.execCloverLost
  grind only [← modTwin, ← twinFault, KeepsNext, ← of_update]

theorem messageLost (h : Keeps s t) :
    Keeps s (t.messageLost) := by
  unfold State.messageLost
  grind only [← sendCredits, ← divergence, ← startJoining]

theorem noteMseq (h : Keeps s t) (mseq : Nat) (again : Bool) :
    Keeps s (t.noteMseq mseq again) := by
  unfold State.noteMseq
  grind only [← modTwin, ← of_update]

theorem cloverTake (h : Keeps s t) (m : CMeta) (again : Bool) (act : State → State) (hact : ∀ u, Keeps s u → Keeps s
    (act u)) :
    Keeps s (t.cloverTake m again act) := by
  unfold State.cloverTake
  grind only [← messageLost, ← modTwin, ← noteMseq, ← serveFaults, ← of_update]

theorem cloverRx (h : Keeps s t) (m : CMeta) (act : State → State) (hact : ∀ u, Keeps s u → Keeps s (act u)) :
    Keeps s (t.cloverRx m act) := by
  unfold State.cloverRx
  grind only [← cloverTake]

theorem cloverMsg (h : Keeps s t) (m : CMeta) (act : State → State) (hact : ∀ u, Keeps s u → Keeps s (act u)) :
    Keeps s (t.cloverMsg m act) := by
  unfold State.cloverMsg
  grind only [← cloverRx, ← active]

theorem chainFault (h : Keeps s t) :
    Keeps s (t.chainFault) := by
  unfold State.chainFault
  grind only [← twinFault, ← forChans, ← drainChannel, ← holdChannel]

theorem execCloverUp (h : Keeps s t) (latency : Nat) :
    KeepsNext s (execCloverUp latency t) := by
  unfold Machine.execCloverUp
  grind only [← modTwin, ← chainPortAnew, ← sendStatus, ← setRole, ← clover, KeepsNext, ← of_update]

theorem cloverFalls (h : Keeps s t) :
    Keeps s (t.cloverFalls) := by
  unfold State.cloverFalls
  grind only [← modTwin, ← setRole, ← cancelRelease, ← divergence, ← of_update]

theorem execCloverDown (h : Keeps s t) :
    KeepsNext s (execCloverDown t) := by
  unfold Machine.execCloverDown
  grind only [← cloverFalls, KeepsNext]

theorem execCloverStatus (h : Keeps s t) (m : CMeta) (role mode : Nat) (id : Bool) (joinBlock digest fwVersion : Nat) :
    KeepsNext s (execCloverStatus m role mode id joinBlock digest fwVersion t) := by
  unfold Machine.execCloverStatus
  grind only [← statusIfChanged, ← cloverRx, ← modTwin, ← twinFault, ← releaseLatch, ← chainFault, ← setRole,
    ← startJoining, ← cancelRelease, KeepsNext, ← of_update]

theorem execHold (h : Keeps s t) (m : CMeta) (bitmap : W32) :
    KeepsNext s (execHold m bitmap t) := by
  unfold Machine.execHold
  grind only [← cloverRx, ← modTwin, KeepsNext, ← of_update]

theorem applyStandin (h : Keeps s t) (ch : Nat) (history : Bool) (cause slice frame : Nat) :
    Keeps s (t.applyStandin ch history cause slice frame) := by
  unfold State.applyStandin
  grind only [← observed, ← modTwin, ← modCnt, ← attnCh, ← of_update]

theorem execStandin (h : Keeps s t) (m : CMeta) (ch : Nat) (history : Bool) (cause slice frame : Nat) :
    KeepsNext s (execStandin m ch history cause slice frame t) := by
  unfold Machine.execStandin
  grind only [← cloverMsg, ← applyStandin, KeepsNext]

theorem actedAtomic (h : Keeps s t) (issuer opc area rstat new cseq : Nat) :
    Keeps s (t.actedAtomic issuer opc area rstat new cseq) := by
  unfold State.actedAtomic
  grind only [← modPort, ← of_update]

theorem applyAtomic (h : Keeps s t) (issuer opc area rstat unit : Nat) (prior new : W32) (cseq : Nat) :
    Keeps s (t.applyAtomic issuer opc area rstat unit prior new cseq) := by
  unfold State.applyAtomic
  grind only [← observed, ← modTwin, ← actedAtomic, ← modMem, ← setSlot, ← writeP, MemSt.canonical, ← of_update]

theorem execAtomic (h : Keeps s t) (m : CMeta) (issuer opc area rstat unit : Nat) (prior new : W32) (cseq : Nat) :
    KeepsNext s (execAtomic m issuer opc area rstat unit prior new cseq t) := by
  unfold Machine.execAtomic
  grind only [← cloverMsg, ← applyAtomic, KeepsNext]

theorem countLateRefusal (h : Keeps s t) (n : Fin 20) :
    Keeps s (t.countLateRefusal n) := by
  unfold State.countLateRefusal
  grind only [← attnCh, ← modCnt, ← of_update]

theorem takeBack (h : Keeps s t) (n : Fin 20) (k : ClosedPkt) :
    Keeps s (t.takeBack n k) := by
  unfold State.takeBack
  grind only [← modCh, ← settle, ← countLateRefusal, ← of_update]

theorem adoptRefusal (h : Keeps s t) (n : Fin 20) (wseq why : Nat) :
    Keeps s (t.adoptRefusal n wseq why) := by
  unfold State.adoptRefusal
  grind only [← modCh, ← countLateRefusal, ← modTwin, ← adoptSpace, ← settle, ← takeBack, ← divergence, ← of_update]

theorem applyRefusal (h : Keeps s t) (ch wseq why : Nat) :
    Keeps s (t.applyRefusal ch wseq why) := by
  unfold State.applyRefusal
  grind only [← observed, ← adoptRefusal, ← of_update]

theorem execRefusal (h : Keeps s t) (m : CMeta) (ch wseq why : Nat) :
    KeepsNext s (execRefusal m ch wseq why t) := by
  unfold Machine.execRefusal
  grind only [← statusIfChanged, ← cloverMsg, ← applyRefusal, KeepsNext]

theorem execPortEvent (h : Keeps s t) (m : CMeta) (x : Port) (event seq : Nat) :
    KeepsNext s (execPortEvent m x event seq t) := by
  unfold Machine.execPortEvent
  grind only [← cloverMsg, ← modTwin, KeepsNext, ← of_update]

theorem execPortEventMismatch {dt : Nat} (h : Keeps s (t.advance dt)) :
    KeepsNext s (execPortEventMismatch dt t) := by
  unfold Machine.execPortEventMismatch
  dsimp only
  repeat' split
  all_goals grind only [← divergence, KeepsNext]

theorem cloverInput (h : Keeps s t) (n : Fin 20) (segf : BitVec 8) (segoff : Nat) (data : List Byte) :
    Keeps s (t.cloverInput n segf segoff data) := by
  unfold State.cloverInput
  grind only [← ingressRaw, ← discardPacket, ← ingressPacket, ← modCh, ← ingressMore, ← of_update]

theorem applyCopy (h : Keeps s t) (ch : Nat) (segf : BitVec 8) (segoff : Nat) (data : List Byte) :
    Keeps s (t.applyCopy ch segf segoff data) := by
  unfold State.applyCopy
  grind only [← observed, ← cloverInput, ← active, ← divergence, ← of_update]

theorem execCloverCopy (h : Keeps s t) (m : CMeta) (ch : Nat) (segf : BitVec 8) (segoff : Nat) (data : List Byte) :
    KeepsNext s (execCloverCopy m ch segf segoff data t) := by
  unfold Machine.execCloverCopy
  grind only [← cloverMsg, ← applyCopy, KeepsNext]

theorem execCloverTime (h : Keeps s t) (m : CMeta) (t' : Stamp) (epoch : Nat) (valid : Bool) :
    KeepsNext s (execCloverTime m t' epoch valid t) := by
  unfold Machine.execCloverTime
  grind only [← cloverRx, ← statusIfChanged, ← servo, KeepsNext]

theorem loadWords (h : Keeps s t) (n : Fin 20) (d : SnapCh) :
    Keeps s (t.loadWords n d) := by
  unfold State.loadWords
  grind only [← modCh, ← writeWord, ← of_update, ← foldl]

theorem loadSnapCh (h : Keeps s t) (d : SnapCh) :
    Keeps s (t.loadSnapCh d) := by
  unfold State.loadSnapCh
  grind only [← settle, ← modCh, ← startChannel, ← loadWords, ← of_update]

theorem loadSnapPort (h : Keeps s t) (x : Port) (d : SnapPort) :
    Keeps s (t.loadSnapPort x d) := by
  unfold State.loadSnapPort
  grind only [← modPort, ← of_update]

theorem loadSnapTime (h : Keeps s t) (d : Snap) :
    Keeps s (t.loadSnapTime d) := by
  unfold State.loadSnapTime
  grind only [← modTime, ← endLock, ← modRst, ← giveUpEpoch, ← setEpoch, ← of_update]

theorem loadSnap (h : Keeps s t) (first : Bool) (d : Snap) :
    Keeps s (t.loadSnap first d) := by
  unfold State.loadSnap
  grind only [← loadSnapPort, ← loadSnapCh, ← writeP, ← setSlot, ← loadSnapTime, ← of_update, ← foldl]

theorem sendSnap (h : Keeps s t) :
    Keeps s (t.sendSnap) := by
  unfold State.sendSnap
  grind only [← clover, ← modTwin, ← of_update]

theorem execJoinReq (h : Keeps s t) (m : CMeta) :
    KeepsNext s (execJoinReq m t) := by
  unfold Machine.execJoinReq
  grind only [← cloverMsg, ← active, ← sendSnap, ← modTwin, KeepsNext, ← of_update]

theorem execJoinComplete (h : Keeps s t) :
    KeepsNext s (execJoinComplete t) := by
  unfold Machine.execJoinComplete
  grind only [← setRole, KeepsNext]

theorem execHandover (h : Keeps s t) (m : CMeta) (counts : List Nat) :
    KeepsNext s (execHandover m counts t) := by
  unfold Machine.execHandover
  grind only [← cloverMsg, ← divergence, ← modTwin, ← takeover, KeepsNext, ← of_update]

theorem chainMarker (h : Keeps s t) (n : Fin 20) (d : List Byte) :
    Keeps s (t.chainMarker n d) := by
  unfold State.chainMarker
  grind only [← marker]

theorem skipChain (h : Keeps s t) (mseq : Nat) :
    Keeps s (t.skipChain mseq) := by
  unfold State.skipChain
  grind only [← modTwin, ← of_update]

theorem execChainData (h : Keeps s t) (m : CMeta) (ch : Nat) (segf : BitVec 8) (segoff : Nat) (data : List Byte) :
    KeepsNext s (execChainData m ch segf segoff data t) := by
  unfold Machine.execChainData
  grind only [← cloverTake, ← modTwin, ← active, ← skipChain, ← chainMarker, ← cloverInput, ← sendCredits, KeepsNext,
    ← of_update]

theorem chainRelease (h : Keeps s t) (q : CMsg) :
    Keeps s (t.chainRelease q) := by
  unfold State.chainRelease
  grind only [← settle, ← modCh, ← of_update]

theorem execChainCredit (h : Keeps s t) (m : CMeta) (credits : List Nat) (mseqAck : Nat) :
    KeepsNext s (execChainCredit m credits mseqAck t) := by
  unfold Machine.execChainCredit
  grind only [← cloverMsg, ← modTwin, ← chainRelease, ← forChans, ← chainRun, ← modCh, KeepsNext, ← of_update, ← foldl]

theorem execChainPort (h : Keeps s t) (m : CMeta) (ports : List ChainPortRec) (chans : List ChainChRec) :
    KeepsNext s (execChainPort m ports chans t) := by
  unfold Machine.execChainPort
  grind only [← cloverMsg, ← modTwin, KeepsNext, ← of_update]

theorem execChainPartnerFault (h : Keeps s t) :
    KeepsNext s (execChainPartnerFault t) := by
  unfold Machine.execChainPartnerFault
  grind only [← chainFault, KeepsNext]

theorem execDrainComplete (h : Keeps s t) (n : Fin 20) :
    KeepsNext s (execDrainComplete n t) := by
  unfold Machine.execDrainComplete
  grind only [← statusIfChanged, ← disableChannel, KeepsNext]

theorem execCloverStatusPeriod {dt : Nat} (h : Keeps s (t.advance dt)) :
    KeepsNext s (execCloverStatusPeriod dt t) := by
  unfold Machine.execCloverStatusPeriod
  dsimp only
  repeat' split
  all_goals grind only [← sendStatus, KeepsNext]

theorem execHoldPeriod {dt : Nat} (h : Keeps s (t.advance dt)) :
    KeepsNext s (execHoldPeriod dt t) := by
  unfold Machine.execHoldPeriod
  dsimp only
  repeat' split
  all_goals grind only [← clover, KeepsNext]

theorem execCloverTimePeriod {dt : Nat} (h : Keeps s (t.advance dt)) :
    KeepsNext s (execCloverTimePeriod dt t) := by
  unfold Machine.execCloverTimePeriod
  dsimp only
  repeat' split
  all_goals grind only [← announce, KeepsNext]

theorem execJoinReqPeriod {dt : Nat} (h : Keeps s (t.advance dt)) :
    KeepsNext s (execJoinReqPeriod dt t) := by
  unfold Machine.execJoinReqPeriod
  dsimp only
  repeat' split
  all_goals grind only [← clover, KeepsNext]

theorem execChainCreditPeriod {dt : Nat} (h : Keeps s (t.advance dt)) :
    KeepsNext s (execChainCreditPeriod dt t) := by
  unfold Machine.execChainCreditPeriod
  dsimp only
  repeat' split
  all_goals grind only [← sendCredits, KeepsNext]

theorem cutObserved (h : Keeps s t) (n : Fin 20) :
    Keeps s (t.cutObserved n) := by
  unfold State.cutObserved
  grind only [← cutAll, ← modCh, ← of_update]

theorem observeRing (h : Keeps s t) (n : Fin 20) (k : PCmd) (b : Beat) :
    Keeps s (t.observeRing n k b) := by
  unfold State.observeRing
  grind only [← settle, ← flushIfDue, ← modCh, ← cutObserved, ← assignPseq, ← of_update]

theorem observeSlice (h : Keeps s t) (n : Fin 20) (b : Beat) :
    Keeps s (t.observeSlice n b) := by
  unfold State.observeSlice
  grind only [← observePass, ← modCh, ← assignPseq, ← beginFrame, ← of_update]

theorem observe (h : Keeps s t) (x : Port) (k : PCmd) (b : Beat) : Keeps s (t.observe x k b) := by
  have hstatus : ∀ {u : State} (j), Keeps s u → Keeps s (((u.statusCmd x j).map (·.2)).getD u) := by
    intro u j hu
    cases hj : u.statusCmd x j with
    | none => exact hu
    | some r => exact hu.statusCmd x j hj
  have hlast : ∀ {u : State} (f), Keeps s u → Keeps s (if b.last then u.modTwin f else u) := fun f hu =>
    branch (hu.modTwin f) hu
  have hread : ∀ {u : State} (o : Option (Fin 20)) (r : Bool), Keeps s u →
      Keeps s (match o with | some n => if b.last && r then u.readCompleted n else u | none => u) := by
    rintro u (_ | n) r hu
    · exact hu
    · exact branch (hu.readCompleted n) hu
  unfold State.observe
  refine Keeps.idleAnew (Keeps.modPort (hlast _ (hread _ _ ?_)) x _)
  refine branch (hstatus _ (branch (Keeps.scratchOp ?_ _ _ _ _ _) ?_)) (branch (Keeps.scratchOp ?_ _ _ _ _ _) ?_)
  all_goals
    split
    · exact h
    next n _ =>
      exact branch (branch (branch (h.observeSlice n b) (h.observeRing n k b)) h) (branch (h.updCmd x k _)
        (branch (h.chCmd n _ _) h))

theorem takeBeat (h : Keeps s t) (x : Port) (b : Beat) (rpar : BitVec 8) (rqs : Bool) :
    Keeps s (t.takeBeat x b rpar rqs) := by
  unfold State.takeBeat
  grind only [← observed, ← modTwin, ← divergence, ← statusIfChanged, ← observe, ← of_update]

theorem execReturnBusBeat (h : Keeps s t) (x : Port) (b : Beat) (rpar : BitVec 8) (rqs : Bool) :
    KeepsNext s (execReturnBusBeat x b rpar rqs t) := by
  unfold Machine.execReturnBusBeat
  grind only [← takeBeat, KeepsNext]

/-! ### The write cycles -/

theorem idleCycle (h : Keeps s t) (x : Port) (c : WCyc) : Keeps s (t.idleCycle x c) := by
  refine h.observed _ _ fun u hu => ?_
  have hnote := hu.noteWclk x
  refine branch hnote (branch ((hnote.sample x 0#5 c).dropFirst x) ?_)
  exact ((((hnote.sample x 0#5 c).modPort x _).writeParity x).serveFaults u).chainPortAnew

theorem selectCycle (h : Keeps s t) (x : Port) (c : WCyc) : Keeps s (t.selectCycle x c) := by
  refine h.observed _ _ fun u hu => ?_
  have hnote := hu.noteWclk x
  have hsample := hnote.active.sample x 16#5 c
  have hdrop := hsample.dropFirst x
  refine branch hnote (Keeps.chainPortAnew (Keeps.serveFaults ?_ u))
  refine branch ((hsample.modPort x _).writeParity x) (branch (branch hdrop (hdrop.wseqGap x _)) ?_)
  exact branch ((hdrop.modPort x _).wproto x) (hdrop.modPort x _)

theorem openCycle (h : Keeps s t) (x : Port) (c : WCyc) : Keeps s (t.openCycle x c) := by
  refine h.observed _ _ fun u hu => ?_
  have hnote := hu.noteWclk x
  have hsample := hnote.active.sample x 17#5 c
  have hdrop := hsample.dropFirst x
  refine branch hnote (Keeps.chainPortAnew (Keeps.serveFaults ?_ u))
  refine branch ((hsample.modPort x _).writeParity x) (branch hdrop ?_)
  dsimp only
  split
  · grind -lia -linarith -ring only [← modPort, ← wseqGap, ← cycleOpen]
  · exact (branch (hdrop.modPort x _) (hdrop.wseqGap x _)).wproto x

theorem cycleOf (h : Keeps s t) (x : Port) (wctl : BitVec 5) (c : WCyc) :
    Keeps s (t.cycleOf x wctl c) := by
  unfold State.cycleOf
  repeat' split
  all_goals grind only [← idleCycle, ← selectCycle, ← openCycle, ← cycle, ← cycleBytes, ← cycleAbort, ← modPort,
    ← secondFrame, ← cycleTail, ← wproto, ← of_update]

theorem execIdle (h : Keeps s t) (x : Port) (c : WCyc) :
    KeepsNext s (execIdle x c t) := by
  unfold Machine.execIdle
  grind only [← idleCycle, KeepsNext]

theorem execData (h : Keeps s t) (x : Port) (c : WCyc) :
    KeepsNext s (execData x c t) := by
  unfold Machine.execData
  grind only [← cycle, ← cycleBytes, KeepsNext]

theorem execDataLast (h : Keeps s t) (x : Port) (nnn : BitVec 3) (c : WCyc) :
    KeepsNext s (execDataLast x nnn c t) := by
  unfold Machine.execDataLast
  grind only [← cycle, ← cycleBytes, KeepsNext]

theorem execSelect (h : Keeps s t) (x : Port) (c : WCyc) :
    KeepsNext s (execSelect x c t) := by
  unfold Machine.execSelect
  grind only [← selectCycle, KeepsNext]

theorem execOpenPacket (h : Keeps s t) (x : Port) (c : WCyc) :
    KeepsNext s (execOpenPacket x c t) := by
  unfold Machine.execOpenPacket
  grind only [← openCycle, KeepsNext]

theorem execAbort (h : Keeps s t) (x : Port) (c : WCyc) :
    KeepsNext s (execAbort x c t) := by
  unfold Machine.execAbort
  grind only [← cycle, ← cycleAbort, KeepsNext]

theorem execFrameMarker (h : Keeps s t) (x : Port) (first second : Option WCyc) :
    KeepsNext s (execFrameMarker x first second t) := by
  have hmark : ∀ c, Keeps s (t.cycle x 19#5 c fun _ s => s.modPort x fun p => { p with frameFirst := some c }) := fun c =>
    h.cycle x 19#5 c _ fun n u hu => hu.modPort x _
  have hsecond : ∀ u c, Keeps s u → Keeps s (u.cycle x 20#5 c fun n s => s.secondFrame x n c) := fun u c hu =>
    hu.cycle x 20#5 c _ fun n v hv => hv.secondFrame x n c
  unfold Machine.execFrameMarker
  rintro _ ⟨⟩
  rcases first with _ | a <;> rcases second with _ | b
  · exact h
  · exact hsecond _ b h
  · exact hmark a
  · exact hsecond _ b (hmark a)

theorem execTail (h : Keeps s t) (x : Port) (c : WCyc) :
    KeepsNext s (execTail x c t) := by
  unfold Machine.execTail
  grind only [← cycle, ← cycleTail, KeepsNext]

theorem execReservedWctl (h : Keeps s t) (x : Port) (code : BitVec 5) (c : WCyc) :
    KeepsNext s (execReservedWctl x code c t) := by
  unfold Machine.execReservedWctl
  grind only [← cycle, ← wproto, KeepsNext]

/-! ### The joiner -/

theorem keepAfterCut (h : Keeps s t) (ports : List SnapPort) :
    Keeps s (t.keepAfterCut ports) := by
  unfold State.keepAfterCut
  grind only [← modTwin, ← of_update]

theorem atEdge (h : Keeps s t) (at_ : Nat) (act : State → State) (hact : ∀ u, Keeps s u → Keeps s (act u)) :
    Keeps s (t.atEdge at_ act) := by
  unfold State.atEdge
  grind only [← modTime, ← of_update]

theorem replay (h : Keeps s t) (e : JoinEvent) :
    Keeps s (t.replay e) := by
  unfold State.replay
  grind only [← cycleOf, ← atEdge, ← command, ← takeBeat, ← applyStandin, ← applyAtomic, ← applyRefusal, ← applyCopy,
    ← of_update]

theorem replayAll (h : Keeps s t) :
    Keeps s (t.replayAll) := by
  unfold State.replayAll
  grind only [← replay, ← modTwin, ← of_update, ← foldl]

theorem execSnap (h : Keeps s t) (m : CMeta) (part total : Nat) (d : Snap) :
    KeepsNext s (execSnap m part total d t) := by
  unfold Machine.execSnap
  grind only [← statusIfChanged, ← cloverMsg, ← modTwin, ← keepAfterCut, ← loadSnap, ← replayAll, KeepsNext,
    ← of_update]

/-! ### The banks -/

theorem countPhys (h : Keeps s t) (bank row col : Nat) (r : WordRd) :
    Keeps s (t.countPhys bank row col r) := by
  unfold State.countPhys
  grind only [← countRead, ← of_update]

theorem bankAtomic (h : Keeps s t) (bank row col unit : Nat) (f : Nat → Nat) :
    Keeps s (t.bankAtomic bank row col unit f) := by
  have hcount := h.countPhys bank row col (readWordAt t.mem (wordNo bank (t.physRow bank row col) col))
  refine branch hcount ?_
  exact (hcount.modMem (rewriteLanes_canonical · _ _ _)).mirrorPhys _ _ _
    fun m v hm => rewriteLanes_canonical (copyWordAt_canonical hm _ v) v _ _

theorem bankDo (h : Keeps s t) (bank : Nat) (q : BankReq) : Keeps s (t.bankDo bank q) := by
  unfold State.bankDo
  split
  · exact h
  · exact (h.modMem (writeWordAt_canonical · _ _)).mirrorPhys _ _ _ fun m v hm => writeWordAt_canonical hm v _
  all_goals exact h.bankAtomic _ _ _ _ _

theorem bankServe (h : Keeps s t) (w : Waiting) : Keeps s (t.bankServe w) := by
  unfold State.bankServe
  refine Keeps.modMem (Keeps.bankDo (Keeps.modMem h ?_) w.bank w.req) ?_
  · exact id
  · exact id

theorem execBankGrant (h : Keeps s t) (bank : Fin 130) (reads writes : List BankReq) :
    KeepsNext s (execBankGrant bank reads writes t) := by
  have hserve : ∀ {u : State} (o : Option Waiting), Keeps s u →
      Keeps s (match o with | some w => u.bankServe w | none => u) := by
    rintro u (_ | w) hu
    · exact hu
    · exact hu.bankServe w
  unfold Machine.execBankGrant
  rintro _ ⟨⟩
  refine branch h (branch (Keeps.modMem (Keeps.modMem h ?_) ?_) (hserve _ (hserve _ (Keeps.modMem h ?_))))
  all_goals exact id

theorem execEccWriteBack (h : Keeps s t) (bank : Fin 130) (row col : Nat) :
    KeepsNext s (execEccWriteBack bank row col t) := by
  unfold Machine.execEccWriteBack
  rintro _ ⟨⟩
  refine branch ?_ h
  have hw := h.modMem (f := fun m => rewriteLanes m (wordNo bank.val row col) (readWordAt t.mem (wordNo bank.val row col))
    (readWordAt t.mem (wordNo bank.val row col)).data) (rewriteLanes_canonical · _ _ _)
  dsimp only
  split
  · exact hw.mirrorPhys _ _ _ fun m v hm => rewriteLanes_canonical (copyWordAt_canonical hm _ v) v _ _
  · exact hw

/-! ### Tansy -/

theorem repairRecord (h : Keeps s t) (r : RepairRec) : Keeps s (t.repairRecord r) := by
  unfold State.repairRecord
  refine h.modTansy fun ht => ?_
  have happ := TansySt.append_bounded ht r
  grind only [TansySt.Bounded, = List.length_append, = List.length_cons, = List.length_nil]

theorem flushPending (h : Keeps s t) : Keeps s t.flushPending := by
  have happ : ∀ l : List RepairRec, t.tansy.Bounded → (l.foldl TansySt.append t.tansy).Bounded := fun l ht =>
    List.foldlRecOn l _ ht fun _ hu r _ => TansySt.append_bounded hu r
  exact branch h (h.modTansy fun ht => ⟨(happ _ ht).1, Nat.zero_le _⟩)

theorem applyEnables (h : Keeps s t) :
    Keeps s (t.applyEnables) := by
  unfold State.applyEnables
  grind only [← forChans, ← applyStoredEnable, ← modRst, ← of_update]

theorem openMemory (h : Keeps s t) :
    Keeps s (t.openMemory) := by
  unfold State.openMemory
  grind only [← applyEnables, ← modTansy, ← modMem, MemSt.canonical, TansySt.Bounded, ← of_update]

theorem afterClear (h : Keeps s t) :
    Keeps s (t.afterClear) := by
  unfold State.afterClear
  grind only [← openMemory, ← modMem, MemSt.canonical, ← of_update]

theorem execArrayClearDone (h : Keeps s t) : KeepsNext s (execArrayClearDone t) := by
  unfold Machine.execArrayClearDone
  rintro _ ⟨⟩
  refine branch (Keeps.afterClear (Keeps.modMem h ?_)) h
  exact fun _ => t.mem.zeroed_canonical

theorem queueFault (h : Keeps s t) (f : RowLoc) :
    Keeps s (t.queueFault f) := by
  unfold State.queueFault
  grind only [← queueRepair, ← modTansy, TansySt.Bounded, ← of_update]

theorem execMarchDone (h : Keeps s t) (faults : List RowLoc) : KeepsNext s (execMarchDone faults t) := by
  unfold Machine.execMarchDone
  rintro _ ⟨⟩
  exact branch (foldl (fun u f hu => hu.queueFault f) faults
    ((h.modMem fun _ => t.mem.zeroed_canonical).openMemory.modTansy id)) h

theorem skipBlocks (h : Keeps s t) (write : Bool) (k : Nat) :
    Keeps s (t.skipBlocks write k) := by
  unfold State.skipBlocks
  grind only [← modMem, ← modTansy, MemSt.canonical, TansySt.Bounded, ← of_update]

theorem passWord (h : Keeps s t) (write : Bool) (w : Loc × Nat) (act : WordRd → State → State) (hact : ∀ a u, Keeps
    s u → Keeps s (act a u)) :
    Keeps s (t.passWord write w act) := by
  unfold State.passWord
  grind only [← countRead]

theorem scrubWord (h : Keeps s t) (w : Loc × Nat) : Keeps s (t.scrubWord w) := by
  refine h.passWord false w _ fun r u hu => ?_
  have hnote : Keeps s (u.modTansy fun t => t.noteCorrected (u.phys w.1)) :=
    hu.modTansy (TansySt.noteCorrected_bounded · _)
  exact branch (branch (hnote.queueRepair _ _ _) hnote) hu

theorem startScrub (h : Keeps s t) :
    Keeps s (t.startScrub) := by
  unfold State.startScrub
  grind only [← modTansy, ← wakeDoze, ← skipBlocks, ← scrubWord, TansySt.Bounded, ← of_update, ← foldl]

theorem scrubLater (h : Keeps s t) (bank row : Nat) :
    Keeps s (t.scrubLater bank row) := by
  unfold State.scrubLater
  grind only [← modTansy, ← scrubWord, TansySt.Bounded, ← of_update, ← foldl]

theorem execScrubPass {dt : Nat} (h : Keeps s (t.advance dt)) :
    KeepsNext s (execScrubPass dt t) := by
  unfold Machine.execScrubPass
  dsimp only
  repeat' split
  all_goals grind only [← modTansy, ← wakeDoze, ← startScrub, KeepsNext, TansySt.Bounded, ← of_update]

theorem execScrubPassComplete (h : Keeps s t) (faults : List RowLoc) :
    KeepsNext s (execScrubPassComplete faults t) := by
  unfold Machine.execScrubPassComplete
  grind only [← modTansy, ← queueFault, ← startScrub, KeepsNext, TansySt.Bounded, ← of_update, ← foldl]

theorem execPreservingMarchDone (h : Keeps s t) (faults : List RowLoc) (reached : Nat) :
    KeepsNext s (execPreservingMarchDone faults reached t) := by
  unfold Machine.execPreservingMarchDone
  grind only [← passWord, ← storeWord, ← skipBlocks, ← modTansy, ← queueFault, KeepsNext, TansySt.Bounded,
    ← of_update, ← foldl]

theorem fenceChannels (h : Keeps s t) (bank row col : Nat) :
    Keeps s (t.fenceChannels bank row col) := by
  unfold State.fenceChannels
  grind only [← forChans, ← modCh, ← servicePorts, ← chFault, ← settle, ← of_update]

theorem raiseReplace (h : Keeps s t) : Keeps s t.raiseReplace := by
  have hrec := (((h.modTansy (f := fun t => { t with replace := true }) id).attnBoth 17).log 0x2005 8 15 0).repairRecord
    ⟨4, 0, 0, 0, 0, false, false⟩
  exact branch h (branch hrec.gracefulRelease hrec)

theorem fenceWord (h : Keeps s t) (bank row col : Nat) :
    Keeps s (t.fenceWord bank row col) := by
  unfold State.fenceWord
  repeat' split
  all_goals grind only [← modTansy, ← log, ← fenceChannels, ← repairRecord, ← raiseReplace, TansySt.Bounded,
    ← of_update]

theorem startRow (h : Keeps s t) (q : RepairItem) (spare : Nat) :
    Keeps s (t.startRow q spare) := by
  unfold State.startRow
  grind only [← modTansy, ← repairRecord, ← log, TansySt.Bounded, ← of_update]

theorem startCopy (h : Keeps s t) (q : RepairItem) (spare : Nat) :
    Keeps s (t.startCopy q spare) := by
  unfold State.startCopy
  grind only [← modTansy, ← repairRecord, ← log, TansySt.Bounded, ← of_update]

theorem repair (h : Keeps s t) (q : RepairItem) :
    Keeps s (t.repair q) := by
  unfold State.repair
  grind only [← startRow, ← startCopy, ← fenceWord, ← of_update]

theorem execRepairStart (h : Keeps s t) : KeepsNext s (execRepairStart t) := by
  unfold Machine.execRepairStart
  rintro _ ⟨⟩
  refine branch h ?_
  split
  · exact h
  next q _ => exact (h.modTansy fun ht => ⟨List.length_erase_le.trans ht.1, ht.2⟩).repair q

theorem copyColumns (h : Keeps s t) (r : RowMap) (e : Nat) : Keeps s (t.copyColumns r e) := by
  unfold State.copyColumns
  refine Keeps.modTansy (Keeps.modMem h ?_) ?_
  · exact fun hm => copyRowFrom_canonical hm _ _ _ _ _
  · exact id

theorem execRowCopyDone (h : Keeps s t) (bank : Fin 130) :
    KeepsNext s (execRowCopyDone bank t) := by
  unfold Machine.execRowCopyDone
  grind only [← scrubLater, ← modTansy, ← copyColumns, KeepsNext, TansySt.Bounded, ← of_update]

theorem stopCopies (h : Keeps s t) :
    Keeps s (t.stopCopies) := by
  unfold State.stopCopies
  grind only [← draw, ← copyColumns, ← foldl]

theorem copyLogical (h : Keeps s t) (bank spare i : Nat) : Keeps s (t.copyLogical bank spare i) := by
  unfold State.copyLogical
  split
  · exact h
  · refine Keeps.modTansy (Keeps.modMem h ?_) ?_
    · exact fun hm => copyWordAt_canonical hm _ _
    · exact id

theorem copyRun (h : Keeps s t) (bank spare i k : Nat) : Keeps s (t.copyRun bank spare i k) := by
  induction k generalizing t i with
  | zero => exact h
  | succ k ih => exact ih (h.copyLogical bank spare _) _

theorem execBankSwitch (h : Keeps s t) : KeepsNext s (execBankSwitch t) := by
  unfold Machine.execBankSwitch
  rintro _ ⟨⟩
  split
  · exact h
  next b spare _ =>
    refine branch ?_ h
    exact (((h.modTansy fun ht => ⟨(List.length_map _).trans_le ht.1, ht.2⟩).modMem id).modYar id).log _ _ _ _

theorem reapplyLog (h : Keeps s t) : Keeps s t.reapplyLog :=
  (h.modTansy fun ht => List.foldlRecOn (motive := TansySt.Bounded) _ _ ht fun _ hu r _ =>
    TansySt.applyRecord_bounded hu r).afterClear

theorem applyTansy (h : Keeps s t) (v : Nat) :
    Keeps s (t.applyTansy v) := by
  unfold State.applyTansy
  grind only [← modMem, ← modTansy, ← startScrub, MemSt.canonical, TansySt.Bounded, ← of_update]

/-! ### Yarrow -/

theorem yFault (h : Keeps s t) :
    Keeps s (t.yFault) := by
  unfold State.yFault
  grind only [← modYar, YarSt.Canonical, ← of_update]

theorem storeLockReq (h : Keeps s t) (v : W32) :
    Keeps s (t.storeLockReq v) := by
  unfold State.storeLockReq
  grind only [← yFault, ← lockOp, ← modYar, YarSt.Canonical, ← of_update]

theorem storeBankCopy (h : Keeps s t) (v : W32) :
    Keeps s (t.storeBankCopy v) := by
  unfold State.storeBankCopy
  grind only [← yFault, ← modYar, YarSt.Canonical, ← of_update]

theorem machineOnly (h : Keeps s t) (machine : Bool) (act : State → State) (hact : ∀ u, Keeps s u → Keeps s (act u)) :
    Keeps s (t.machineOnly machine act) := by
  unfold State.machineOnly
  grind only [← yFault]

theorem execLockReq (h : Keeps s t) (machine : Bool) (v : W32) :
    KeepsNext s (execLockReq machine v t) := by
  unfold Machine.execLockReq
  grind only [← machineOnly, ← storeLockReq, KeepsNext]

theorem execBankCopyStart (h : Keeps s t) (machine : Bool) (v : W32) :
    KeepsNext s (execBankCopyStart machine v t) := by
  unfold Machine.execBankCopyStart
  grind only [← machineOnly, ← storeBankCopy, KeepsNext]

theorem execWatchdogKick (h : Keeps s t) (machine : Bool) (period : Option Nat) :
    KeepsNext s (execWatchdogKick machine period t) := by
  unfold Machine.execWatchdogKick
  grind only [← machineOnly, ← modYar, KeepsNext, YarSt.Canonical, ← of_update]

theorem execSramScrub {dt : Nat} (h : Keeps s (t.advance dt)) (corrected : List Nat) :
    KeepsNext s (execSramScrub dt corrected t) := by
  unfold Machine.execSramScrub
  dsimp only
  repeat' split
  all_goals grind only [← modYar, KeepsNext, YarSt.Canonical, ← of_update]

theorem yLoaded (h : Keeps s t) (bs : List Byte) :
    Keeps s (t.yLoaded bs) := by
  unfold State.yLoaded
  grind only [← modYar, YarSt.Canonical, ← of_update]

theorem loadRegister (h : Keeps s t) (addr n : Nat) :
    Keeps s (t.loadRegister addr n) := by
  unfold State.loadRegister
  grind only [← yLoaded, ← yFault, ← of_update]

theorem yLoad (h : Keeps s t) (machine : Bool) (addr n : Nat) : Keeps s (t.yLoad machine addr n) := by
  unfold State.yLoad
  split
  · exact branch h.yFault (h.of_update.yLoaded _)
  next a _ =>
    have hload := h.sramLoad a n
    dsimp only
    split
    · exact hload.yLoaded _
    · exact hload.yFault
  · exact branch (h.yLoaded _) h.yFault
  · exact branch (h.loadRegister addr n) h.yFault
  · exact branch (h.loadRegister addr n) h.yFault
  · exact branch (h.yLoaded _) h.yFault
  next a _ =>
    have hread := h.readP (a / 32)
    exact branch h.yFault (branch (h.countRefused 3).yFault (branch (hread.yLoaded _) hread.yFault))
  · exact h.yFault

theorem yStore (h : Keeps s t) (machine : Bool) (addr : Nat) (d : List Byte) : Keeps s (t.yStore machine addr d) := by
  unfold State.yStore
  split
  · exact h.yFault
  · exact h.yFault
  · exact h.yFault
  next a _ => exact (h.sramStore a d).yLoaded []
  next a _ => exact branch ((h.logStore a d).yLoaded []) h.yFault
  · exact branch h.yFault (branch (h.storeBankCopy _) (h.yLoaded []))
  · exact branch h.yFault (branch (h.storeLockReq _) (h.yLoaded []))
  next a _ =>
    have hwrite := h.writeP (a / 32) (a % 32) d
    exact branch h.yFault (branch (h.countRefused 3).yFault (branch (hwrite.yLoaded []) hwrite.yFault))

theorem execMemoryWindowAccess (h : Keeps s t) (machine : Bool) (addr : Nat) (op : WinOp) :
    KeepsNext s (execMemoryWindowAccess machine addr op t) := by
  unfold Machine.execMemoryWindowAccess
  grind only [← yLoad, ← yStore, KeepsNext, ← of_update]

theorem modYdma (h : Keeps s t) (k : Fin 4) (f : YdmaCh → YdmaCh) :
    Keeps s (t.modYdma k f) := by
  unfold State.modYdma
  grind only [← modYar, YarSt.Canonical, ← of_update]

theorem countAtRp (h : Keeps s t) (n : Fin 20) :
    Keeps s (t.countAtRp n) := by
  unfold State.countAtRp
  grind only [← countRead]

theorem yRead (h : Keeps s t) (k : Fin 4) (a : Int) : Keeps s (t.yRead k a).2.2 := by
  unfold State.yRead
  split
  next a _ =>
    have hread := h.readP (a / 32)
    grind -lia -linarith -ring only [← countRefused]
  next a _ =>
    have hload := h.sramLoad a 4
    grind -lia -linarith -ring only
  · grind -lia -linarith -ring only
  · grind -lia -linarith -ring only
  · exact h
  · grind -lia -linarith -ring only [← modYdma, ← countAtRp, ← readCompleted, ← settle, ← ringWord]

theorem ySkipSource (h : Keeps s t) (k : Fin 4) :
    Keeps s (t.ySkipSource k) := by
  unfold State.ySkipSource
  grind only [← modYdma, ← ringWordAs, ← settle, ← readCompleted, ← of_update]

theorem yClose (h : Keeps s t) (n : Fin 20) :
    Keeps s (t.yClose n).2 := by
  unfold State.yClose
  grind only [← prodClose, ← modCh, ← of_update]

theorem yWrite (h : Keeps s t) (a : Int) (first last : Bool) (bs : List Byte) : Keeps s (t.yWrite a first last bs).2
    := by
  unfold State.yWrite
  split
  next a _ =>
    have hwrite := h.writeP (a / 32) (a % 32) bs
    grind -lia -linarith -ring only [← countRefused]
  next a _ => exact h.sramStore a bs
  next a _ =>
    have hstore := h.logStore a bs
    grind -lia -linarith -ring only
  · exact h
  · exact h
  · grind -lia -linarith -ring only [← countStateRefused, ← rawBytes, ← prodOpen, ← modCh, ← prodBytes, ← yClose]

theorem yHalt (h : Keeps s t) (k : Fin 4) (cause : Nat) (a : Int) (write : Bool) :
    Keeps s (t.yHalt k cause a write) := by
  unfold State.yHalt
  grind only [← modYdma, ← of_update]

theorem yClosing (h : Keeps s t) (k : Fin 4) (status : Nat) :
    Keeps s (t.yClosing k status).2 := by
  unfold State.yClosing
  grind only [← tailCommit, ← yClose, ← of_update]

theorem yComplete (h : Keeps s t) (k : Fin 4) (w status : Nat) :
    Keeps s (t.yComplete k w status) := by
  unfold State.yComplete
  grind only [← yClosing, ← idleAnew, ← modYdma, ← of_update]

theorem yNext (h : Keeps s t) (k : Fin 4) (w : Nat) (last : Bool) :
    Keeps s (t.yNext k w last).2 := by
  unfold State.yNext
  grind only [← modYdma, ← yComplete, ← of_update]

theorem ySkipped (h : Keeps s t) (k : Fin 4) (w : Nat) (first last : Bool) :
    Keeps s (t.ySkipped k w first last).2 := by
  unfold State.ySkipped
  grind only [← yNext, ← tailCommit, ← prodOpen, ← yComplete, ← modCh, ← yClose, ← of_update]

theorem yKeep (h : Keeps s t) (k : Fin 4) (bs : List Byte) :
    Keeps s (t.yKeep k bs) := by
  unfold State.yKeep
  grind only [← modYdma, ← of_update]

theorem yUnit (h : Keeps s t) (k : Fin 4) (w : Nat) :
    Keeps s (t.yUnit k w).2 := by
  unfold State.yUnit
  grind only [← yRead, ← yHalt, ← yComplete, ← yWrite, ← yKeep, ← yNext, ← of_update]

theorem yLoop (h : Keeps s t) (k : Fin 4) (w fuel : Nat) : Keeps s (t.yLoop k w fuel) := by
  induction fuel generalizing t with
  | zero => exact h
  | succ fuel ih =>
    have hunit := h.yUnit k w
    unfold State.yLoop
    grind -lia -linarith -ring only

theorem yRun (h : Keeps s t) (k : Fin 4) (w : Nat) :
    Keeps s (t.yRun k w) := by
  unfold State.yRun
  grind only [← yLoop]

theorem yBankCopy (h : Keeps s t) (w bank spare : Nat) :
    Keeps s (t.yBankCopy w bank spare) := by
  unfold State.yBankCopy
  grind only [← copyRun, ← modYar, ← modYdma, YarSt.Canonical, ← of_update]

theorem yFetch (h : Keeps s t) (k : Fin 4) : Keeps s (t.yFetch k).2 := by
  have hload := h.sramLoad (0x30000 + 32 * (t.yar.ydma.get k).index) 32
  unfold State.yFetch
  dsimp only
  split
  · exact hload
  · exact hload.yHalt k _ _ _

theorem yStart (h : Keeps s t) (k : Fin 4) (w : Nat) :
    Keeps s (t.yStart k w) := by
  unfold State.yStart
  grind only [← modYdma, ← of_update]

theorem yMove (h : Keeps s t) (k : Fin 4) (w : Nat) :
    Keeps s (t.yMove k w) := by
  unfold State.yMove
  grind only [← yHalt, ← yRun]

theorem yGo (h : Keeps s t) (k : Fin 4) :
    Keeps s (t.yGo k) := by
  unfold State.yGo
  grind only [← yFetch, ← yBankCopy, ← yMove, ← yStart, ← of_update]

theorem execYdmaDescriptor (h : Keeps s t) (machine : Bool) (k : Fin 4) (index : Nat) :
    KeepsNext s (execYdmaDescriptor machine k index t) := by
  unfold Machine.execYdmaDescriptor
  grind only [← yFault, ← modYdma, ← active, ← serveFaults, ← yGo, KeepsNext, ← of_update]

theorem execYdmaResume (h : Keeps s t) (machine : Bool) (k : Fin 4) :
    KeepsNext s (execYdmaResume machine k t) := by
  unfold Machine.execYdmaResume
  grind only [← yFault, ← modYdma, ← active, ← serveFaults, ← yGo, KeepsNext, ← of_update]

theorem execYdmaSkip (h : Keeps s t) (machine : Bool) (k : Fin 4) : KeepsNext s (execYdmaSkip machine k t) := by
  have hskip := fun f => (h.active.ySkipSource k).modYdma k f
  have hfetch := fun f => (hskip f).yFetch k
  unfold Machine.execYdmaSkip
  rintro _ ⟨⟩
  refine branch h (branch h.yFault (branch (branch (hskip _) (((hskip _).yGo k).serveFaults _)) ?_))
  dsimp only
  split
  next hf => exact (congrArg Prod.snd hf ▸ hfetch _ :)
  next w v hf =>
    have hv : Keeps s v := (congrArg Prod.snd hf ▸ hfetch _ :)
    have hs := fun a b => hv.ySkipped k w a b
    grind -lia -linarith -ring only [← yMove, ← serveFaults]

theorem yEnd (h : Keeps s t) (k : Fin 4) (status : Nat) :
    Keeps s (t.yEnd k status) := by
  unfold State.yEnd
  grind only [← discardOpen, ← modYar, ← idleAnew, ← modYdma, YarSt.Canonical, ← of_update]

theorem execYdmaAbort (h : Keeps s t) (machine : Bool) (k : Fin 4) :
    KeepsNext s (execYdmaAbort machine k t) := by
  unfold Machine.execYdmaAbort
  grind only [← yFault, ← yEnd, KeepsNext]

/-! ### The loops and the protections -/

theorem evaluate (h : Keeps s t) :
    Keeps s (t.evaluate) := by
  unfold State.evaluate
  grind only [← modPwr, ← log, ← modYar, YarSt.Canonical, ← of_update]

theorem clampLevel (h : Keeps s t) :
    Keeps s (t.clampLevel) := by
  unfold State.clampLevel
  grind only [← modPwr]

theorem execPerformanceGovernor {dt : Nat} (h : Keeps s (t.advance dt)) :
    KeepsNext s (execPerformanceGovernor dt t) := by
  unfold Machine.execPerformanceGovernor
  dsimp only
  repeat' split
  all_goals grind only [← modYar, ← evaluate, ← modPwr, KeepsNext, YarSt.Canonical, ← of_update]

theorem execThermalCap {dt : Nat} (h : Keeps s (t.advance dt)) :
    KeepsNext s (execThermalCap dt t) := by
  unfold Machine.execThermalCap
  dsimp only
  repeat' split
  all_goals grind only [← modYar, ← modPwr, ← evaluate, KeepsNext, YarSt.Canonical, ← of_update]

theorem execVcoreSettled (h : Keeps s t) :
    KeepsNext s (execVcoreSettled t) := by
  unfold Machine.execVcoreSettled
  grind only [← modPwr, KeepsNext, ← of_update]

theorem execAonThermalTrip (h : Keeps s t) :
    KeepsNext s (execAonThermalTrip t) := by
  unfold Machine.execAonThermalTrip
  grind only [← evaluate, ← modPwr, KeepsNext, ← of_update]

theorem execCurrentLimit (h : Keeps s t) (present : Bool) :
    KeepsNext s (execCurrentLimit present t) := by
  unfold Machine.execCurrentLimit
  grind only [← evaluate, ← modPwr, KeepsNext, ← of_update]

theorem execCurrentLimitClear {dt : Nat} (h : Keeps s (t.advance dt)) :
    KeepsNext s (execCurrentLimitClear dt t) := by
  unfold Machine.execCurrentLimitClear
  dsimp only
  repeat' split
  all_goals grind only [← evaluate, ← modPwr, KeepsNext, ← of_update]

theorem execBrownOutMargin (h : Keeps s t) (vin : Nat) :
    KeepsNext s (execBrownOutMargin vin t) := by
  unfold Machine.execBrownOutMargin
  grind only [← evaluate, ← modPwr, KeepsNext, ← of_update]

theorem noteVin (h : Keeps s t) (vin : Nat) :
    Keeps s (t.noteVin vin) := by
  unfold State.noteVin
  grind only [← modPwr, ← of_update]

theorem execMarginRecovery {dt : Nat} (h : Keeps s (t.advance dt)) :
    KeepsNext s (execMarginRecovery dt t) := by
  unfold Machine.execMarginRecovery
  dsimp only
  repeat' split
  all_goals grind only [← evaluate, ← modPwr, KeepsNext, ← of_update]

theorem execCtleAdapt {dt : Nat} (h : Keeps s (t.advance dt)) (up : Bool) (newEye : Nat) :
    KeepsNext s (execCtleAdapt dt up newEye t) := by
  unfold Machine.execCtleAdapt
  dsimp only
  repeat' split
  all_goals grind only [← modLink, KeepsNext, ← of_update]

theorem portRail (h : Keeps s t) (x : Port) (mv : Nat) :
    Keeps s (t.portRail x mv) := by
  unfold State.portRail
  grind only [← modPort, ← portOff, ← isolate, ← of_update]

theorem serdesRails (h : Keeps s t) (vddl vddc : Nat) :
    Keeps s (t.serdesRails vddl vddc) := by
  unfold State.serdesRails
  grind only [← modLink, ← linkOff, ← modTwin, ← cloverFalls, ← of_update]

theorem noteTemp (h : Keeps s t) (temp : List Int) :
    Keeps s (t.noteTemp temp) := by
  unfold State.noteTemp
  grind only [← modYar, ← modPwr, YarSt.Canonical, ← of_update]

theorem noteClocks (h : Keeps s t) (x : Port) (wclk rclk : Nat) (count : Bool) :
    Keeps s (t.noteClocks x wclk rclk count) := by
  unfold State.noteClocks
  grind only [← modPort, ← of_update]

theorem noteEye (h : Keeps s t) (height width : Nat) :
    Keeps s (t.noteEye height width) := by
  unfold State.noteEye
  grind only [← modLink, ← of_update]

theorem execSensorSample {dt : Nat} (h : Keeps s (t.advance dt)) (r : Sensors) :
    KeepsNext s (execSensorSample dt r t) := by
  have hrail := h.modPwr fun p => { p with mgmtRail := r.mgmtRail }
  have hsample : ∀ f : YarSt → YarSt, (∀ y, y.Canonical → (f y).Canonical) →
      Keeps s (((t.advance dt).modPwr fun p => { p with mgmtRail := r.mgmtRail }).modYar f) := fun f hf => hrail.modYar (hf _)
  unfold Machine.execSensorSample
  rintro _ ⟨⟩
  refine branch hrail ?_
  refine (((((((Keeps.noteTemp (Keeps.modYar hrail ?_) _).noteClocks .A _ _ _).noteClocks .B _ _ _).noteEye _ _).noteVin
    _).portRail .A _).portRail .B _).serdesRails _ _
  exact id

theorem execSerdesRailRetry {dt : Nat} (h : Keeps s (t.advance dt)) (linkOk cloverOk : Bool) :
    KeepsNext s (execSerdesRailRetry dt linkOk cloverOk t) := by
  have htry := h.modYar (f := fun y => { y with railAt := (t.advance dt).now }) id
  have hlink := branch (c := (linkOk && !((t.advance dt).modYar fun y => { y with railAt := (t.advance dt).now }).link.rail) = true)
    ((htry.modLink fun l => { l with rail := true }).applyLinkEnable (t.advance dt).link.enable) htry
  unfold Machine.execSerdesRailRetry
  rintro _ ⟨⟩
  exact branch h (branch (hlink.modTwin _).startTraining hlink)

/-! ### The resets -/

theorem holdMemctl (h : Keeps s t) :
    Keeps s (t.holdMemctl) := by
  unfold State.holdMemctl
  grind only [← modMem, ← modYar, ← freeAllLocks, ← stopCopies, MemSt.canonical, YarSt.Canonical, ← of_update]

theorem holdTansy (h : Keeps s t) :
    Keeps s (t.holdTansy) := by
  unfold State.holdTansy
  grind only [← modTansy, ← stopCopies, TansySt.Bounded, ← of_update]

theorem releaseTansy (h : Keeps s t) :
    Keeps s (t.releaseTansy) := by
  unfold State.releaseTansy
  grind only [← modTansy, ← startScrub, TansySt.Bounded, ← of_update]

theorem holdCheng (h : Keeps s t) :
    Keeps s (t.holdCheng) := by
  unfold State.holdCheng
  grind only [← forChans, ← disableChannel, ← modCh, ← chainPortAnew, ← modPort, ← of_update]

theorem holdTime (h : Keeps s t) :
    Keeps s (t.holdTime) := by
  unfold State.holdTime
  grind only [← modTime, ← endLock]

theorem releaseTime (h : Keeps s t) :
    Keeps s (t.releaseTime) := by
  unfold State.releaseTime
  grind only [← holdTime, ← draw, ← modTime, ← giveUpEpoch, ← modRst, ← attn, ← of_update, ← foldl]

theorem holdLink (h : Keeps s t) :
    Keeps s (t.holdLink) := by
  unfold State.holdLink
  grind only [← linkOff, ← modLink, ← modArq, ← of_update]

theorem releaseLink (h : Keeps s t) :
    Keeps s (t.releaseLink) := by
  unfold State.releaseLink
  grind only [← applyLinkEnable]

theorem resetIngress (h : Keeps s t) :
    Keeps s (t.resetIngress) := by
  unfold State.resetIngress
  grind only [← forChans, ← modCh, ← of_update]

theorem resetEgress (h : Keeps s t) :
    Keeps s (t.resetEgress) := by
  unfold State.resetEgress
  grind only [← forChans, ← modCh, ← modLink, ← of_update]

theorem holdClover (h : Keeps s t) :
    Keeps s (t.holdClover) := by
  unfold State.holdClover
  grind only [← cloverFalls, ← modTwin, ← of_update]

theorem releaseClover (h : Keeps s t) :
    Keeps s (t.releaseClover) := by
  unfold State.releaseClover
  grind only [← startTraining, ← twinStart]

theorem holdPort (h : Keeps s t) (x : Port) :
    Keeps s (t.holdPort x) := by
  unfold State.holdPort
  grind only [← isolate, ← chainPortAnew, ← modPort, ← of_update]

theorem holdYdma (h : Keeps s t) :
    Keeps s (t.holdYdma) := by
  unfold State.holdYdma
  grind only [← yEnd, ← modYar, YarSt.Canonical, ← of_update, ← foldl]

theorem holdBlock (h : Keeps s t) (bit : Nat) :
    Keeps s (t.holdBlock bit) := by
  unfold State.holdBlock
  grind only [← holdMemctl, ← holdCheng, ← holdTime, ← holdLink, ← bye, ← resetIngress, ← resetEgress, ← holdClover,
    ← holdPort, ← holdTansy, ← holdYdma, ← modOd, ← of_update]

theorem releaseBlock (h : Keeps s t) (bit : Nat) :
    Keeps s (t.releaseBlock bit) := by
  unfold State.releaseBlock
  grind only [← modMem, ← heartbeatRuns, ← releaseTime, ← releaseLink, ← resetIngress, ← refreshFlows,
    ← releaseClover, ← flushPending, MemSt.canonical, ← of_update]

theorem applyBlockReset (h : Keeps s t) (v : W32) :
    Keeps s (t.applyBlockReset v) := by
  unfold State.applyBlockReset
  grind only [← holdBlock, ← modRst, ← releaseBlock, ← releaseTansy, ← of_update, ← foldl]

theorem yarrowReset (h : Keeps s t) : Keeps s t.yarrowReset := by
  unfold State.yarrowReset
  refine Keeps.modRst (Keeps.modUpd (Keeps.modOd (Keeps.modLink (Keeps.modYar ((h.freeLocks .yc).holdYdma.attnBoth 19) ?_) _)
    _) _) _
  intro hy
  constructor
  · rfl
  · dsimp only
    exact hy.2

theorem sbReset (h : Keeps s t) : Keeps s t.sbReset := by
  have hsides := (((((((h.modRst fun r =>
    { r with enableCopy := if r.enableCopy.isEmpty then (List.finRange 20).map fun n => (t.chan n).cfg.enable
                           else r.enableCopy, sbHeld := true }).holdLink.holdPort .A).holdPort
    .B).holdCheng.holdTime.resetIngress).resetEgress).holdMemctl.holdTansy).modTwin TwinSt.fresh)
  unfold State.sbReset
  refine Keeps.modRst (Keeps.modMem hsides ?_) _
  exact id

theorem deviceReset (h : Keeps s t) : Keeps s t.deviceReset :=
  h.of_blocks ⟨rfl, rfl⟩ (fun hm => ⟨hm.1, hm.2⟩) (fun _ => ⟨rfl, rfl⟩) fun _ => ⟨Nat.zero_le _, Nat.zero_le _⟩

theorem aonReset (h : Keeps s t) :
    Keeps s (t.aonReset) := by
  unfold State.aonReset
  grind only [← modRst, ← modOd, ← modYar, ← modTansy, ← modPwr, YarSt.Canonical, TansySt.Bounded, ← of_update]

theorem noteCause (h : Keeps s t) (src reach : Nat) :
    Keeps s (t.noteCause src reach) := by
  unfold State.noteCause
  grind only [← modRst, ← of_update]

theorem raiseDevice (h : Keeps s t) (src : Nat) :
    Keeps s (t.raiseDevice src) := by
  unfold State.raiseDevice
  grind only [← deviceReset, ← noteCause, ← modRst, ← of_update]

theorem raiseYarrow (h : Keeps s t) (src : Nat) :
    Keeps s (t.raiseYarrow src) := by
  unfold State.raiseYarrow
  grind only [← modRst, ← noteCause, ← modYar, ← yarrowReset, YarSt.Canonical, ← of_update]

theorem raiseSb (h : Keeps s t) (src : Nat) :
    Keeps s (t.raiseSb src) := by
  unfold State.raiseSb
  grind only [← modRst, ← noteCause, ← sbReset, ← of_update]

theorem raise (h : Keeps s t) (src reach : Nat) :
    Keeps s (t.raise src reach) := by
  unfold State.raise
  grind only [← raiseYarrow, ← raiseSb, ← raiseDevice]

theorem swReset (h : Keeps s t) (reach : Nat) :
    Keeps s (t.swReset reach) := by
  unfold State.swReset
  grind only [← commitLog, ← raise, ← bye]

theorem execPor (h : Keeps s t) :
    KeepsNext s (execPor t) := by
  unfold Machine.execPor
  grind only [← modRst, ← aonReset, ← raiseDevice, KeepsNext, ← of_update]

theorem execBor (h : Keeps s t) :
    KeepsNext s (execBor t) := by
  unfold Machine.execBor
  grind only [← modPwr, ← modRst, ← raiseDevice, KeepsNext, ← of_update]

theorem execPin (h : Keeps s t) (width : Nat) :
    KeepsNext s (execPin width t) := by
  unfold Machine.execPin
  grind only [← draw, ← raiseDevice, ← modPwr, KeepsNext, ← of_update]

theorem execWatchdogBite {dt : Nat} (h : Keeps s (t.advance dt)) :
    KeepsNext s (execWatchdogBite dt t) := by
  unfold Machine.execWatchdogBite
  dsimp only
  repeat' split
  all_goals grind only [← modRst, ← raiseDevice, ← raiseYarrow, KeepsNext, ← of_update]

theorem execEscalationWindowEnd {dt : Nat} (h : Keeps s (t.advance dt)) :
    KeepsNext s (execEscalationWindowEnd dt t) := by
  unfold Machine.execEscalationWindowEnd
  dsimp only
  repeat' split
  all_goals grind only [← modRst, KeepsNext, ← of_update]

theorem execDbgreq (h : Keeps s t) (request : Bool) :
    KeepsNext s (execDbgreq request t) := by
  unfold Machine.execDbgreq
  grind only [← modRst, ← raise, KeepsNext, ← of_update]

theorem execClkfail (h : Keeps s t) :
    KeepsNext s (execClkfail t) := by
  unfold Machine.execClkfail
  grind only [← raiseDevice, ← modPwr, KeepsNext, ← of_update]

theorem execLockup (h : Keeps s t) :
    KeepsNext s (execLockup t) := by
  unfold Machine.execLockup
  grind only [← raiseYarrow, KeepsNext]

theorem execLinkreset (h : Keeps s t) (m : RxMeta) (hdr mac : List Byte) :
    KeepsNext s (execLinkreset m hdr mac t) := by
  unfold Machine.execLinkreset
  grind only [← received, ← leaveUp, ← raiseSb, ← raiseDevice, ← log, ← modLinkCnt, KeepsNext, ← of_update]

/-! ### Power and sleep -/

theorem execDozeEntry {dt : Nat} (h : Keeps s (t.advance dt)) :
    KeepsNext s (execDozeEntry dt t) := by
  unfold Machine.execDozeEntry
  dsimp only
  repeat' split
  all_goals grind only [← modPwr, KeepsNext, ← of_update]

theorem beginSleep (h : Keeps s t) (kind at_ : Nat) :
    Keeps s (t.beginSleep kind at_) := by
  unfold State.beginSleep
  grind only [← modPwr, ← of_update]

theorem abandonSleep (h : Keeps s t) (point : Nat) :
    Keeps s (t.abandonSleep point) := by
  unfold State.abandonSleep
  grind only [← modPwr]

theorem execDozeExit (h : Keeps s t) :
    KeepsNext s (execDozeExit t) := by
  unfold Machine.execDozeExit
  grind only [← abandonSleep, ← wakeDoze, KeepsNext]

theorem clampDown (h : Keeps s t) :
    Keeps s (t.clampDown) := by
  unfold State.clampDown
  grind only [← linkOff, ← attnBoth, ← endLock, ← modTwin, ← modPort, ← modPwr, ← of_update]

theorem goRetention (h : Keeps s t) :
    Keeps s (t.goRetention) := by
  unfold State.goRetention
  grind only [← clampDown, ← commitLog, ← modPwr, ← modRst, ← modYar, YarSt.Canonical, ← of_update]

theorem goOff (h : Keeps s t) :
    Keeps s (t.goOff) := by
  unfold State.goOff
  grind only [← deviceReset, ← clampDown, ← commitLog, ← of_update]

theorem commitSleep (h : Keeps s t) :
    Keeps s (t.commitSleep) := by
  unfold State.commitSleep
  grind only [← modPwr, ← bye, ← handOver, ← goOff, ← goRetention, ← of_update]

theorem execSleepEntry {dt : Nat} (h : Keeps s (t.advance dt)) :
    KeepsNext s (execSleepEntry dt t) := by
  unfold Machine.execSleepEntry
  dsimp only
  repeat' split
  all_goals grind only [← beginSleep, ← commitSleep, ← modPwr, KeepsNext, ← of_update]

theorem execE1Timeout {dt : Nat} (h : Keeps s (t.advance dt)) :
    KeepsNext s (execE1Timeout dt t) := by
  unfold Machine.execE1Timeout
  dsimp only
  repeat' split
  all_goals grind only [← abandonSleep, KeepsNext]

theorem restoreTime (h : Keeps s t) :
    Keeps s (t.restoreTime) := by
  unfold State.restoreTime
  grind only [← modTime, ← of_update]

theorem wakeRetention (h : Keeps s t) (code : Nat) :
    Keeps s (t.wakeRetention code) := by
  unfold State.wakeRetention
  grind only [← modPwr, ← modYar, ← modRst, YarSt.Canonical, ← of_update]

theorem probePort (h : Keeps s t) (x : Port) :
    Keeps s (t.probePort x) := by
  unfold State.probePort
  grind only [← startProbe]

theorem endWake (h : Keeps s t) : Keeps s t.endWake := by
  have hwoken := (h.modPwr fun p => { p with waking := false }).restoreTime
  unfold State.endWake
  exact (((((hwoken.modRst _).modLink _).probePort .A).probePort .B).twinStart).applyLinkEnable _

theorem execRetentionWake {dt : Nat} (h : Keeps s (t.advance dt)) (w : WakeSrc) :
    KeepsNext s (execRetentionWake dt w t) := by
  unfold Machine.execRetentionWake
  dsimp only
  repeat' split
  all_goals grind only [← modPwr, ← raiseDevice, ← wakeRetention, KeepsNext, ← of_update]

theorem startLoad (h : Keeps s t) :
    Keeps s (t.startLoad) := by
  unfold State.startLoad
  grind only [← draw, ← modOd, ← modPwr, ← modRst, ← of_update]

theorem wakeOff (h : Keeps s t) (code : Nat) :
    Keeps s (t.wakeOff code) := by
  unfold State.wakeOff
  grind only [← startLoad, ← modPwr, ← of_update]

theorem execOffWake (h : Keeps s t) (w : WakeSrc) :
    KeepsNext s (execOffWake w t) := by
  unfold Machine.execOffWake
  grind only [← modPwr, ← raiseDevice, ← wakeOff, KeepsNext, ← of_update]

theorem execPwrdnFall (h : Keeps s t) :
    KeepsNext s (execPwrdnFall t) := by
  unfold Machine.execPwrdnFall
  grind only [← modPwr, ← goOff, ← handOver, ← bye, ← abandonSleep, ← active, KeepsNext, ← of_update]

theorem execPowerDownClamp {dt : Nat} (h : Keeps s (t.advance dt)) :
    KeepsNext s (execPowerDownClamp dt t) := by
  unfold Machine.execPowerDownClamp
  dsimp only
  repeat' split
  all_goals grind only [← modPwr, ← goOff, KeepsNext, ← of_update]

theorem execPwrdnRise (h : Keeps s t) :
    KeepsNext s (execPwrdnRise t) := by
  unfold Machine.execPwrdnRise
  grind only [← modPwr, ← goOff, ← wakeOff, KeepsNext, ← of_update]

/-! ### The boot -/

theorem blowRollback (h : Keeps s t) (readBack : Bool) :
    Keeps s (t.blowRollback readBack) := by
  unfold State.blowRollback
  grind only [← modUpd, ← log]

theorem storeUnread (h : Keeps s t) (schema : Nat) :
    Keeps s (t.storeUnread schema) := by
  unfold State.storeUnread
  grind only [← modOd, ← forChans, ← attnBoth, ← holdChannel, ← of_update]

theorem loadStore (h : Keeps s t) :
    Keeps s (t.loadStore) := by
  unfold State.loadStore
  grind only [← modOd, ← storeUnread, ← of_update]

theorem beginSave (h : Keeps s t) (vals : List Saved) :
    Keeps s (t.beginSave vals) := by
  unfold State.beginSave
  grind only [← modOd, ← modUpd, ← of_update]

theorem endSave (h : Keeps s t) (slot : Nat) (vals : List Saved) :
    Keeps s (t.endSave slot vals) := by
  unfold State.endSave
  grind only [← modUpd, ← modOd, ← of_update]

theorem eraseStore (h : Keeps s t) :
    Keeps s (t.eraseStore) := by
  unfold State.eraseStore
  grind only [← modUpd, ← modOd, ← of_update]

theorem commitSettings (h : Keeps s t) :
    Keeps s (t.commitSettings) := by
  unfold State.commitSettings
  grind only [← modUpd, ← of_update]

theorem commitTrial (h : Keeps s t) :
    Keeps s (t.commitTrial) := by
  unfold State.commitTrial
  grind only [← commitSettings, ← modUpd, ← modOd, ← of_update]

theorem commitUnreadable (h : Keeps s t) :
    Keeps s (t.commitUnreadable) := by
  unfold State.commitUnreadable
  grind only [← modUpd, ← modOd, ← of_update]

theorem startImage (h : Keeps s t) (slot : Nat) : Keeps s (t.startImage slot) := by
  unfold State.startImage
  refine Keeps.modRst (Keeps.modTansy (Keeps.modYar (Keeps.modOd (Keeps.modUpd h _) _) ?_) ?_) _
  · exact fun hy => YarSt.dropTorn_canonical ⟨hy.1, hy.2⟩
  · exact id

theorem startCommitted (h : Keeps s t) (slot : Nat) (readBack : Bool) :
    Keeps s (t.startCommitted slot readBack) := by
  unfold State.startCommitted
  grind only [← startImage, ← modUpd, ← of_update]

theorem startLoader (h : Keeps s t) : Keeps s t.startLoader := by
  have hloader := h.modYar (f := fun y => { y with loader := true, wdtAt := some t.yclkNow, wdtPeriod := 5000000 }) id
  have hboot := ((hloader.modOd fun o => { o with mbxReq := none }).modUpd fun u => { u with ram := [], ramCheck := 8 }).modRst
    fun r => { r with yarBooted := true }
  exact branch ((hboot.applyBlockReset _).applyLinkEnable true) hboot

/-! ### The object dictionary read -/

theorem readEntries (h : Keeps s t) (n : Fin 20) :
    Keeps s (t.readEntries n) := by
  unfold State.readEntries
  grind only [← serveFaults, ← readDir, ← foldl]

theorem readEntry (h : Keeps s t) (o : Obj) (sub : Nat) :
    Keeps s (t.readEntry o sub).2 := by
  unfold State.readEntry
  grind only [← readEntries, ← modCh, ← of_update]

/-! ### The object dictionary written -/

theorem startTask (h : Keeps s t) (q : WCtx) (k : TaskKind) :
    Keeps s (t.startTask q k) := by
  unfold State.startTask
  grind only [← modOd, ← of_update]

theorem ok (h : Keeps s t) :
    Keeps s (ok t).2 := by
  unfold Machine.ok
  grind only []

theorem guarded (h : Keeps s t) (h' : Keeps s u) (c : Bool) (code : Nat) : Keeps s (guarded c code t u).2 := by
  cases c
  · exact h
  · exact h'

theorem writeChCfg (h : Keeps s t) (n : Fin 20) (sub v : Nat) :
    Keeps s (t.writeChCfg n sub v).2 := by
  unfold State.writeChCfg
  grind only [← writeEnable, ← guarded, ← modCh, ← ok, ← settle, ← of_update]

theorem putDesc (h : Keeps s t) (m : Fin 6) (k : Nat) (v : W32) :
    Keeps s (t.putDesc m k v) := by
  unfold State.putDesc
  grind only [← modMem, MemSt.canonical, ← of_update]

theorem writeDesc (h : Keeps s t) (m : Fin 6) (k : Nat) (v : W32) :
    Keeps s (t.writeDesc m k v).2 := by
  unfold State.writeDesc
  grind only [← putDesc, ← guarded]

theorem writeArea (h : Keeps s t) (k : Nat) (w : W32) :
    Keeps s (t.writeArea k w).2 := by
  unfold State.writeArea
  grind only [← ok, ← modMem, MemSt.canonical, ← of_update]

theorem forceLock (h : Keeps s t) (k : Nat) :
    Keeps s (t.forceLock k) := by
  unfold State.forceLock
  grind only [← setSlot]

theorem writePortCfg (h : Keeps s t) (x : Port) (sub v : Nat) :
    Keeps s (t.writePortCfg x sub v) := by
  unfold State.writePortCfg
  grind only [← applyPortMode, ← modPort, ← of_update]

theorem writePortStat (h : Keeps s t) (x : Port) (sub v : Nat) :
    Keeps s (t.writePortStat x sub v) := by
  unfold State.writePortStat
  grind only [← modPort, ← of_update]

theorem writeLinkCfg (h : Keeps s t) (sub v : Nat) :
    Keeps s (t.writeLinkCfg sub v).2 := by
  unfold State.writeLinkCfg
  grind only [← ok, ← applyLinkEnable, ← modLink, ← applyWakePeer, ← applyRetrain, ← guarded, ← applyLinkresetSend,
    ← of_update]

theorem modFlow (h : Keeps s t) (i : Fin 21) (f : Flow → Flow) :
    Keeps s (t.modFlow i f) := by
  unfold State.modFlow
  grind only [← modCh, ← modLink, ← of_update]

theorem writePolicer (h : Keeps s t) (n : Fin 20) (sub v : Nat) :
    Keeps s (t.writePolicer n sub v).2 := by
  unfold State.writePolicer
  grind only [← guarded, ← modCh, ← of_update]

theorem writeMeas (h : Keeps s t) (sub v : Nat) :
    Keeps s (t.writeMeas sub v).2 := by
  unfold State.writeMeas
  grind only [← ok, ← modLink, ← of_update]

theorem writeTime (h : Keeps s t) (sub : Nat) (v : Int) :
    Keeps s (t.writeTime sub v).2 := by
  unfold State.writeTime
  grind only [← ok, ← applySource, ← modTime, ← guarded, ← senderEpoch, ← of_update]

theorem writeTwin (h : Keeps s t) (sub v : Nat) :
    Keeps s (t.writeTwin sub v).2 := by
  unfold State.writeTwin
  grind only [← ok, ← modRst, ← guarded, ← gracefulRelease, ← modTwin, ← of_update]

theorem writeReset (h : Keeps s t) (sub v : Nat) :
    Keeps s (t.writeReset sub v) := by
  unfold State.writeReset
  grind only [← modRst, ← swReset, ← of_update]

theorem writeBound (h : Keeps s t) (floor ceiling : Nat) :
    Keeps s (t.writeBound floor ceiling).2 := by
  unfold State.writeBound
  grind only [← guarded, ← clampLevel, ← modPwr, ← of_update]

theorem sleepRequest (h : Keeps s t) (q : WCtx) (kind : Nat) :
    Keeps s (t.sleepRequest q kind).2 := by
  unfold State.sleepRequest
  grind only [← ok, ← beginSleep]

theorem writePower (h : Keeps s t) (q : WCtx) (sub v : Nat) :
    Keeps s (t.writePower q sub v).2 := by
  unfold State.writePower
  grind only [← writeBound, ← ok, ← modPwr, ← sleepRequest, ← of_update]

theorem writeTansy (h : Keeps s t) (v : Nat) :
    Keeps s (t.writeTansy v).2 := by
  unfold State.writeTansy
  grind only [← ok, ← applyTansy]

theorem writeMem (h : Keeps s t) (sub v : Nat) : Keeps s (t.writeMem sub v).2 := by
  unfold State.writeMem
  split
  · refine Keeps.ok (Keeps.modMem h ?_)
    exact fun hm => ⟨hm.1, hm.2⟩
  · refine Keeps.ok (Keeps.modTansy h ?_)
    exact id
  · exact h.writeTansy v
  · refine Keeps.ok (Keeps.modTansy h ?_)
    exact id
  · refine Keeps.guarded h (Keeps.modTansy h ?_) _ _
    exact id
  · exact h.ok

theorem writeLog (h : Keeps s t) (sub v : Nat) : Keeps s (t.writeLog sub v).2 := by
  unfold State.writeLog
  split
  · refine Keeps.ok (Keeps.modYar h ?_)
    exact id
  · split
    · refine Keeps.ok (Keeps.modYar h ?_)
      exact fun hy => ⟨hy.1, rfl⟩
    · refine Keeps.guarded h (Keeps.modYar h ?_) _ _
      exact fun hy => ⟨hy.1, hy.2⟩
  · exact h.ok

theorem writeStoreObj (h : Keeps s t) (q : WCtx) (sub : Nat) :
    Keeps s (t.writeStoreObj q sub).2 := by
  unfold State.writeStoreObj
  grind only [← ok, ← modOd, ← startTask, ← beginSave, ← of_update]

theorem writeFactoryLock (h : Keeps s t) (q : WCtx) (v : Nat) :
    Keeps s (t.writeFactoryLock q v).2 := by
  unfold State.writeFactoryLock
  grind only [← guarded, ← startTask]

theorem writeAccess (h : Keeps s t) (q : WCtx) (sub v : Nat) :
    Keeps s (t.writeAccess q sub v).2 := by
  unfold State.writeAccess
  grind only [← ok, ← modOd, ← writeFactoryLock, ← of_update]

theorem writeActivate (h : Keeps s t) (v : Nat) :
    Keeps s (t.writeActivate v).2 := by
  unfold State.writeActivate
  grind only [← guarded, ← swReset, ← modUpd]

theorem raiseAtCommit (h : Keeps s t) (q : WCtx) :
    Keeps s (t.raiseAtCommit q) := by
  unfold State.raiseAtCommit
  grind only [← startTask]

theorem writeCommit (h : Keeps s t) (q : WCtx) :
    Keeps s (t.writeCommit q).2 := by
  unfold State.writeCommit
  grind only [← ok, ← raiseAtCommit, ← commitUnreadable, ← commitTrial]

theorem writeRamStart (h : Keeps s t) :
    Keeps s (t.writeRamStart).2 := by
  unfold State.writeRamStart
  grind only [← guarded, ← startImage]

theorem writeUpdate (h : Keeps s t) (q : WCtx) (sub v : Nat) :
    Keeps s (t.writeUpdate q sub v).2 := by
  unfold State.writeUpdate
  grind only [← writeActivate, ← writeCommit, ← ok, ← modUpd, ← writeRamStart, ← of_update]

theorem putSensor (h : Keeps s t) (sub v : Nat) : Keeps s (t.modYar fun y => y.putSensor sub v) := by
  refine h.modYar fun hy => ?_
  unfold YarSt.putSensor
  split <;> exact ⟨hy.1, hy.2⟩

theorem writeValue (h : Keeps s t) (q : WCtx) (o : Obj) (sub : Nat) (v : Int) : Keeps s (t.writeValue q o sub v).2 := by
  unfold State.writeValue
  cases o
  case sensors => exact (h.putSensor sub _).ok
  case blocks => exact h.guarded (h.applyBlockReset _) _ _
  all_goals grind -lia -linarith -ring only [← writeAccess, ← writeStoreObj, ← ok, ← modRst, ← writeChCfg, ← modCnt,
    ← forceLock, ← writeArea, ← writeDesc, ← writePortCfg, ← writePortStat, ← writeLinkCfg, ← modLink, ← modArq,
    ← modFlow, ← writePolicer, ← writeMeas, ← writeTime, ← writeTwin, ← writeReset, ← writePower, ← writeMem,
    ← writeLog, ← writeUpdate]

theorem writeEntry (h : Keeps s t) (q : WCtx) (o : Obj) (sub : Nat) (v : Int) :
    Keeps s (t.writeEntry q o sub v).2 := by
  unfold State.writeEntry
  grind only [← writeValue, ← statusIfChanged]

theorem applySaved (h : Keeps s t) (o : Obj) (r : Row) (bs : List Byte) :
    Keeps s (t.applySaved o r bs) := by
  unfold State.applySaved
  grind only [← modCh, ← modMem, ← putDesc, ← modPort, ← writePortCfg, ← writeLinkCfg, ← modLink, ← writeTime,
    ← writeValue, ← modPwr, ← writePower, MemSt.canonical, ← of_update]

theorem applyStore (h : Keeps s t) :
    Keeps s (t.applyStore) := by
  unfold State.applyStore
  grind only [← applySaved, ← forChans, ← settle, ← foldl]

/-! ### The requests served -/

theorem modPath (h : Keeps s t) (p : Path) (f : PathSt → PathSt) :
    Keeps s (t.modPath p f) := by
  unfold State.modPath
  grind only [← modOd, ← of_update]

theorem reply (h : Keeps s t) (p : Path) (svc reqseq : Nat) (data mac : List Byte) :
    Keeps s (t.reply p svc reqseq data mac) := by
  unfold State.reply
  grind only [← mailboxReply, ← queueMgmt, ← of_update]

theorem authFailed (h : Keeps s t) (reqseq : Nat) :
    Keeps s (t.authFailed reqseq) := by
  unfold State.authFailed
  grind only [← modOd, ← log, ← of_update]

theorem dropSnap (h : Keeps s t) (p : Path) (index sub : Nat) :
    Keeps s (t.dropSnap p index sub) := by
  unfold State.dropSnap
  grind only [← modPath, ← of_update]

theorem segRead (h : Keeps s t) (p : Path) (ob : Obj) (o : OdReq) :
    Keeps s (t.segRead p ob o).2 := by
  unfold State.segRead
  grind only [← dropSnap, ← modPath, ← readEntry, ← of_update]

theorem closeKey (h : Keeps s t) (q : WCtx) (p : Path) (reqseq sub : Nat) (bs : List Byte) :
    Keeps s (t.closeKey q p reqseq sub bs).2 := by
  unfold State.closeKey
  grind only [← startTask]

theorem openImage (h : Keeps s t) :
    Keeps s (t.openImage) := by
  unfold State.openImage
  grind only [← modUpd, ← of_update]

theorem programImage (h : Keeps s t) (off : Nat) (bs : List Byte) :
    Keeps s (t.programImage off bs) := by
  unfold State.programImage
  grind only [← modUpd, ← of_update]

theorem closeRam (h : Keeps s t) (bs : List Byte) : Keeps s (t.closeRam bs).2 := by
  unfold State.closeRam
  split
  · exact h
  · dsimp only
    refine Keeps.modUpd (Keeps.modYar h ?_) _
    exact fun hy => ⟨storeBytes_wf hy.1 _ _, hy.2⟩

theorem closeImage (h : Keeps s t) (bs : List Byte) :
    Keeps s (t.closeImage bs).2 := by
  unfold State.closeImage
  grind only [← closeRam, ← modUpd, ← of_update]

theorem closeDomain (h : Keeps s t) (q : WCtx) (p : Path) (reqseq : Nat) (ob : Obj) (sub : Nat) (bs : List Byte) :
    Keeps s (t.closeDomain q p reqseq ob sub bs).2 := by
  unfold State.closeDomain
  grind only [← closeKey, ← modMem, ← closeImage, MemSt.canonical, ← of_update]

theorem endSession (h : Keeps s t) (p : Path) :
    Keeps s (t.endSession p) := by
  unfold State.endSession
  grind only [← modPath, ← of_update]

theorem segWrite (h : Keeps s t) (q : WCtx) (p : Path) (reqseq : Nat) (ob : Obj) (o : OdReq) :
    Keeps s (t.segWrite q p reqseq ob o).2 := by
  unfold State.segWrite
  repeat' split
  all_goals grind only [← endSession, ← openImage, ← programImage, ← modPath, ← closeDomain, ← startTask, ← of_update]

theorem noteLocked (h : Keeps s t) (o : OdReq) (code : Nat) :
    Keeps s (t.noteLocked o code) := by
  unfold State.noteLocked
  grind only [← log, ← of_update]

theorem odRun (h : Keeps s t) (q : WCtx) (p : Path) (r : Req) (o : OdReq) :
    Keeps s (t.odRun q p r o).2 := by
  unfold State.odRun
  grind only [← modOd, ← noteLocked, ← readEntry, ← dropSnap, ← writeEntry, ← segRead, ← segWrite, ← endSession,
    ← of_update]

theorem unitRun (h : Keeps s t) (p : Path) (r : Req) (u' : UnitReq) :
    Keeps s (t.unitRun p r u').2 := by
  unfold State.unitRun
  grind only [← lockOp, ← scratchAnnounced, ← of_update]

theorem complete (h : Keeps s t) (p : Path) (r : Req) (a : Reply) (data mac : List Byte) :
    Keeps s (t.complete p r a data mac) := by
  unfold State.complete
  grind only [← modPath, ← reply, ← of_update]

theorem turnAway (h : Keeps s t) (p : Path) (r : Req) (key : Option (List Byte)) (code : Nat) :
    Keeps s (t.turnAway p r key code) := by
  unfold State.turnAway
  grind only [← reply]

theorem sequence (h : Keeps s t) (p : Path) (r : Req) (key : Option (List Byte)) (run : State → Reply × State) (hrun
    : ∀ u, Keeps s u → Keeps s (run u).2) :
    Keeps s (t.sequence p r key run) := by
  unfold State.sequence
  grind only [← reply, ← modOd, ← turnAway, ← complete, ← of_update]

theorem perform (h : Keeps s t) (q : WCtx) (p : Path) (r : Req) (key : Option (List Byte)) :
    Keeps s (t.perform q p r key).2 := by
  unfold State.perform
  grind only [← odRun, ← unitRun, ← of_update]

theorem serveLink (h : Keeps s t) (q : WCtx) (r : Req) :
    Keeps s (t.serveLink q r) := by
  unfold State.serveLink
  grind only [← odRun, ← reply, ← turnAway, ← authFailed, ← sequence, ← perform, ← of_update]

theorem serveLoader (h : Keeps s t) (p : Path) (r : Req) :
    Keeps s (t.serveLoader p r) := by
  unfold State.serveLoader
  grind only [← turnAway, ← authFailed, ← sequence, ← odRun, ← of_update]

theorem serve (h : Keeps s t) (q : WCtx) (p : Path) (r : Req) :
    Keeps s (t.serve q p r) := by
  unfold State.serve
  grind only [← serveLoader, ← serveLink, ← sequence, ← perform, ← of_update]

theorem endTask (h : Keeps s t) (k : TaskKind) :
    Keeps s (t.endTask k).2 := by
  unfold State.endTask
  grind only [← endSave, ← eraseStore, ← modOd, ← modUpd, ← log, ← blowRollback, ← of_update]

theorem finishTask (h : Keeps s t) (t' : Task) :
    Keeps s (t.finishTask t') := by
  unfold State.finishTask
  grind only [← endTask, ← modOd, ← modPath, ← complete, ← of_update]

theorem enterRequest (h : Keeps s t) (q : WCtx) (p : Path) (r : Req) :
    Keeps s (t.enterRequest q p r) := by
  unfold State.enterRequest
  grind only [← serve, ← turnAway, ← modOd, ← of_update]

theorem forward (h : Keeps s t) (r : Req) :
    Keeps s (t.forward r) := by
  unfold State.forward
  grind only [← modLinkCnt, ← modLink, ← queueMgmt, ← forwardAbort, ← of_update]

theorem noRoute (h : Keeps s t) :
    Keeps s (t.noRoute) := by
  unfold State.noRoute
  grind only [← modLinkCnt, ← of_update]

theorem takeMailbox (h : Keeps s t) (q : WCtx) (r : Req) :
    Keeps s (t.takeMailbox q r) := by
  unfold State.takeMailbox
  grind only [← enterRequest, ← forward, ← noRoute]

theorem takeLink (h : Keeps s t) (q : WCtx) (r : Req) :
    Keeps s (t.takeLink q r) := by
  unfold State.takeLink
  grind only [← noRoute, ← modYar, ← enterRequest, YarSt.Canonical, ← of_update]

theorem mailboxArrive (h : Keeps s t) (readBack : Bool) (r : Req) (img : List Byte) :
    Keeps s (t.mailboxArrive readBack r img) := by
  unfold State.mailboxArrive
  grind only [← modOd, ← active, ← takeMailbox, ← of_update]

theorem servePending (h : Keeps s t) :
    Keeps s (t.servePending) := by
  unfold State.servePending
  grind only [← takeMailbox, ← modOd, ← of_update]

theorem serveNext (h : Keeps s t) :
    Keeps s (t.serveNext) := by
  unfold State.serveNext
  grind only [← modOd, ← serve, ← of_update]

theorem serviceStep (h : Keeps s t) :
    Keeps s (t.serviceStep) := by
  unfold State.serviceStep
  grind only [← blowRollback, ← modUpd, ← finishTask, ← serveNext, ← of_update]

theorem arrive (h : Keeps s t) (src : Src) (readBack : Bool) (r : Req) :
    Keeps s (t.arrive src readBack r) := by
  unfold State.arrive
  grind only [← mailboxArrive, ← receivedUp, ← arqReceive, ← active, ← takeLink, ← of_update]

theorem odCommand (h : Keeps s t) (h' : OdHead) (op index sub : Nat) (data : List Byte) :
    Keeps s (t.odCommand h' op index sub data) := by
  unfold State.odCommand
  grind only [← arrive]

theorem odWrite (h : Keeps s t) (h' : OdHead) (index sub : Nat) (data : List Byte) :
    Keeps s (t.odWrite h' index sub data) := by
  unfold State.odWrite
  grind only [← odCommand]

theorem execObjectRead (h : Keeps s t) (h' : OdHead) (index sub : Nat) (data : List Byte) :
    KeepsNext s (execObjectRead h' index sub data t) := by
  unfold Machine.execObjectRead
  grind only [← odCommand, KeepsNext]

theorem execObjectWrite (h : Keeps s t) (h' : OdHead) (index sub : Nat) (data : List Byte) :
    KeepsNext s (execObjectWrite h' index sub data t) := by
  unfold Machine.execObjectWrite
  grind only [← odCommand, KeepsNext]

theorem execSegRead (h : Keeps s t) (h' : OdHead) (index sub : Nat) (data : List Byte) :
    KeepsNext s (execSegRead h' index sub data t) := by
  unfold Machine.execSegRead
  grind only [← odCommand, KeepsNext]

theorem execSegWrite (h : Keeps s t) (h' : OdHead) (index sub : Nat) (data : List Byte) :
    KeepsNext s (execSegWrite h' index sub data t) := by
  unfold Machine.execSegWrite
  grind only [← odCommand, KeepsNext]

theorem execSegCancel (h : Keeps s t) (h' : OdHead) (index sub : Nat) (data : List Byte) :
    KeepsNext s (execSegCancel h' index sub data t) := by
  unfold Machine.execSegCancel
  grind only [← odCommand, KeepsNext]

theorem execMgmtScratch (h : Keeps s t) (h' : OdHead) (opc area : Nat) (rsv : Byte) (unit : Nat) (operand : W32) :
    KeepsNext s (execMgmtScratch h' opc area rsv unit operand t) := by
  unfold Machine.execMgmtScratch
  grind only [← arrive, KeepsNext]

theorem execMgmtLock (h : Keeps s t) (h' : OdHead) (opc slot : Nat) (rsv : Byte) (unit : Nat) (operand : W32) :
    KeepsNext s (execMgmtLock h' opc slot rsv unit operand t) := by
  unfold Machine.execMgmtLock
  grind only [← arrive, KeepsNext]

theorem forwardFailed (h : Keeps s t) (f : FwdReq) :
    Keeps s (t.forwardFailed f) := by
  unfold State.forwardFailed
  grind only [← modOd, ← forwardAbort, ← log, ← of_update]

theorem takeResponse (h : Keeps s t) (svc reqseq : Nat) (data mac : List Byte) :
    Keeps s (t.takeResponse svc reqseq data mac) := by
  unfold State.takeResponse
  grind only [← modLink, ← mailboxReply, ← forwardFailed, ← of_update]

theorem execMgmtResponse (h : Keeps s t) (m : RxMeta) (seq wlow svc reqseq : Nat) (data mac : List Byte) :
    KeepsNext s (execMgmtResponse m seq wlow svc reqseq data mac t) := by
  unfold Machine.execMgmtResponse
  grind only [← receivedUp, ← arqReceive, ← active, ← takeResponse, ← modYar, KeepsNext, YarSt.Canonical, ← of_update]

theorem execLockoutEnd {dt : Nat} (h : Keeps s (t.advance dt)) :
    KeepsNext s (execLockoutEnd dt t) := by
  unfold Machine.execLockoutEnd
  dsimp only
  repeat' split
  all_goals grind only [← modOd, KeepsNext, ← of_update]

theorem execDomainSessionTimeout {dt : Nat} (h : Keeps s (t.advance dt)) (p : Path) :
    KeepsNext s (execDomainSessionTimeout dt p t) := by
  unfold Machine.execDomainSessionTimeout
  grind only [← modPath, KeepsNext]

theorem execMailboxStatus (h : Keeps s t) :
    KeepsNext s (execMailboxStatus t) := by
  unfold Machine.execMailboxStatus
  grind only [← active, ← modOd, KeepsNext, ← of_update]

theorem execWriteReq (h : Keeps s t) (len : Nat) (image : List Byte) :
    KeepsNext s (execWriteReq len image t) := by
  unfold Machine.execWriteReq
  grind only [← modOd, ← active, ← mailboxArrive, KeepsNext, ← of_update]

theorem execReadRsp (h : Keeps s t) :
    KeepsNext s (execReadRsp t) := by
  unfold Machine.execReadRsp
  grind only [← active, ← modOd, KeepsNext, ← of_update]

/-! ### The writes by row -/

theorem execPortModeOn (h : Keeps s t) (h' : OdHead) (x : Port) (v : Byte) :
    KeepsNext s (execPortModeOn h' x v t) := by
  unfold Machine.execPortModeOn
  grind only [← odWrite, KeepsNext]

theorem execPortModeOff (h : Keeps s t) (h' : OdHead) (x : Port) :
    KeepsNext s (execPortModeOff h' x t) := by
  unfold Machine.execPortModeOff
  grind only [← odWrite, KeepsNext]

theorem execLinkEnable (h : Keeps s t) (h' : OdHead) (v : Byte) :
    KeepsNext s (execLinkEnable h' v t) := by
  unfold Machine.execLinkEnable
  grind only [← odWrite, KeepsNext]

theorem execWakePeer (h : Keeps s t) (h' : OdHead) (v : Byte) :
    KeepsNext s (execWakePeer h' v t) := by
  unfold Machine.execWakePeer
  grind only [← odWrite, KeepsNext]

theorem execRetrain (h : Keeps s t) (h' : OdHead) (v : Byte) :
    KeepsNext s (execRetrain h' v t) := by
  unfold Machine.execRetrain
  grind only [← odWrite, KeepsNext]

theorem execLinkresetSend (h : Keeps s t) (h' : OdHead) (v : Byte) :
    KeepsNext s (execLinkresetSend h' v t) := by
  unfold Machine.execLinkresetSend
  grind only [← odWrite, KeepsNext]

theorem execEnableActive (h : Keeps s t) (h' : OdHead) (n : Fin 20) :
    KeepsNext s (execEnableActive h' n t) := by
  unfold Machine.execEnableActive
  grind only [← odWrite, KeepsNext]

theorem execEnableHold (h : Keeps s t) (h' : OdHead) (n : Fin 20) :
    KeepsNext s (execEnableHold h' n t) := by
  unfold Machine.execEnableHold
  grind only [← odWrite, KeepsNext]

theorem execEnableDrain (h : Keeps s t) (h' : OdHead) (n : Fin 20) :
    KeepsNext s (execEnableDrain h' n t) := by
  unfold Machine.execEnableDrain
  grind only [← odWrite, KeepsNext]

theorem execEnableDisable (h : Keeps s t) (h' : OdHead) (n : Fin 20) :
    KeepsNext s (execEnableDisable h' n t) := by
  unfold Machine.execEnableDisable
  grind only [← odWrite, KeepsNext]

theorem execRegionDescriptorWrite (h : Keeps s t) (h' : OdHead) (m : Fin 6) (sub : Fin 8) (v : W32) :
    KeepsNext s (execRegionDescriptorWrite h' m sub v t) := by
  unfold Machine.execRegionDescriptorWrite
  grind only [← odWrite, KeepsNext]

theorem execScratchAreaWrite (h : Keeps s t) (h' : OdHead) (k : Fin 4) (v : W32) :
    KeepsNext s (execScratchAreaWrite h' k v t) := by
  unfold Machine.execScratchAreaWrite
  grind only [← odWrite, KeepsNext]

theorem execLockForce (h : Keeps s t) (h' : OdHead) (v : Byte) :
    KeepsNext s (execLockForce h' v t) := by
  unfold Machine.execLockForce
  grind only [← odWrite, KeepsNext]

theorem execCountClear (h : Keeps s t) (h' : OdHead) (index sub : Nat) (v : Byte) :
    KeepsNext s (execCountClear h' index sub v t) := by
  unfold Machine.execCountClear
  grind only [← odWrite, KeepsNext]

theorem execSave (h : Keeps s t) (h' : OdHead) (v : Byte) :
    KeepsNext s (execSave h' v t) := by
  unfold Machine.execSave
  grind only [← odWrite, KeepsNext]

theorem execRestoreDefaults (h : Keeps s t) (h' : OdHead) (v : Byte) :
    KeepsNext s (execRestoreDefaults h' v t) := by
  unfold Machine.execRestoreDefaults
  grind only [← odWrite, KeepsNext]

theorem execStoreLock (h : Keeps s t) (h' : OdHead) (v : Byte) :
    KeepsNext s (execStoreLock h' v t) := by
  unfold Machine.execStoreLock
  grind only [← odWrite, KeepsNext]

theorem execKeyWrite (h : Keeps s t) (h' : OdHead) (sub : Nat) (data : List Byte) :
    KeepsNext s (execKeyWrite h' sub data t) := by
  unfold Machine.execKeyWrite
  grind only [← odCommand, KeepsNext]

theorem execKeyLock (h : Keeps s t) (h' : OdHead) (v : Byte) :
    KeepsNext s (execKeyLock h' v t) := by
  unfold Machine.execKeyLock
  grind only [← odWrite, KeepsNext]

theorem execFactoryLock (h : Keeps s t) (h' : OdHead) (v : Byte) (readBack : Bool) :
    KeepsNext s (execFactoryLock h' v readBack t) := by
  unfold Machine.execFactoryLock
  grind only [← arrive, KeepsNext]

theorem execRole (h : Keeps s t) (h' : OdHead) (v : Byte) :
    KeepsNext s (execRole h' v t) := by
  unfold Machine.execRole
  grind only [← odWrite, KeepsNext]

theorem execPairMode (h : Keeps s t) (h' : OdHead) (v : Byte) :
    KeepsNext s (execPairMode h' v t) := by
  unfold Machine.execPairMode
  grind only [← odWrite, KeepsNext]

theorem execResetRequest (h : Keeps s t) (h' : OdHead) (v : Byte) :
    KeepsNext s (execResetRequest h' v t) := by
  unfold Machine.execResetRequest
  grind only [← odWrite, KeepsNext]

theorem execBlockReset (h : Keeps s t) (h' : OdHead) (v : W32) :
    KeepsNext s (execBlockReset h' v t) := by
  unfold Machine.execBlockReset
  grind only [← odWrite, KeepsNext]

theorem execSleepRequestRetention (h : Keeps s t) (h' : OdHead) :
    KeepsNext s (execSleepRequestRetention h' t) := by
  unfold Machine.execSleepRequestRetention
  grind only [← odWrite, KeepsNext]

theorem execSleepRequestOff (h : Keeps s t) (h' : OdHead) :
    KeepsNext s (execSleepRequestOff h' t) := by
  unfold Machine.execSleepRequestOff
  grind only [← odWrite, KeepsNext]

theorem execDestructiveMarch (h : Keeps s t) (h' : OdHead) :
    KeepsNext s (execDestructiveMarch h' t) := by
  unfold Machine.execDestructiveMarch
  grind only [← odWrite, KeepsNext]

theorem execPreservingMarch (h : Keeps s t) (h' : OdHead) :
    KeepsNext s (execPreservingMarch h' t) := by
  unfold Machine.execPreservingMarch
  grind only [← odWrite, KeepsNext]

theorem execScrubNow (h : Keeps s t) (h' : OdHead) :
    KeepsNext s (execScrubNow h' t) := by
  unfold Machine.execScrubNow
  grind only [← odWrite, KeepsNext]

theorem execStopMarch (h : Keeps s t) (h' : OdHead) :
    KeepsNext s (execStopMarch h' t) := by
  unfold Machine.execStopMarch
  grind only [← odWrite, KeepsNext]

theorem execRepairClear (h : Keeps s t) (h' : OdHead) (v : Byte) :
    KeepsNext s (execRepairClear h' v t) := by
  unfold Machine.execRepairClear
  grind only [← odWrite, KeepsNext]

theorem execLogRamClear (h : Keeps s t) (h' : OdHead) :
    KeepsNext s (execLogRamClear h' t) := by
  unfold Machine.execLogRamClear
  grind only [← odWrite, KeepsNext]

theorem execFlashRingErase (h : Keeps s t) (h' : OdHead) :
    KeepsNext s (execFlashRingErase h' t) := by
  unfold Machine.execFlashRingErase
  grind only [← odWrite, KeepsNext]

theorem execActivate (h : Keeps s t) (h' : OdHead) (v : Byte) :
    KeepsNext s (execActivate h' v t) := by
  unfold Machine.execActivate
  grind only [← odWrite, KeepsNext]

theorem execCommit (h : Keeps s t) (h' : OdHead) (v : Byte) (readBack : Bool) :
    KeepsNext s (execCommit h' v readBack t) := by
  unfold Machine.execCommit
  grind only [← arrive, KeepsNext]

theorem execRamStart (h : Keeps s t) (h' : OdHead) (v : Byte) :
    KeepsNext s (execRamStart h' v t) := by
  unfold Machine.execRamStart
  grind only [← odWrite, KeepsNext]

theorem execSwap (h : Keeps s t) (h' : OdHead) (v : Byte) :
    KeepsNext s (execSwap h' v t) := by
  unfold Machine.execSwap
  grind only [← odWrite, KeepsNext]

theorem execSource (h : Keeps s t) (h' : OdHead) (v : Byte) :
    KeepsNext s (execSource h' v t) := by
  unfold Machine.execSource
  grind only [← odWrite, KeepsNext]

theorem execEpochBump (h : Keeps s t) (h' : OdHead) (v : Byte) :
    KeepsNext s (execEpochBump h' v t) := by
  unfold Machine.execEpochBump
  grind only [← odWrite, KeepsNext]

/-! ### Start-up -/

theorem execDeviceResetRelease (h : Keeps s t) :
    KeepsNext s (execDeviceResetRelease t) := by
  unfold Machine.execDeviceResetRelease
  grind only [← startLoad, KeepsNext]

theorem optionsLoaded (h : Keeps s t) (st : Straps) (f : FuseLoad) : Keeps s (t.optionsLoaded st f) := by
  have hmap : ∀ (l : List (Nat × Nat × Nat)) (z : TansySt), z.Bounded →
      (l.foldl (fun z m => z.mapRow m.1 m.2.1 m.2.2) z).Bounded := fun l z hz =>
    List.foldlRecOn l _ hz fun _ hz _ _ => ⟨hz.1, hz.2⟩
  unfold State.optionsLoaded
  refine Keeps.of_update (Keeps.modMem (Keeps.modTansy (Keeps.modPwr (Keeps.modTwin (Keeps.modRst (Keeps.modUpd h _) _) _) _)
    ?_) ?_)
  · exact hmap _ _
  · exact id

theorem execOptionLoadDone (h : Keeps s t) (st : Straps) (f : FuseLoad) :
    KeepsNext s (execOptionLoadDone st f t) := by
  unfold Machine.execOptionLoadDone
  grind only [← optionsLoaded, KeepsNext]

theorem startEither (h : Keeps s t) (readBack : Bool) :
    Keeps s (t.startEither readBack) := by
  unfold State.startEither
  grind only [← startCommitted, ← startLoader]

theorem bootFlash (h : Keeps s t) (readBack : Bool) :
    Keeps s (t.bootFlash readBack) := by
  unfold State.bootFlash
  grind only [← startEither, ← startImage, ← modUpd, ← log, ← of_update]

theorem bootLoader (h : Keeps s t) :
    Keeps s (t.bootLoader) := by
  unfold State.bootLoader
  grind only [← log, ← startLoader, ← modUpd]

theorem bootReads (h : Keeps s t) :
    Keeps s (t.bootReads) := by
  unfold State.bootReads
  grind only [← reapplyLog, ← modUpd, ← of_update]

theorem execBoot (h : Keeps s t) (readBack : Bool) :
    KeepsNext s (execBoot readBack t) := by
  unfold Machine.execBoot
  grind only [← bootReads, ← bootLoader, ← bootFlash, ← modRst, KeepsNext, ← of_update]

theorem loadCopies (h : Keeps s t) :
    Keeps s (t.loadCopies) := by
  unfold State.loadCopies
  grind only [← modRst, ← of_update]

theorem serveAgain (h : Keeps s t) :
    Keeps s (t.serveAgain) := by
  unfold State.serveAgain
  grind only [← flushPending, ← modYar, YarSt.Canonical, ← of_update]

theorem startServing (h : Keeps s t) :
    Keeps s (t.startServing) := by
  unfold State.startServing
  grind only [← serveAgain, ← modOd, ← of_update]

theorem execPllSwitch (h : Keeps s t) :
    KeepsNext s (execPllSwitch t) := by
  unfold Machine.execPllSwitch
  grind only [← modPwr, ← servePending, ← serveAgain, ← endWake, ← startTraining, ← applyLinkEnable, KeepsNext,
    ← of_update]

theorem releaseBlocks (h : Keeps s t) :
    Keeps s (t.releaseBlocks) := by
  unfold State.releaseBlocks
  grind only [← applyBlockReset]

theorem firmwareSetup (h : Keeps s t) : Keeps s t.firmwareSetup := by
  have hload := h.loadStore.loadCopies
  unfold State.firmwareSetup
  refine branch ((hload.log _ _ _ _).swReset 3) ?_
  refine Keeps.startServing (Keeps.latchStartup (Keeps.probePort (Keeps.probePort (Keeps.applyEnables (Keeps.modMem
    (hload.applyStore.clampLevel.releaseBlocks.modRst _) ?_)) .A) .B))
  exact id

theorem logStart (h : Keeps s t) (options : Bool) :
    Keeps s (t.logStart options) := by
  unfold State.logStart
  grind only [← log]

theorem execFirmwareStart (h : Keeps s t) :
    KeepsNext s (execFirmwareStart t) := by
  unfold Machine.execFirmwareStart
  grind only [← firmwareSetup, ← logStart, KeepsNext]

theorem execYarrowResume (h : Keeps s t) :
    KeepsNext s (execYarrowResume t) := by
  unfold Machine.execYarrowResume
  grind only [← logStart, ← firmwareSetup, ← startServing, ← loadStore, KeepsNext]

theorem execSbResetRecovery (h : Keeps s t) : KeepsNext s (execSbResetRecovery t) := by
  unfold Machine.execSbResetRecovery
  rintro _ ⟨⟩
  refine branch (Keeps.probePort (Keeps.probePort (Keeps.forChans (Keeps.releaseBlocks (Keeps.modRst (Keeps.modMem h ?_) _))
    fun n u hu => hu.applyStoredEnable n _) .A) .B) h
  exact id

theorem execTrialWindowExpiry {dt : Nat} (h : Keeps s (t.advance dt)) :
    KeepsNext s (execTrialWindowExpiry dt t) := by
  unfold Machine.execTrialWindowExpiry
  dsimp only
  repeat' split
  all_goals grind only [← log, ← modUpd, KeepsNext, ← of_update]

end Keeps

/-- What a step does to the memories and the queues it begins with, once the time its command takes has passed. -/
def Started (s : State) (o : Host.Outcome State Fault Refusal) : Prop :=
  ∃ u, (u = s ∨ ∃ dt, u = s.advance dt) ∧ KeepsNext u o

theorem Started.now {s : State} {o : Host.Outcome State Fault Refusal} (h : Keeps s s → KeepsNext s o) : Started s o :=
  ⟨s, .inl rfl, h (.refl s)⟩

theorem Started.later {s : State} {dt : Nat} {o : Host.Outcome State Fault Refusal}
    (h : Keeps (s.advance dt) (s.advance dt) → KeepsNext (s.advance dt) o) : Started s o :=
  ⟨s.advance dt, .inr ⟨dt, rfl⟩, h (.refl _)⟩

theorem Started.memories {s t : State} {o : Host.Outcome State Fault Refusal} (h : Started s o) (ho : o = .next t)
    (hs : MemoriesCanonical s) : MemoriesCanonical t := by
  obtain ⟨u, rfl | ⟨dt, rfl⟩, hu⟩ := h
  · exact (hu t ho).memories hs
  · exact (hu t ho).memories (by simpa [MemoriesCanonical] using hs)

theorem Started.queues {s t : State} {o : Host.Outcome State Fault Refusal} (h : Started s o) (ho : o = .next t)
    (hs : QueuesBounded s) : QueuesBounded t := by
  obtain ⟨u, rfl | ⟨dt, rfl⟩, hu⟩ := h
  · exact (hu t ho).queues hs
  · exact (hu t ho).queues (by simpa [QueuesBounded] using hs)

theorem exec_started (s : State) (i : Instr) : Started s (Machine.exec i s) :=
  match i with
  | .idle x c => .now fun hs => hs.execIdle x c
  | .data x c => .now fun hs => hs.execData x c
  | .dataLast x nnn c => .now fun hs => hs.execDataLast x nnn c
  | .select x c => .now fun hs => hs.execSelect x c
  | .openPacket x c => .now fun hs => hs.execOpenPacket x c
  | .abort x c => .now fun hs => hs.execAbort x c
  | .frameMarker x first second => .now fun hs => hs.execFrameMarker x first second
  | .tail x c => .now fun hs => hs.execTail x c
  | .reservedWctl x code c => .now fun hs => hs.execReservedWctl x code c
  | .packetCommit n => .now fun hs => hs.execPacketCommit n
  | .deferredTailCommit n => .now fun hs => hs.execDeferredTailCommit n
  | .bankGrant bank reads writes => .now fun hs => hs.execBankGrant bank reads writes
  | .eccWriteBack bank row col => .now fun hs => hs.execEccWriteBack bank row col
  | .nop x c => .now fun hs => hs.execNop x c
  | .read x c op1 => .now fun hs => hs.execRead x c op1
  | .readp x c => .now fun hs => hs.execReadp x c
  | .peek x c => .now fun hs => hs.execPeek x c
  | .mark x c => .now fun hs => hs.execMark x c
  | .rewind x c => .now fun hs => hs.execRewind x c
  | .releaseToRp x c => .now fun hs => hs.execReleaseToRp x c
  | .releaseToMp x c => .now fun hs => hs.execReleaseToMp x c
  | .flush x c => .now fun hs => hs.execFlush x c
  | .srd x c op1 => .now fun hs => hs.execSrd x c op1
  | .swr x c op1 op2 => .now fun hs => hs.execSwr x c op1 op2
  | .sset x c op1 op2 => .now fun hs => hs.execSset x c op1 op2
  | .sclr x c op1 op2 => .now fun hs => hs.execSclr x c op1 op2
  | .lock x c => .now fun hs => hs.execLock x c
  | .unlock x c => .now fun hs => hs.execUnlock x c
  | .status x c op1 op2 => .now fun hs => hs.execStatus x c op1 op2
  | .statusActClear x c op1 op2 => .now fun hs => hs.execStatusActClear x c op1 op2
  | .statusActMask x c op1 op2 => .now fun hs => hs.execStatusActMask x c op1 op2
  | .resync x c op1 => .now fun hs => hs.execResync x c op1
  | .train x c => .now fun hs => hs.execTrain x c
  | .timeget x c => .now fun hs => hs.execTimeget x c
  | .timegetSet x c op1 op2 => .now fun hs => hs.execTimegetSet x c op1 op2
  | .reservedOpcode x opc c => .now fun hs => hs.execReservedOpcode x opc c
  | .waitingReadDelivery x => .now fun hs => hs.execWaitingReadDelivery x
  | .stallTimeout _ x => .later fun hs => hs.execStallTimeout x
  | .drainComplete n => .now fun hs => hs.execDrainComplete n
  | .readIdleTimeout _ n => .later fun hs => hs.execReadIdleTimeout n
  | .gateOpen _ n slot => .later fun hs => hs.execGateOpen n slot
  | .standinDeadline _ n => .later fun hs => hs.execStandinDeadline n
  | .clockAbsent x wclk rclk => .now fun hs => hs.execClockAbsent x wclk rclk
  | .portModeOn h x v => .now fun hs => hs.execPortModeOn h x v
  | .portModeOff h x => .now fun hs => hs.execPortModeOff h x
  | .probeEnd _ x detected z => .later fun hs => hs.execProbeEnd x detected z
  | .portRailRestored x => .now fun hs => hs.execPortRailRestored x
  | .linkEnable h v => .now fun hs => hs.execLinkEnable h v
  | .blockLock => .now fun hs => hs.execBlockLock
  | .capsSend => .now fun hs => hs.execCapsSend
  | .caps m cflags trialRate b => .now fun hs => hs.execCaps m cflags trialRate b
  | .capsTimeout _ => .later fun hs => hs.execCapsTimeout
  | .trialSwitch _ => .later fun hs => hs.execTrialSwitch
  | .trialResult lockHeld errs => .now fun hs => hs.execTrialResult lockHeld errs
  | .trialFailEnd _ => .later fun hs => hs.execTrialFailEnd
  | .trialTimeout _ => .later fun hs => hs.execTrialTimeout
  | .blockLockLost => .now fun hs => hs.execBlockLockLost
  | .syncHeaderErrors => .now fun hs => hs.execSyncHeaderErrors
  | .noFrameTimeout _ => .later fun hs => hs.execNoFrameTimeout
  | .modulePresence present a0 ddm => .now fun hs => hs.execModulePresence present a0 ddm
  | .moduleLos high => .now fun hs => hs.execModuleLos high
  | .moduleDdmRead a2 => .now fun hs => hs.execModuleDdmRead a2
  | .retrain h v => .now fun hs => hs.execRetrain h v
  | .linkresetSend h v => .now fun hs => hs.execLinkresetSend h v
  | .wakePeer h v => .now fun hs => hs.execWakePeer h v
  | .bluebellEnd _ => .later fun hs => hs.execBluebellEnd
  | .idleFrame m type => .now fun hs => hs.execIdleFrame m type
  | .slice m seq wlow ch segf segoff body => .now fun hs => hs.execSlice m seq wlow ch segf segoff body
  | .fstart m seq wlow ch epoch count frame ptsSec ptsNs => .now fun hs => hs.execFstart m seq wlow ch epoch count frame ptsSec ptsNs
  | .ack m ackseq => .now fun hs => hs.execAck m ackseq
  | .nak m nakseq => .now fun hs => hs.execNak m nakseq
  | .pause m bitmap => .now fun hs => hs.execPause m bitmap
  | .sync m t epoch valid => .now fun hs => hs.execSync m t epoch valid
  | .echoReq m id t1 => .now fun hs => hs.execEchoReq m id t1
  | .echoRsp m id t1 t2 t3 => .now fun hs => hs.execEchoRsp m id t1 t2 t3
  | .rxreport m no counts => .now fun hs => hs.execRxreport m no counts
  | .linkreset m hdr mac => .now fun hs => hs.execLinkreset m hdr mac
  | .bye m reason => .now fun hs => hs.execBye m reason
  | .frameTxChoice => .now fun hs => hs.execFrameTxChoice
  | .ackDelay _ => .later fun hs => hs.execAckDelay
  | .retransmitTimeout _ => .later fun hs => hs.execRetransmitTimeout
  | .giveUp _ => .later fun hs => hs.execGiveUp
  | .pauseQueue => .now fun hs => hs.execPauseQueue
  | .pauseRepeat _ => .later fun hs => hs.execPauseRepeat
  | .pausedExpiry _ => .later fun hs => hs.execPausedExpiry
  | .rxreportSend _ => .later fun hs => hs.execRxreportSend
  | .echoSetStart _ => .later fun hs => hs.execEchoSetStart
  | .echoTimeout _ => .later fun hs => hs.execEchoTimeout
  | .syncSend _ => .later fun hs => hs.execSyncSend
  | .tokenRefill _ => .later fun hs => hs.execTokenRefill
  | .objectRead h index sub data => .now fun hs => hs.execObjectRead h index sub data
  | .objectWrite h index sub data => .now fun hs => hs.execObjectWrite h index sub data
  | .segRead h index sub data => .now fun hs => hs.execSegRead h index sub data
  | .segWrite h index sub data => .now fun hs => hs.execSegWrite h index sub data
  | .segCancel h index sub data => .now fun hs => hs.execSegCancel h index sub data
  | .mgmtScratch h opc area rsv unit operand => .now fun hs => hs.execMgmtScratch h opc area rsv unit operand
  | .mgmtLock h opc slot rsv unit operand => .now fun hs => hs.execMgmtLock h opc slot rsv unit operand
  | .mgmtResponse m seq wlow svc reqseq data mac => .now fun hs => hs.execMgmtResponse m seq wlow svc reqseq data mac
  | .lockoutEnd _ => .later fun hs => hs.execLockoutEnd
  | .domainSessionTimeout _ p => .later fun hs => hs.execDomainSessionTimeout p
  | .mailboxStatus => .now fun hs => hs.execMailboxStatus
  | .writeReq len image => .now fun hs => hs.execWriteReq len image
  | .readRsp => .now fun hs => hs.execReadRsp
  | .enableActive h n => .now fun hs => hs.execEnableActive h n
  | .enableHold h n => .now fun hs => hs.execEnableHold h n
  | .enableDrain h n => .now fun hs => hs.execEnableDrain h n
  | .enableDisable h n => .now fun hs => hs.execEnableDisable h n
  | .regionDescriptorWrite h m sub v => .now fun hs => hs.execRegionDescriptorWrite h m sub v
  | .scratchAreaWrite h k v => .now fun hs => hs.execScratchAreaWrite h k v
  | .lockForce h v => .now fun hs => hs.execLockForce h v
  | .countClear h index sub v => .now fun hs => hs.execCountClear h index sub v
  | .save h v => .now fun hs => hs.execSave h v
  | .restoreDefaults h v => .now fun hs => hs.execRestoreDefaults h v
  | .storeLock h v => .now fun hs => hs.execStoreLock h v
  | .keyWrite h sub data => .now fun hs => hs.execKeyWrite h sub data
  | .keyLock h v => .now fun hs => hs.execKeyLock h v
  | .factoryLock h v readBack => .now fun hs => hs.execFactoryLock h v readBack
  | .role h v => .now fun hs => hs.execRole h v
  | .pairMode h v => .now fun hs => hs.execPairMode h v
  | .resetRequest h v => .now fun hs => hs.execResetRequest h v
  | .blockReset h v => .now fun hs => hs.execBlockReset h v
  | .sleepRequestRetention h => .now fun hs => hs.execSleepRequestRetention h
  | .sleepRequestOff h => .now fun hs => hs.execSleepRequestOff h
  | .destructiveMarch h => .now fun hs => hs.execDestructiveMarch h
  | .preservingMarch h => .now fun hs => hs.execPreservingMarch h
  | .scrubNow h => .now fun hs => hs.execScrubNow h
  | .stopMarch h => .now fun hs => hs.execStopMarch h
  | .repairClear h v => .now fun hs => hs.execRepairClear h v
  | .logRamClear h => .now fun hs => hs.execLogRamClear h
  | .flashRingErase h => .now fun hs => hs.execFlashRingErase h
  | .activate h v => .now fun hs => hs.execActivate h v
  | .commit h v readBack => .now fun hs => hs.execCommit h v readBack
  | .ramStart h v => .now fun hs => hs.execRamStart h v
  | .swap h v => .now fun hs => hs.execSwap h v
  | .source h v => .now fun hs => hs.execSource h v
  | .epochBump h v => .now fun hs => hs.execEpochBump h v
  | .lockReq machine v => .now fun hs => hs.execLockReq machine v
  | .bankCopyStart machine v => .now fun hs => hs.execBankCopyStart machine v
  | .memoryWindowAccess machine addr op => .now fun hs => hs.execMemoryWindowAccess machine addr op
  | .watchdogKick machine period => .now fun hs => hs.execWatchdogKick machine period
  | .ydmaDescriptor machine k index => .now fun hs => hs.execYdmaDescriptor machine k index
  | .ydmaResume machine k => .now fun hs => hs.execYdmaResume machine k
  | .ydmaSkip machine k => .now fun hs => hs.execYdmaSkip machine k
  | .ydmaAbort machine k => .now fun hs => hs.execYdmaAbort machine k
  | .arrayClearDone => .now fun hs => hs.execArrayClearDone
  | .marchDone faults => .now fun hs => hs.execMarchDone faults
  | .preservingMarchDone faults reached => .now fun hs => hs.execPreservingMarchDone faults reached
  | .scrubPass _ => .later fun hs => hs.execScrubPass
  | .repairStart => .now fun hs => hs.execRepairStart
  | .rowCopyDone bank => .now fun hs => hs.execRowCopyDone bank
  | .bankSwitch => .now fun hs => hs.execBankSwitch
  | .slewEnd _ => .later fun hs => hs.execSlewEnd
  | .holdoverStart _ => .later fun hs => hs.execHoldoverStart
  | .holdoverExpiry _ => .later fun hs => hs.execHoldoverExpiry
  | .cloverUp latency => .now fun hs => hs.execCloverUp latency
  | .cloverDown => .now fun hs => hs.execCloverDown
  | .cloverStatus m role mode id joinBlock digest fwVersion => .now fun hs => hs.execCloverStatus m role mode id joinBlock digest fwVersion
  | .hold m bitmap => .now fun hs => hs.execHold m bitmap
  | .standin m ch history cause slice frame => .now fun hs => hs.execStandin m ch history cause slice frame
  | .atomic m issuer opc area rstat unit prior new cseq => .now fun hs => hs.execAtomic m issuer opc area rstat unit prior new cseq
  | .refusal m ch wseq why => .now fun hs => hs.execRefusal m ch wseq why
  | .portEvent m x event seq => .now fun hs => hs.execPortEvent m x event seq
  | .cloverCopy m ch segf segoff data => .now fun hs => hs.execCloverCopy m ch segf segoff data
  | .cloverTime m t epoch valid => .now fun hs => hs.execCloverTime m t epoch valid
  | .snap m part total d => .now fun hs => hs.execSnap m part total d
  | .handover m counts => .now fun hs => hs.execHandover m counts
  | .joinReq m => .now fun hs => hs.execJoinReq m
  | .chainData m ch segf segoff data => .now fun hs => hs.execChainData m ch segf segoff data
  | .chainCredit m credits mseqAck => .now fun hs => hs.execChainCredit m credits mseqAck
  | .chainPort m ports chans => .now fun hs => hs.execChainPort m ports chans
  | .cloverStatusPeriod _ => .later fun hs => hs.execCloverStatusPeriod
  | .holdPeriod _ => .later fun hs => hs.execHoldPeriod
  | .cloverTimePeriod _ => .later fun hs => hs.execCloverTimePeriod
  | .joinReqPeriod _ => .later fun hs => hs.execJoinReqPeriod
  | .chainCreditPeriod _ => .later fun hs => hs.execChainCreditPeriod
  | .heartbeatStop => .now fun hs => hs.execHeartbeatStop
  | .heartbeatLoss => .now fun hs => hs.execHeartbeatLoss
  | .partnerAbsent => .now fun hs => hs.execPartnerAbsent
  | .latchAcquire => .now fun hs => hs.execLatchAcquire
  | .cloverLost => .now fun hs => hs.execCloverLost
  | .joinComplete => .now fun hs => hs.execJoinComplete
  | .portEventMismatch _ => .later fun hs => hs.execPortEventMismatch
  | .chainPartnerFault => .now fun hs => hs.execChainPartnerFault
  | .performanceGovernor _ => .later fun hs => hs.execPerformanceGovernor
  | .thermalCap _ => .later fun hs => hs.execThermalCap
  | .vcoreSettled => .now fun hs => hs.execVcoreSettled
  | .aonThermalTrip => .now fun hs => hs.execAonThermalTrip
  | .currentLimit present => .now fun hs => hs.execCurrentLimit present
  | .currentLimitClear _ => .later fun hs => hs.execCurrentLimitClear
  | .brownOutMargin vin => .now fun hs => hs.execBrownOutMargin vin
  | .marginRecovery _ => .later fun hs => hs.execMarginRecovery
  | .ctleAdapt _ up newEye => .later fun hs => hs.execCtleAdapt up newEye
  | .sensorSample _ r => .later fun hs => hs.execSensorSample r
  | .serdesRailRetry _ linkOk cloverOk => .later fun hs => hs.execSerdesRailRetry linkOk cloverOk
  | .dozeEntry _ => .later fun hs => hs.execDozeEntry
  | .dozeExit => .now fun hs => hs.execDozeExit
  | .sleepEntry _ => .later fun hs => hs.execSleepEntry
  | .e1Timeout _ => .later fun hs => hs.execE1Timeout
  | .retentionWake _ w => .later fun hs => hs.execRetentionWake w
  | .offWake w => .now fun hs => hs.execOffWake w
  | .pwrdnFall => .now fun hs => hs.execPwrdnFall
  | .powerDownClamp _ => .later fun hs => hs.execPowerDownClamp
  | .pwrdnRise => .now fun hs => hs.execPwrdnRise
  | .por => .now fun hs => hs.execPor
  | .bor => .now fun hs => hs.execBor
  | .pin width => .now fun hs => hs.execPin width
  | .watchdogBite _ => .later fun hs => hs.execWatchdogBite
  | .dbgreq request => .now fun hs => hs.execDbgreq request
  | .clkfail => .now fun hs => hs.execClkfail
  | .lockup => .now fun hs => hs.execLockup
  | .deviceResetRelease => .now fun hs => hs.execDeviceResetRelease
  | .optionLoadDone st f => .now fun hs => hs.execOptionLoadDone st f
  | .boot readBack => .now fun hs => hs.execBoot readBack
  | .pllSwitch => .now fun hs => hs.execPllSwitch
  | .firmwareStart => .now fun hs => hs.execFirmwareStart
  | .yarrowResume => .now fun hs => hs.execYarrowResume
  | .sbResetRecovery => .now fun hs => hs.execSbResetRecovery
  | .escalationWindowEnd _ => .later fun hs => hs.execEscalationWindowEnd
  | .trialWindowExpiry _ => .later fun hs => hs.execTrialWindowExpiry
  | .partnerPresent => .now fun hs => hs.execPartnerPresent
  | .returnBusBeat x b rpar rqs => .now fun hs => hs.execReturnBusBeat x b rpar rqs
  | .busOwnNFall => .now fun hs => hs.execBusOwnNFall
  | .invariantBroken n => .now fun hs => hs.execInvariantBroken n
  | .scrubPassComplete faults => .now fun hs => hs.execScrubPassComplete faults
  | .sramScrub _ corrected => .later fun hs => hs.execSramScrub corrected
theorem tick_keeps (s : State) : Keeps (s.advance 1) s.tick :=
  (((Keeps.refl (s.advance 1)).commitLog.serviceStep).sendSnap).statusAnew

theorem step_started (s : State) : ∃ rest, Started { s with pending := rest } (step s) := by
  unfold step
  split
  next h => exact ⟨[], .later (dt := 1) fun _ t ht => by cases ht; rw [← h]; exact tick_keeps s⟩
  next c rest _ => exact ⟨rest, exec_started _ c⟩

/-- Settles O5: every function of the model that a step runs keeps the canonical forms of the array, of its error masks, of the
SRAM and of the log RAM. -/
theorem stepKeepsMemoriesCanonical : Obligations.StepKeepsMemoriesCanonical := by
  intro s t hs ht
  obtain ⟨rest, h⟩ := step_started s
  exact h.memories ht hs

/-- Settles O6: every function of the model that a step runs keeps the bounds of the repair queue and of the pending records. -/
theorem stepKeepsQueuesBounded : Obligations.StepKeepsQueuesBounded := by
  intro s t hs ht
  obtain ⟨rest, h⟩ := step_started s
  exact h.queues ht hs

end Sys2Proof.Machine
end

section
/-! The front command and the step on an empty queue. -/

namespace Sys2Proof.Machine

open Sys2Proof

/-- Settles O1: by the definition of a step. -/
theorem stepRunsFrontCommand : Obligations.StepRunsFrontCommand := by
  intro c rest s h
  unfold step
  rw [h]

theorem step_idle {s : State} (h : s.pending = []) : step s = .next s.tick := by
  unfold step
  rw [h]

@[simp] theorem State.advance_blockUp (s : State) (dt bit : Nat) : (s.advance dt).blockUp bit = s.blockUp bit := by
  simp [State.blockUp]

@[simp] theorem State.advance_logsToFlash (s : State) (dt : Nat) : (s.advance dt).logsToFlash = s.logsToFlash := by
  simp [State.logsToFlash]

/-- Nothing but TIME follows the advance where firmware does not serve, no snapshot waits and Clover is not up. -/
theorem tick_quiet {s : State} (hserve : s.yar.serving = false) (hsnap : s.twin.snapOut = [])
    (hclover : s.twin.cloverState ≠ 2) : s.tick = (s.advance 1).commitLog := by
  have hservice : (s.advance 1).commitLog.serviceStep = (s.advance 1).commitLog := by
    have hyar : (s.advance 1).commitLog.yar.serving = false := by
      unfold State.commitLog YarSt.commitLog
      grind only [= State.advance_yar, = State.modTansy_yar, = State.modYar_yar]
    simp [State.serviceStep, hyar]
  have hsent : (s.advance 1).commitLog.sendSnap = (s.advance 1).commitLog := by
    unfold State.sendSnap
    simp [hsnap]
  unfold State.tick State.statusAnew
  rw [hservice, hsent, if_neg]
  simp [hclover]

theorem State.advance_one (s : State) : s.advance 1 = { s with
    now := s.now + 1250, time := (s.advance 1).time,
    pwr := { s.pwr with timeclk := s.pwr.timeclk + (if s.pwr.clkSource = 1 then 1250 else 0) } } := by
  show (⟨(s.advance 1).pending, (s.advance 1).now, (s.advance 1).freeCtr, (s.advance 1).ch, (s.advance 1).pA,
    (s.advance 1).pB, (s.advance 1).mem, (s.advance 1).tansy, (s.advance 1).link, (s.advance 1).arq, (s.advance 1).time,
    (s.advance 1).twin, (s.advance 1).od, (s.advance 1).yar, (s.advance 1).upd, (s.advance 1).rst, (s.advance 1).pwr⟩ :
    State) = _
  simp only [advance_pending, advance_now, advance_freeCtr, advance_ch, advance_pA, advance_pB, advance_mem, advance_tansy,
    advance_link, advance_arq, advance_twin, advance_od, advance_yar, advance_upd, advance_rst, advance_pwr]
  split <;> rfl

theorem State.advance_time_kept {s : State} (h : s.pwr.clkSource ≠ 1 ∨ s.blockUp 2 = false) (dt : Nat) :
    (s.advance dt).time = s.time := by
  unfold State.advance
  rcases h with h | h
  · rw [if_neg h]
  · have hup : ∀ t, ({ s with now := s.now + 1250 * dt }.modPwr t).blockUp 2 = false := fun _ => h
    dsimp only
    rw [hup, if_neg Bool.false_ne_true]
    split <;> rfl

theorem YarSt.commitLog_newest {y : YarSt} {a : List LogEntry} {e : LogEntry} (hlog : y.flashLog = a ++ [e])
    (hvoid : e.void = false) (hopen : e.committed = false) :
    y.commitLog.flashLog = a ++ [{ e with committed := true }] := by
  simp [YarSt.commitLog, hlog, hvoid, hopen]

/-- Settles O2: time and the queue by `tick_keeps`, and the rest because nothing that `State.tick` asks for waits. -/
theorem idleStepIsOneTick : Obligations.IdleStepIsOneTick := by
  refine ⟨fun s hs => ?_, fun s a e hs hserve hsnap hclover hflash hlog hvoid hopen => ?_⟩
  · obtain ⟨hnow, hpend⟩ := (tick_keeps s).clock
    refine ⟨s.tick, step_idle hs, by simpa using hnow, by simpa [hs] using hpend, fun hserve hsnap hclover hflash => ?_⟩
    have hquiet : s.tick = s.advance 1 := by
      rw [tick_quiet hserve hsnap hclover, State.commitLog, if_neg (by simp [hflash])]
    rw [hquiet]
    exact ⟨s.advance_one, fun h => State.advance_time_kept h 1⟩
  · refine ⟨s.tick, step_idle hs, ?_⟩
    rw [tick_quiet hserve hsnap hclover]
    have hyar : (s.advance 1).commitLog.yar = s.yar.commitLog := by
      simp [State.commitLog, hflash]
    simp [hyar, YarSt.commitLog_newest hlog hvoid hopen]

end Sys2Proof.Machine
end

section
/-! Requests whose arrival ends a session left idle (R260): the mailbox path is not as it was before them. -/

namespace Sys2Proof.Machine

open Sys2Proof

/-- A device that serves, 10 s after the last segment of a mailbox session on a key: the session has not been ended yet. -/
def sessionLeftIdle : State :=
  { State.reset with
    now := 10000000000000
    rst := { State.reset.rst with phase := .running, blockReset := 0, yarBooted := true }
    yar := { State.reset.yar with serving := true }
    od := { State.reset.od with mailbox := { State.reset.od.mailbox with session := some ⟨0x1010, 1, [], 0⟩ } } }

/-- Where a request ends the session left idle, the path is not that before it. -/
theorem mailbox_ne_of_expired {t : State} (h : t.od.mailbox.session = none) :
    t.od.mailbox ≠ sessionLeftIdle.od.mailbox := by
  intro he
  rw [he] at h
  exact absurd h (by decide)

/-- Refutes O36: the request of RESTORE_DEFAULTS ends a session left idle for 10 s before it executes (R260), so that the mailbox path is
not as it was. -/
theorem not_storeAndLogClear : ¬ Obligations.StoreAndLogClear := by
  rintro ⟨-, -, hrestore, -⟩
  obtain ⟨t, ht, ⟨-, hsame, -⟩, -⟩ := hrestore pairHead 1 sessionLeftIdle (by decide +kernel) (by decide +kernel)
  have hended : (sessionLeftIdle.odWrite pairHead 0x1100 2 [1]).od.mailbox.session = none := by decide +kernel
  cases ht
  exact mailbox_ne_of_expired hended hsame

/-- Refutes O37: the request of FACTORY_LOCK ends a session left idle for 10 s before it executes (R260), so that the mailbox path is
not as it was. -/
theorem not_keysAndLocks : ¬ Obligations.KeysAndLocks := by
  rintro ⟨-, -, -, hlock, -⟩
  obtain ⟨t, ht, ⟨-, hsame, -⟩, -⟩ := hlock pairHead 1 true sessionLeftIdle (by decide +kernel) rfl
  cases ht
  exact mailbox_ne_of_expired (by decide +kernel) hsame

/-- `sessionLeftIdle` with the running image in trial. -/
def idleInTrial : State := { sessionLeftIdle with upd := { State.reset.upd with state := .trial } }

/-- Refutes O39: the request of COMMIT ends a session left idle for 10 s before it executes (R260), so that the mailbox path is
not as it was. -/
theorem not_firmwareUpdate : ¬ Obligations.FirmwareUpdate := by
  rintro ⟨-, hcommit, -⟩
  obtain ⟨t, ht, -, -, -, -, hsame, -⟩ :=
    hcommit pairHead 1 true idleInTrial (by decide +kernel) (by decide +kernel) (by decide +kernel) rfl rfl
  cases ht
  exact mailbox_ne_of_expired (by decide +kernel) hsame
/-- `sessionLeftIdle` with a sleep entry in progress. -/
def idleWhileEntering : State := { sessionLeftIdle with pwr := { State.reset.pwr with state := .entering, step := 1 } }

/-- Refutes O41: the request of SLEEP_REQUEST, refused with BUSY, ends a session left idle for 10 s before it executes (R260), so that
the mailbox path is not as it was. -/
theorem not_resetAndSleepWrites : ¬ Obligations.ResetAndSleepWrites := by
  rintro ⟨-, -, -, -, -, -, -, hbusy, -⟩
  obtain ⟨t, ht, hsame, -⟩ := hbusy pairHead idleWhileEntering (by decide +kernel) rfl
  cases ht
  exact mailbox_ne_of_expired (by decide +kernel) hsame

end Sys2Proof.Machine
end

section
/-! The mailbox's SPI target and the timers of the service (R251, R255, R260). -/

namespace Sys2Proof.Machine

open Sys2Proof

/-- What STATUS sends does not change as its poll counts as activity (R255, R297). -/
theorem State.active_mailboxStatus (s : State) : s.active.mailboxStatus = s.mailboxStatus := by
  simp [State.mailboxStatus, State.servesPath, State.loaderOn, State.loaderLink]

theorem State.modPath_mailbox_od (s : State) (f : PathSt → PathSt) :
    (s.modPath .mailbox f).od = { s.od with mailbox := f s.od.mailbox } := rfl

/-- Settles O45: each command of the SPI target and each timer changes its own part of the dictionary's service. -/
theorem mailboxAndTimers : Obligations.MailboxAndTimers := by
  unfold Obligations.MailboxAndTimers
  refine ⟨?kept, ?rejected, ?read, ?status, ?lockout, ?session⟩
  case kept =>
    intro len image s hup hmin hmax hfree hserve
    have hlen : ¬(len < 28 ∨ 9224 < len) := by omega
    have hserve' : s.active.servesPath .mailbox = false := by
      simpa [State.servesPath, State.loaderOn, State.loaderLink] using hserve
    refine ⟨_, rfl, ?_⟩
    simp [hup, hlen, State.mailboxArrive, hfree, hserve']
  case rejected =>
    intro len image s hup hbad
    refine ⟨_, rfl, ?_⟩
    by_cases hlen : len < 28 ∨ 9224 < len
    · simp [hup, hlen]
    · have hkept : s.od.mbxReq.isSome = true := by tauto
      simp [hup, hlen, State.mailboxArrive, hkept]
  case read =>
    intro s img hup hrsp
    refine ⟨_, rfl, ?_⟩
    simp [hup, hrsp]
  case status =>
    intro s hup
    refine ⟨_, rfl, ?_⟩
    simp [hup, State.active_mailboxStatus]
  case lockout =>
    intro dt a s hlock ha
    refine ⟨_, rfl, ?_⟩
    simp [hlock, ha]
  case session =>
    intro dt s x hx hidle
    refine ⟨_, rfl, ?_⟩
    simp [State.modPath_mailbox_od, PathSt.expire, hx, hidle]

end Sys2Proof.Machine
end

section
/-! The commands of Tansy, which are served writes that are accepted. -/

namespace Sys2Proof.Machine

open Sys2Proof

/-! ### A served write that is accepted (R204, R247) -/

@[simp] theorem State.statusIfChanged_tansy (t s : State) (plan : Bool) : (t.statusIfChanged s plan).tansy = t.tansy := by
  unfold State.statusIfChanged
  split <;> simp

/-- A served WRITE whose entry's write makes `t` of the state at the request with abort code `c`, and leaves the service of requests: what
follows is STATUS, where what it names has changed, and the answer. -/
theorem odWrite_effect {h : OdHead} {index sub : Nat} {data : List Byte} {s t : State} {ob : Obj} {c : Nat}
    (hs : OdServed h 2 index sub data s) (hob : objOf index = some ob)
    (hw : ∀ row q, ob.row sub = some row → s.atRequest.writeValue q ob sub (row.ty.value data) = (c, t))
    (hod : t.od = s.atRequest.od) (hserve : t.yar.serving = s.yar.serving) (hblocks : t.rst.blockReset = s.rst.blockReset)
    (hc : c ≠ abBusy) :
    ∃ m img, s.odWrite h index sub data = (t.statusIfChanged s.atRequest true).answered m img ∧
      Recorded h c ((t.statusIfChanged s.atRequest true).answered m img) := by
  obtain ⟨-, -, hup, -, hserving, -, htask, -⟩ := hs.1
  exact odWrite_answered hs hob (fun row hrow => by simp only [State.writeEntry, hw row _ hrow]) (by simp [hod, htask])
    (by simp [hserve, hserving]) (by simpa [State.blockUp, hblocks] using State.blockUp_of_mailboxUp hup) hc

/-! ### TANSY_CMD (R311 to R313, R323, R324) -/

/-- TANSY_CMD is a byte. -/
theorem tansyCmd_value {row : Row} (h : Obj.mem.row 0x11 = some row) (v : Byte) : (row.ty.value [v]).toNat = v.toNat := by
  obtain rfl : (⟨0x11, .uint 1, .wo, 2, .span 1 4⟩ : Row) = row := Option.some.inj h
  simp [OTy.value, leNat]

/-- What a pass over stored words leaves while Tansy scrubs: the dictionary's service, firmware and the resets, the array's bytes, and the
pass itself with its start. -/
structure Scrubs (s t : State) : Prop where
  od : t.od = s.od
  yar : t.yar = s.yar
  rst : t.rst = s.rst
  cells : t.mem.cells = s.mem.cells
  scrubbing : t.tansy.scrubbing = s.tansy.scrubbing
  scrubStart : t.tansy.scrubStart = s.tansy.scrubStart

namespace Scrubs

variable {s t u : State}

theorem refl (s : State) : Scrubs s s := ⟨rfl, rfl, rfl, rfl, rfl, rfl⟩

theorem trans (h : Scrubs s t) (k : Scrubs t u) : Scrubs s u :=
  ⟨k.od.trans h.od, k.yar.trans h.yar, k.rst.trans h.rst, k.cells.trans h.cells, k.scrubbing.trans h.scrubbing,
    k.scrubStart.trans h.scrubStart⟩

theorem foldl {α : Type} {f : State → α → State} (hf : ∀ u a, Scrubs u (f u a)) (l : List α) (s : State) :
    Scrubs s (l.foldl f s) := by
  induction l generalizing s with
  | nil => exact .refl s
  | cons a l ih => exact (hf s a).trans (ih _)

theorem queueRepair (s : State) (b row col : Nat) : Scrubs s (s.queueRepair b row col) := by
  refine ⟨by simp, by simp, by simp, by simp, ?_, ?_⟩ <;>
    simp only [State.queueRepair, State.modTansy_tansy] <;> repeat' split
  all_goals rfl

theorem setLastUe (s : State) (v : W32) : Scrubs s (s.setLastUe v) := by
  unfold State.setLastUe
  constructor <;> simp

theorem noteRead (s : State) (l : Loc) (p : Nat) (r : WordRd) : Scrubs s (s.noteRead l p r) := by
  unfold State.noteRead
  split
  · exact (setLastUe _ _).trans (queueRepair _ _ _ _)
  · split
    · constructor <;> simp
    · exact refl s

theorem countRead (s : State) (l : Loc) (p : Nat) (r : WordRd) : Scrubs s (s.countRead l p r) := by
  refine (noteRead s l p r).trans ?_
  unfold State.countRead
  dsimp only
  repeat' split
  all_goals constructor <;> simp

theorem noteCorrected (s : State) (key : Nat) : Scrubs s (s.modTansy fun t => t.noteCorrected key) := by
  constructor <;> simp [TansySt.noteCorrected]

theorem scrubWord (s : State) (w : Loc × Nat) : Scrubs s (s.scrubWord w) := by
  have hread := countRead s w.1 w.2 (readWordAt s.mem (s.phys w.1))
  have hnote := hread.trans (noteCorrected _ ((s.countRead w.1 w.2 (readWordAt s.mem (s.phys w.1))).phys w.1))
  unfold State.scrubWord State.passWord
  dsimp only
  split
  · exact refl s
  · split
    · split
      · exact hnote.trans (queueRepair _ _ _ _)
      · exact hnote
    · exact hread

end Scrubs

/-- A scrub pass that starts is under way from then on, and leaves the array's bytes and the service of requests. -/
theorem State.startScrub_begun (s : State) :
    s.startScrub.od = s.od ∧ s.startScrub.yar = s.yar ∧ s.startScrub.rst = s.rst ∧
    s.startScrub.mem.cells = s.mem.cells ∧ s.startScrub.tansy.scrubbing = true ∧
    s.startScrub.tansy.scrubStart = some s.now := by
  have hread : ∀ (l : List (Loc × Nat)) (u : State), Scrubs u (l.foldl State.scrubWord u) := Scrubs.foldl Scrubs.scrubWord
  unfold State.startScrub
  refine ⟨(hread _ _).od.trans ?_, (hread _ _).yar.trans ?_, (hread _ _).rst.trans ?_, (hread _ _).cells.trans ?_,
    (hread _ _).scrubbing.trans ?_, (hread _ _).scrubStart.trans ?_⟩
  all_goals simp [State.skipBlocks]

/-- What TANSY_CMD and REPAIR_CLEAR ask of the state does not change with the arrival of the request. -/
theorem State.atRequest_tansyUp (s : State) : s.atRequest.tansyUp = s.tansyUp := by
  simp [State.tansyUp, State.blockUp]

theorem State.atRequest_allDisabled (s : State) : s.atRequest.allDisabled = s.allDisabled := by
  simp [State.allDisabled]

theorem State.atRequest_memOpen (s : State) : s.atRequest.memOpen = s.memOpen := by
  simp [State.memOpen]

/-- A command that Tansy takes has its effect (R311, R324). -/
theorem State.writeTansy_accepted {s : State} {v : Nat} (hup : s.tansyUp = true)
    (hoff : v = 1 → s.allDisabled = true ∧ s.anyArea = false) (hopen : v ≠ 4 → s.memOpen = true)
    (hfree : (v = 1 → s.marching = false) ∧ (v = 2 → s.tansy.preserving = false) ∧ (v = 3 → s.tansy.scrubbing = false)) :
    s.writeTansy v = ok (s.applyTansy v) := by
  obtain ⟨hmarch, hpreserve, hscrub⟩ := hfree
  unfold State.writeTansy
  grind only

/-- A served TANSY_CMD that Tansy takes: the array, Tansy and the record of the request. -/
theorem tansyCmd_effect {h : OdHead} {v : Byte} {s t : State} (hs : OdServed h 2 0x8000 0x11 [v] s)
    (hw : s.atRequest.writeTansy v.toNat = ok t) (hod : t.od = s.atRequest.od) (hyar : t.yar = s.yar) (hrst : t.rst = s.rst) :
    (s.odWrite h 0x8000 0x11 [v]).tansy = t.tansy ∧ (s.odWrite h 0x8000 0x11 [v]).mem = t.mem ∧
      Recorded h 0 (s.odWrite h 0x8000 0x11 [v]) := by
  obtain ⟨m, img, hx, hrec⟩ := odWrite_effect (c := 0) (t := t) hs (objOf_index .mem)
    (fun row q hrow => by simp only [State.writeValue, tansyCmd_value hrow, State.writeMem, hw, ok])
    hod (by rw [hyar]) (by rw [hrst]) (by decide)
  rw [hx]
  exact ⟨by simp, by simp, hrec⟩

/-- Settles O35: each is a served write of TANSY_CMD or of REPAIR_CLEAR that is accepted. -/
theorem tansyCommands : Obligations.TansyCommands := by
  unfold Obligations.TansyCommands
  refine ⟨?destructive, ?preserving, ?scrub, ?stop, ?clear⟩
  case destructive =>
    intro h s hs hup hoff harea hopen hmarch
    obtain ⟨htansy, hmem, hrec⟩ := tansyCmd_effect hs
      (State.writeTansy_accepted (by rwa [State.atRequest_tansyUp])
        (fun _ => ⟨by rwa [State.atRequest_allDisabled], by simpa [State.anyArea] using harea⟩)
        (fun _ => by rwa [State.atRequest_memOpen])
        ⟨fun _ => by simpa [State.marching, State.destructiveMarch] using hmarch, (fun h => absurd h (by decide)), (fun h => absurd h (by decide))⟩)
      (by simp [State.applyTansy]) (by simp [State.applyTansy]) (by simp [State.applyTansy])
    refine ⟨_, rfl, ?_, ?_, ?_, hrec⟩
    · simp [htansy, State.applyTansy]
    · simp [hmem, State.applyTansy]
    · simp [State.memOpen, hmem, State.applyTansy]
  case preserving =>
    intro h s hs hup hopen hfree
    obtain ⟨htansy, hmem, hrec⟩ := tansyCmd_effect hs
      (State.writeTansy_accepted (by rwa [State.atRequest_tansyUp]) (fun h => absurd h (by decide)) (fun _ => by rwa [State.atRequest_memOpen])
        ⟨(fun h => absurd h (by decide)), fun _ => by simpa using hfree, (fun h => absurd h (by decide))⟩)
      (by simp [State.applyTansy]) (by simp [State.applyTansy]) (by simp [State.applyTansy])
    refine ⟨_, rfl, ?_, ?_, hrec⟩
    · simp [htansy, State.applyTansy]
    · simp [hmem, State.applyTansy]
  case scrub =>
    intro h s hs hup hopen hfree
    obtain ⟨hod, hyar, hrst, hcells, hscrub, hstart⟩ := s.atRequest.startScrub_begun
    have happly : s.atRequest.applyTansy 3 = s.atRequest.startScrub := rfl
    obtain ⟨htansy, hmem, hrec⟩ := tansyCmd_effect hs
      (State.writeTansy_accepted (by rwa [State.atRequest_tansyUp]) (fun h => absurd h (by decide)) (fun _ => by rwa [State.atRequest_memOpen])
        ⟨(fun h => absurd h (by decide)), (fun h => absurd h (by decide)), fun _ => by simpa using hfree⟩)
      hod (hyar.trans (by simp)) (hrst.trans (by simp))
    refine ⟨_, rfl, ?_, ?_, ?_, hrec⟩
    · exact (congrArg TansySt.scrubbing htansy).trans hscrub
    · exact (congrArg TansySt.scrubStart htansy).trans (hstart.trans (by simp))
    · exact (congrArg MemSt.cells hmem).trans (hcells.trans (by simp))
  case stop =>
    intro h s hs hup hpreserving
    obtain ⟨htansy, hmem, hrec⟩ := tansyCmd_effect hs
      (State.writeTansy_accepted (by rwa [State.atRequest_tansyUp]) (fun h => absurd h (by decide)) (fun h => absurd h (by decide)) ⟨(fun h => absurd h (by decide)), (fun h => absurd h (by decide)), (fun h => absurd h (by decide))⟩)
      (by simp [State.applyTansy, hpreserving]) (by simp [State.applyTansy, hpreserving])
      (by simp [State.applyTansy, hpreserving])
    refine ⟨_, rfl, ?_, ?_, hrec⟩
    · simp [htansy, State.applyTansy, hpreserving]
    · simp [hmem, State.applyTansy, hpreserving]
  case clear =>
    intro h v s hs hoff hflash
    obtain ⟨m, img, hx, hrec⟩ := odWrite_effect (c := 0)
      (t := s.atRequest.modTansy fun t => { t with fieldLog := [] }) hs (objOf_index .mem)
      (fun row q hrow => by
        have hwritable : s.atRequest.flashWritable = true := by simpa [State.flashWritable, State.blockUp] using hflash
        simp [State.writeValue, State.writeMem, guarded, State.atRequest_allDisabled, hoff, hwritable])
      (by simp) (by simp) (by simp) (by decide)
    exact ⟨_, congrArg Host.Outcome.next hx, by simp, by simp, hrec⟩

end Sys2Proof.Machine
end

section
/-! A descriptor that a raw channel in HELD refuses: its waiting bytes count as well (R88, R233). -/

namespace Sys2Proof.Machine

open Sys2Proof

/-- A descriptor of one unit: its source the start of SRAM, its destination the aperture of channel 0, in words. -/
def sramToAperture : Nat := 0x2000000 * 2 ^ 12 + 0x2800000 * 2 ^ 38

/-- A raw channel that Yarrow feeds, in HELD, with a byte that waits for its word. -/
def rawHeld : Chan :=
  let c := State.reset.chan 0
  { c with cfg := { c.cfg with cls := .raw, producer := .yarrow }, state := .held, rawBuf := [1#8] }

/-- A device whose YDMA has a descriptor from SRAM to the aperture of the raw channel 0, in HELD with a byte that waits. -/
def rawHeldAperture : State :=
  { State.reset with
    rst := { State.reset.rst with phase := .running, blockReset := 0, yarBooted := true }
    mem := { State.reset.mem with clearState := 2 }
    yar := { State.reset.yar with sram := storeBytes [] 0x30000 (leBytes sramToAperture 32) }
    ch := State.reset.ch.set 0 rawHeld }

/-- The descriptor is refused, and the byte that waits is dropped and counted as refused in its turn. -/
theorem rawHeldAperture_stateRefused {t : State} (h : exec (.ydmaDescriptor true 0 0) rawHeldAperture = .next t) :
    (t.chan 0).cnt.stateRefused = 2 := by
  cases h
  decide +kernel

/-- Refutes O52: at the end of a descriptor that a raw channel in HELD refuses, the bytes that wait for the tail commit are dropped, and
STATE_REFUSED counts once for the unit and once more for them (R58, R88, R233). -/
theorem not_ydmaMoves : ¬ Obligations.YdmaMoves := by
  rintro ⟨-, -, -, -, -, -, -, -, hrefused, -⟩
  obtain ⟨t, ht, -, hcount, -⟩ := hrefused 0 0 sramToAperture 0 rawHeldAperture 0 (by decide +kernel) (by decide +kernel)
    (by decide +kernel) (by decide +kernel) (.inl rfl)
  rw [rawHeldAperture_stateRefused ht] at hcount
  exact absurd hcount (by decide +kernel)

end Sys2Proof.Machine
end

section
/-! Statements of O56 to O59 that their clauses' own premises do not carry: a hold that ends within the command's time, a BYE that waits behind, a fence entry deferred behind an aperture, a link that is UP with ENABLE off. -/

namespace Sys2Proof.Machine

open Sys2Proof

/-! ### O56 -/

/-- A device that runs, with Yarrow's domain held by a source of narrower reach for 1 ps more, and no sample taken yet. -/
def heldAMoment : State :=
  { State.reset with rst := { State.reset.rst with phase := .running, blockReset := 0, yarBooted := true, yarUntil := 1 } }

/-- A sample that reads 900 mV at VIN. -/
def lowVin : Sensors := ⟨[900], [], true, 0, 0, 0, 0, 0, 0, true⟩

/-- The hold ends within the 1.25 ms that pass before the sample, which is taken. -/
theorem sensorSample_heldAMoment {t : State} (h : exec (.sensorSample 1000000 lowVin) heldAMoment = .next t) :
    t.yar.supply = [900] := by
  cases h
  decide +kernel

/-- Refutes O56: the clause of a sample that is not taken asks whether Yarrow is held before the time of the command passes, and where the
hold ends within that time, the sample is taken. -/
theorem not_loopsAndLevels : ¬ Obligations.LoopsAndLevels := by
  rintro ⟨-, -, -, -, -, -, -, -, -, -, -, -, -, -, -, -, hheld, -⟩
  obtain ⟨t, ht, hsame⟩ := hheld 1000000 lowVin heldAMoment (.inl (by decide))
  have hsupply : t.yar.supply = heldAMoment.yar.supply := by
    rw [hsame, show ({ heldAMoment.advance 1000000 with pwr := _ } : State).yar = (heldAMoment.advance 1000000).yar from rfl]
    decide
  rw [sensorSample_heldAMoment ht] at hsupply
  exact absurd hsupply (by decide)

/-! ### O57 -/

/-- The frames that leave as PWRDN_N falls: the BYE that waits in rank 5 leaves after the three copies. -/
theorem pwrdnFall_byeBehind_sent {t : State} (h : exec .pwrdnFall byeBehind = .next t) :
    t.link.sent =
      [plainFrame 13 [1#8] [], plainFrame 13 [1#8] [], plainFrame 13 [1#8] [], plainFrame 13 [3#8] []] := by
  cases h
  decide +kernel

/-- Refutes O57: the clause of PWRDN_FALL takes any strict frames that wait, and where one of them is a BYE of a later rank, it leaves
after the three copies, which then are not the last frames sent (R177, R305). -/
theorem not_sleepStates : ¬ Obligations.SleepStates := by
  rintro ⟨-, -, -, -, -, -, -, -, -, -, -, -, -, -, hfall, -⟩
  obtain ⟨t, ht, -, -, ⟨pre, hthrice, -⟩, -⟩ := hfall byeBehind rfl (by decide) rfl
  rw [pwrdnFall_byeBehind_sent ht] at hthrice
  have hlast : some (plainFrame 13 [3#8] []) = some (plainFrame 13 [1#8] []) := by
    simpa [List.getLast?_append] using congrArg List.getLast? hthrice
  exact absurd hlast (by decide)

/-! ### O58 -/

/-- `fenceBehindRp` with Yarrow as the producer of the raw channel, a byte that waits for its word, and a descriptor to the channel's
aperture in progress. -/
def fenceBehindAperture : State :=
  let y := fenceBehindRp.yar.ydma.get 0
  { fenceBehindRp.modCh 0 fun c => { c with cfg := { c.cfg with producer := .yarrow }, rawBuf := [1#8] } with
    rst := { fenceBehindRp.rst with phase := .running, yarBooted := true }
    yar := { fenceBehindRp.yar with
      ydma := fenceBehindRp.yar.ydma.set 0 { y with active := true, started := true, d := 0xA000000 } } }

/-- The reset ends the chain, which discards the byte; LP passes the fenced word, 127 words are left, and the channel is in FAULT. -/
theorem lockup_fenceBehindAperture {t : State} (h : exec .lockup fenceBehindAperture = .next t) : (t.chan 0).state = .fault := by
  cases h
  decide +kernel

/-- Refutes O58: a Yarrow reset ends a YDMA chain with what its aperture holds open (R234, R238), and where a deferred fence entry takes
effect by it and leaves fewer than 128 words, the channel enters FAULT (R46, R49). -/
theorem not_resetSources : ¬ Obligations.ResetSources := by
  rintro ⟨-, -, -, -, -, -, -, -, -, -, -, -, -, -, -, hlockup⟩
  obtain ⟨t, ht, ⟨-, -, -, -, -, -, hstates, -⟩, -⟩ := hlockup fenceBehindAperture (by decide) (by decide)
  have hactive : (t.chan 0).state = .active := (hstates 0).trans (by decide)
  rw [lockup_fenceBehindAperture ht] at hactive
  exact absurd hactive (by decide)

/-! ### O59 -/

/-- A device on the RC oscillator whose link is UP though ENABLE is off, with a lock slot that the link's partner owns. -/
def upUnenabled : State :=
  { State.reset with
    rst := { State.reset.rst with phase := .running, blockReset := 0, yarBooted := true }
    yar := { State.reset.yar with refclk := true }
    link := { State.reset.link with state := .up, enable := false }
    mem := { State.reset.mem with locks := State.reset.mem.locks.set 0 ⟨.lr, false⟩ } }

/-- What PLL_SWITCH makes of it. -/
def upSwitched : State :=
  (({ upUnenabled with pwr := { State.reset.pwr with clkSource := 1, pllLocked := true, clkfailArmed := true } } : State).applyLinkEnable
    false).startTraining

/-- ENABLE is applied anew on the PLL, and the link that goes OFF frees its lock. -/
theorem pllSwitch_upUnenabled {t : State} (h : exec .pllSwitch upUnenabled = .next t) :
    (t.mem.locks.get 0).owner = .free := by
  have hrun : exec .pllSwitch upUnenabled = .next upSwitched :=
    congrArg Host.Outcome.next ((if_pos (by decide)).trans (if_neg (by decide)))
  obtain rfl : upSwitched = t := Host.Outcome.next.inj (hrun.symm.trans h)
  decide +kernel

/-- Refutes O59: the clause of PLL_SWITCH takes any link, and one that is UP with ENABLE off goes OFF as ENABLE is applied on the root
PLL, which frees the locks of the link (R36, R160). -/
theorem not_startUp : ¬ Obligations.StartUp := by
  rintro ⟨-, -, -, -, -, -, -, hswitch, -⟩
  obtain ⟨t, ht, -, -, hmem, -⟩ := hswitch upUnenabled (by decide) (by decide) (by decide) rfl rfl
  have howner := pllSwitch_upUnenabled ht
  rw [hmem] at howner
  exact absurd howner (by decide)

end Sys2Proof.Machine
end

section
/-! A request is executed once (R249, R250, R252, R253): the image of a response, and a request of the LINK path from its frame to its execution. -/

namespace Sys2Proof.Machine

open Sys2Proof

/-! ### The response in the mailbox (R245, R252, R255) -/

/-- The image of a response to a request from the mailbox (R255). -/
def responseImage (svc reqseq : Nat) (data mac : List Byte) : List Byte :=
  leBytes 0 1 ++ leBytes (svc % 128 + 128) 1 ++ leBytes reqseq 2 ++ zeros 4 ++ data ++ mac

/-- Where ST_IF runs, a response by the mailbox's path is the image that waits in the mailbox, and nothing else changes. -/
theorem State.reply_mailbox {s : State} (hup : s.blockUp 18 = true) (svc reqseq : Nat) (data mac : List Byte) :
    s.reply .mailbox svc reqseq data mac = s.modOd fun o => { o with mbxRsp := some (responseImage svc reqseq data mac) } :=
  if_pos hup

/-- REQSEQ stands behind two bytes of the image. -/
theorem responseImage_reqseq (svc reqseq : Nat) (data mac : List Byte) :
    leField (responseImage svc reqseq data mac) 2 2 = reqseq % 65536 := by
  have hfront : (leBytes 0 1 ++ leBytes (svc % 128 + 128) 1).length = 2 := by simp
  simp only [responseImage, List.append_assoc]
  rw [← List.append_assoc, leField_append_right (by omega), hfront, leField_append_left (by simp), leField_leBytes]
  rfl

/-- The data stand behind eight bytes of the image. -/
theorem responseImage_data (svc reqseq : Nat) (data mac : List Byte) (i n : Nat) :
    leField (responseImage svc reqseq data mac) (8 + i) n = leField (data ++ mac) i n := by
  have hhead : (leBytes 0 1 ++ leBytes (svc % 128 + 128) 1 ++ leBytes reqseq 2 ++ zeros 4).length = 8 := by simp [zeros]
  rw [responseImage, List.append_assoc, leField_append_right (by omega), hhead, Nat.add_sub_cancel_left]

/-- The abort code stands behind six bytes of the data of a response under service 01h (R245). -/
theorem Req.rdata_abort {r : Req} {o : OdReq} (hask : r.ask = .od o) (a : Reply) (mac : List Byte) :
    leField (r.rdata a ++ mac) 6 2 = a.abort % 65536 := by
  have hdata : r.rdata a = (leBytes o.op 1 ++ leBytes r.keysel 1 ++ leBytes o.index 2 ++ leBytes o.sub 1 ++
      leBytes (natOfBits [a.last, a.noData]) 1) ++ (leBytes a.abort 2 ++
      (leBytes o.offset 4 ++ leBytes a.total 4 ++ leBytes a.data.length 2 ++ leBytes 0 2 ++ a.data)) := by
    simp only [Req.rdata, hask, List.append_assoc]
  have hfront : (leBytes o.op 1 ++ leBytes r.keysel 1 ++ leBytes o.index 2 ++ leBytes o.sub 1 ++
      leBytes (natOfBits [a.last, a.noData]) 1).length = 6 := by simp
  rw [hdata, List.append_assoc, leField_append_right (by omega), hfront, List.append_assoc, leField_append_left (by simp),
    leField_leBytes]
  rfl

/-- A WRITE from the mailbox that its place in the sequence does not let run ends with a response: the service is `f` of the service
before, and of the rest of the device only the power controller changes (R252, R297). -/
theorem Attended.answers {h : OdHead} {index sub : Nat} {data : List Byte} {s : State} {f : OdSt → OdSt} (ha : Attended h s)
    (svc reqseq : Nat) (rdata mac : List Byte)
    (hsequence : ∀ run, s.active.sequence .mailbox (headReq h 2 index sub data) none run =
      (s.active.modOd f).reply .mailbox svc reqseq rdata mac) :
    Completes (.objectWrite h index sub data) s fun t =>
      t.od = { f s.od with mbxRsp := some (responseImage svc reqseq rdata mac) } ∧
      t.ch = s.ch ∧ t.mem = s.mem ∧ t.time = s.time ∧ t.link = s.link ∧ t.upd = s.upd ∧ t.rst = s.rst := by
  obtain ⟨-, -, hup, -⟩ := id ha
  have hst : (s.active.modOd f).blockUp 18 = true := State.blockUp_of_mailboxUp (s := s) hup
  refine .of_eq (congrArg Host.Outcome.next (ha.odCommand 2 index sub data)) ⟨_, rfl, ?_⟩
  rw [hsequence, State.reply_mailbox hst]
  exact ⟨rfl, rfl, rfl, rfl, rfl, rfl, rfl⟩

/-- The same with data that carry an abort code, where only the response and `f` tell the service from that before. -/
theorem Attended.answersAbort {h : OdHead} {index sub : Nat} {data : List Byte} {s : State} {f : OdSt → OdSt} (ha : Attended h s)
    (a : Reply) (mac : List Byte)
    (hsequence : ∀ run, s.active.sequence .mailbox (headReq h 2 index sub data) none run =
      (s.active.modOd f).reply .mailbox 1 h.reqseq ((headReq h 2 index sub data).rdata a) mac) :
    Completes (.objectWrite h index sub data) s fun t =>
      t.od = { f s.od with mbxRsp := t.od.mbxRsp } ∧
      (∃ img, t.od.mbxRsp = some img ∧ leField img 14 2 = a.abort % 65536 ∧ leField img 2 2 = h.reqseq % 65536) ∧
      t.ch = s.ch ∧ t.mem = s.mem ∧ t.time = s.time ∧ t.link = s.link ∧ t.upd = s.upd ∧ t.rst = s.rst := by
  obtain ⟨t, ht, hod, hrest⟩ := ha.answers 1 h.reqseq _ mac hsequence
  refine ⟨t, ht, by simp [hod], ⟨_, congrArg (·.mbxRsp) hod, ?_, responseImage_reqseq ..⟩, hrest⟩
  exact (responseImage_data _ _ _ _ 6 2).trans (Req.rdata_abort rfl a mac)

/-! ### Requests of the LINK path (R163, R247, R249) -/

theorem headReq_sdata_length (h : OdHead) (op index sub : Nat) (data : List Byte) :
    (headReq h op index sub data).sdata.length = 20 + data.length := by
  simp [headReq, Req.sdata]
  omega

/-- A request of the LINK path whose service is free is served at once (R248). -/
theorem State.takeLink_serves {s : State} {r : Req} (haddr : r.addr = 0) (hserve : s.yar.serving = true)
    (hload : s.yar.loader = false) (hlock : s.lockedOut = false) (htask : s.od.task = none) (hqueue : s.od.queue = [])
    (q : WCtx) : s.takeLink q r = s.serveLink q r := by
  simp [State.takeLink, haddr, State.servesPath, hserve, hlock, State.enterRequest, hqueue, htask, State.serve, hload]

/-- A WRITE of the LINK path that arrives in sequence and is free to be served: what serving it leaves, on the state that the accepted
frame leaves. -/
theorem linkWrite_served {h : OdHead} {m : RxMeta} {seq wlow index sub : Nat} {data : List Byte} {s : State}
    (hsrc : h.src = .link m seq wlow) (haddr : h.addr = 0) (hrx : RxTaken m (28 + data.length) s) (hseq : InSequence seq wlow s)
    (hserve : s.yar.serving = true) (hload : s.yar.loader = false) (hlock : s.lockedOut = false) (htask : s.od.task = none)
    (hqueue : s.od.queue = []) :
    ∃ p a strict q, exec (.objectWrite h index sub data) s =
      .next (((s.accepted p a strict).serveLink q (headReq h 2 index sub data)).serveFaults s) := by
  have hlength : (headReq h 2 index sub data).sdata.length + 8 = 28 + data.length := by
    rw [headReq_sdata_length]
    omega
  obtain ⟨p, a, strict, hact, -⟩ := State.arqReceive_inSequence hseq (fun _ => false) fun u =>
    u.takeLink { entering := s.pwr.state == .entering, readBack := true } (headReq h 2 index sub data)
  refine ⟨p, a, strict, { entering := s.pwr.state == .entering, readBack := true }, congrArg Host.Outcome.next ?_⟩
  rw [State.odCommand, hsrc, State.arrive, hlength]
  rw [State.receivedUp_taken hrx, hact, State.takeLink_serves (s := s.accepted p a strict) haddr hserve hload hlock htask hqueue]

/-- An executed request of the LINK path is recorded as its last one, unless it was answered BUSY; channels and TIME stand (R253). -/
theorem State.complete_link (s : State) (r : Req) {a : Reply} (data mac : List Byte) (h : a.abort ≠ abBusy) :
    (s.complete .link r a data mac).od.link.last = some r.reqseq ∧ (s.complete .link r a data mac).od.link.lastAbort = a.abort ∧
    (s.complete .link r a data mac).ch = s.ch ∧ (s.complete .link r a data mac).time = s.time := by
  simp only [State.complete, h, if_false]
  split
  · simp only [State.reply]
    split <;> simp [State.modPath]
  · simp [State.modPath]

/-- SYNC_PERIOD takes the number that the data stand for (R201). -/
theorem syncPeriod_written {row : Row} (hrow : Obj.time.row 2 = some row) (q : WCtx) (data : List Byte) (s : State) :
    s.writeEntry q .time 2 (row.ty.value data) = (0, s.modTime fun t => { t with syncPeriod := leNat data }) := by
  have hvalue : (row.ty.value data).toNat = leNat data := by
    obtain rfl : (⟨0x02, .uint 4, .rws, 1, .span 125 1000000⟩ : Row) = row := Option.some.inj hrow
    simp [OTy.value]
  have hquiet : Unnoticed s (s.modTime fun t => { t with syncPeriod := leNat data }) := {}
  simp only [State.writeEntry, State.writeValue, State.writeTime, hvalue, ok, hquiet.statusIfChanged]

/-- A request whose MAC verifies is judged by its place in the sequence, and is performed where that lets it (R249, R252). -/
theorem State.serveLink_verified {s : State} {r : Req} (hkey : r.keysel ≠ 0) (hmac : s.macOk r = true) (q : WCtx) :
    s.serveLink q r = s.sequence .link r (s.keyOf r.keysel) fun u => u.perform q .link r (s.keyOf r.keysel) := by
  have hauth : r.unauth = false := by simp [Req.unauth, hkey]
  simp only [State.serveLink, hauth, hmac, Bool.not_true, Bool.false_eq_true, if_false]

/-- A request whose MAC does not verify is counted and turned away (R249, R250). -/
theorem State.serveLink_unverified {s : State} {r : Req} (hkey : r.keysel ≠ 0) (hmac : s.macOk r = false) (q : WCtx) :
    s.serveLink q r = (s.authFailed r.reqseq).turnAway .link r (s.keyOf r.keysel) abAuth := by
  have hauth : r.unauth = false := by simp [Req.unauth, hkey]
  simp only [State.serveLink, hauth, hmac, Bool.not_false, Bool.false_eq_true, if_false, if_true]

/-- A failed MAC is counted, and no path records it. -/
theorem State.authFailed_od (s : State) (reqseq : Nat) :
    (s.authFailed reqseq).od.authFail = inc32 s.od.authFail ∧ (s.authFailed reqseq).od.link = s.od.link := by
  unfold State.authFailed
  dsimp only
  split <;> simp

/-- What turning a request of the LINK path away leaves: the response is a frame that waits for the link. -/
theorem State.turnAway_link (s : State) (r : Req) (key : Option (List Byte)) (code : Nat) :
    (s.turnAway .link r key code).od = s.od ∧ (s.turnAway .link r key code).time = s.time ∧
    (s.turnAway .link r key code).ch = s.ch ∧ (s.turnAway .link r key code).mem = s.mem := by
  unfold State.turnAway
  dsimp only [State.reply]
  split <;> simp

/-- A verified WRITE of SYNC_PERIOD that may run: the period is the one written, the request is the last one of the path, and channels
stand. -/
theorem State.serveLink_syncPeriod {s : State} {h : OdHead} {data : List Byte} {o : OdReq} (q : WCtx)
    (hserve : s.od.link.judge h.reqseq = .run) (hask : (headReq h 2 0x5000 2 data).ask = .od o) (hkey : h.keysel ≠ 0)
    (hmac : s.macOk (headReq h 2 0x5000 2 data) = true) (hcheck : s.odCheck .link h.keysel o = 0) (htask : s.od.task = none) :
    (s.serveLink q (headReq h 2 0x5000 2 data)).time.syncPeriod = leNat data ∧
    (s.serveLink q (headReq h 2 0x5000 2 data)).od.link.last = some h.reqseq ∧
    (s.serveLink q (headReq h 2 0x5000 2 data)).od.link.lastAbort = 0 ∧
    (s.serveLink q (headReq h 2 0x5000 2 data)).ch = s.ch := by
  cases hask
  obtain ⟨row, hrow⟩ := State.row_of_odCheck (objOf_index .time) hcheck
  have heffect := fun q => State.odRun_write (q := q) (r := headReq h 2 0x5000 2 data) rfl hcheck (objOf_index .time) hrow
    (syncPeriod_written hrow q data s.expired)
  have hjudge : (s.od.path .link).judge (headReq h 2 0x5000 2 data).reqseq = .run := hserve
  rw [State.serveLink_verified hkey hmac, State.sequence, hjudge]
  dsimp only [State.perform, headReq] at heffect ⊢
  rw [heffect]
  have hstep : (s.expired.modTime fun t => { t with syncPeriod := leNat data }).od.task = none := htask
  rw [if_neg (by rw [hstep]; simp)]
  obtain ⟨hlast, habort, hch, htime⟩ := State.complete_link (s.expired.modTime fun t => { t with syncPeriod := leNat data })
    (headReq h 2 0x5000 2 data) (a := .refuse 0) _ _ (by decide)
  exact ⟨congrArg (·.syncPeriod) htime, hlast, habort, hch⟩

/-- Settles O44. A request from the mailbox that may not run ends with a response and nothing else; one of the LINK path is served on the
state that its accepted frame leaves, which has the service, the keys and TIME of the state before. -/
theorem requestsOnce : Obligations.RequestsOnce := by
  unfold Obligations.RequestsOnce
  refine ⟨?cached, ?refused, ?again, ?verified, ?unverified⟩
  case cached =>
    intro h index sub data s r ha hjudge
    have hjudge' : (s.active.od.path .mailbox).judge (headReq h 2 index sub data).reqseq = .cached r := hjudge
    exact ha.answers r.svc r.reqseq r.data r.mac fun run => by rw [State.sequence, hjudge']
  case refused =>
    intro h index sub data s ha hjudge
    have hjudge' : (s.active.od.path .mailbox).judge (headReq h 2 index sub data).reqseq = .refuse := hjudge
    exact ha.answersAbort (f := fun o => { o with seqReject := inc32 o.seqReject }) (.refuse abSeq) _ fun run => by
      rw [State.sequence, hjudge']
      rfl
  case again =>
    intro h index sub data s code ha hjudge
    have hjudge' : (s.active.od.path .mailbox).judge (headReq h 2 index sub data).reqseq = .again code := hjudge
    exact ha.answersAbort (f := id) { abort := code, noData := true } _ fun run => by
      rw [State.sequence, hjudge']
      rfl
  case verified =>
    intro h m seq wlow data s o hsrc haddr hrx hseq hserve hload hlock htask hqueue hjudge hask hkey hmac hcheck
    obtain ⟨p, a, strict, q, he⟩ := linkWrite_served hsrc haddr hrx hseq hserve hload hlock htask hqueue
    obtain ⟨hperiod, hlast, habort, hch⟩ := State.serveLink_syncPeriod (s := s.accepted p a strict) q hjudge hask hkey hmac hcheck htask
    rw [State.serveFaults_of_same fun n => by rw [State.chan, hch]; rfl] at he
    exact ⟨_, he, hperiod, hlast, habort⟩
  case unverified =>
    intro h m seq wlow data s hsrc haddr hrx hseq hserve hload hlock htask hqueue hkey hmac
    obtain ⟨p, a, strict, q, he⟩ := linkWrite_served hsrc haddr hrx hseq hserve hload hlock htask hqueue
    have hmac' : (s.accepted p a strict).macOk (headReq h 2 0x5000 2 data) = false := hmac
    rw [State.serveLink_unverified (r := headReq h 2 0x5000 2 data) hkey hmac'] at he
    generalize hu : s.accepted p a strict = u at he
    obtain ⟨hcount, hlink⟩ := u.authFailed_od h.reqseq
    obtain ⟨hod, htime, hch, hmem⟩ := (u.authFailed h.reqseq).turnAway_link (headReq h 2 0x5000 2 data)
      (u.keyOf h.keysel) abAuth
    have hchan : ((u.authFailed h.reqseq).turnAway .link (headReq h 2 0x5000 2 data) (u.keyOf h.keysel) abAuth).ch = s.ch := by
      rw [hch, ← hu]
      simp
    refine ⟨_, he.trans (congrArg Host.Outcome.next (State.serveFaults_of_same fun n => by
      simp only [State.chan]
      exact congrArg (fun c => (c.get n).state) hchan)), ?_⟩
    subst hu
    refine ⟨htime.trans (by simp; rfl), ?_, ?_, hchan, hmem.trans (by simp)⟩
    · exact (congrArg OdSt.authFail hod).trans hcount
    · exact congrArg PathSt.last ((congrArg OdSt.link hod).trans hlink)

end Sys2Proof.Machine
end
